-- ==== Sys2Proof/Word.lean ====
section
/-! DEFINITION. The word types of the block. -/

namespace Sys2Proof

/-- One byte of host memory, base memory, a parcel, a flit or a message. -/
abbrev Byte := BitVec 8

/-- One word of the CFG window (R8: every access is an aligned 32-bit word). -/
abbrev Word := BitVec 32

/-- What a sweep finds for one lane index (R391): phase and Vref centres, eye width (0 where no phase code passes) and eye height. -/
structure LaneMeas where
  lane   : Nat
  phase  : Nat
  vref   : Nat
  width  : Nat
  height : Nat
  /-- The capture read point of DESKEW (R403, R413). -/
  read   : Nat
  deriving DecidableEq, Repr

/-- What an SRAM word that reads with an error belongs to (R557). Where a word of which object lies is not given by the spec, so the
command names the object. -/
inductive EccObject where
  | unused
  /-- An outbound parcel by its place in its stream's queue, a SOURCE parcel by its place among those kept for the combine, or an inbound parcel
  by its stream's key and number. -/
  | txParcel (stream index : Nat)
  | srcParcel (stream index : Nat)
  | rxParcel (key uid : Nat)
  | history (stream : Nat)
  | txStream (stream : Nat)
  | rxStream (key : Nat)
  | shelf (index : Nat)
  | table (number : Nat)
  | ring (pair : Nat)
  | descriptor (id : Nat)
  deriving DecidableEq, Repr

end Sys2Proof
end

