-- ==== Sys2Proof/Syntax.lean ====
section
/-! DEFINITION. The commands of the block: one constructor per row of the opcode table. -/

namespace Sys2Proof

/-- A command of Cledon: an operation of its ports, registers, sideband, strands or timers (95_what_each_step_holds.md).
Strands, ports, pairs, channels and other unit numbers are plain numbers; `WellFormed` bounds them. -/
inductive Instr where
  /-- RST_AON_N_ASSERT (R40). Assertion of RST_AON_N asynchronously resets everything, including the AON domain, and drives the ports as R505 states. -/
  | rstAonNAssert
  /-- RST_AON_N_RELEASE (R506). Release of RST_AON_N samples the straps, raises PD_REQ[23], starts the sideband and PULSEs, reads the die id and repair records, and powers up domains in order. -/
  | rstAonNRelease (slotId : BitVec 5) (feedTag : BitVec 8) (pkgRole : BitVec 2)
  /-- RST_CFG_N_ASSERT (R40). Assertion of RST_CFG_N clears set-up registers, ring engines, context SRAM state and key slots, and drops in-flight descriptors without completions. -/
  | rstCfgNAssert
  /-- RST_CFG_N_RELEASE (R503). Release of RST_CFG_N lets CFG-domain blocks and any enclosed resets already released take effect. -/
  | rstCfgNRelease
  /-- RST_LINK_N_ASSERT (R303). Assertion of RST_LINK_N returns every strand to GREENWARE, empties link state, drives lanes low and makes the partner QUIET with cause LOCAL. -/
  | rstLinkNAssert
  /-- RST_LINK_N_RELEASE (R308). Release of RST_LINK_N restores ALIGNED from TRUSTED and permits bring-up again. -/
  | rstLinkNRelease
  /-- RST_CORE_N_ASSERT (R505). Assertion of RST_CORE_N resets station ports, slices and NUM state and takes the link down. -/
  | rstCoreNAssert
  /-- RST_CORE_N_RELEASE (R503). Release of RST_CORE_N returns station ports and slices to operation. -/
  | rstCoreNRelease
  /-- PD_ACK_RISE (R26). PD_ACK of a domain rises, completing a power-on handshake; the next domain in order may be requested. -/
  | pdAckRise (domain : Nat)
  /-- PD_ACK_FALL (R26). PD_ACK of a domain falls after PD_REQ was lowered, completing a power-off handshake. -/
  | pdAckFall (domain : Nat)
  /-- PD_ACK_LOST (R28). PD_ACK falls while PD_REQ is 1: a class U record, the domain treated as off, and PD_REQ held low until the record is cleared. -/
  | pdAckLost (domain : Nat)
  /-- PWR_WARN_RISE (R515). Brownout warning sets DOWN and WARN and starts the NVM flush of the log summary, repair records and calibration records. -/
  | pwrWarnRise
  /-- PWR_WARN_FALL (R515). PWR_WARN falls and the PULSE WARN bit clears, leaving DOWN set. -/
  | pwrWarnFall
  /-- BROWNOUT_FLUSH_TIMEOUT (R515). 19 µs after PWR_WARN the unfinished writes are abandoned, FLUSH_SHORT is set and the partner goes QUIET with cause LOCAL. -/
  | brownoutFlushTimeout
  /-- LCLK_LOCK_LOSS (R606). Loss of LCLK PLL lock makes Cledon treat RST_LINK_N as asserted and sets LINK_HELD. -/
  | lclkLockLoss
  /-- LCLK_LOCK_SETTLED (R606). 20 µs after LCLK_LOCK rises the link-layer hold ends and LINK_HELD clears. -/
  | lclkLockSettled
  /-- ST_I_BEAT (R32). A beat transfers on a station I channel and is checked and taken into the parcel being assembled. -/
  | stIBeat (port : Nat) (side : BitVec 128) (data : List Byte)
  /-- ST_O_BEAT (R77). A beat of a delivered parcel transfers on the O channel, returning drained cells and freeing pair slots. -/
  | stOBeat (port : Nat)
  /-- POP_REQUEST (R33). A pop request is taken on a POP channel and queued, or answered at once with BAD_FIELD for a stream not open. -/
  | popRequest (port : Nat) (stream : Nat) (mb : Nat) (dir : Nat)
  /-- PT_I_BEAT (R34). A pass-through beat is accepted on a fabric virtual channel and taken into its P stream. -/
  | ptIBeat (vc : Nat) (sop : Bool) (eop : Bool) (data : List Byte)
  /-- PT_O_BEAT (R88). A delivered PT beat transfers on PT_O, freeing the packet's cells at its last beat. -/
  | ptOBeat (vc : Nat)
  /-- MEM_RD_DATA (R35). Read data returns on a MEM channel for a fetch, draw, accumulation or restore read. -/
  | memRdData (request : Nat) (data : List Byte) (err : Bool)
  /-- MEM_WACK (R35). A write acknowledgement returns on a MEM channel for a fill, accumulation or restore write. -/
  | memWack (request : Nat) (err : Bool)
  /-- HM_WATCH (R36). A watched-line notification matching a doorbell triggers a doorbell read and resets the poll interval. -/
  | hmWatch (line : Nat)
  /-- DOORBELL_READ_DONE (R243). A doorbell block read returns and is evaluated for pending submissions and completion room. -/
  | doorbellReadDone (pair : Nat) (data : List Byte) (err : Bool)
  /-- SUBMISSION_FETCH_DONE (R247). Submission entries return from HM, SQ_CI advances and the entries pass to the acceptance engine. -/
  | submissionFetchDone (pair : Nat) (data : List Byte) (err : Bool)
  /-- HM_READ_DONE (R260). HM read data return for a PARCEL_SEND, KEY_LOAD, SCALE_LOAD, DISPATCH_LOAD, RESTORE or other descriptor buffer. -/
  | hmReadDone (request : Nat) (data : List Byte) (err : Bool)
  /-- COMPLETION_ACK (R248). HM acknowledges a completion entry write, freeing its in-flight slot. -/
  | completionAck (request : Nat) (err : Bool)
  /-- HM_WRITE_ACK (R261). HM acknowledges another write (event, message, capture, host draw, save image, log or query record), with its error handling. -/
  | hmWriteAck (request : Nat) (err : Bool)
  /-- NV_RESPONSE (R419). An NVM response returns for a record read or write. -/
  | nvResponse (rdata : BitVec 64) (err : Bool)
  /-- HEAT_IN_FRAME (R519). A HEAT_IN frame is received and loads the local heat value, or counts as an error. -/
  | heatInFrame (frame : Nat)
  /-- HEAT_IN_STALE (R519). 8 µs without a loaded HEAT_IN frame makes the HEAT_IN value stale. -/
  | heatInStale
  /-- REGISTER_WRITE (R593). A CFG write to a register without behaviour of its own takes effect under the access rules. -/
  | registerWrite (offset : Nat) (data : BitVec 32)
  /-- FCOUNT_LO_READ (R604). A read of CL_FCOUNT_LO returns a firing-count snapshot and captures its high word into the shadow. -/
  | fcountLoRead
  /-- SHADOW_LO_READ (R596). A read of the low word of another 64-bit pair captures its high word into the shadow. -/
  | shadowLoRead (offset : Nat)
  /-- STOP_FETCH (R600). Setting or clearing CL_CTL.STOP_FETCH stops or resumes doorbell reads and submission fetches. -/
  | stopFetch (data : BitVec 32)
  /-- HOLD_I (R601). Setting or clearing CL_CTL.HOLD_I stops or resumes intake of new parcels and packets at their boundaries. -/
  | holdI (data : BitVec 32)
  /-- RING_ENABLE (R245). A write of ENABLE 1 checks the SIZE fields and starts the ring pair, or sets CFG_ERR. -/
  | ringEnable (pair : Nat) (data : BitVec 32)
  /-- RING_DISABLE (R245). A write of ENABLE 0 stops fetching; accepted descriptors run to their end. -/
  | ringDisable (pair : Nat) (data : BitVec 32)
  /-- RING_POLL (R246). A pair's poll interval expires and its doorbell block is read. -/
  | ringPoll (pair : Nat)
  /-- IRQ_MOD_TIMEOUT (R256). MOD_TIME expires since the oldest unsignalled entry and an interrupt message is sent. -/
  | irqModTimeout (pair : Nat)
  /-- NOP (R258). NOP completes with OK and returns the firing count. -/
  | nop
  /-- FENCE (R259). FENCE completes once earlier descriptors of its pair, or all pairs, have completed, optionally blocking later ones. -/
  | fence
  /-- BAD_OPCODE (R10). A descriptor with an unassigned opcode completes with BAD_OPCODE. -/
  | badOpcode
  /-- STATION_NAME (R47). STATION_NAME binds, renames, unbinds or queries a station and sets its staging quota. -/
  | stationName
  /-- STREAM_OPEN (R53). STREAM_OPEN makes the local checks and sends an OPEN request to the peer. -/
  | streamOpen
  /-- STREAM_CLOSE (R59). STREAM_CLOSE stops a stream gracefully or forcibly, sending CLOSE to the peer. -/
  | streamClose
  /-- STREAM_MODIFY (R58). STREAM_MODIFY changes WEIGHT, RND, SEED or ATOMIC_LIMIT, or writes the counter record. -/
  | streamModify
  /-- PARCEL_SEND (R260). PARCEL_SEND reads a parcel from host memory and enters it into its stream. -/
  | parcelSend
  /-- SHELF_OPEN (R207). SHELF_OPEN takes a shelf entry into FILLING, or waits while blocked. -/
  | shelfOpen
  /-- SHELF_OPEN_TIMEOUT (R208). A blocked SHELF_OPEN's WAIT_MS expires and it completes with the blocking status. -/
  | shelfOpenTimeout (descriptor : Nat)
  /-- VERSION_COMMIT (R216). VERSION_COMMIT checks a shelf and stops accepting FILL parcels for it. -/
  | versionCommit
  /-- VERSION_COMMIT_APPLY (R216). Once fill writes are acknowledged, CURRENT moves to the shelf and the commit completes. -/
  | versionCommitApply (shelf : Nat)
  /-- VERSION_RELEASE (R218). VERSION_RELEASE drops a binding, all bindings of a stage, or frees a shelf. -/
  | versionRelease
  /-- SKEW_RELEASE (R214). SKEW_RELEASE discards or passes a held VCHECK parcel or fetch request. -/
  | skewRelease
  /-- DRAW_START (R219). DRAW_START begins or resumes a draw of a shelf or range to a keeper. -/
  | drawStart
  /-- DRAW_ACK (R229). DRAW_ACK reports a host copy or ends a relayed draw, raising shelf LEVEL. -/
  | drawAck
  /-- RESTORE (R235). RESTORE begins restoring a shelf or range from a RESTORE stream or host memory. -/
  | restore
  /-- ACCUM_OPEN (R158). ACCUM_OPEN opens or closes an accumulation region. -/
  | accumOpen
  /-- SCALE_SAVE (R153). SCALE_SAVE writes a scale image of the instance's stream contexts. -/
  | scaleSave
  /-- SCALE_LOAD (R154). SCALE_LOAD checks and applies a scale image to freshly opened contexts. -/
  | scaleLoad
  /-- DISPATCH_LOAD (R179). DISPATCH_LOAD loads, replaces, unloads or queries a dispatch table. -/
  | dispatchLoad
  /-- CAL_REQUEST (R417). CAL_REQUEST queues a range of strands for calibration and completes when they rejoin. -/
  | calRequest
  /-- BIST_SLICE (R542). BIST_SLICE runs one self-test slice on a strand outside the rotation. -/
  | bistSlice
  /-- BIST_FULL (R543). BIST_FULL runs all 18 segments on out-of-service strands in PAD or INNER mode. -/
  | bistFull
  /-- REPAIR_CMD (R451). REPAIR_CMD sweeps, spares, queries or retires a strand. -/
  | repairCmd
  /-- LOG_DRAIN (R257). LOG_DRAIN writes kiln log records to host memory, optionally freeing them. -/
  | logDrain
  /-- KEY_LOAD (R257). KEY_LOAD reads a key into a key slot or erases the slot. -/
  | keyLoad
  /-- WASH (R578). The WASH descriptor starts or joins a key wash. -/
  | wash
  /-- OPEN (R56). The peer receives an OPEN request, makes its checks and allocates or refuses the stream. -/
  | openRequest
  /-- OPEN_ANS (R298). The sender receives OPEN_ANS and completes STREAM_OPEN. -/
  | openAnswer
  /-- OPEN_TIMEOUT (R54). No answer to OPEN within 1 ms: STREAM_OPEN completes with ABORTED and a CLOSE is sent. -/
  | openTimeout (stream : Nat)
  /-- CLOSE (R298). A CLOSE message is received and the stream's context is freed when the rules permit. -/
  | closeMessage
  /-- CLOSE_ANS (R298). A CLOSE_ANS is received and STREAM_CLOSE completes. -/
  | closeAnswer
  /-- MODIFY (R139). A MODIFY message tells the receiver which parcel reloads its rounding state. -/
  | modifyMessage
  /-- DEMOTE (R334). A DEMOTE message turns a stream to class O from a named parcel. -/
  | demoteMessage
  /-- FLIT_SLOT (R61). Each row, each in-service strand's slot is filled by arbitration with an M, F, D, O/P flit or a GROG flit. -/
  | flitSlot
  /-- ENCODER_IDLE_END (R118). After 16 LCLK without an encoder byte the sender ends the flit early. -/
  | encoderIdleEnd (stream : Nat)
  /-- LOOKAHEAD_GRANT (R151). A parcel waiting for lookahead space takes it when space frees, in arrival order. -/
  | lookaheadGrant (slice : Nat)
  /-- LOOKAHEAD_DONE (R112). A parcel's whole tensor region is in lookahead and the mode is chosen. -/
  | lookaheadDone (stream : Nat)
  /-- FLIT_ACCEPT (R278). A flit arrives on a strand, is CRC-checked and sequence-checked, and its acknowledgement and credits applied. -/
  | flitAccept (strand : Nat) (flit : List Byte)
  /-- REPLAY_SLOT (R281). At the replay slot the receiver resumes acceptance or sends a new NAK. -/
  | replaySlot (strand : Nat) (flit : List Byte)
  /-- ACK_TIMEOUT (R290). An unacknowledged flit for 256 rows makes the sender act as on a third NAK. -/
  | ackTimeout (strand : Nat)
  /-- CRED_FLIT_DUE (R292). Credits due with no sequenced flit within 8 rows are sent in a CRED flit. -/
  | credFlitDue
  /-- XREPLAY (R288). An XREPLAY message takes a strand to HOLD and routes carried flits into its queue. -/
  | xreplay
  /-- SERVICE (R610). A SERVICE message announces a strand joining or leaving service at a boundary, with its REASON. -/
  | serviceMessage
  /-- MERGE_RELEASE (R276). Sequenced flits are passed to the stream layer in (ROW, strand) order as watermarks allow. -/
  | mergeRelease
  /-- PARCEL_HEAD_RECEIVE (R72). A PARCEL_HEAD reaches the stream layer and its header is checked before storage. -/
  | parcelHeadReceive
  /-- PARCEL_BODY_RECEIVE (R120). A parcel body flit reaches the stream layer, is decoded, charged and stored. -/
  | parcelBodyReceive
  /-- PASS_RECEIVE (R88). A PASS flit's packet bytes are stored for delivery on PT_O. -/
  | passReceive
  /-- QUEUE_STALL (R86). The stall test holds for 1,024 ticks: STALL is set, 0x0404 recorded and an event posted. -/
  | queueStall (stream : Nat)
  /-- SOURCE_SCATTER (R187). A SOURCE parcel whose charge fits is scattered row by row to expert streams. -/
  | sourceScatter (stream : Nat)
  /-- HOLD_EXPIRED (R189). HOLD_TICKS pass without a new window and held slots end as drops. -/
  | holdExpired (table : Nat)
  /-- SOURCE_COMBINE (R194). Once all sent slots are answered or lost, rows are combined in FP32 and converted for delivery. -/
  | sourceCombine (stream : Nat)
  /-- CHUNK_OK (R225). A CHUNK_OK advances ACK_NEXT and the version digest; the closing one completes the draw. -/
  | chunkOk
  /-- CHUNK_BAD (R225). A CHUNK_BAD rewinds the draw to that chunk, or ends it on the second failure. -/
  | chunkBad
  /-- DRAW_ACK_TIMEOUT (R225). ACK_MS passes without CHUNK_OK and the draw is suspended with ABORTED. -/
  | drawAckTimeout (draw : Nat)
  /-- REL_MIN_WRITE (R233). A write of REL_MIN takes effect at once and re-evaluates automatic shelf frees. -/
  | relMinWrite (data : BitVec 32)
  /-- CAP_EN_WRITE (R170). Setting CAP_EN from 0 to 1 clears the capture pointer. -/
  | capEnWrite (data : BitVec 32)
  /-- FRAME_BOUNDARY (R310). At each frame boundary, service changes, reservations, capacity checks, calibration corrections and BIST slices take effect in order. -/
  | frameBoundary (coreCycles : Nat) (fabCycles : Nat) (cfgCycles : Nat) (aonCycles : Nat) (trk : List Nat) (lanes : List (Nat × Nat))
  /-- F_RELEASE_ROW (R316). In row ROW + K an accepted F flit is released from the lock-step queue. -/
  | fReleaseRow
  /-- FWD_CLK_STOP (R358). An armed clock detector sees no toggle for 16 LCLK; partner loss or a clock lane failure follows. -/
  | fwdClkStop (strands : List Nat)
  /-- FWD_CLK_LANE (R358). One lane of the clock pair toggles while the other does not. -/
  | fwdClkLane (strand : Nat)
  /-- VLD_LANE_FAIL (R361). The VLD pattern is wrong for 16 consecutive LCLK. -/
  | vldLaneFail (strand : Nat)
  /-- TRK_DRIFT (R361). TRK's tracked centre drifts by TRK_THR and a calibration is requested. -/
  | trkDrift (strand : Nat)
  /-- PRESENCE_WINDOW (R373). A 16-cycle window of sideband clock edges ends and PRESENCE is updated. -/
  | presenceWindow (edges : Nat)
  /-- TERM_EN_WRITE (R375). A CL_PHY_CTL write applies TERM_EN only while all strands are GREENWARE or SHARD. -/
  | termEnWrite (data : BitVec 32)
  /-- SB_FRAME_DISCARD (R384). A sideband frame failing CRC, stop bit or LEN is discarded and counted. -/
  | sbFrameDiscard
  /-- LINK_READY (R386). A LINK_READY frame updates the peer's RX_SG, GO, TRUSTED and HUB. -/
  | linkReady (payload : List Byte)
  /-- LINK_READY_SEND (R386). The LINK_READY repetition timer expires and the frame is sent. -/
  | linkReadySend
  /-- BQ_STEP (R395). A BQ_STEP frame reports the peer's bisque step end or failure. -/
  | bqStep (payload : List Byte)
  /-- BISQUE_START (R394). Once the bisque preconditions hold, training of the bisque strand starts at B1. -/
  | bisqueStart
  /-- BISQUE_STEP_DONE (R395). A bisque step completes at the receiver and BQ_STEP is sent: with what it measured of each lane, of none
in B1 and B4. -/
  | bisqueStepDone (lanes : List LaneMeas := [])
  /-- BISQUE_TIMEOUT (R396). The bisque strand misses BISQUE within 50 µs; FAIL is sent and the strand quieted. -/
  | bisqueTimeout
  /-- BISQUE_RESTART (R396). After 20 µs of quiet the bisque strand restarts at B1. -/
  | bisqueRestart
  /-- BISQUE_FLIT_SLOT (R397). Every 8 LCLK the bisque channel sends a GROG or MGMT flit, carrying repeated IDENT, TIME, AGREE and PKG. -/
  | bisqueFlitSlot
  /-- TIME (R400). A TIME message yields the offset δ, trusting, loading CL_TIME_OFF or reporting a conflict. -/
  | timeMessage (registered : Nat)
  /-- TIME_WAIT (R400). 1 ms in BISQUE without both sides ALIGNED records 0x0112. -/
  | timeWait
  /-- TIME_ADJUST (R401). At the armed CL_TIME_AT count the firing count is adjusted and TRUSTED set. -/
  | timeAdjust
  /-- WEDGE_START (R402). A group engine takes its next strand into full-rate wedging. -/
  | wedgeStart (group : Nat)
  /-- WEDGE_STEP_DONE (R403). A wedging step completes at the receiver and STEP is sent. -/
  | wedgeStepDone (strand : Nat) (fail : Bool) (lanes : List LaneMeas)
  /-- STEP (R409). A STEP message reports the peer's step end or failure for a strand. -/
  | stepMessage
  /-- VREF_EYE (R404). A VREF_EYE message carries eye heights, adjusting TX drive steps. -/
  | vrefEye
  /-- WEDGE_FAIL_TIMEOUT (R407). A strand not signed off within the wedging time limit fails the attempt. -/
  | wedgeFailTimeout (strand : Nat)
  /-- CAL_INTERVAL_DUE (R410). CL_CAL_INTERVAL units pass since a strand's last calibration and it becomes due. -/
  | calIntervalDue (strand : Nat)
  /-- CAL_SCHEDULE (R411). An eligible queue head with no calibration in progress sends a CAL message. -/
  | calSchedule
  /-- CAL (R411). A CAL message schedules, merges or withdraws a strand's calibration. -/
  | calMessage
  /-- CAL_RUN_DONE (R413). Calibration runs end and are judged, failing or yielding new settings. -/
  | calRunDone (first : List LaneMeas) (second : List LaneMeas)
  /-- CAL_BUDGET_TIMEOUT (R413). The calibration run exceeds BUDGET and fails with timeout. -/
  | calBudgetTimeout
  /-- CAL_IDLE_APPLY (R415). After 256 idle LCLK on every station port the results are applied. -/
  | calIdleApply
  /-- CAL_VERIFY_DONE (R416). The post-application check ends, rejoining the strand or restoring settings. -/
  | calVerifyDone (strand : Nat) (ok : Bool)
  /-- REPAIR_SUM (R434). A REPAIR_SUM frame opens or confirms the repair record exchange. -/
  | repairSum (payload : List Byte)
  /-- REPAIR_REC (R435). A REPAIR_REC frame delivers a record or a repair phase state for combining. -/
  | repairRec (payload : List Byte)
  /-- REPAIR_SVC (R439). A REPAIR_SVC frame carries a service change over the sideband. -/
  | repairSvc (payload : List Byte)
  /-- REPAIR_SUM_RESEND (R434). Every 100 µs the record set is resent while the peer lacks GOT. -/
  | repairSumResend
  /-- REPAIR_SWEEP_DONE (R442). The repair sweep ends and failures are applied to USED, MAP, BAD and LOST. -/
  | repairSweepDone (strand : Nat) (lanes : List LaneMeas)
  /-- FILL_DONE (R443). A spare's fill finishes and passes or fails. -/
  | fillDone (strand : Nat) (group : Nat) (lanes : List LaneMeas)
  /-- FILL_TIMEOUT (R443). A fill not finished within its limit fails and loses the group. -/
  | fillTimeout (strand : Nat) (group : Nat)
  /-- REPAIR_TIMEOUT (R446). No REPAIR_REC from the peer within 1 ms retires the strand. -/
  | repairTimeout (strand : Nat)
  /-- EARLY_ID (R457). An EARLY_ID frame is stored and checked for personality, level and strand count. -/
  | earlyId (payload : List Byte)
  /-- EARLY_ID_SEND (R456). The EARLY_ID repetition timer expires and the frame is sent. -/
  | earlyIdSend
  /-- IDENT (R466). An IDENT message delivers the peer's identity block; the negotiated record is computed. -/
  | identMessage
  /-- AGREE (R466). An AGREE with a matching CRC completes negotiation and sets NEG_DONE. -/
  | agreeMessage
  /-- AGREE_TIMEOUT (R468). A disagreeing AGREE for 1 ms fails negotiation. -/
  | agreeTimeout
  /-- ATT_CHAL (R484). An attestation challenge is answered with an HMAC response. -/
  | attChal
  /-- ATT_RESP (R484). An attestation response is checked and the attestation passes or fails. -/
  | attResp
  /-- ATT_TIMEOUT (R484). 100 µs without a matching response fails attestation and fences the link. -/
  | attTimeout
  /-- TOPO (R476). A TOPO record is stored in the topology table, or dropped when full. -/
  | topoMessage
  /-- PKG (R477). A PKG message loads the peer's package id and may be adopted or conflict. -/
  | pkgMessage
  /-- POST (R476). A write of POST sends the CL_DISC_POST record as a TOPO message. -/
  | postWrite (data : BitVec 32)
  /-- TOPO_CLR (R476). A write of TOPO_CLR clears the topology table. -/
  | topoClr (data : BitVec 32)
  /-- RENEG (R468). A write of RENEG discards the peer block and record and restarts negotiation. -/
  | reneg (data : BitVec 32)
  /-- DIE_KIND_WRITE (R460). A DIE_KIND write applies only while all strands are GREENWARE, else sets KIND_IGN. -/
  | dieKindWrite (data : BitVec 32)
  /-- PKG_WRITE (R477). A CL_DISC_PKG write sets the package id unless a stream is open. -/
  | pkgWrite (data : BitVec 32)
  /-- ATT_RETRY (R484). A write of ATT_RETRY starts a new attestation in BISQUE. -/
  | attRetry (data : BitVec 32)
  /-- SAGGAR_LOCK (R486). A write of LOCK freezes the Saggar registers until RST_CFG_N. -/
  | saggarLock (data : BitVec 32)
  /-- PULSE_START (R492). Every 50th CK_AON cycle a PULSE frame is started, taking the heat value. -/
  | pulseStart
  /-- PULSE (R493). A received PULSE updates the peer state, heat, park set and throttle. -/
  | pulseFrame (payload : List Byte)
  /-- PULSE_WINDOW_END (R493). A 1 µs pulse window ends; a miss is counted and heartbeat and stale-heat rules applied. -/
  | pulseWindowEnd
  /-- PARTNER_ABSENT (R495). ABSENT_MS passes with PRESENCE 0 and the partner becomes ABSENT. -/
  | partnerAbsent
  /-- DOWN_WRITE (R502). Setting or clearing CL_PWR_CTL.DOWN takes the link down or permits recovery. -/
  | downWrite (data : BitVec 32)
  /-- PD_OFF_REQUEST (R507). A write of CL_PD_CTL.OFF requests domains off or on. -/
  | pdOffRequest (data : BitVec 32)
  /-- PARK_REQUEST (R511). A write of CL_PD_PARK changes the groups this side asks to park. -/
  | parkRequest (data : BitVec 32)
  /-- PARK_START (R512). Once park conditions hold at a boundary, SERVICE leaves with REASON PARK are sent. -/
  | parkStart (group : Nat)
  /-- GROUP_WAKE (R513). A group leaving the park set is powered, reloaded and wedged together. -/
  | groupWake (group : Nat)
  /-- CONE_SAMPLE (R527). Each cone takes a sample per 1 µs window, updating MIN, MAX and alarms. -/
  | coneSample (readings : List Nat)
  /-- CONE_REF_DONE (R538). A cone reference check ends and passes or sets REF_FAIL. -/
  | coneRefDone (cone : Nat) (results : List Nat)
  /-- MM_CLR (R528). A write of MM_CLR clears every cone's MIN and MAX. -/
  | mmClr (data : BitVec 32)
  /-- TEST (R536). A TEST message schedules, merges or withdraws a BIST slice. -/
  | testMessage
  /-- BIST_SEGMENT_DONE (R533). A self-test segment ends and its signature and count are judged. -/
  | bistSegmentDone (strand : Nat) (measured : List Nat) (units : Nat) (complete : Bool)
  /-- BIST_SLICE_END (R537). RESTORE ends, STEP RUN is sent, and the strand rejoins or passes to HOLD. -/
  | bistSliceEnd
  /-- BIST_FULL_DONE (R544). A full BIST run ends and its failures are reported. -/
  | bistFullDone
  /-- ECC_ERROR (R557). A SECDED error on an SRAM read is corrected or handled as uncorrectable. -/
  | eccError (memory : Nat) (word : Nat) (wrong : Nat) (object : EccObject)
  /-- LOG_FREE (R594). A write of CL_LOG_FREE frees the named record. -/
  | logFree (data : BitVec 32)
  /-- LOG_FREE_ALL (R555). A write of CL_LOG_FREE.ALL frees every record. -/
  | logFreeAll (data : BitVec 32)
  /-- INJ_UNLOCK (R558). A write of the unlock value to CL_INJ_UNLOCK opens the arming window. -/
  | injUnlock (data : BitVec 32)
  /-- INJ_ARM (R558). A write of ARM arms an injection point or sets REFUSED. -/
  | injArm (data : BitVec 32)
  /-- INJ_UNLOCK_LAPSE (R558). The unlock lapses after 1,024 CK_CFG cycles. -/
  | injUnlockLapse
  /-- TAP_TRST_N (R569). TAP_TRST_N resets the TAP controller, instruction register and PASS. -/
  | tapTrstN
  /-- EXTEST (R575). EXTEST drives lanes from boundary cells while permitted. -/
  | extest (pads : List Nat) (cells : List Nat)
  /-- IDCODE (R568). IDCODE captures 0x5E0D_C1ED. -/
  | idcode
  /-- SAMPLE (R568). SAMPLE/PRELOAD captures pad levels and drives nothing. -/
  | sample (pads : List Nat) (cells : List Nat)
  /-- PCFG (R571). PCFG writes PASS at Update-DR, enabling the chain passage. -/
  | pcfg (pass : Bool)
  /-- TAP_WASH (R577). Update-IR to WASH starts a key wash. -/
  | tapWash
  /-- SCAN (R582). Update-IR to SCAN asserts scan enable if washed, or is refused. -/
  | scan
  /-- BYPASS (R568). BYPASS selects the one-bit register. -/
  | bypass
  /-- WASH_START (R577). A write of CL_WASH_CTL.START starts or joins a key wash. -/
  | washStart (data : BitVec 32)
  /-- WASH_RELEASE (R580). A write of RELEASE clears WASHED while SCANNED is 0. -/
  | washRelease (data : BitVec 32)
  /-- WASH_ACK_WAIT_END (R578). 20 µs after the abort completions, unacknowledged pairs take FAULT and the wash proceeds. -/
  | washAckWaitEnd
  /-- WASH_DONE (R578). The zero writes and read-back end, WASHED is set and WASH descriptors complete. -/
  | washDone (fail : Bool) (memory : Nat) (word : Nat)
  /-- BQ_STEP_REPEAT (R386). Every 4 µs until its next bisque step ends, Cledon sends its latest BQ_STEP frame again. -/
  | bqStepRepeat
  /-- STEP_REPEAT (R409). Every 2 µs a side repeats its latest STEP message for a strand until it sends the next one. -/
  | stepRepeat (strand : Nat)
  /-- REPAIR_SVC_REPEAT (R439). A REPAIR_SVC frame is repeated every 4 µs until its boundary r is reached. -/
  | repairSvcRepeat (strand : Nat)
  /-- PHY_PLL_LOCK (R510). An SG domain's PHY PLL locks within 1 µs of PD_ACK rising, after which the group's receivers are ready and its LINK_READY bit is set. -/
  | phyPllLock (group : Nat)
  /-- TEST_LOGIC_RESET (R568). The TAP controller enters Test-Logic-Reset through TAP_TMS, making IDCODE the instruction and dropping scan enable. -/
  | testLogicReset
  deriving DecidableEq, Repr

end Sys2Proof
end

