-- ==== Sys2Proof/Config.lean ====
section
/-! DEFINITION. What an implementation fixes (R21 to R23), and the values the spec leaves free. -/

namespace Sys2Proof

/-- The PHY beneath the common adapter (R21). -/
inductive Pers where
  | V | L
  deriving DecidableEq, Repr

/-- Direction of the TST_* bonds (R21, R42). -/
inductive TestSide where
  | none | toward | from
  deriving DecidableEq, Repr

/-- PKG_ROLE (R18). -/
inductive Role where
  | compute | base | hub | third
  deriving DecidableEq, Repr

/-- The build-time parameters of an instance (R21), with the context SRAM size that Lerjan states (R23). -/
structure Build where
  pers       : Pers
  strands    : Nat
  instanceNo : Nat
  ports      : Nat
  stagingMiB : Nat
  shelves    : Nat
  dispTables : Nat
  keySlots   : Nat
  saggar     : Bool
  ptBits     : Nat
  testSide   : TestSide
  ctxKiB     : Nat
  deriving DecidableEq, Repr

/-- `v` is one of the values from `lo` to `hi` in steps of `step`, counted from 0 (the legal sets of R21 all lie so). -/
def inSteps (lo hi step v : Nat) : Bool := lo ≤ v && v ≤ hi && v % step == 0

/-- The legal sets of R21 for each personality, with the bound of R23 on the context SRAM. No other build can be built. -/
def Build.legal (b : Build) : Bool :=
  (match b.pers with
    | .V => inSteps 8 256 8 b.strands && inSteps 8 64 8 b.ports && inSteps 16 64 4 b.stagingMiB && !b.saggar
    | .L => inSteps 2 24 2 b.strands && inSteps 2 16 2 b.ports && inSteps 2 16 1 b.stagingMiB)
  && inSteps 0 7 1 b.instanceNo && inSteps 0 256 16 b.shelves && inSteps 0 16 1 b.dispTables && inSteps 0 8 1 b.keySlots
  && [512, 1024, 2048].contains b.ptBits && b.ctxKiB ≤ 4352

/-- The base-side V-256 of the Gweilord 12 reference builds (R23), with the values of the bring-up example of R607. -/
def referenceBuild : Build where
  pers := .V
  strands := 256
  instanceNo := 0
  ports := 64
  stagingMiB := 64
  shelves := 256
  dispTables := 16
  keySlots := 4
  saggar := false
  ptBits := 2048
  testSide := .toward
  ctxKiB := 4096

/-- The base L-16, instance 3, of the same table (its CTX_KIB is not given there: 1,024 KiB here). -/
def smallBuild : Build where
  pers := .L
  strands := 16
  instanceNo := 3
  ports := 8
  stagingMiB := 8
  shelves := 0
  dispTables := 8
  keySlots := 0
  saggar := false
  ptBits := 1024
  testSide := .from
  ctxKiB := 1024

/-- FREE VALUE (R571). The level of TST_TDI at the n-th rising edge of TAP_TCK: what the far die's chain sends. -/
opaque Config.tstTdi : Nat → Bool

/-- FREE VALUE (R484). The n-th 128-bit nonce of the entropy source; the spec fixes none of them. -/
opaque Config.entropy : Nat → BitVec 128

/-- FREE VALUE (R606). Whether LCLK_LOCK has risen again at a tick of the hold that its fall begins: the hold lasts 20 µs from its rise, and no
command tells the rise. -/
opaque Config.lclkRelocked : Nat → Bool

/-- FREE VALUE (R393). The duty setting that strand `i`'s own detector finds at its n-th correction: the spec states no value of it. -/
opaque Config.duty : Nat → Nat → BitVec 5

/-- FREE VALUE (R538). The bandgap voltage, in units of 0.5 mV: a voltage cone's check converts it, and the spec states no value of it. -/
opaque Config.bandgap : Nat

/-- FREE VALUE (R556, R419). GEN and copy (0 A, 1 B) of the newest valid log image that NVM holds before this instance's first
write of one; NVM lies outside the block and the spec names no moment at which it is read. -/
opaque Config.nvmLogImage : Nat × Nat

/-- FREE VALUE (R419). GEN and copy of the newest valid calibration record in NVM of a strand whose copies this instance has not
read. -/
opaque Config.nvmCalRecord : Nat → Nat × Nat

end Sys2Proof
end

