-- ==== Sys2Proof/Machine/Ops.lean ====
section
/-! DEFINITION. Bytes, bit fields, little-endian numbers, check codes, and lists of records. -/

namespace Sys2Proof.Machine

/-! ## Numbers and fields -/

/-- Bits [hi:lo] of a number (R4). -/
def bits (v hi lo : Nat) : Nat := (v >>> lo) % 2 ^ (hi - lo + 1)

/-- Bit i of a number. -/
def bit (v i : Nat) : Bool := v.testBit i

/-- `v` with bits [hi:lo] replaced by `x`. -/
def setBits (v hi lo x : Nat) : Nat :=
  v - (bits v hi lo) <<< lo + (x % 2 ^ (hi - lo + 1)) <<< lo

/-- One bit as a number. -/
def b2n (b : Bool) : Nat := if b then 1 else 0

/-- A counter of `w` bits that saturates (R12). -/
def satAdd (w v n : Nat) : Nat := min (v + n) (2 ^ w - 1)

/-- A counter of `w` bits that wraps (R12). -/
def wrapAdd (w v n : Nat) : Nat := (v + n) % 2 ^ w

/-- The ceiling of `a / b`. -/
def ceilDiv (a b : Nat) : Nat := (a + b - 1) / b

/-- `a` is older than or equal to `b` in 16-bit serial-number arithmetic (the version order of the glossary). -/
def serialLe16 (a b : Nat) : Bool := (b + 65536 - a % 65536) % 65536 < 32768

/-! ## Bytes -/

/-- The number that little-endian bytes spell (R3). -/
def leNat : List Byte → Nat
  | [] => 0
  | b :: bs => b.toNat + 256 * leNat bs

/-- The `k` little-endian bytes of a number (R3). -/
def toLe : Nat → Nat → List Byte
  | 0, _ => []
  | k + 1, v => BitVec.ofNat 8 v :: toLe k (v / 256)

/-- `len` bytes from offset `off`, as a little-endian number. -/
def field (bs : List Byte) (off len : Nat) : Nat := leNat ((bs.drop off).take len)

/-- Byte `i`, 0 beyond the end. -/
def byteAt (bs : List Byte) (i : Nat) : Nat := (bs.getD i 0).toNat

/-- Bytes [off, off + len). -/
def slice (bs : List Byte) (off len : Nat) : List Byte := (bs.drop off).take len

/-- `k` zero bytes. -/
def zeros (k : Nat) : List Byte := List.replicate k 0

/-- The bytes padded with zeros, or cut, to `k`. -/
def padTo (k : Nat) (bs : List Byte) : List Byte := (bs ++ zeros (k - bs.length)).take k

/-- `bs` with `xs` written at offset `off`. -/
def patch (bs : List Byte) (off : Nat) (xs : List Byte) : List Byte :=
  bs.take off ++ xs ++ bs.drop (off + xs.length)

/-- Every byte is 0. -/
def allZero (bs : List Byte) : Bool := bs.all (· == 0)

/-- Cuts bytes into pieces of `k`, the last perhaps shorter; `n` bounds the pieces. -/
def chunksOf (k : Nat) : Nat → List Byte → List (List Byte)
  | 0, _ => []
  | n + 1, bs => if bs.isEmpty then [] else bs.take k :: chunksOf k n (bs.drop k)

/-- Pieces of `k` bytes. -/
def pieces (k : Nat) (bs : List Byte) : List (List Byte) := chunksOf k (bs.length + 1) bs

/-! ## Check codes -/

/-- One bit into a reflected CRC register with reflected polynomial `poly`. -/
def crcBit (poly reg : Nat) (b : Bool) : Nat :=
  let r := reg ^^^ b2n b
  if r % 2 = 1 then (r >>> 1) ^^^ poly else r >>> 1

/-- `n` shifts of a reflected CRC register. -/
def crcShift (poly : Nat) : Nat → Nat → Nat
  | 0, r => r
  | n + 1, r => crcShift poly n (if r % 2 = 1 then (r >>> 1) ^^^ poly else r >>> 1)

/-- One byte into a reflected CRC register, least significant bit first. -/
def crcByte (poly reg : Nat) (b : Byte) : Nat := crcShift poly 8 (reg ^^^ b.toNat)

/-- Bytes into a reflected CRC register. -/
def crcBytes (poly reg : Nat) (bs : List Byte) : Nat := bs.foldl (crcByte poly) reg

/-- `n` shifts of a CRC register of `w` bits that takes the most significant bit first. -/
def crcMsbShift (w poly : Nat) : Nat → Nat → Nat
  | 0, r => r
  | n + 1, r =>
    let s := (r <<< 1) % 2 ^ w
    crcMsbShift w poly n (if r.testBit (w - 1) then s ^^^ poly else s)

/-- One byte into a CRC register of `w` bits, most significant bit first. -/
def crcMsbByte (w poly reg : Nat) (b : Byte) : Nat :=
  crcMsbShift w poly 8 (reg ^^^ (b.toNat <<< (w - 8)))

/-- Bytes into a CRC register of `w` bits, most significant bit first. -/
def crcMsbBytes (w poly reg : Nat) (bs : List Byte) : Nat := bs.foldl (crcMsbByte w poly) reg

/-! ## Lists of records -/

/-- Record `i` replaced by `f` of it; nothing where there is none. -/
def modAt {α : Type} (f : α → α) : Nat → List α → List α
  | _, [] => []
  | 0, a :: l => f a :: l
  | i + 1, a :: l => a :: modAt f i l

/-- The value at a key of a list of pairs. -/
def lookupKey {β : Type} (k : Nat) : List (Nat × β) → Option β
  | [] => none
  | p :: l => if p.1 = k then some p.2 else lookupKey k l

/-- A list of pairs with rising keys, with the value at `k` set. -/
def insertKey {β : Type} (k : Nat) (v : β) : List (Nat × β) → List (Nat × β)
  | [] => [(k, v)]
  | p :: l => if p.1 < k then p :: insertKey k v l else if p.1 = k then (k, v) :: l else (k, v) :: p :: l

/-- A list of pairs without the key `k`. -/
def eraseKey {β : Type} (k : Nat) (l : List (Nat × β)) : List (Nat × β) := l.filter (fun p => p.1 != k)

/-- Insertion into a list that `le` orders; after the elements that it does not precede. -/
def insertBy {α : Type} (le : α → α → Bool) (a : α) : List α → List α
  | [] => [a]
  | b :: l => if le b a then b :: insertBy le a l else a :: b :: l

/-- A stable sort by `le`. -/
def sortBy {α : Type} (le : α → α → Bool) (l : List α) : List α := l.foldl (fun acc a => insertBy le a acc) []

/-- The number of elements that satisfy `p`. -/
def countWhere {α : Type} (p : α → Bool) (l : List α) : Nat := (l.filter p).length

/-- Applies `f` for each number below `n`, ascending. -/
def forRange {α : Type} (n : Nat) (f : Nat → α → α) (a : α) : α := (List.range n).foldl (fun x i => f i x) a

/-- Applies `f` for each element, in order. -/
def forEach {α β : Type} (l : List β) (f : β → α → α) (a : α) : α := l.foldl (fun x b => f b x) a

end Sys2Proof.Machine
end

