-- ==== Sys2Proof/Machine/Digest.lean ====
section
/-! DEFINITION. CRC-64 and the version digest (R231), SHA-256 and HMAC-SHA-256 (R231, R484). -/

namespace Sys2Proof.Machine

/-- CRC-64/ECMA-182 (R231). -/
def crc64 (reg : Nat) (bs : List Byte) : Nat := crcMsbBytes 64 0x42F0E1EBA9EA3693 reg bs

/-- The version digest after one more chunk (R231). -/
def digestStep (run index chunk : Nat) : Nat := crc64 run (toLe 4 index ++ toLe 8 chunk)

/-- The version digest over chunk digests from index 0. -/
def digestOf (ds : List Nat) : Nat := (ds.foldl (fun (acc : Nat × Nat) d => (digestStep acc.1 acc.2 d, acc.2 + 1)) (0, 0)).1

/-! ## SHA-256 -/

/-- The 32-bit words that a number of `32 * n` bits holds, the most significant first. -/
def wordsOf (n v : Nat) : List (BitVec 32) := (List.range n).map (fun i => BitVec.ofNat 32 (v >>> (32 * (n - 1 - i))))

/-- The round constants, four to a number. -/
def shaConsts : List Nat :=
  [0x428a2f9871374491b5c0fbcfe9b5dba5, 0x3956c25b59f111f1923f82a4ab1c5ed5,
     0xd807aa9812835b01243185be550c7dc3, 0x72be5d7480deb1fe9bdc06a7c19bf174]
  ++ [0xe49b69c1efbe47860fc19dc6240ca1cc, 0x2de92c6f4a7484aa5cb0a9dc76f988da,
     0x983e5152a831c66db00327c8bf597fc7, 0xc6e00bf3d5a7914706ca635114292967]
  ++ [0x27b70a852e1b21384d2c6dfc53380d13, 0x650a7354766a0abb81c2c92e92722c85,
     0xa2bfe8a1a81a664bc24b8b70c76c51a3, 0xd192e819d6990624f40e3585106aa070]
  ++ [0x19a4c1161e376c082748774c34b0bcb5, 0x391c0cb34ed8aa4a5b9cca4f682e6ff3,
     0x748f82ee78a5636f84c878148cc70208, 0x90befffaa4506cebbef9a3f7c67178f2]

/-- The exclusive or of a word's rotations to the right. -/
def turned (x : BitVec 32) (by_ : List Nat) : BitVec 32 := by_.foldl (fun acc r => acc ^^^ x.rotateRight r) 0

/-- The two chains of four words that the rounds extend, newest word first: the standard's a to d, and its e to h. -/
structure Chains where
  front : List (BitVec 32)
  back  : List (BitVec 32)
  deriving DecidableEq, Repr

/-- The chains before the first block. -/
def Chains.start : Chains where
  front := wordsOf 4 0x6a09e667bb67ae853c6ef372a54ff53a
  back := wordsOf 4 0x510e527f9b05688c1f83d9ab5be0cd19

/-- Word `i` of a list. -/
def wordAt (ws : List (BitVec 32)) (i : Nat) : BitVec 32 := ws.getD i 0

/-- One round: a word joins the front of each chain, and its oldest leaves. `kw` is the sum of constant and schedule word. -/
def Chains.extend (x : Chains) (kw : BitVec 32) : Chains :=
  let chosen := wordAt x.back 2 ^^^ (wordAt x.back 0 &&& (wordAt x.back 1 ^^^ wordAt x.back 2))
  let most := (wordAt x.front 0 &&& wordAt x.front 1) ||| (wordAt x.front 2 &&& (wordAt x.front 0 ||| wordAt x.front 1))
  let inflow := kw + wordAt x.back 3 + chosen + turned (wordAt x.back 0) [6, 11, 25]
  { front := (inflow + most + turned (wordAt x.front 0) [2, 13, 22]) :: x.front.take 3
    back := (inflow + wordAt x.front 3) :: x.back.take 3 }

/-- `n` more words before the 16 or more of a schedule, newest first. -/
def moreWords : Nat → List (BitVec 32) → List (BitVec 32)
  | 0, ws => ws
  | n + 1, ws =>
    moreWords n ((wordAt ws 15 + (turned (wordAt ws 14) [7, 18] ^^^ (wordAt ws 14 >>> 3)) + wordAt ws 6
      + (turned (wordAt ws 1) [17, 19] ^^^ (wordAt ws 1 >>> 10))) :: ws)

/-- One 64-byte block: 64 rounds, and what they made is added to the chains. -/
def Chains.absorb (x : Chains) (block : List Byte) : Chains :=
  let schedule := (moreWords 48 (wordsOf 16 (leNat block.reverse)).reverse).reverse
  let y := (List.zipWith (· + ·) (shaConsts.flatMap (wordsOf 4)) schedule).foldl Chains.extend x
  ⟨List.zipWith (· + ·) x.front y.front, List.zipWith (· + ·) x.back y.back⟩

/-- SHA-256 of bytes, 32 bytes: the message, a byte 0x80, zeros, and its length in bits fill whole blocks. -/
def sha256 (bs : List Byte) : List Byte :=
  let fill := zeros ((119 - bs.length % 64) % 64)
  let x := (pieces 64 (bs ++ 0x80 :: fill ++ (toLe 8 (8 * bs.length)).reverse)).foldl Chains.absorb Chains.start
  (x.front ++ x.back).flatMap (fun w => (toLe 4 w.toNat).reverse)

/-- HMAC-SHA-256 with a key of at most 64 bytes. -/
def hmacSha256 (key msg : List Byte) : List Byte :=
  let k := padTo 64 key
  sha256 (k.map (· ^^^ 0x5C) ++ sha256 (k.map (· ^^^ 0x36) ++ msg))

end Sys2Proof.Machine
end

