-- ==== Sys2Proof/Machine/State.lean ====
section
/-! DEFINITION. The state of one Cledon 3 instance, as plain data, its value at reset, and the reasons a step can stop. -/

namespace Sys2Proof.Machine

/-! ## Requests that leave the block -/

/-- What an outstanding HM read serves (R243, R247, R260). -/
inductive HmReadUse where
  | parcelSend (desc : Nat)
  | keyLoad (desc : Nat)
  | scaleLoad (desc : Nat)
  | dispatchLoad (desc : Nat)
  | restoreTable (desc : Nat)
  | restoreChunk (desc : Nat)
  deriving DecidableEq, Repr

/-- What an outstanding HM write serves (R252, R254, R256, R261). -/
inductive HmWriteUse where
  | completion (pair desc : Nat)
  | event
  | message (pair : Nat)
  /-- Of a parcel's bytes: its key and number and the offset of the write, while its stream is open. -/
  | capture (piece : Option (Nat × Nat × Nat))
  /-- Of the draw that this DRAW_START began. -/
  | drawChunk (desc : Nat)
  | drawTable (desc : Nat)
  | image (desc : Nat)
  | record (desc : Nat)
  | logRecord (desc index seq : Nat)
  deriving DecidableEq, Repr

/-- What an outstanding MEM request serves. -/
inductive MemUse where
  | fetch (stream : Nat)
  | drawRead (draw : Nat)
  | accRead (region contrib : Nat)
  | accWrite (region contrib : Nat)
  /-- A write of a parcel's bytes carries the parcel's key and number and the offset of the write, while its stream is open. A write of a
  FILL names its shelf, until the shelf is freed, and its stream. -/
  | fill (shelf : Option Nat) (stream : Nat) (piece : Option (Nat × Nat × Nat))
  | restoreWrite (desc : Nat) (piece : Option (Nat × Nat × Nat))
  | image (desc : Nat)
  | scaleLoad (desc : Nat)
  deriving DecidableEq, Repr

/-- What an outstanding NV request serves; the port answers in order. -/
inductive NvUse where
  | dieId (word : Nat)
  | repairRead (strand copy word : Nat)
  | calRead (strand copy word : Nat)
  | repairWrite (strand : Nat) (last : Bool)
  | calWrite (strand : Nat) (last : Bool)
  | logWrite (last : Bool)
  /-- A write abandoned by a brownout: its response is discarded (R423, R515). -/
  | dropped
  deriving DecidableEq, Repr

/-! ## What leaves the block in a step -/

/-- One output of the last step. -/
inductive Out where
  | hmRead (request addr len : Nat)
  | hmWrite (request addr : Nat) (data : List Byte)
  | doorbellRead (pair addr : Nat)
  | submissionFetch (pair addr room : Nat)
  | memRead (request channel addr len : Nat)
  | memWrite (request channel addr : Nat) (data : List Byte)
  | nvRead (addr : Nat)
  | nvWrite (addr data : Nat)
  | cfgData (data : Nat)
  | oBeat (port side : Nat) (data : List Byte)
  | ptBeat (vc : Nat) (sop eop err : Bool) (data : List Byte)
  | flit (strand : Nat) (bytes : List Byte)
  | bisqueFlit (bytes : List Byte)
  | sideband (kind : Nat) (payload : List Byte)
  | heatOut (frame : Nat)
  | throttle (level : Nat)
  | tapIr (value : Nat)
  | tapCapture (value : Nat)
  | tapCells (ones : List Nat)
  | extest (ones : List Nat)
  | training (strand kind : Nat)
  deriving DecidableEq, Repr

/-! ## Kiln log and injection (chapter 15) -/

/-- A code raised in the step and not yet logged (R547). -/
structure Raised where
  code     : Nat
  unit     : Nat
  data     : Nat := 0
  injected : Bool := false
  /-- Further occurrences that only raise the record's count (R318). -/
  more     : Nat := 0
  deriving DecidableEq, Repr

/-- One kiln log record (R545), with the marks that R549 and R551 need. -/
structure KilnRecord where
  code      : Nat
  nested    : Bool := false
  injected  : Bool := false
  isOpen    : Bool := false
  escalated : Bool := false
  link      : Nat := 0xFF
  unit      : Nat
  count     : Nat := 1
  first     : Nat
  last      : Nat
  data      : Nat := 0
  seq       : Nat
  /-- Frame boundaries since LAST (R549). -/
  bounds    : Nat := 0
  /-- The unit was escalated while this record was open (R551). -/
  escSeen   : Bool := false
  deriving DecidableEq, Repr

/-- The kiln log: VALID records by index, and CL_LOG_STATUS (R545 to R555, R564). -/
structure Kiln where
  records     : List (Nat × KilnRecord) := []
  nextSeq     : Nat := 0
  instF       : Bool := false
  escalations : Nat := 0
  lost        : Nat := 0
  /-- Escalations since the last frame boundary (R552). -/
  frameEsc    : Nat := 0
  /-- Domains whose PD_REQ stays low until firmware clears the 0x0906 record (R28). -/
  pdHeld      : List Nat := []
  /-- GEN and copy (0 A, 1 B) of the newest log image that this instance has written (R556); none before the first. -/
  image       : Option (Nat × Nat) := none
  /-- A word of the image being written has failed, and another image waits to be written (R419, R556). -/
  imageErr    : Bool := false
  imageNext   : Bool := false
  deriving DecidableEq, Repr

/-- The injection unit (R558, R559, R565). CL_INJ_CTL, UNIT and DATA are registers. -/
structure Inject where
  unlocked : Bool := false
  armed    : Bool := false
  point    : Nat := 0
  unit     : Nat := 0
  param    : Nat := 0
  data     : Nat := 0
  safe     : Bool := false
  remain   : Nat := 0
  fired    : Nat := 0
  deriving DecidableEq, Repr

/-! ## Rings (chapter 7) -/

/-- The ring engine of one pair: CL_RING{r}_STATUS and what R243 to R256 keep. -/
structure Ring where
  sqCi      : Nat := 0
  sqGen     : Bool := false
  fault     : Bool := false
  cfgErr    : Bool := false
  cqPi      : Nat := 0
  cqPhase   : Bool := false
  /-- The driver's indices and message, as last read. -/
  sqPi      : Nat := 0
  sqPiGen   : Bool := false
  cqCi      : Nat := 0
  cqCiGen   : Bool := false
  msiAddr   : Nat := 0
  msiData   : Nat := 0
  /-- The poll interval is 100 ns × 2^pollExp (R246). -/
  pollExp   : Nat := 0
  reading   : Bool := false
  /-- The read in flight is a poll, and no notification has come since it began (R246). -/
  poll      : Bool := false
  /-- A watch notification has come since the read in flight began: another read follows it (R36). -/
  again     : Bool := false
  /-- The read in flight began before the pair was enabled anew: its data are not used (R245). -/
  oldRead   : Bool := false
  /-- Entries of the submission fetch in flight; 0 without one. -/
  fetching  : Nat := 0
  /-- The fetch in flight is to be discarded (R245). -/
  stale     : Bool := false
  fetched   : List (List Byte) := []
  /-- Unsignalled entries (R256). -/
  unsig     : Nat := 0
  /-- Firing count when the oldest unsignalled entry was written. -/
  oldest    : Option Nat := none
  /-- HM writes of entries not yet acknowledged. -/
  unacked   : List Nat := []
  /-- Of the unsignalled entries, the writes not yet acknowledged. -/
  covers    : List Nat := []
  /-- Messages that are due, oldest first: each waits for these writes of entries that it covers. -/
  msgs      : List (List Nat) := []
  deriving DecidableEq, Repr

/-- An accepted descriptor that holds an in-flight slot (R248). -/
structure Desc where
  id      : Nat
  pair    : Nat
  entry   : List Byte
  /-- The completion entry has been written and waits for its acknowledgement. -/
  written : Bool := false
  deriving DecidableEq, Repr

/-- A FENCE that waits (R259). -/
structure FenceWait where
  desc  : Nat
  pair  : Nat
  all   : Bool
  block : Bool
  deriving DecidableEq, Repr

/-! ## Streams (chapters 2 to 6) -/

/-- The stream parameters that STREAM_OPEN carries (R56 and bytes 0x08 to 0x37 of the descriptor). -/
structure StreamCfg where
  id          : Nat := 0
  cls         : Nat := 0
  localStn    : Nat := 0
  rnd         : Nat := 0
  remote      : Nat := 0
  bufPages    : Nat := 0
  srcFmt      : Nat := 0
  wireFmt     : Nat := 0
  dlvFmt      : Nat := 0
  weight      : Nat := 0
  atomicLimit : Nat := 0
  seed        : Nat := 0
  vc          : Nat := 0
  codecCtl    : Nat := 0
  numCtl      : Nat := 0
  flushCtl    : Nat := 0
  stepStage   : Nat := 0
  accRegion   : Nat := 0
  accIndex    : Nat := 0
  dispCtl     : Nat := 0
  shelfCtl    : Nat := 0
  resvSlots   : Nat := 0
  setFirst    : Nat := 0
  setCount    : Nat := 0
  setStandby  : Nat := 0
  hasStandby  : Bool := false
  deriving DecidableEq, Repr

/-- The numeric state of one side of a stream (R137, R148 to R157, R171). -/
structure NumCtx where
  lfsr         : Nat := 0
  stepVer      : Option Nat := none
  /-- 16 history entries, FP32 codes; invalid entries 0. -/
  hist         : List Nat := List.replicate 16 0
  histNext     : Nat := 0
  histValid    : Nat := 0
  stepMax      : Nat := 0
  stepConv     : Bool := false
  stepNonzero  : Nat := 0
  stepFlushed  : Nat := 0
  bwdSeen      : Bool := false
  zeroSoFar    : Bool := true
  runFrac      : Nat := 0
  runZero      : Nat := 0
  /-- An element has been converted since the open (R154). -/
  converted    : Bool := false
  strictHit    : Bool := false
  flushAlarm   : Bool := false
  frac         : Bool := false
  zero         : Bool := false
  conv         : Nat := 0
  nonzero      : Nat := 0
  flushed      : Nat := 0
  sat          : Nat := 0
  nanIn        : Nat := 0
  strictNan    : Nat := 0
  mxClamp      : Nat := 0
  steps        : Nat := 0
  zeroSteps    : Nat := 0
  dispatchIdle : Nat := 0
  deriving DecidableEq, Repr

/-- Where an outbound parcel comes from. -/
inductive TxSource where
  | station (port : Nat)
  | host (desc : Nat)
  | draw (draw : Nat) (index : Option Nat)
  | fetchAnswer
  | dispatch
  deriving DecidableEq, Repr

/-- An outbound parcel: the bytes taken in, in the I-channel layout (R64), and its progress on the wire. -/
structure TxParcel where
  source   : TxSource
  src      : List Byte := []
  /-- All its bytes have been taken in. -/
  complete : Bool := false
  /-- Space held in the slice's lookahead buffer, in bytes (R112). -/
  held     : Nat := 0
  /-- It waits for lookahead space (R151). -/
  waitsLa  : Bool := false
  /-- Arrival order (R151). -/
  arrival  : Nat := 0
  /-- The step rules, the modifications and the outer scale have been applied for it. -/
  prepared : Bool := false
  /-- The mode, once chosen (R111). -/
  mode     : Option Nat := none
  /-- The first flit has been sent: the wire header and the wire and delivered offsets after the last flit. -/
  started  : Bool := false
  hdr      : List Byte := []
  sent     : Nat := 0
  dOff     : Nat := 0
  /-- The outer scale exponent, the rounding mode and the outer scale of the source. -/
  kOut     : Int := 0
  rnd      : Nat := 0
  /-- The sender may end the flit at the bytes it holds (R118). -/
  idleEnd  : Bool := false
  /-- The parcel is to be ended by an abort flit (R302). -/
  abort    : Bool := false
  cold     : Bool := false
  /-- LOOKAHEAD_DONE has come for it (R112). -/
  laDone   : Bool := false
  /-- PSEQ, once started. -/
  pseq     : Nat := 0
  /-- A binding (stage, mb) dropped with its last flit (R215). -/
  drops    : Option (Nat × Nat) := none
  /-- How many of its source bytes had come with each I-channel beat, and the beat's LCLK index (R322); none for a host's parcel. -/
  stamps   : List (Nat × Nat) := []
  deriving DecidableEq, Repr

/-- What becomes of a stream. -/
inductive Phase where
  | opening (desc : Nat)
  | live
  | closing (desc : Option Nat) (sent : Bool)
  deriving DecidableEq, Repr

/-- A change that waits for the next parcel (R58, R139). -/
structure Modify where
  mask        : Nat
  weight      : Nat
  rnd         : Nat
  seed        : Nat
  atomicLimit : Nat
  pseq        : Nat := 0
  deriving DecidableEq, Repr

/-! ## Expert dispatch (chapter 5) -/

/-- A table entry with the EXPERT stream it resolves to (R180, R181). -/
structure DispEntry where
  addr    : Nat
  cap     : Nat
  enabled : Bool
  stream  : Option Nat := none
  deriving DecidableEq, Repr

/-- What a DISPATCH_LOAD sets (R179). POLICY: 0 DROP, 1 SPILL, 2 HOLD. -/
structure DispSet where
  rowElems  : Nat
  policy    : Nat
  spillAddr : Nat
  spillTo   : Option Nat := none
  holdTicks : Nat
  holdMax   : Nat
  entries   : List DispEntry
  deriving DecidableEq, Repr

/-- A slot that waits in a hold queue (R189). -/
structure HeldSlot where
  expert : Nat
  stream : Nat
  pseq   : Nat
  row    : Nat
  slot   : Nat
  deriving DecidableEq, Repr

/-- A loaded dispatch table (R179 to R189, R198). -/
structure DispTable where
  num      : Nat
  cur      : DispSet
  /-- The table that governs from the next window (R182). -/
  next     : Option DispSet := none
  /-- The bound SOURCE stream. -/
  source   : Option Nat := none
  /-- The open window's MB and DIR, the next ROW and the counts of experts in it (R186). -/
  window   : Option (Nat × Nat) := none
  row      : Nat := 0
  counts   : List (Nat × Nat) := []
  /-- Firing count at which the last window's MB_END parcel was scattered, while slots are held. -/
  holdFrom : Option Nat := none
  held     : List HeldSlot := []
  rows     : Nat := 0
  slotsSent : Nat := 0
  drops    : Nat := 0
  spills   : Nat := 0
  holds    : Nat := 0
  noRoute  : Nat := 0
  unmapped : Nat := 0
  fencedDrop : Nat := 0
  returnLost : Nat := 0
  holdFull : Nat := 0
  holdExpired : Nat := 0
  holdDropped : Nat := 0
  returnOrder : Nat := 0
  combineSat : Nat := 0
  sent     : List (Nat × Nat) := []
  dropped  : List (Nat × Nat) := []
  deriving DecidableEq, Repr

/-- What has become of one routing slot of a kept row (R187 to R196). -/
inductive SlotMark where
  | off | held | sent | lost
  /-- Answered, with the returned elements widened to FP32. -/
  | answered (row : List Nat)
  deriving DecidableEq, Repr

/-- A SOURCE parcel kept for the combine (R185, R194). -/
structure SrcParcel where
  pseq    : Nat
  bytes   : List Byte
  cells   : Nat
  mb      : Nat
  dir     : Nat
  /-- ROW of its row 0 within its window. -/
  row0    : Nat
  marks   : List (List SlotMark)
  /-- A slot of it was declared lost (R196). -/
  lost    : Bool := false
  /-- It has ended with this status, and is delivered as one beat (R90, R557). -/
  ended   : Option Nat := none
  deriving DecidableEq, Repr

/-- A row, or the end of an EMPTY parcel, sent on an EXPERT stream and not yet answered (R192, R193). -/
structure SentRow where
  tag   : List Byte
  mb    : Nat
  /-- It stands for an EMPTY parcel with MB_END. -/
  empty : Bool := false
  /-- Its SOURCE stream has been freed since. -/
  orphan : Bool := false
  /-- The last row of a parcel with MB_END. -/
  last  : Bool := false
  pseq  : Nat := 0
  row   : Nat := 0
  slot  : Nat := 0
  deriving DecidableEq, Repr

/-! ## Accumulation (chapter 4) -/

/-- A contributor's part of a round (R160, R161). -/
structure AccContrib where
  /-- Chunks added and acknowledged. -/
  next  : Nat := 0
  /-- Elements of the parcels that have been added whole. -/
  elems : Nat := 0
  /-- The MEM request in flight for its next chunk. -/
  busy  : Option Nat := none
  ended : Bool := false
  deriving DecidableEq, Repr

/-- An incomplete round of a region's slot (R160, R164). -/
structure AccRound where
  slot     : Nat
  mb       : Nat
  contribs : List AccContrib
  written  : List Nat := []
  bad      : List Nat := []
  failed   : Bool := false
  deriving DecidableEq, Repr

/-- A SCALE_SAVE under way (R153): where its image goes, the firing count when it began, the contexts still to be recorded (inbound or not,
and key), the records taken, and whether the image is being written. -/
structure ScaleSave where
  desc    : Nat
  mem     : Bool
  addr    : Nat
  began   : Nat
  left    : List (Bool × Nat)
  recs    : List (List Byte) := []
  writing : Bool := false
  deriving DecidableEq, Repr

/-- An open accumulation region (R158). -/
structure AccRegion where
  ordered  : Bool
  contribs : Nat
  elems    : Nat
  slots    : Nat
  base     : Nat
  addTo    : Bool
  strict   : Bool
  accSat   : Nat := 0
  rounds   : List AccRound := []
  deriving DecidableEq, Repr

/-! ## Shelves, bindings, draws and restores (chapter 6) -/

/-- STATE of a shelf (R204, R238). -/
inductive ShelfState where
  | free | filling | committed | drawing | held
  deriving DecidableEq, Repr

/-- A shelf table entry (R204). -/
structure Shelf where
  state      : ShelfState := .free
  stage      : Nat := 0
  version    : Nat := 0
  base       : Nat := 0
  len        : Nat := 0
  fmt        : Nat := 0
  current    : Bool := false
  level      : Nat := 0
  vdigest    : Option Nat := none
  copyUnsafe : Bool := false
  fillErr    : Bool := false
  drawSusp   : Bool := false
  /-- Accepted VERSION_COMMITs that wait for the fill writes (R216). -/
  commits    : List Nat := []
  /-- FILL writes not yet acknowledged. -/
  fillOut    : Nat := 0
  deriving DecidableEq, Repr

/-- A binding of a stage's micro-batch to a shelf (R212). -/
structure Binding where
  stage : Nat
  mb    : Nat
  shelf : Nat
  deriving DecidableEq, Repr

/-- Progress of a draw. -/
inductive DrawPhase where
  | running | suspended
  deriving DecidableEq, Repr

/-- A draw (R219 to R230). KEEPER: 0 STREAM, 1 HOST, 2 RELAY. -/
structure Draw where
  id       : Nat
  desc     : Nat
  phase    : DrawPhase := .running
  shelf    : Option Nat
  base     : Nat
  len      : Nat
  stage    : Nat
  version  : Nat
  keeper   : Nat
  stream   : Nat := 0
  dataAddr : Nat := 0
  tabAddr  : Nat := 0
  key      : Option Nat := none
  ackMs    : Nat := 1000
  /-- The next chunk to read, what has been read of it, and a read in flight. -/
  next     : Nat := 0
  got      : List Byte := []
  reading  : Option Nat := none
  /-- Digests of the chunks read, by index. -/
  digests  : List Nat := []
  ackNext  : Nat := 0
  running  : Nat := 0
  /-- Chunks that have had a CHUNK_BAD (the count itself stands for the closing parcel). -/
  badSeen  : List Nat := []
  closed   : Bool := false
  /-- HM writes of a HOST draw not yet acknowledged. -/
  writes   : Nat := 0
  dieId    : Nat := 0
  station  : Nat := 0
  deriving DecidableEq, Repr

/-- What a keeper has accepted of a draw (R223): its STAGE and VERSION, and the digests of its chunks. -/
structure KeptDraw where
  stage   : Nat
  version : Nat
  digests : List Nat
  deriving DecidableEq, Repr

/-- A RESTORE in progress (R235, R236). -/
structure Restore where
  desc     : Nat
  shelf    : Option Nat
  base     : Nat
  len      : Nat
  stage    : Nat
  version  : Nat
  stream   : Option Nat
  dataAddr : Nat := 0
  tabAddr  : Nat := 0
  expect   : Option Nat
  key      : Option Nat
  level    : Nat
  commit   : Bool
  next     : Nat := 0
  running  : Nat := 0
  /-- The digest table (HOST), and the bytes of the present chunk read so far. -/
  table    : List Byte := []
  got      : List Byte := []
  /-- MEM writes not yet acknowledged; every check has passed. -/
  writes   : Nat := 0
  passed   : Bool := false
  deriving DecidableEq, Repr

/-- A fetch answer being read (R211): its WEIGHT stream, what is left to read, and the drop of a binding at its last flit. -/
structure Fetch where
  weight  : Nat
  shelf   : Nat
  addr    : Nat
  left    : Nat
  /-- The MEM request in flight. -/
  reading : Option Nat := none
  deriving DecidableEq, Repr

/-- An outbound stream context (R52). -/
structure TxStream where
  cfg        : StreamCfg
  /-- The class as in effect: a demoted F stream is O (R333). -/
  cls        : Nat
  demoted    : Bool := false
  phase      : Phase := .live
  /-- The stream is fenced or its partner is lost, with this status (R90). -/
  fence      : Option Nat := none
  looped     : Bool := false
  capacity   : Nat := 0
  credits    : Nat := 0
  pairCred   : Nat := 64
  openPairs  : List (Nat × Nat) := []
  pseq       : Nat := 0
  queue      : List TxParcel := []
  modify     : Option Modify := none
  weight     : Nat := 0
  rnd        : Nat := 0
  seed       : Nat := 0
  atomicLim  : Nat := 0
  /-- Parcels are converted for a level 2 peer (R473): the stream's own WIRE_FMT; `cfg` then holds the one on the wire. -/
  transcoded : Bool := false
  ownFmt     : Nat := 0
  num        : NumCtx := {}
  parcelsTx  : Nat := 0
  flitsTx    : Nat := 0
  malformed  : Nat := 0
  refused    : Nat := 0
  headerErr  : Nat := 0
  modeOpq    : Nat := 0
  modeDns    : Nat := 0
  modeS24    : Nat := 0
  modeSpr    : Nat := 0
  srcBytes   : Nat := 0
  wireBytes  : Nat := 0
  early      : Nat := 0
  s24Miss    : Nat := 0
  laSkip     : Nat := 0
  /-- F reservation: joined at a frame boundary (R327); row from which it may join; it is being withdrawn; it has been. -/
  joined     : Bool := false
  joinRow    : Nat := 0
  withdraw   : Bool := false
  withdrawn  : Bool := false
  /-- The head F flit missed the reserved slot it was first assigned to, for this cause (R318). -/
  missed     : Option Nat := none
  /-- Its reservation was withdrawn by a demotion; flits of the parcel in progress slip with cause DEMOTE (R333). -/
  demoting   : Bool := false
  /-- The idle flag of WATCH (R197), and the tags counted in the present step. -/
  watchIdle  : Bool := false
  stepTags   : Nat := 0
  /-- EXPERT: rows not yet answered; the pair is fenced (R193, R196). -/
  unanswered : List SentRow := []
  pairFenced : Bool := false
  /-- SOURCE: parcels kept for the combine. -/
  kept       : List SrcParcel := []
  /-- PT packet in progress on the wire, for P streams: packet bytes, offset sent, complete (R88). -/
  ptQueue    : List (List Byte × Nat × Bool) := []
  /-- The first 16 bytes of each packet whose last flit has been sent and may be unacknowledged (R499). -/
  ptSent     : List (List Byte) := []
  deriving DecidableEq, Repr

/-- A parcel on its way into the capture buffer (R170): where it starts there, whether its wire bytes are written, the bytes written, the
delivered offset that these reach, and whether they are all. -/
structure Capture where
  start : Nat
  wire  : Bool
  done  : Nat := 0
  upto  : Nat := 0
  whole : Bool := false
  deriving DecidableEq, Repr

/-- An inbound parcel (R72 to R85). -/
structure RxParcel where
  /-- Its number on the stream, in order of arrival. -/
  uid      : Nat := 0
  /-- The wire bytes received, header included. -/
  wire     : List Byte := []
  /-- The delivered offset reached and the cells charged. -/
  dOff     : Nat := 0
  cells    : Nat := 0
  atomic   : Bool := false
  mb       : Nat := 0
  dir      : Nat := 0
  mbEnd    : Bool := false
  /-- All flits received and every check passed. -/
  complete : Bool := false
  /-- Ended by an interruption or a failed check with this status: nothing more is stored (R85, R90, R122). -/
  ended    : Option Nat := none
  /-- A failed check took it before any byte was delivered: it takes no pop (R72, R122). -/
  gone     : Bool := false
  /-- CLASS of its first flit (R267). -/
  cls      : Nat := 0
  /-- Delivered bytes that the decoder still holds for the fixed latency (R322): where each part begins, and the LCLK index it is due at. -/
  ripen    : List (Nat × Nat) := []
  /-- The delivered bytes available, and those that have left them for the O channel, a beat on offer included. -/
  avail    : List Byte := []
  taken    : Nat := 0
  returned : Nat := 0
  /-- A pop has been matched with it. -/
  popped   : Bool := false
  /-- Rounding state when its conversion began. -/
  lfsr0    : Nat := 0
  /-- 0 deliverable; 1 held by a version check (R213); 2 taken by its stream's role; 3 waits behind a held one; 4 a fetch that waits
  for a CURRENT shelf or a binding (R212); 5 goes to the capture buffer (R170). -/
  hold     : Nat := 0
  /-- Codes 0x0602 and 0x0609 recorded for it (R212). -/
  waitSeen : List Nat := []
  /-- STATUS of its last beat when delivered whole (R196, R214). -/
  okStatus : Nat := 0
  /-- A held fetch that SKEW_RELEASE has passed is served as if FWD (R214). -/
  fwd      : Bool := false
  /-- MEM or HM writes of it that are not yet acknowledged: the offset that names each, and the delivered offsets between which its bytes
  lie. -/
  outst    : List (Nat × Nat × Nat) := []
  capture  : Option Capture := none
  /-- Code 0x0422 has been recorded for it (R140). -/
  strictSeen : Bool := false
  /-- The pair slot it belongs to (R81). -/
  slot     : Nat := 0
  /-- The header has passed R72. -/
  checked  : Bool := false
  /-- It has been counted under R474. -/
  lax      : Bool := false
  /-- Elements of it added and acknowledged, for an accumulating stream (R165). -/
  accDone  : Nat := 0
  /-- CL_SAG_CTL as its first flit found it: the digest controls that govern it (R486). -/
  sagCtl   : Nat := 0
  deriving DecidableEq, Repr

/-- A pair slot of the receiver (R81). -/
structure PairSlot where
  id     : Nat
  mb     : Nat
  dir    : Nat
  /-- An MB_END parcel of the pair has arrived (or was discarded): no later parcel joins this slot. -/
  ending : Bool := false
  deriving DecidableEq, Repr

/-- An inbound stream context (R52). -/
structure RxStream where
  cfg        : StreamCfg
  cls        : Nat
  closing    : Option Nat := none
  /-- A CLOSE without force has arrived (R298). -/
  closeSeen  : Bool := false
  /-- Its partner has been lost since it opened: the context stays until it is closed here (R92). -/
  partnerLost : Bool := false
  fence      : Option Nat := none
  looped     : Bool := false
  capacity   : Nat := 0
  cells      : Nat := 0
  pairs      : List PairSlot := []
  nextSlot   : Nat := 0
  parcels    : List RxParcel := []
  nextUid    : Nat := 0
  /-- A parcel is in progress: later flits belong to the newest parcel. -/
  busy       : Bool := false
  /-- PSEQ expected next. -/
  pseq       : Nat := 0
  stall      : Bool := false
  num        : NumCtx := {}
  modifies   : List Modify := []
  demotePseq : Option Nat := none
  /-- Credits due to the sender (R292). -/
  dueCells   : Nat := 0
  duePairs   : Nat := 0
  parcelsRx  : Nat := 0
  headerErr  : Nat := 0
  stalls     : Nat := 0
  decodeErr  : Nat := 0
  skew       : Nat := 0
  /-- RETURN: its pair is fenced (R196). -/
  pairFenced : Bool := false
  watchIdle  : Bool := false
  stepTags   : Nat := 0
  /-- Accumulation: parcels of this micro-batch are discarded up to MB_END (R164). -/
  accDrain   : Option Nat := none
  /-- Code 0x0804 has been recorded in this frame (R474). -/
  laxSeen    : Bool := false
  /-- DRAW keeper: the DRAW_ID of the last chunk accepted and the next index; none before the first chunk on this stream (R223). -/
  drawNext   : Option (Nat × Nat) := none
  drawSkip   : Nat := 0
  /-- PT packets received: bytes, complete, offset sent. -/
  packets    : List (List Byte × Bool × Nat) := []
  /-- The packet in progress has failed the Saggar and is being discarded (R480). -/
  ptDrop     : Bool := false
  deriving DecidableEq, Repr

/-- A station (R44 to R47). -/
structure Station where
  name  : List Byte := List.replicate 16 0
  port  : Nat := 0
  quota : Nat := 0
  deriving DecidableEq, Repr

/-- A waiting pop (R83). -/
structure Pop where
  stream : Nat
  mb     : Nat
  dir    : Nat
  deriving DecidableEq, Repr

/-- A beat on offer on an O channel (R30): its side field and bytes, and the parcel it is of (key and number), if of one. -/
structure Beat where
  side   : Nat
  data   : List Byte
  source : Option (Nat × Nat) := none
  deriving DecidableEq, Repr

/-- What a parcel that arrives gets of its slice's lookahead buffer (R112, R151): the space it holds, whether it waits for space, whether
it goes without, and its place in the order of arrival. -/
structure Seek where
  held    : Nat
  waits   : Bool
  skips   : Bool
  arrival : Nat
  deriving DecidableEq, Repr

/-- A station port (R30 to R33, R83). -/
structure Port where
  /-- The parcel being assembled: the side field of its first beat, its bytes, and whether a rule of R32 is broken. -/
  inOpen  : Bool := false
  inSide  : Nat := 0
  inBytes : List Byte := []
  /-- The bytes assembled after each beat, and the beat's LCLK index (R322). -/
  inStamps : List (Nat × Nat) := []
  inBad   : Bool := false
  /-- The parcel being assembled has entered its stream already (R322). -/
  inThru  : Bool := false
  /-- What the parcel being assembled has got of the lookahead buffer (R112). -/
  inSeek  : Option Seek := none
  pops    : List Pop := []
  /-- Beats that answer pops at once (side, one zero byte). -/
  answers : List Nat := []
  /-- The parcel being delivered: stream id. -/
  outOf   : Option Nat := none
  /-- The beat on offer: it stays as it is until it transfers (R30). -/
  offer   : Option Beat := none
  deriving DecidableEq, Repr

/-- A PARCEL_SEND that has not been read whole, or has not entered its stream (R260). -/
structure Send where
  desc    : Nat
  stream  : Nat
  addr    : Nat
  len     : Nat
  /-- The bytes read before it entered its stream, how many have been read in all, and a read in flight. -/
  got     : List Byte := []
  read    : Nat := 0
  reading : Bool := false
  entered : Bool := false
  deriving DecidableEq, Repr

/-! ## The Saggar (chapter 13) -/

/-- A chunk of a draw that the Saggar has seen (R483): its digest, its length in bytes, and the STAGE and VERSION that it names. -/
structure SeenChunk where
  digest  : Nat
  len     : Nat
  stage   : Nat
  version : Nat
  deriving DecidableEq, Repr

/-- The Saggar (R478 to R485); its settings are registers. -/
structure Sag where
  attPass  : Bool := false
  attFail  : Bool := false
  fenced   : Bool := false
  /-- A violation of this step asks for the fence. -/
  fenceDue : Bool := false
  /-- The nonce of the attestation under way, and how many nonces have been drawn. -/
  nonce    : Option (List Byte) := none
  nonces   : Nat := 0
  /-- Messages taken in this frame, and one has been skipped (R481). -/
  msgs     : Nat := 0
  skipped  : Bool := false
  /-- Cells returned in this frame for classes O, P and D (R482). -/
  cellsO   : Nat := 0
  cellsP   : Nat := 0
  cellsD   : Nat := 0
  /-- CL_SAG_RATE_O, _P and _D, and CL_SAG_MGMT.MAX, as the present frame has them (R486). -/
  rateO    : Nat := 0
  rateP    : Nat := 0
  rateD    : Nat := 0
  msgMax   : Nat := 0x40
  /-- Chunks seen, each with its digest and length, by direction, stream and DRAW_ID (R483). -/
  chunks   : List ((Bool × Nat × Nat) × List SeenChunk) := []
  deriving DecidableEq, Repr

/-! ## The partner (chapter 14) -/

/-- CL_PARTNER_STATUS.STATE (R494). -/
inductive PartnerState where
  | unknown | absent | present | active | quiet | lost
  deriving DecidableEq, Repr

/-! ## Link layer (chapter 8) -/

/-- A sequenced flit kept by its sender until acknowledged (R277). -/
structure SentFlit where
  seq   : Nat
  /-- Flit bytes 0 to 247. -/
  body  : List Byte
  /-- The row (LCLK index) of its last serialisation, for R290. -/
  row   : Nat
  /-- A carried flit: the strand it was first assigned to (R287). -/
  owner : Option Nat := none
  deriving DecidableEq, Repr

/-- An accepted flit that waits for the merge (R279). -/
structure HeldFlit where
  row  : Nat
  body : List Byte
  /-- It was carried by another strand (R288). -/
  carried : Bool := false
  /-- Class F: the row in which its set's watermarks were found to have reached its ROW (R316), and the strands that it last waited for. -/
  ready : Option Nat := none
  behind : List Nat := []
  /-- Its contents have been discarded (R300): it holds no entry of the queue, and fails the parcel or packet that it was a part of. -/
  fault : Bool := false
  deriving DecidableEq, Repr

/-- Carried flits that a receiver expects on a strand (R288): the failed strand, the carrier SEQ of the next carried flit and its
original SEQ, and how many are left. -/
structure Carry where
  failed  : Nat
  next    : Nat
  orig    : Nat
  left    : Nat
  deriving DecidableEq, Repr

/-- Flits that a strand is to carry for a failed one (R287): the failed strand, the SEQ of the first, the flits still to be sent,
and whether the XREPLAY has been sent. -/
structure CarryOut where
  failed  : Nat
  seq     : Nat
  left    : List SentFlit
  told    : Bool := false
  deriving DecidableEq, Repr

/-- The link layer of one strand (R277 to R290). -/
structure Link where
  txSeq     : Nat := 0
  replay    : List SentFlit := []
  /-- Flits of the replay buffer that are to be sent again: how many are left, counted from the newest. -/
  resend    : Nat := 0
  waitMode  : Bool := false
  /-- First-failing SEQ and the NAKs decoded for it. -/
  nakSeq    : Nat := 0
  nakCount  : Nat := 0
  /-- What it carries for failed strands, oldest first. -/
  carryOut  : List CarryOut := []
  rxSeq     : Nat := 0
  /-- Last flit accepted in order since entering service. -/
  rxLast    : Option Nat := none
  /-- Discarding until the replay slot in this row (R281). -/
  discard   : Option Nat := none
  nakDue    : Bool := false
  /-- The last trailer sent carried WAIT. -/
  waiting   : Bool := false
  /-- An injected full queue asks for one WAIT (R560). -/
  forceWait : Bool := false
  queue     : List HeldFlit := []
  carryIn   : List Carry := []
  /-- LCLK index of the row of the last flit accepted in order; none before the first. -/
  mark      : Option Nat := none
  /-- LCLK index of the ROW of the last sequenced flit accepted, for R275. -/
  lastRow   : Option Nat := none
  /-- The strand's flits have been carried by another strand (slip cause XREPLAY, R318). -/
  carried   : Bool := false
  /-- An XREPLAY has been sent for it (R288). -/
  xsent     : Bool := false
  /-- Unacknowledged flits that have moved to a carrier: acknowledgements may still name them (R280). -/
  movedOut  : Nat := 0
  crcErr    : Nat := 0
  nakExh    : Nat := 0
  replays   : Nat := 0
  waits     : Nat := 0
  protoErr  : Nat := 0
  /-- CRC failures in the present window of R437, and whether the threshold fired in it. -/
  winCrc    : Nat := 0
  winFired  : Bool := false
  deriving DecidableEq, Repr

/-! ## Fixed latency and guarantees (chapter 9) -/

/-- A striping set in use (R325 to R330): the set as its streams name it (first member, count, standby), and what it has become. -/
structure SetRun where
  first    : Nat
  count    : Nat
  asked    : Option Nat
  members  : List Nat
  standby  : Option Nat
  /-- The member that the standby covers now. -/
  covers   : Option Nat := none
  /-- Strands that the frame's schedule uses, ascending, with the standby in the place of a covered member (R328). -/
  active   : List Nat := []
  /-- Joined reservations of the frame (stream, RESV_SLOTS) and the slots each has had, in ascending stream id. -/
  resv     : List (Nat × Nat) := []
  had      : List (Nat × Nat) := []
  /-- Slots reserved in this frame, and the stream that took the last one. -/
  taken    : Nat := 0
  last     : Nat := 0
  /-- It cannot hold its reservations (R332). -/
  broken   : Bool := false
  deriving DecidableEq, Repr

/-- CL_LAT_STATUS and what the frame-by-frame rules keep (R310 to R335). -/
structure Guard where
  /-- The locked ratio in effect: M (R320). -/
  locked    : Option Nat := none
  lockedOk  : Bool := false
  /-- Consecutive frames with the right count. -/
  good      : Nat := 0
  misalign  : Bool := false
  floorBroken : Bool := false
  /-- CL_GUARD_POLICY as in effect (R335). -/
  drawPrec  : Bool := false
  dfloor    : Nat := 2
  cap       : Nat := 0
  fTotal    : Nat := 0
  sets      : List SetRun := []
  /-- F streams freed by a forced close whose reservations stand until the next boundary (R327). -/
  freed     : List StreamCfg := []
  /-- Reservations stand withdrawn while no strand is in service (R331). -/
  suspended : Bool := false
  /-- D flits sent and slots elapsed in this frame, and the D stream served last (R63). -/
  dSent     : Nat := 0
  slots     : Nat := 0
  dLast     : Nat := 0
  /-- Weighted round robin: the stream visited last and flits sent in its turn (R62). -/
  wrrAt     : Nat := 0
  wrrSent   : Nat := 0
  /-- The frame boundary last passed, as a tick count. -/
  lastFrame : Option Nat := none
  /-- Streams that have slipped in this frame: sent here (true) or received (R318). -/
  slips     : List (Bool × Nat) := []
  deriving DecidableEq, Repr

/-- Strand states (R378). -/
inductive StrandState where
  | greenware | bisque | fired | crazed | shard
  deriving DecidableEq, Repr

/-- Strand substates (R378). -/
inductive Sub where
  | none | hold | fill | cal | test
  deriving DecidableEq, Repr

/-- A service change agreed for a boundary (R291, R610): its LCLK index, the REASON of a leave (0 REPAIR, 1 RETIRE, 2 PARK; the
model's 4 for CAL and 5 for TEST), and whether each side has sent its message. -/
structure Svc where
  row    : Nat
  reason : Nat := 0
  mine   : Bool := false
  theirs : Bool := false
  /-- It travels as a REPAIR_SVC frame (R439). -/
  side   : Bool := false
  deriving DecidableEq, Repr

/-- Settings of a lane index: its RX phase, Vref and capture read point, and its TX drive step (R351). -/
structure LaneSet where
  phase   : Nat := 32
  vref    : Nat := 32
  read    : Nat := 0
  drive   : Nat := 4
  trained : Bool := false
  deriving DecidableEq, Repr

/-- Repair state of one direction (R430). -/
structure RepDir where
  used  : Nat := 0
  map   : Nat := 0
  bad   : Nat := 0
  lost  : Nat := 0
  shard : Bool := false
  deriving DecidableEq, Repr

/-- What began a repair (R436). -/
inductive RepCause where
  | threshold | bist | command | spare | replay | handed | verify
  deriving DecidableEq, Repr

/-- A repair in progress (R439 to R447). PHASE: 0 none, 1 HOLD, 2 SWEPT, 3 FILLED. -/
structure Repair where
  cause   : RepCause
  mine    : Nat := 0
  peer    : Nat := 0
  /-- Repair state of both directions at HOLD entry. -/
  rx0     : RepDir := {}
  tx0     : RepDir := {}
  /-- Groups being filled on this side, and groups whose change a firing made (R559). -/
  fills   : List Nat := []
  injs    : List Nat := []
  /-- Lowest failing lane of this side's sweep, in the encoding of R544. -/
  failed  : Option Nat := none
  /-- Firing count at which HOLD was entered, the boundary at which the sweep starts has come, and no sweep is made. -/
  began   : Nat := 0
  swept   : Bool := false
  skip    : Bool := false
  desc    : Option Nat := none
  /-- The SERVICE with JOIN, or the RETIRE leave that ends it, has been arranged. -/
  ending  : Bool := false
  /-- The repair state last written in this repair (R442, R445), and the spares of both directions that have been counted as switched in. -/
  wrote   : Option (RepDir × RepDir) := none
  rxDone  : Nat := 0
  txDone  : Nat := 0
  /-- The RX state has changed since SWEPT was sent (R444). -/
  stale   : Bool := false
  deriving DecidableEq, Repr

/-- A planned repair trigger that waits (R438, R451, R452): its cause, the group and data lane of SPARE, and its descriptor. -/
structure RepWait where
  cause : RepCause
  group : Nat := 0
  lane  : Nat := 0
  desc  : Option Nat := none
  /-- It has been reported as deferred. -/
  deferred : Bool := false
  /-- Lanes handed over, or a whole-direction failure (a clock, VLD or TRK lane). -/
  lanes : List Nat := []
  deriving DecidableEq, Repr

/-- One strand: its place in the wedging, service, calibration, repair and self-test rules. -/
structure Strand where
  state   : StrandState := .greenware
  sub     : Sub := .none
  /-- In the merge: in service in both directions. -/
  service : Bool := false
  link    : Link := {}
  /-- LCLK index from which, and up to which, the merge includes the strand (R291). -/
  mergeFrom  : Option Nat := none
  mergeUntil : Option Nat := none
  leave   : Option Svc := none
  join    : Option Svc := none
  /-- Its retirement, made moot by an XREPLAY (R303), is to be agreed anew. -/
  toRetire : Bool := false
  /-- Past the boundary at which it leaves service, it still empties its replay buffer (R291). -/
  draining : Bool := false
  /-- Current step in the code of the STEP message, or 0; steps done by each side. -/
  step    : Nat := 0
  own     : Nat := 0
  peer    : Nat := 0
  /-- Failed attempts of the present wedging, its strand's group engine has taken it, and a re-entry under R448 has been used. -/
  fails   : Nat := 0
  wedging : Bool := false
  reentry : Bool := false
  /-- Its group is being woken: records are read and W1 waits for the peer's group; and its record's settings are taken as they are
  (R513). -/
  waking  : Bool := false
  quick   : Bool := false
  /-- W3 has been repeated after a drive change (R403). -/
  again   : Bool := false
  /-- Body of the latest STEP sent, if it is repeated (R409). -/
  said    : Option (List Byte) := none
  lanes   : List LaneSet := []
  /-- The duty setting of the forwarded clock, and the corrections made of it (R393). -/
  duty    : Nat := 16
  duties  : Nat := 0
  /-- Lanes whose drive step has moved in the present wedging or calibration (R392). -/
  moved   : List Nat := []
  /-- Settings and duty from before the present bisque training or wedging, which discards its results if it ends without service (R423). -/
  was     : Option (List LaneSet × Nat) := none
  /-- The present attempt has begun with a failure that the peer's repeated STEP may still name (R407, R409), and the strand was woken with
  its group: it passes W2 and W3 in its turn (R513). -/
  failSeen : Bool := false
  serial  : Bool := false
  /-- The latest sweep's results, by lane index, and the peer's eye heights. -/
  meas    : List LaneMeas := []
  peerEye : List (Nat × Nat) := []
  /-- Due for calibration since this tick, and frame boundaries waited as a set member (R329). -/
  dueAt   : Option Nat := none
  waited  : Nat := 0
  calCount : Nat := 0
  calLast : Nat := 0
  /-- Firing count at which settings were applied that no valid record holds yet (R515). -/
  unsaved : Option Nat := none
  /-- Temperature of the last calibration, in units of 1/16 °C; none before one. -/
  calTemp : Option Int := none
  seed    : Nat := 0
  calDis  : Nat := 0
  calTo   : Nat := 0
  /-- Lanes that disagreed at the last calibration (R414). -/
  disLanes : List Nat := []
  /-- Code 0x0105 has been recorded since the last calibration. -/
  trkSeen : Bool := false
  /-- The receiver has locked to the forwarded clock in the present training or wedging (R358), and the clock detector reports STOP or
  LANE (R361). -/
  armed   : Bool := false
  clkFault : Bool := false
  /-- GEN and copy of the newest valid NVM record, the two copies as read, and both have been read (R419, R421). -/
  calRec  : Option (Nat × Nat) := none
  calBuf  : List Byte := []
  calRead : Bool := false
  /-- The write of the calibration record that is in progress: the firing count at its issue and whether a word failed; and the temperature of
  a write that waits for its end (R419). -/
  calAt   : Nat := 0
  calErr  : Bool := false
  calNext : Option Int := none
  /-- The same of the repair record (R431, R432). -/
  repRec  : Option (Nat × Nat) := none
  repBuf  : List Byte := []
  /-- The latest change of the repair state is in no valid record, a write waits for the end of the one in progress, and a word of that one
  failed (R432, R515). -/
  repOwed : Bool := false
  repNext : Bool := false
  repErr  : Bool := false
  rx      : RepDir := {}
  tx      : RepDir := {}
  /-- The map and lost groups in force; the new state of a repair applies at its end (R445). -/
  rep     : Option Repair := none
  waits   : List RepWait := []
  cleanRun : Nat := 0
  /-- Firing counts of the consecutive clean sweeps that the CRC threshold or R286 started (R447). -/
  cleans  : List Nat := []
  /-- Frame boundaries spent in HOLD (R331). -/
  held    : Nat := 0
  /-- The next pending segment of the self-test, and the segments exercised in the present sweep (R537, R540). -/
  segment : Nat := 1
  seen    : List Nat := []
  passed  : Bool := false
  /-- The group is parked, or the strand belongs to a park that is under way (R511). -/
  parked  : Bool := false
  deriving DecidableEq, Repr

/-- The bisque strand and its steps (R394 to R397). -/
structure Bisque where
  /-- The strand that trains, or is in BISQUE. -/
  strand  : Option Nat := none
  own     : Nat := 0
  peer    : Nat := 0
  /-- Failed attempts in a row, and the strand is quiet after one (R396). -/
  fails   : Nat := 0
  quiet   : Bool := false
  /-- Payload of the latest BQ_STEP frame (R386). -/
  said    : Option Nat := none
  /-- Two trusted counts disagree: the link stays in BISQUE until a reset (R400). -/
  conflict : Bool := false
  /-- Bisque flits sent since BISQUE, and 0x0112 has been recorded (R400). -/
  flits   : Nat := 0
  waitSeen : Bool := false
  /-- 0x0116 has been recorded in this bring-up (R406). -/
  tieSeen : Bool := false
  deriving DecidableEq, Repr

/-- The peer's latest LINK_READY (R386). -/
structure PeerReady where
  sg      : Nat
  go      : Bool
  trusted : Bool
  hub     : Bool
  deriving DecidableEq, Repr

/-- The exchange of repair records (R434): GOT of both sides, REC_DONE, frames still to come, and the records received (strand, DIR,
state). -/
structure Exchange where
  got     : Bool := false
  peerGot : Bool := false
  done    : Bool := false
  sum     : Bool := false
  left    : Nat := 0
  recs    : List (Nat × Nat × RepDir) := []
  deriving DecidableEq, Repr

/-- PRESENCE (R373). -/
structure Presence where
  on    : Bool := false
  good  : Nat := 0
  edges : Nat := 0
  deriving DecidableEq, Repr

/-- A cone (R526 to R529): its latest reading, whether it has taken one, MIN and MAX (none since the last clear), alarms that are raised and
not re-armed, and a reference check under way (R538). -/
structure Cone where
  value : Nat := 0
  taken : Bool := false
  low   : Option Nat := none
  high  : Option Nat := none
  isLo  : Bool := false
  isHi  : Bool := false
  check : Bool := false
  deriving DecidableEq, Repr

/-- How far a calibration has come (R411 to R416). -/
inductive CalPhase where
  | agreed | running | pend | verify | rejoin
  deriving DecidableEq, Repr

/-- The calibration of a strand that is under way on this link. A check after application (R416) also ends a BIST slice (R537). -/
structure CalRun where
  strand  : Nat
  /-- LCLK index of r, and this side sent the CAL message. -/
  row     : Nat
  mine    : Bool
  phase   : CalPhase := .agreed
  /-- It went ahead without a free standby (R329). -/
  forced  : Bool := false
  /-- Settings to apply, those to restore, and whether application took place; the same of the duty setting. -/
  target  : List LaneSet := []
  former  : List LaneSet := []
  duty    : Nat := 16
  formerDuty : Nat := 16
  applied : Bool := false
  failed  : Bool := false
  /-- VERIFY reports: 0 none, 1 DONE, 2 FAIL; the second check is being made. -/
  own     : Nat := 0
  peer    : Nat := 0
  second  : Bool := false
  temp    : Int := 0
  /-- Firing count at application. -/
  stamp   : Nat := 0
  /-- The former settings have returned (R416), and the strand's UNSAVED count from before the application. -/
  restored : Bool := false
  saved   : Option Nat := none
  /-- What a CAL_REQUEST takes from it (R417): 0 success, 0x50 or 0x51 as it failed, 1 no result. -/
  result  : Nat := 1
  deriving DecidableEq, Repr

/-- A CAL_REQUEST in progress (R417): strands not finished, failures (strand, status) and whether it is degraded. -/
structure CalReq where
  desc   : Nat
  save   : Bool
  left   : List Nat
  ok     : Nat := 0
  failed : List (Nat × Nat) := []
  degraded : Bool := false
  /-- Strands whose NVM writes of SAVE are outstanding. -/
  saving : List Nat := []
  deriving DecidableEq, Repr

/-- How far a slice has come (R536, R537): agreed for a boundary, segments, RESTORE, or done on this side. -/
inductive SlicePhase where
  | agreed | segments | restore | done
  deriving DecidableEq, Repr

/-- The slice of the link that is agreed or under way (R535 to R542). -/
structure Slice where
  strand  : Nat
  /-- LCLK index of r; this side sent the TEST message, and runs segments in it. -/
  row     : Nat
  mine    : Bool
  phase   : SlicePhase := .agreed
  desc    : Option Nat := none
  /-- Budget and time used, in ns; firing count at r. -/
  budget  : Nat := 8000
  used    : Nat := 0
  start   : Nat := 0
  failed  : Bool := false
  short   : Bool := false
  aborted : Bool := false
  /-- Segment at which it was cut short. -/
  cutSeg  : Nat := 0
  /-- Levels that its latest VREF segment measured, by lane (R532). -/
  levels  : List Nat := []
  /-- Frames that its BIST_SLICE has waited (R542). -/
  frames  : Nat := 0
  /-- The peer has reported RUN. -/
  peer    : Bool := false
  /-- LCLK index at which its last segment ended or was cut short (R561); a firing cut it short (R559). -/
  endedAt : Nat := 0
  inj     : Bool := false
  deriving DecidableEq, Repr

/-- A BIST_SLICE that waits for its strand (R542). -/
structure SliceWait where
  desc   : Nat
  strand : Nat
  budget : Nat
  frames : Nat := 0
  deriving DecidableEq, Repr

/-- First failure of a lane in a full BIST (R544): lane code, UI index, pattern bit and segment; and whether a firing made it (R559). -/
structure BistFail where
  lane    : Nat
  ui      : Nat
  pattern : Nat
  segment : Nat
  inj     : Bool := false
  deriving DecidableEq, Repr

/-- The BIST_FULL under way (R543, R544): strands still to run with the next segment of each; by strand, the first failure of its lowest
failing lane; the first failing unit of each segment, with its strand; and cones whose check has not ended. -/
structure FullRun where
  desc   : Nat
  left   : List (Nat × Nat)
  fails  : List (Nat × BistFail) := []
  firsts : List (Nat × BistFail) := []
  found  : Nat := 0
  short  : Bool := false
  cones  : List Nat := []
  /-- Strands whose run is in INNER mode (R531); by strand, levels that its latest VREF segment measured. -/
  inner  : List Nat := []
  levels : List (Nat × List Nat) := []
  deriving DecidableEq, Repr

/-- Self-test (R535 to R544). -/
structure Bist where
  slice     : Option Slice := none
  waits     : List SliceWait := []
  full      : Option FullRun := none
  inner     : Bool := false
  /-- Candidate of the strand rotation and next cone of the cone rotation. -/
  cand      : Nat := 0
  cone      : Nat := 0
  /-- The present sweep: firing count at its start, and what has wrapped. -/
  from_     : Option Nat := none
  strandEnd : Bool := false
  coneEnd   : Bool := false
  skipped   : Bool := false
  /-- Cones exercised in the sweep. -/
  conesSeen : List Nat := []
  deriving DecidableEq, Repr

/-- What the PULSEs and HEAT_IN frames have brought (R491 to R493, R501, R517 to R522). -/
structure Pulse where
  /-- CAUSE of the latest loss (R494). -/
  cause     : Nat := 0
  /-- SEQ of this side's next PULSE, and the heat of its latest. -/
  seq       : Nat := 0
  sent      : Nat := 0
  /-- The fields of the latest PULSE that passed. -/
  peerSeq   : Nat := 0
  heat      : Nat := 0
  heatValid : Bool := false
  green     : Bool := false
  down      : Bool := false
  warn      : Bool := false
  park      : Nat := 0
  /-- Of the present window: a PULSE passed, one with HEAT_VALID, and one without GREEN or with DOWN. -/
  winPulse  : Bool := false
  winHeat   : Bool := false
  winBad    : Bool := false
  /-- Consecutive misses, windows without heat, and windows that satisfy R501. -/
  misses    : Nat := 0
  heatMiss  : Nat := 0
  greens    : Nat := 0
  /-- The peer's heat is stale, and the level of R521. -/
  stale     : Bool := true
  level     : Nat := 0
  /-- The latest HEAT_IN value, and its staleness. -/
  heatIn    : Nat := 0
  inStale   : Bool := true
  /-- The frame of the firing count in which 0x0912 was last recorded. -/
  errFrame  : Option Nat := none
  deriving DecidableEq, Repr

/-- Power: PWR_WARN as synchronised, the NVM writes of the brownout flush that are outstanding, groups whose strands have left for
parking, groups whose PARK_BLOCKED has been recorded, and groups being woken (R511 to R515). -/
structure Power where
  warn    : Bool := false
  flush   : Option Nat := none
  parked  : List Nat := []
  blocked : List Nat := []
  /-- A firing raised PWR_WARN (R559). -/
  inj     : Bool := false
  /-- Strands whose lanes were put in or out of use of late, with the LCLK index (R591). -/
  moved   : List (Nat × Nat) := []
  deriving DecidableEq, Repr

/-- Discovery (R456 to R477, R484). -/
structure Disc where
  negFail : Bool := false
  /-- CRC of the peer's latest AGREE; an AGREE of this bring-up differed. -/
  peerCrc : Option Nat := none
  /-- This side's link record (R475). -/
  link    : Option (List Byte) := none
  /-- Topology table, by entry (R476). -/
  topo    : List (Nat × List Byte) := []
  deriving DecidableEq, Repr

/-- The states of an IEEE 1149.1 test access port controller (R567). -/
inductive TapCtl where
  | testLogicReset | runTestIdle
  | selectDr | captureDr | shiftDr | exit1Dr | pauseDr | exit2Dr | updateDr
  | selectIr | captureIr | shiftIr | exit1Ir | pauseIr | exit2Ir | updateIr
  deriving DecidableEq, Repr

/-- A key wash under way (R578): firing count at its start, its WASH descriptors, the wait for the acknowledgements of step 2, and a
domain lost in it (R579). -/
structure Wash where
  began   : Nat
  descs   : List Nat := []
  waiting : Bool := true
  lost    : Bool := false
  /-- The descriptors whose completions step 2 wrote. -/
  owed    : List Nat := []
  deriving DecidableEq, Repr

/-- The test access port and key wash (chapter 16). -/
structure Test where
  /-- The TAP instruction register, and PASS as it stands (R568, R571). -/
  ir    : Nat := 0x1
  pass  : Bool := false
  /-- The TAP controller, and the shift stage of its instruction register (R567). -/
  ctl   : TapCtl := .testLogicReset
  shift : Nat := 0
  /-- PASS as last written at Update-DR, and the retiming bit (R571). -/
  passSet : Bool := false
  retimed : Bool := false
  /-- MODEL'S OWN. Rising edges of TAP_TCK so far: the free value of TST_TDI is applied to it. -/
  tcks  : Nat := 0
  /-- EXTEST took effect when it was selected (R575). -/
  drives : Bool := false
  /-- Boundary cells whose update value is 1, by their place from TAP_TDI (R574). -/
  cells : List Nat := []
  /-- The wash under way, and a start held during RST_CFG_N (R577). -/
  wash  : Option Wash := none
  held  : Bool := false
  deriving DecidableEq, Repr

/-- The four resets, true while asserted (R40, R503). -/
structure Resets where
  aon  : Bool := true
  cfg  : Bool := true
  link : Bool := true
  core : Bool := true
  deriving DecidableEq, Repr

/-- The straps as sampled (R17). -/
structure Straps where
  slotId  : Nat := 0
  feedTag : Nat := 0
  role    : Role := .compute
  /-- Inconsistent with the build (R20). -/
  err     : Bool := false
  deriving DecidableEq, Repr

/-- What the merge passes to the stream layer, in order (R276, R296). -/
inductive PortItem where
  /-- A PARCEL_HEAD, PARCEL_BODY or PASS flit (bytes 0 to 247) for an inbound context, with the strand it came on (0 for a looped
  stream). -/
  | flit (strand key : Nat) (body : List Byte)
  /-- A message: type and body. -/
  | message (type : Nat) (body : List Byte)
  /-- A flit whose contents were discarded as a protocol fault (R300), for an inbound context. -/
  | fault (key : Nat) (body : List Byte)
  deriving DecidableEq, Repr

structure State where
  build    : Build
  straps   : Straps := {}
  resets   : Resets := {}
  lclkLock : Bool := true
  lclkHold : Bool := false
  fcount   : BitVec 64 := 0
  phase    : Nat := 0
  regs     : List (Nat × Word) := []
  pdReq    : Nat := 0
  pdAck    : Nat := 2 ^ 23
  irqN     : Bool := true
  kiln     : Kiln := {}
  inj      : Inject := {}
  rings    : List Ring := List.replicate 64 {}
  accNext  : Nat := 0
  descs    : List Desc := []
  nextDesc : Nat := 0
  fences   : List FenceWait := []
  hmReads  : List (Nat × HmReadUse) := []
  hmWrites : List (Nat × HmWriteUse) := []
  /-- MEM requests outstanding: number, channel, use. -/
  memOps   : List (Nat × Nat × MemUse) := []
  /-- Those of them that a channel held in reset or off has not yet issued: number, channel, request (R505, R509). -/
  memHeld  : List (Nat × Nat × Out) := []
  nvOps    : List NvUse := []
  reqSeq   : Nat := 0
  stations : List Station := List.replicate 64 {}
  ports    : List Port := []
  tx       : List (Nat × TxStream) := []
  rx       : List (Nat × RxStream) := []
  /-- 16 fabric virtual channels: the packet being assembled (R34). -/
  ptIn     : List (Option (List Byte)) := List.replicate 16 none
  /-- Error beats that wait for PT_O, per channel: SOP and bytes (R34, R89, R499). -/
  ptErr    : List (List (Bool × List Byte)) := List.replicate 16 []
  arrivals : Nat := 0
  tables   : List (Nat × DispTable) := []
  /-- Unloaded tables, whose counters stay readable until the next load (R198). -/
  emptied  : List (Nat × DispTable) := []
  regions  : List (Nat × AccRegion) := []
  /-- SCALE_SAVEs whose image is not yet taken, or not yet written (R153). -/
  saves    : List ScaleSave := []
  shelves  : List Shelf := []
  bindings : List Binding := []
  /-- SHELF_OPENs that wait, in submission order (R208). -/
  shelfWaits : List Nat := []
  draws    : List Draw := []
  restores : List Restore := []
  fetches  : List Fetch := []
  sends    : List Send := []
  sag      : Sag := {}
  partner  : PartnerState := .unknown
  /-- What this keeper has accepted, by DRAW_ID, and by 64 + DRAW_ID of a looped draw (R223, R230, R169). -/
  keepers  : List (Nat × KeptDraw) := []
  /-- Key slots: the key of each, if loaded. -/
  keys     : List (Option (List Byte)) := []
  /-- Bytes read so far for descriptors that read a list, key or image, by descriptor. -/
  reads    : List (Nat × List Byte) := []
  /-- Descriptors that wait until the list of a DISPATCH_LOAD accepted before them has been read: table and descriptor, oldest first (R249,
  R262). -/
  tableWaits : List (Nat × Nat) := []
  /-- Descriptors that wait until an earlier VERSION_COMMIT of a stage has been applied: stage and descriptor, oldest first (R249, R262). -/
  commitWaits : List (Nat × Nat) := []
  /-- Counter queries that wait for the end of a parcel in progress: descriptor, and the context, inbound or not, and key (R257). -/
  queries  : List (Nat × Bool × Nat) := []
  /-- Inbound stream ids without a context on which a discarded parcel is in progress. -/
  ghosts   : List Nat := []
  /-- The peer's identity block, the negotiated record and NEG_DONE (R459, R466, R467). -/
  peerBlock : Option (List Byte) := none
  record   : Option (List Byte) := none
  negDone  : Bool := false
  /-- Management messages to send, each header and body, oldest first. -/
  mgmt     : List (List Byte) := []
  /-- What the merge has passed to the stream layer and is not yet acted on. -/
  port     : List PortItem := []
  /-- Link-control messages accepted and not yet acted on (R296): strand, type, body. -/
  linkMsgs : List (Nat × Nat × List Byte) := []
  /-- A CRED flit is due (R292). -/
  credDue  : Bool := false
  guard    : Guard := {}
  strands  : List Strand := []
  cones    : List Cone := List.replicate 26 {}
  /-- This instance's DIE_ID and its validity (R459). -/
  dieId    : Nat := 0
  dieIdOk  : Bool := false
  /-- The first word of the die id record, as read. -/
  idBuf    : Option Nat := none
  /-- The peer's EARLY_ID, as received (R456). -/
  early    : Option (List Byte) := none
  bisque   : Bisque := {}
  ready    : Option PeerReady := none
  /-- Groups whose PHY PLL has locked since their power-up (R510). -/
  phyReady : Nat := 0
  exch     : Exchange := {}
  presence : Presence := {}
  /-- TRUSTED and OFF_VALID (R399, R400); the peer's latest TIME showed TRUSTED, and δ was 0. -/
  trusted  : Bool := false
  offValid : Bool := false
  peerTime : Option (Bool × Bool) := none
  cal      : Option CalRun := none
  calReqs  : List CalReq := []
  /-- The check after a BIST slice, which ends as a calibration does (R537). -/
  sliceRun : Option CalRun := none
  bist     : Bist := {}
  pulse    : Pulse := {}
  power    : Power := {}
  disc     : Disc := {}
  test     : Test := {}
  /-- The shadow of each register pair, by the offset of its low word (R596). -/
  shadows  : List (Nat × Nat) := []
  out      : List Out := []
  raised   : List Raised := []
  /-- Events raised after a code in the step (event, unit, code, data): they are posted once the codes are logged. -/
  events   : List (Nat × Nat × Nat × List Byte) := []
  pending  : List Instr := []
  deriving DecidableEq, Repr

def State.role (s : State) : Role := s.straps.role

/-- Reasons to stop that are not an effect of the block. -/
inductive Fault where
  /-- Raised by a command that names a strand, port, channel, pair or other unit that the build lacks (R21, R29), or a CFG offset that the
  14 word-address lines of the CFG bus cannot carry (R37): no such event of this block exists. Safe: a real block never takes it. -/
  | absentUnit
  deriving DecidableEq, Repr

/-- Commands without a meaning. -/
inductive Refusal where
  /-- Raised by the dispatch for a command of the opcode table that has no meaning yet. Safe: the model stops. -/
  | notModelled (mnemonic : String)
  deriving DecidableEq, Repr

/-- The state of a build while RST_AON_N is asserted (R40, R505). -/
def State.resetOf (b : Build) : State where
  build := b
  ports := List.replicate b.ports {}
  shelves := List.replicate b.shelves {}
  keys := List.replicate b.keySlots none
  strands := List.replicate b.strands {}

/-- The instance of a build: there is none outside the legal sets (R21). -/
def State.ofBuild (b : Build) : Option State := if b.legal then some (State.resetOf b) else none

/-- The machine right after reset: the reference build, all resets asserted. -/
def State.reset : State := State.resetOf referenceBuild

end Sys2Proof.Machine
end

