-- ==== Sys2Proof/Machine/Flags.lean ====
section
/-! DEFINITION. The register file: the places, access bits and reset values of R607, and the operations on stored words (R7, R592,
R594, R595). Status bits, sticky bits and counters are bits of these words. -/

namespace Sys2Proof.Machine

/-- The power domain that holds a register (R592). -/
inductive RegDomain where
  | aon | cfg | tst
  | group (g : Nat)
  deriving DecidableEq, Repr

/-- The reset that returns a register to its reset value (R592). -/
inductive RegClear where
  | aon | cfg | link
  deriving DecidableEq, Repr

/-- Access bits and reset value of one register (R607). -/
structure RegRow where
  rw    : Nat
  w1c   : Nat
  reset : Nat
  deriving DecidableEq, Repr

/-- A cone that the instance has (R526): cones of groups at or above G are absent. -/
def coneExists (b : Build) (i : Nat) : Bool :=
  i < 4 || (4 ≤ i && i < 4 + ceilDiv b.strands 16) || (20 ≤ i && i < 26)

/-- An instance of more than 32 strands is large. -/
def isLarge (b : Build) : Bool := b.strands > 32

/-- LIM and ALM of a cone at reset (R562): LO, HI and the two enables. -/
def coneReset (b : Build) (i : Nat) : Nat × Nat × Nat :=
  if i < 20 then (0xFD80, 0x06E0, 2)
  else if i = 21 then (if b.pers = .V then (0x035C, 0x03AC, 3) else (0x0424, 0x0474, 3))
  else if i = 22 then (0x0591, 0x0627, 3) else (0, 0xFFFF, 0)

/-- DIE_KIND at reset by PKG_ROLE (R488, R607). -/
def dieKindReset : Role → Nat
  | .compute => 1
  | .base => 2
  | .hub => 3
  | .third => 0x40

/-- Global, clock and latency registers. -/
def regsLat : List (Nat × Nat × Nat × Nat) :=
  [(0x0100, 0x3, 0, 0), (0x0108, 0xFFFFFFFF, 0, 0), (0x010C, 0, 0xC0000000, 0),
   (0x0208, 0, 0, 0), (0x020C, 0, 0, 0), (0x0210, 0, 0, 0), (0x0214, 0, 0, 0),
   (0x0304, 0x3F, 0, 0x14), (0x0308, 0x7F01, 0, 0x200), (0x030C, 0, 0, 0), (0x0310, 0, 0x7F, 0), (0x0314, 0, 0, 0),
   (0x0318, 0, 0, 0), (0x031C, 0, 0, 0), (0x0320, 0, 0, 0)]

/-- Calibration and wedging registers. -/
def regsCal : List (Nat × Nat × Nat × Nat) :=
  [(0x2004, 0xFFFF, 0, 0), (0x200C, 0, 0, 0), (0x2010, 0, 0, 0), (0x2014, 0, 0, 0), (0x2018, 0, 0, 0), (0x201C, 0, 0x3F, 0),
   (0x2020, 0xFF, 0, 0), (0x2080, 0xF, 0, 2), (0x2088, 0, 0xFF, 0), (0x208C, 0, 0, 0), (0x2090, 0, 0, 0), (0x2094, 0, 0, 0),
   (0x2098, 0xFFFFFFFF, 0, 0), (0x209C, 0xFFFFFFFF, 0, 0), (0x20A0, 0xFFFFFFFF, 0, 0)]

/-- PHY, repair, cone and self-test registers. -/
def regsPhy : List (Nat × Nat × Nat × Nat) :=
  [(0x27C8, 0, 0x7F, 0), (0x27CC, 0xF, 0, 4),
   (0x2800, 0xFFF03, 0, 0xA0803), (0x2808, 0, 0x7FF, 0), (0x280C, 0, 0, 0), (0x2810, 0x1FF, 0, 0),
   (0x3200, 0xFFFF00, 0, 0xA1000),
   (0x3400, 0x7FFF01, 0, 0x81001), (0x3408, 0, 0x1F, 0), (0x340C, 0, 0, 0), (0x3410, 0, 0, 0), (0x3414, 0, 0, 0),
   (0x3418, 0, 0, 0), (0x341C, 0, 0x80000000, 0)]

/-- Log and injection registers. -/
def regsLog : List (Nat × Nat × Nat × Nat) :=
  [(0x3800, 0xF, 0, 0xE), (0x3804, 0, 0x07FF001F, 0), (0x3808, 0x8, 0, 0), (0x3810, 0x3F, 0, 0),
   (0x3C04, 0xFFFF01FF, 0, 0x10000), (0x3C08, 0xFFFFFFFF, 0, 0), (0x3C0C, 0xFFFFFFFF, 0, 0), (0x3C14, 0, 1, 0)]

/-- Numeric, dispatch and shelf registers. -/
def regsNum : List (Nat × Nat × Nat × Nat) :=
  [(0x4800, 0x7, 0, 0), (0x4808, 0, 0x3F, 0), (0x480C, 0, 0x80000000, 0), (0x4810, 0xFFFFF000, 0, 0),
   (0x4814, 0xFFFFFFFF, 0, 0), (0x4818, 0xFFFF, 0, 0), (0x481C, 0, 0x80000000, 0), (0x4828, 0, 0, 0), (0x482C, 0, 0, 0),
   (0x5004, 0, 0x7F, 0), (0x5008, 0xFFFF, 0, 0),
   (0x5800, 0xFF07, 0, 2), (0x5808, 0, 0xFF, 0), (0x580C, 0xFF, 0, 0)]

/-- Power, partner and heat registers. -/
def regsPwr : List (Nat × Nat × Nat × Nat) :=
  [(0x6000, 0x7FFFFF, 0, 0), (0x600C, 0xFFFF, 0, 0), (0x6010, 1, 0, 0), (0x6014, 0, 0, 0), (0x6018, 0, 0xF, 0),
   (0x6020, 0xFFFF, 0, 0x64), (0x6024, 0, 0, 0), (0x6028, 0, 0xF, 0), (0x602C, 0, 0, 0), (0x6030, 0x7, 0, 6), (0x6034, 0, 0, 0),
   (0x6038, 0xFFFFFFFF, 0, 0x05A00550), (0x603C, 0xFFFFFFFF, 0, 0x064005F0), (0x6040, 0x7FF, 0, 0x720), (0x6044, 0, 0, 0),
   (0x6048, 0, 7, 0), (0x604C, 0, 0, 0)]

/-- Discovery registers. -/
def regsDisc : List (Nat × Nat × Nat × Nat) :=
  [(0x6408, 0, 0x1FF, 0), (0x640C, 0x800007FF, 0, 0), (0x6410, 0, 0, 0), (0x6414, 0x3FFF, 0, 0)]

/-- Wash and test registers. -/
def regsWash : List (Nat × Nat × Nat × Nat) :=
  [(0x7004, 0, 0, 0), (0x7008, 0, 0, 0), (0x700C, 0, 0x80000000, 0), (0x7014, 0, 0xF, 0)]

/-- The single registers: offset, RW bits, RW1C bits, reset value (R607 and the tables it names). -/
def regTable : List (Nat × Nat × Nat × Nat) :=
  [regsLat, regsCal, regsPhy, regsLog, regsNum, regsPwr, regsDisc, regsWash].flatten

/-- The registers of the Saggar (R489). -/
def sagTable : List (Nat × Nat × Nat × Nat) :=
  [(0x4000, 0x800007FF, 0, 0x42), (0x4004, 0xFFFF000F, 0, 0xC), (0x4008, 0x3FF7F, 0, 0x20040), (0x4010, 0, 0x3F, 0),
   (0x4014, 0, 0, 0), (0x4020, 0x8FFF0FFF, 0, 0), (0x4024, 0x8FFF0FFF, 0, 0), (0x4028, 0x8FFF0FFF, 0, 0),
   (0x402C, 0x8FFF0FFF, 0, 0), (0x4030, 0xFFFFFF, 0, 0), (0x4034, 0xFFFFFF, 0, 0), (0x4038, 0xFFFFFF, 0, 0),
   (0x403C, 0xFFFFFF, 0, 0), (0x4040, 0xFF, 0, 0x40)]

/-- The row of a table. -/
def tableRow (t : List (Nat × Nat × Nat × Nat)) (off : Nat) : Option RegRow :=
  (t.find? (fun r => r.1 == off)).map (fun r => ⟨r.2.1, r.2.2.1, r.2.2.2⟩)

/-- The stored register at an offset; none where no stored register lies (its reads are computed, or read 0). -/
def regRow (b : Build) (role : Role) (off : Nat) : Option RegRow :=
  if 0x0400 ≤ off ∧ off < 0x0C00 then
    let r := (off - 0x400) / 32
    let k := (off - 0x400) % 32
    if k = 0 then some ⟨if r = 0 then 0 else 0xFFFFF00F, 0, 0⟩
    else if k = 4 then some ⟨if r = 0 then 0 else 0xFFFFFFFF, 0, 0⟩
    else if k = 8 then some ⟨0xFFFFF00F, 0, 0⟩
    else if k = 12 ∨ k = 20 then some ⟨0xFFFFFFFF, 0, 0⟩
    else if k = 16 then some ⟨0xFFFFFFE0, 0, 0⟩
    else if k = 24 then some ⟨0xFFFFFFF3, 0, 0x1A0⟩ else none
  else if 0x3000 ≤ off ∧ off < 0x31A0 then
    let i := (off - 0x3000) / 16
    let c := coneReset b i
    if !coneExists b i then none
    else if off % 16 = 8 then some ⟨0xFFFFFFFF, 0, c.1 + c.2.1 <<< 16⟩
    else if off % 16 = 12 then some ⟨3, 0x70, c.2.2⟩ else none
  else if off = 0x2000 then some ⟨0xFF03FF, 0, if isLarge b then 0x140348 else 0x140248⟩
  else if off = 0x27C0 then some ⟨if b.pers = .V then 0xE else 0xF, 0, 8⟩
  else if off = 0x6400 then some ⟨0xFFFF01FF, 0, dieKindReset role⟩
  else if 0x641C ≤ off ∧ off < 0x642C then (if off % 4 = 0 then some ⟨0, 0, 0⟩ else none)
  else if 0x6430 ≤ off ∧ off < 0x6450 then (if off % 4 = 0 then some ⟨0xFFFFFFFF, 0, 0⟩ else none)
  else if 0x4000 ≤ off ∧ off < 0x4800 then
    if !b.saggar then none
    else if 0x4100 ≤ off ∧ off < 0x4200 then
      (if off % 16 = 0 then some ⟨0xFFFFF007, 0, 0⟩ else if off % 16 = 8 then some ⟨0xFFFFF000, 0, 0⟩
       else if off % 4 = 0 then some ⟨0xFFFFFFFF, 0, 0⟩ else none)
    else tableRow sagTable off
  else tableRow regTable off

/-- The word a stored register holds after its reset; 0 where none is stored. -/
def regReset (b : Build) (role : Role) (off : Nat) : Word :=
  BitVec.ofNat 32 ((regRow b role off).map (·.reset) |>.getD 0)

/-- The power domain that holds an offset (R592). -/
def regDomain (off : Nat) : RegDomain :=
  if off < 0x100 then .aon
  else if off = 0x104 ∨ off = 0x10C then .aon
  else if off < 0x200 then .cfg
  else if off < 0x300 then .aon
  else if 0x1000 ≤ off ∧ off < 0x2000 then .group ((off - 0x1000) / 256)
  else if 0x3000 ≤ off ∧ off < 0x3400 then .aon
  else if 0x3400 ≤ off ∧ off < 0x3800 then .tst
  else if off = 0x3804 ∨ off = 0x3808 then .aon
  else if 0x3C00 ≤ off ∧ off < 0x4000 then .tst
  else if 0x6000 ≤ off ∧ off < 0x6400 then .aon
  else if 0x7000 ≤ off then .aon
  else .cfg

/-- The reset that clears an offset (R592). -/
def regClear (off : Nat) : RegClear :=
  match regDomain off with
  | .aon => .aon
  | .cfg => .cfg
  | .tst => .cfg
  | .group _ => .link

/-! ## Stored words -/

/-- The word stored at an offset. -/
def State.reg (s : State) (off : Nat) : Word :=
  (lookupKey off s.regs).getD (regReset s.build s.role off)

/-- The same as a number. -/
def State.regN (s : State) (off : Nat) : Nat := (s.reg off).toNat

/-- A field of a register. -/
def State.fld (s : State) (off hi lo : Nat) : Nat := bits (s.regN off) hi lo

/-- One bit of a register. -/
def State.flag (s : State) (off i : Nat) : Bool := (s.reg off).getLsbD i

/-- A register file in canonical form: rising offsets, and no register at its reset value. One that is in that form stays as it is. -/
def canonRegs (b : Build) (r : Role) (l : List (Nat × Word)) : List (Nat × Word) :=
  (l.filter (fun p => p.2 != regReset b r p.1)).foldr (fun p acc => insertKey p.1 p.2 acc) []

/-- Stores a word; the file keeps rising offsets and lists no register that holds its reset value. -/
def State.setReg (s : State) (off : Nat) (w : Word) : State :=
  { s with regs := if w = regReset s.build s.role off then eraseKey off s.regs else insertKey off w s.regs }

/-- Writes a field. -/
def State.setFld (s : State) (off hi lo x : Nat) : State :=
  s.setReg off (BitVec.ofNat 32 (setBits (s.regN off) hi lo x))

/-- Writes one bit. -/
def State.setFlag (s : State) (off i : Nat) (b : Bool) : State := s.setFld off i i (b2n b)

/-- Sets a sticky bit (R7). -/
def State.sticky (s : State) (off i : Nat) : State := s.setFlag off i true

/-- Raises a saturating counter held in [hi:lo] (R12). -/
def State.bumpSat (s : State) (off hi lo n : Nat) : State :=
  s.setFld off hi lo (satAdd (hi - lo + 1) (s.fld off hi lo) n)

/-- Raises a wrapping counter held in [hi:lo] (R12). -/
def State.bumpWrap (s : State) (off hi lo n : Nat) : State :=
  s.setFld off hi lo (wrapAdd (hi - lo + 1) (s.fld off hi lo) n)

/-- Returns the registers that a reset clears to their reset values (R592). -/
def State.clearRegs (s : State) (c : RegClear) : State :=
  { s with regs := s.regs.filter (fun p => regClear p.1 != c) }

/-- The word that a write of `data` leaves under R7: RW bits take the data, RW1C bits written 1 clear, all others stay. -/
def writtenWord (row : RegRow) (old data : Nat) : Nat :=
  (old &&& (0xFFFFFFFF - row.rw - row.w1c)) + (data &&& row.rw) + (old &&& (row.w1c - (row.w1c &&& data)))

/-- Writes whose value the register's own rule alters: fields that a write of some values leaves, or stores otherwise. -/
def writeRule (off old data : Nat) : Nat :=
  if 0x0400 ≤ off ∧ off < 0x0C00 ∧ (off - 0x400) % 32 = 24 then
    -- POLL_MAX 11 to 15 stores 10; MOD_COUNT 0 stores 1 (R244)
    let d := if bits data 7 4 > 10 then setBits data 7 4 10 else data
    if bits d 15 8 = 0 then setBits d 15 8 1 else d
  else if off = 0x0304 then
    (if 5 ≤ bits data 5 1 ∧ bits data 5 1 ≤ 20 then data else setBits data 5 1 (bits old 5 1))
  else if off = 0x0308 then (if bits data 14 8 > 50 then setBits data 14 8 50 else data)
  else if off = 0x2000 then
    let d := if bits data 4 0 = 0 then setBits data 4 0 1 else data
    let d := if bits d 6 5 = 3 then setBits d 6 5 (bits old 6 5) else d
    let d := if bits d 8 7 = 3 then setBits d 8 7 (bits old 8 7) else d
    if bits d 23 16 = 0 then setBits d 23 16 20 else d
  else if off = 0x27CC then (if bits data 3 0 = 0 then setBits data 3 0 1 else data)
  else if off = 0x2800 then (if bits data 15 8 = 0 then setBits data 15 8 1 else data)
  else if off = 0x3400 then
    let d := if bits data 15 8 = 0 then setBits data 15 8 1 else data
    if bits d 22 16 = 0 then setBits d 22 16 8 else if bits d 22 16 > 64 then setBits d 22 16 64 else d
  else if off = 0x3C04 then (if bits data 31 16 = 0 then setBits data 31 16 1 else data)
  else if off = 0x4000 then (if bit old 31 then setBits data 31 31 1 else data)
  else if off = 0x4040 then (if bits data 7 0 = 0 then setBits data 7 0 1 else data)
  else if off = 0x5800 then (if bits data 2 0 > 4 then setBits data 2 0 (bits old 2 0) else data)
  else if off = 0x6020 then (if bits data 15 0 = 0 then setBits data 15 0 1 else data)
  else if off = 0x6030 then (if bits data 1 0 = 3 then setBits data 1 0 (bits old 1 0) else data)
  else if off = 0x6040 then
    (if bits data 10 8 = 5 ∨ bits data 10 8 = 6 then setBits data 10 8 (bits old 10 8) else data)
  else data

/-- A write of `data` to a stored register, without any behaviour beyond R7. -/
def State.plainWrite (s : State) (off : Nat) (data : Word) : State :=
  match regRow s.build s.role off with
  | none => s
  | some row =>
    let old := s.regN off
    s.setReg off (BitVec.ofNat 32 (writtenWord row old (writeRule off old data.toNat)))

/-! ## Resets and power (R24, R37, R503, R505) -/

/-- The AON domain is in reset. -/
def State.aonHeld (s : State) : Bool := s.resets.aon

/-- The CFG domain is in reset, by its own reset or the one that encloses it (R503). -/
def State.cfgHeld (s : State) : Bool := s.resets.aon || s.resets.cfg

/-- The link layer is in reset: RST_LINK_N, an enclosing reset, or LCLK out of lock (R503, R606). -/
def State.linkHeld (s : State) : Bool := s.cfgHeld || s.resets.link || s.lclkHold

/-- The station ports and slices are in reset. -/
def State.coreHeld (s : State) : Bool := s.cfgHeld || s.resets.core

/-- A power domain is on: its PD_ACK is 1 (R26). -/
def State.domainOn (s : State) (d : Nat) : Bool := !s.resets.aon && s.pdAck.testBit d && s.pdReq.testBit d

/-- VALID (R527): V_PHY is not while SG0 is off, nor is a cone under its reference check. DEDUCED: nor one without a reading yet. -/
def State.coneValid (s : State) (i : Nat) : Bool :=
  let c := s.cones.getD i {}
  c.taken && !c.check && !(i == 21 && !s.domainOn 0)

/-- The CFG domain is up (CL_STATUS.CFG_UP, R599). -/
def State.cfgUp (s : State) : Bool := !s.cfgHeld && s.domainOn 21

/-- An access to an offset reaches its register (R37, R505). -/
def State.regReachable (s : State) (off : Nat) : Bool :=
  match regDomain off with
  | .aon => !s.resets.aon
  | .cfg => s.cfgUp
  | .tst => !s.cfgHeld && s.domainOn 22
  | .group g => (off % 16 < 8 || !s.linkHeld) && s.domainOn g

end Sys2Proof.Machine
end

