-- ==== Sys2Proof/Machine/Rings.lean ====
section
/-! DEFINITION. Ring pairs: completions, events, interrupt messages, doorbells, fetches and the acceptance order (R240 to R262). -/

namespace Sys2Proof.Machine

/-! ## Shared small operations -/

/-- The firing count (R307). -/
def State.now (s : State) : Nat := s.fcount.toNat

/-- The LCLK index: 5 × the firing count plus the phase (R273). -/
def State.lclk (s : State) : Nat := 5 * s.now + s.phase

/-- Adds an output of the step. -/
def State.emit (s : State) (o : Out) : State := { s with out := s.out ++ [o] }

/-- Raises a kiln log code; the step's end logs it (R547). -/
def State.raise (s : State) (code unit : Nat) (data : Nat := 0) (inj : Bool := false) : State :=
  { s with raised := s.raised ++ [{ code := code, unit := unit, data := data, injected := inj }] }

/-- A serial number for a request that leaves the block; the model's name for its tag. -/
def State.newReq (s : State) : State := { s with reqSeq := s.reqSeq + 1 }

/-- The armed injection point fires for its unit (R559): whether it fired, and the state with the firing counted. -/
def State.fire (s : State) (point unit : Nat) : Bool × State :=
  if s.inj.armed && s.inj.point == point && s.inj.unit == unit then
    let left := s.inj.remain - 1
    let s1 := { s with inj := { s.inj with remain := left, fired := satAdd 8 s.inj.fired 1, armed := left != 0 } }
    (true, if left = 0 then s1.setFlag 0x3C04 8 false else s1)
  else (false, s)

/-- The codes that `t` has raised since `s` are marked as injected (R559). -/
def State.marked (s : State) (inj : Bool) (t : State) : State :=
  let n := s.raised.length
  if inj then { t with raised := t.raised.take n ++ (t.raised.drop n).map (fun (r : Raised) => { r with injected := true }) } else t

/-! ## Ring registers (R244) -/

/-- CFG offset of a register of a pair. -/
def ringReg (pair k : Nat) : Nat := 0x400 + 32 * pair + k

/-- A pair's engine. -/
def State.ring (s : State) (pair : Nat) : Ring := s.rings.getD pair {}

/-- Changes a pair's engine. -/
def State.modRing (s : State) (pair : Nat) (f : Ring → Ring) : State := { s with rings := modAt f pair s.rings }

/-- CTL.ENABLE. -/
def State.ringOn (s : State) (pair : Nat) : Bool := s.flag (ringReg pair 0x18) 0

/-- Entries of the completion ring. -/
def State.cqSize (s : State) (pair : Nat) : Nat := 2 ^ s.fld (ringReg pair 8) 3 0

/-- Entries of the submission ring. -/
def State.sqSize (s : State) (pair : Nat) : Nat := 2 ^ s.fld (ringReg pair 0) 3 0

/-- Host address of a ring. -/
def State.ringBase (s : State) (lo : Nat) : Nat := s.fld lo 31 12 * 4096 + s.regN (lo + 4) * 2 ^ 32

/-- Host address of a doorbell block. -/
def State.doorbellAddr (s : State) (pair : Nat) : Nat :=
  s.fld (ringReg pair 0x10) 31 5 * 32 + s.regN (ringReg pair 0x14) * 2 ^ 32

/-- The count between a consumer and a producer index with their generations (R243); none if negative or above the size. -/
def ringCount (size pi ci : Nat) (sameGen : Bool) : Option Nat :=
  if sameGen then (if ci ≤ pi ∧ pi - ci ≤ size then some (pi - ci) else none)
  else if ci ≤ pi + size ∧ pi + size - ci ≤ size then some (pi + size - ci) else none

/-- Completion entries that the driver has not read, as of the latest doorbell read (R243). The generation of CQ_PI flips with
CQ_PHASE. -/
def State.unread (s : State) (pair : Nat) : Nat :=
  let r := s.ring pair
  (ringCount (s.cqSize pair) r.cqPi r.cqCi (r.cqCiGen == !r.cqPhase)).getD 0

/-- STATUS.ACTIVE (R244). -/
def State.ringActive (s : State) (pair : Nat) : Bool :=
  s.ringOn pair || s.descs.any (fun d => d.pair == pair) || !(s.ring pair).fetched.isEmpty

/-! ## Interrupt messages (R256) -/

/-- One interrupt message leaves; without a usable address none does. -/
def State.messageOut (s : State) (pair : Nat) : State :=
  let r := s.ring pair
  if r.msiAddr = 0 ∨ r.msiAddr % 4 ≠ 0 then s
  else
    { s.emit (.hmWrite s.reqSeq r.msiAddr (toLe 4 r.msiData)) with
      reqSeq := s.reqSeq + 1, hmWrites := s.hmWrites ++ [(s.reqSeq, .message pair)] }

/-- Sends each message that is due and whose entries have all been acknowledged. -/
def State.sendMessages (s : State) (pair : Nat) : State :=
  forEach ((s.ring pair).msgs.filter (·.isEmpty)) (fun _ s => s.messageOut pair)
    (s.modRing pair (fun r => { r with msgs := r.msgs.filter (fun m => !m.isEmpty) }))

/-- A message becomes due: it covers the unsignalled entries, and the count is reset. -/
def State.messageDue (s : State) (pair : Nat) : State :=
  (s.modRing pair (fun r => { r with msgs := r.msgs ++ [r.covers], covers := [], unsig := 0, oldest := none })).sendMessages pair

/-- Counts an entry written by HM request `request`, and makes a message due when MOD_COUNT is reached or IRQ_NOW applies. -/
def State.countEntry (s : State) (pair request : Nat) (irqNow : Bool) : State :=
  let ctl := ringReg pair 0x18
  if s.ringOn pair && s.flag ctl 1 then
    let s1 := s.modRing pair (fun r => { r with
      unsig := r.unsig + 1, oldest := some (r.oldest.getD s.now), covers := r.covers ++ [request] })
    if irqNow || (s1.ring pair).unsig ≥ s.fld ctl 15 8 then s1.messageDue pair else s1
  else s

/-! ## Entries (R251, R252) -/

/-- Writes one 32-byte entry at CQ_PI with the present phase, and advances CQ_PI. -/
def State.writeEntry (s : State) (pair : Nat) (bytes : List Byte) (use : HmWriteUse) (irqNow : Bool) : State :=
  let r := s.ring pair
  let addr := s.ringBase (ringReg pair 8) + 32 * r.cqPi
  let entry := patch (padTo 32 bytes) 3 (toLe 1 (b2n r.cqPhase))
  let wrap := r.cqPi + 1 = s.cqSize pair
  let s1 := { s.emit (.hmWrite s.reqSeq addr entry) with
    reqSeq := s.reqSeq + 1, hmWrites := s.hmWrites ++ [(s.reqSeq, use)] }
  (s1.modRing pair (fun r => { r with
    cqPi := if wrap then 0 else r.cqPi + 1, cqPhase := if wrap then !r.cqPhase else r.cqPhase,
    unacked := r.unacked ++ [s.reqSeq] })).countEntry pair s.reqSeq irqNow

/-- An accepted descriptor. -/
def State.desc? (s : State) (id : Nat) : Option Desc := s.descs.find? (fun d => d.id == id)

/-- OPCODE of a descriptor. -/
def Desc.opcode (d : Desc) : Nat := byteAt d.entry 0

/-- Completes a descriptor: the completion entry is written (R251). RESULT is bytes 0x08 to 0x1B. -/
def State.complete (s : State) (id status : Nat) (result : List Byte := []) (fieldOff : Nat := 0) (peer : Bool := false) :
    State :=
  match s.desc? id with
  | none => s
  | some d =>
    if d.written then s
    else
      let r := s.ring d.pair
      let entry := slice d.entry 2 2 ++ toLe 1 status ++ [0] ++ toLe 1 d.opcode ++ [0]
        ++ toLe 2 (r.sqCi + 4096 * b2n r.sqGen) ++ padTo 20 result ++ toLe 2 fieldOff ++ toLe 1 (b2n peer) ++ [0]
      let s1 := { s with descs := s.descs.map (fun (x : Desc) => if x.id = id then { x with written := true } else x) }
      s1.writeEntry d.pair entry (.completion d.pair id) (bit (byteAt d.entry 1) 0)

/-- Completes with BAD_FIELD, naming the byte offset (R251, R253). -/
def State.badField (s : State) (id off : Nat) : State := s.complete id 0x11 [] off

/-! ## Events (R254) -/

/-- The event ring has room: pair 0 is enabled and at most 2^SIZE − 2 entries are unread. -/
def State.eventRoom (s : State) : Bool := s.ringOn 0 && s.unread 0 + 1 < s.cqSize 0

/-- Writes an event entry. -/
def State.writeEvent (s : State) (event unit code : Nat) (data : List Byte) : State :=
  s.writeEntry 0 (toLe 2 event ++ [0, 0] ++ toLe 8 s.now ++ toLe 2 unit ++ toLe 2 code ++ data) .event false

/-- EVENTS_LOST, written first when room appears (R254). Pair 0 keeps the count in SQ_CI's place (R244). -/
def State.flushLost (s : State) : State :=
  let n := (s.ring 0).sqCi
  if n != 0 && s.eventRoom then
    (s.modRing 0 (fun r => { r with sqCi := 0 })).writeEvent 0x0031 0 0 (toLe 2 n)
  else s

/-- Counts a lost event. -/
def State.eventLost (s : State) : State := s.modRing 0 (fun r => { r with sqCi := satAdd 12 r.sqCi 1 })

/-- Posts an event, or counts it as lost (R254); while the set-up domain is down the ring engines hold nothing (R262). -/
def State.postNow (s : State) (event unit code : Nat) (data : List Byte) : State :=
  let s1 := s.flushLost
  if !s.cfgUp then s else if s1.eventRoom then s1.writeEvent event unit code data else s1.eventLost

/-- Raises an event: one raised after a code follows the KILN_RECORD event of that code. -/
def State.postEvent (s : State) (event unit code : Nat) (data : List Byte) : State :=
  if s.raised.isEmpty then s.postNow event unit code data else { s with events := s.events ++ [(event, unit, code, data)] }

/-- Posts the events that waited for their codes. -/
def State.flushEvents (s : State) : State :=
  forEach s.events (fun (e : Nat × Nat × Nat × List Byte) s => s.postNow e.1 e.2.1 e.2.2.1 e.2.2.2) { s with events := [] }

/-! ## Fetching (R246 to R248) -/

/-- Doorbell reads and submission fetches are held: STOP_FETCH (R600), or a key wash (R578). -/
def State.fetchHeld (s : State) : Bool := s.flag 0x100 0 || s.flag 0x7004 0 || !s.cfgUp

/-- Reads a pair's doorbell block, by a poll or after a notification, if the pair is enabled and no read of it is outstanding. -/
def State.readDoorbell (s : State) (pair : Nat) (poll : Bool := true) : State :=
  if s.ringOn pair && !(s.ring pair).reading && !s.fetchHeld then
    (s.modRing pair (fun r => { r with reading := true, poll := poll })).emit (.doorbellRead pair (s.doorbellAddr pair))
  else s

/-- Entries pending in a pair's submission ring, by its latest doorbell read. -/
def State.pendingEntries (s : State) (pair : Nat) : Nat :=
  let r := s.ring pair
  if pair = 0 then 0 else (ringCount (s.sqSize pair) r.sqPi r.sqCi (r.sqPiGen == r.sqGen)).getD 0

/-- Entries that a pair may still fetch under R248. -/
def State.fetchRoom (s : State) (pair : Nat) : Nat :=
  let held := s.descs.length + (s.rings.map (fun r => r.fetched.length + r.fetching)).foldl (· + ·) 0
  let mine := countWhere (fun d => d.pair == pair && !d.written) s.descs + (s.ring pair).fetched.length + s.unread pair
  min (4096 - held) (s.cqSize pair - mine)

/-- Requests the next submission entries of a pair, at most the 64 that one HM request can carry (R36, R247). -/
def State.tryFetch (s : State) (pair : Nat) : State :=
  let r := s.ring pair
  let n := min (min (s.pendingEntries pair) (s.fetchRoom pair)) (min 64 (s.sqSize pair - r.sqCi))
  if s.ringOn pair && !r.fault && r.fetching == 0 && !s.fetchHeld && n != 0 then
    (s.modRing pair (fun r => { r with fetching := n })).emit
      (.submissionFetch pair (s.ringBase (ringReg pair 0) + 64 * r.sqCi) n)
  else s

/-- Every pair that may fetch again does so. -/
def State.tryFetchAll (s : State) : State := forRange 64 (fun p s => s.tryFetch p) s

/-- A pair's FAULT (R243, R261): fetching stops, the code is recorded, and RING_FAULT is posted but for pair 0. -/
def State.ringFault (s : State) (pair code : Nat) (inj : Bool) : State :=
  let s1 := (s.modRing pair (fun r => { r with fault := true })).raise code pair 0 inj
  if pair = 0 then s1 else s1.postEvent 0x0030 pair code []

/-! ## Descriptors -/

/-- The pair a FENCE with BLOCK holds back (R259). -/
def State.blocked (s : State) (pair : Nat) : Bool := s.fences.any (fun f => f.block && f.pair == pair)

/-- The next entry of the acceptance engine (R249): one entry per pair per round, in ascending pair number. -/
def State.nextEntry (s : State) : Option (Nat × List Byte) :=
  let order := (List.range 64).map (fun i => (s.accNext + i) % 64)
  order.findSome? (fun p => if s.blocked p then none else (s.ring p).fetched.head?.map (fun e => (p, e)))

/-- FENCEs whose earlier descriptors are all acknowledged complete (R259). -/
def State.checkFences (s : State) : State :=
  forEach s.fences (fun f s =>
    if s.descs.any (fun d => d.id < f.desc && (f.all || d.pair == f.pair)) then s
    else { s with fences := s.fences.filter (fun g => g.desc != f.desc) }.complete f.desc 0) s

/-- The first byte, from `off`, with a bit outside the masks (R9). -/
def reservedByte : Nat → List Nat → List Byte → Option Nat
  | _, _, [] => none
  | off, ms, b :: bs =>
    if b.toNat &&& (255 - ms.headD 0) != 0 then some off else reservedByte (off + 1) (ms.drop 1) bs

/-- Allowed bits of the common header (R250). -/
def headerMask : List Nat := [255, 1, 255, 255, 0, 0, 0, 0]

/-- `n` fully used bytes of a mask. -/
def fullMask (n : Nat) : List Nat := List.replicate n 255

/-- The assigned opcodes (R257). -/
def opcodes : List Nat :=
  [0x00, 0x01, 0x10, 0x11, 0x12, 0x13, 0x14, 0x20, 0x21, 0x22, 0x23, 0x24, 0x25, 0x26, 0x27, 0x28, 0x29, 0x30, 0x40, 0x41,
   0x42, 0x43, 0x50, 0x60, 0x61]

/-- Opcodes that a washed instance still accepts (R580). -/
def washedOpcodes : List Nat := [0x00, 0x01, 0x50, 0x61]

/-- The oldest fetched entry of a pair becomes an accepted descriptor; the next round begins after the pair (R248, R249). -/
def State.takeEntry (s : State) (pair : Nat) (e : List Byte) : State :=
  { (s.modRing pair (fun r => { r with fetched := r.fetched.drop 1 })) with
    accNext := (pair + 1) % 64, nextDesc := s.nextDesc + 1, descs := s.descs ++ [⟨s.nextDesc, pair, e, false⟩] }

/-- Takes the next entry of the acceptance engine if `accepts` its opcode: it becomes an accepted descriptor with an in-flight slot,
its reserved bits are checked against `mask` (body bytes 0x08 on), and `run` makes its checks and begins it (R249, R9, R10). A washed
instance completes all but a few opcodes with FENCED (R580). -/
def State.accept (s : State) (accepts : Nat → Bool) (mask : List Nat) (run : Nat → List Byte → State → State) : State :=
  match s.nextEntry with
  | none => s
  | some (pair, e) =>
    if !accepts (byteAt e 0) then s
    else
      let id := s.nextDesc
      let s1 := s.takeEntry pair e
      if s.flag 0x7004 0 && byteAt e 0 != 0x61 then s1.complete id 0x60
      else if s.flag 0x7004 1 && opcodes.contains (byteAt e 0) && !washedOpcodes.contains (byteAt e 0) then s1.complete id 0x22
      else if !opcodes.contains (byteAt e 0) then s1.complete id 0x10
      else match reservedByte 0 (headerMask ++ mask) e with
        | some off => s1.badField id off
        | none => run id e s1

/-- An entry's HM write is acknowledged: it no longer delays a message. -/
def State.entryAcked (s : State) (pair request : Nat) : State :=
  let rest (l : List Nat) : List Nat := l.filter (· != request)
  (s.modRing pair (fun r => { r with
    unacked := rest r.unacked, covers := rest r.covers, msgs := r.msgs.map rest })).sendMessages pair

/-- The use of an outstanding HM write, and the state without it. -/
def State.takeWrite (s : State) (request : Nat) : Option HmWriteUse × State :=
  (lookupKey request s.hmWrites, { s with hmWrites := eraseKey request s.hmWrites })

/-- The use of an outstanding HM read, and the state without it. -/
def State.takeRead (s : State) (request : Nat) : Option HmReadUse × State :=
  (lookupKey request s.hmReads, { s with hmReads := eraseKey request s.hmReads })

/-- Issues an HM write with a use. -/
def State.hmWriteReq (s : State) (addr : Nat) (data : List Byte) (use : HmWriteUse) : State :=
  { s.emit (.hmWrite s.reqSeq addr data) with reqSeq := s.reqSeq + 1, hmWrites := s.hmWrites ++ [(s.reqSeq, use)] }

/-- Issues an HM read with a use. -/
def State.hmReadReq (s : State) (addr len : Nat) (use : HmReadUse) : State :=
  { s.emit (.hmRead s.reqSeq addr len) with reqSeq := s.reqSeq + 1, hmReads := s.hmReads ++ [(s.reqSeq, use)] }

/-- A MEM channel operates: out of RST_CORE_N, with its slice on (R505, R509). -/
def State.memUp (s : State) (channel : Nat) : Bool := !s.coreHeld && s.cfgUp && s.domainOn (16 + channel)

/-- The channel of a request that serves no stream: the lowest whose slice is on (DESIGN CHOICE). -/
def State.memChannel (s : State) : Nat := ((List.range 4).find? (fun k => s.domainOn (16 + k))).getD 0

/-- A MEM request with its use: it is issued on its channel at once, or when the channel operates again. -/
def State.memReq (s : State) (channel : Nat) (o : Out) (use : MemUse) : State :=
  let s1 := { s with reqSeq := s.reqSeq + 1, memOps := s.memOps ++ [(s.reqSeq, channel, use)] }
  if s.memUp channel then s1.emit o else { s1 with memHeld := s1.memHeld ++ [(s.reqSeq, channel, o)] }

/-- Requests whose channel operates again are issued, oldest first. -/
def State.memRelease (s : State) : State :=
  let (go, stay) := s.memHeld.partition (fun r => s.memUp r.2.1)
  forEach go (fun r s => s.emit r.2.2) { s with memHeld := stay }

/-- A MEM write on a channel (one per adapter slice) with a use. -/
def State.memWriteReq (s : State) (channel addr : Nat) (data : List Byte) (use : MemUse) : State :=
  s.memReq channel (.memWrite s.reqSeq channel addr data) use

/-- A MEM read on a channel with a use. -/
def State.memReadReq (s : State) (channel addr len : Nat) (use : MemUse) : State :=
  s.memReq channel (.memRead s.reqSeq channel addr len) use

/-- The list of a DISPATCH_LOAD of this table is being read. -/
def State.loading (s : State) (num : Nat) : Bool :=
  s.hmReads.any (fun r => match r.2 with
    | .dispatchLoad d => (s.desc? d).any (fun x => byteAt x.entry 8 == num)
    | _ => false)

/-- A descriptor that names a table waits until the lists of the loads of it accepted before have been read: it sees their results (R249,
R262). -/
def State.afterLoads (s : State) (num desc : Nat) (run : State → State) : State :=
  if s.loading num || s.tableWaits.any (fun w => w.1 == num) then { s with tableWaits := s.tableWaits ++ [(num, desc)] } else run s

/-- Cuts a write into HM requests of at most 4 KiB (R36); `use` names each by its offset. -/
def State.hmWrites4 (s : State) (addr : Nat) (data : List Byte) (use : Nat → HmWriteUse) : State :=
  ((pieces 4096 data).foldl (fun (acc : State × Nat) b => (acc.1.hmWriteReq (addr + acc.2) b (use acc.2), acc.2 + 4096)) (s, 0)).1

/-- The same for MEM requests; the answer counts them. -/
def State.memWrites (s : State) (ch addr : Nat) (data : List Byte) (use : Nat → MemUse) : State × Nat :=
  let ps := pieces 4096 data
  ((ps.foldl (fun (acc : State × Nat) b => (acc.1.memWriteReq ch (addr + acc.2) b (use acc.2), acc.2 + 4096)) (s, 0)).1, ps.length)

/-- Issues an NV write of one 64-bit word. -/
def State.nvWriteReq (s : State) (addr data : Nat) (use : NvUse) : State :=
  { s.emit (.nvWrite addr data) with nvOps := s.nvOps ++ [use] }

/-- Issues an NV read of one 64-bit word. -/
def State.nvReadReq (s : State) (addr : Nat) (use : NvUse) : State :=
  { s.emit (.nvRead addr) with nvOps := s.nvOps ++ [use] }

end Sys2Proof.Machine
end

