-- ==== Sys2Proof/Machine/KilnLog.lean ====
section
/-! DEFINITION. The kiln log's record keeping: codes, classes and units, records, nesting, replacement, windows and the summary
(R545 to R556). What an escalation does to its unit stands in Settle. -/

namespace Sys2Proof.Machine

/-- What a code's unit field names (R547). -/
inductive UnitKind where
  | strand | stream | channel | message | region | table | shelf | draw | pair | memory | domain | group | cone | inst
  deriving DecidableEq, Repr

/-- Codes of chapters 10 to 12. -/
def codesPhy : List (Nat × Nat × UnitKind) :=
  [(0x0101, 1, .strand), (0x0102, 1, .strand), (0x0103, 1, .strand), (0x0104, 1, .strand), (0x0105, 0, .strand),
   (0x0110, 1, .strand), (0x0111, 1, .strand), (0x0112, 0, .inst), (0x0113, 2, .inst), (0x0114, 2, .inst),
   (0x0115, 1, .strand), (0x0116, 0, .inst),
   (0x0120, 0, .strand), (0x0121, 0, .strand), (0x0122, 1, .strand), (0x0123, 1, .strand), (0x0124, 1, .strand),
   (0x0125, 1, .strand), (0x0126, 0, .strand), (0x0127, 0, .strand), (0x0128, 2, .strand), (0x0129, 1, .strand),
   (0x012A, 0, .strand), (0x012B, 3, .inst)]

/-- Codes of chapters 8 and 9. -/
def codesLink : List (Nat × Nat × UnitKind) :=
  [(0x0201, 0, .strand), (0x0202, 1, .strand), (0x0203, 2, .strand), (0x0204, 2, .strand), (0x0205, 2, .stream),
   (0x0206, 0, .strand), (0x0207, 0, .message), (0x0208, 3, .inst), (0x0209, 2, .channel),
   (0x0302, 1, .inst), (0x0303, 1, .inst), (0x0304, 1, .stream), (0x0305, 1, .stream), (0x0306, 1, .strand),
   (0x0307, 1, .inst), (0x0308, 1, .strand)]

/-- Codes of chapters 2 to 5. -/
def codesStream : List (Nat × Nat × UnitKind) :=
  [(0x0401, 2, .stream), (0x0402, 2, .stream), (0x0403, 2, .stream), (0x0404, 1, .stream), (0x0405, 2, .stream),
   (0x0406, 2, .stream), (0x0407, 2, .channel), (0x0410, 2, .stream), (0x0411, 2, .stream), (0x0420, 1, .stream),
   (0x0421, 1, .stream), (0x0422, 1, .stream), (0x0424, 2, .region), (0x0425, 2, .region),
   (0x0501, 2, .stream), (0x0502, 1, .table), (0x0503, 2, .stream), (0x0504, 1, .table)]

/-- Codes of chapters 6 and 7. -/
def codesShelf : List (Nat × Nat × UnitKind) :=
  [(0x0601, 2, .stream), (0x0602, 1, .stream), (0x0603, 2, .stream), (0x0604, 2, .stream), (0x0605, 1, .shelf),
   (0x0606, 2, .stream), (0x0607, 2, .draw), (0x0608, 2, .draw), (0x0609, 1, .stream), (0x060B, 2, .stream),
   (0x0701, 2, .pair), (0x0702, 2, .pair), (0x0703, 2, .pair), (0x0704, 1, .pair), (0x0705, 2, .pair)]

/-- Codes of chapters 13 and 14. -/
def codesPower : List (Nat × Nat × UnitKind) :=
  [(0x0801, 2, .inst), (0x0802, 2, .inst), (0x0803, 0, .inst), (0x0804, 0, .stream), (0x0805, 2, .inst),
   (0x0806, 0, .inst), (0x0807, 0, .inst), (0x0810, 2, .stream), (0x0811, 2, .stream), (0x0812, 2, .channel),
   (0x0813, 2, .stream), (0x0814, 2, .stream), (0x0815, 2, .inst),
   (0x0901, 0, .inst), (0x0902, 0, .inst), (0x0903, 2, .inst), (0x0904, 2, .inst), (0x0905, 0, .inst), (0x0906, 2, .domain),
   (0x0907, 1, .inst), (0x0908, 1, .inst), (0x0909, 0, .group), (0x0910, 1, .inst), (0x0911, 0, .inst), (0x0912, 0, .inst)]

/-- Codes of chapters 11, 15 and 16. -/
def codesTest : List (Nat × Nat × UnitKind) :=
  [(0x0A01, 1, .strand), (0x0A02, 1, .strand), (0x0A03, 1, .strand), (0x0A04, 0, .strand), (0x0A05, 0, .strand),
   (0x0A06, 2, .strand), (0x0A10, 1, .cone), (0x0A11, 1, .cone), (0x0A12, 1, .cone), (0x0A20, 1, .strand),
   (0x0A21, 0, .strand), (0x0A22, 0, .strand), (0x0A30, 3, .inst), (0x0A40, 0, .inst), (0x0A41, 2, .memory),
   (0x0A42, 0, .inst), (0x0B01, 0, .memory), (0x0B02, 2, .memory), (0x0B03, 2, .memory)]

/-- The codes of every chapter with class (0 C, 1 D, 2 U, 3 F) and unit kind. -/
def codeTable : List (Nat × Nat × UnitKind) :=
  [codesPhy, codesLink, codesStream, codesShelf, codesPower, codesTest].flatten

/-- Class of a code. -/
def codeClass (c : Nat) : Nat := ((codeTable.find? (fun p => p.1 == c)).map (·.2.1)).getD 0

/-- Unit kind of a code. -/
def codeKind (c : Nat) : UnitKind := ((codeTable.find? (fun p => p.1 == c)).map (·.2.2)).getD .inst

/-- The codes that record the outcome of a handling, never OPEN (R549). -/
def outcomeCodes : List Nat :=
  [0x0122, 0x0123, 0x0125, 0x0129, 0x012B, 0x0302, 0x0304, 0x0305, 0x0306, 0x0307, 0x0308, 0x0420, 0x0421, 0x0502, 0x0504,
   0x0602, 0x0605, 0x0609, 0x0907, 0x0908, 0x0910, 0x0A01, 0x0A02, 0x0A03, 0x0A10, 0x0A11, 0x0A21, 0x0A22, 0x0A30]

/-- The record is of this unit (R547). -/
def KilnRecord.ofUnit (r : KilnRecord) (kind : UnitKind) (unit : Nat) : Bool := codeKind r.code == kind && r.unit == unit

/-- Age order (R548): lower FIRST, then created earlier. -/
def olderRec (a b : Nat × KilnRecord) : Bool :=
  a.2.first < b.2.first || (a.2.first == b.2.first && (b.2.seq + 65536 - a.2.seq) % 65536 < 32768 && a.2.seq != b.2.seq)

/-- The oldest of some records. -/
def oldestRec (l : List (Nat × KilnRecord)) : Option (Nat × KilnRecord) :=
  l.foldl (fun acc r => match acc with
    | none => some r
    | some o => if olderRec r o then some r else some o) none

/-- Removes a record; every LINK that names it becomes 0xFF (R548, R555). -/
def Kiln.free (k : Kiln) (i : Nat) : Kiln :=
  { k with records := (eraseKey i k.records).map (fun p =>
      if p.2.link = i then (p.1, { p.2 with link := 0xFF }) else p) }

/-- The index for a new record: the lowest free one, or that of the record it replaces (R547, R548). `parent` is never replaced. -/
def Kiln.slotFor (k : Kiln) (fatal : Bool) (parent : Option Nat) : Option Nat :=
  match (List.range 64).find? (fun i => (lookupKey i k.records).isNone) with
  | some i => some i
  | none =>
    let rs := k.records.filter (fun p => some p.1 != parent)
    let groups := [rs.filter (fun p => codeClass p.2.code == 0 && !p.2.isOpen),
      rs.filter (fun p => codeClass p.2.code == 1 && !p.2.isOpen), rs.filter (fun p => codeClass p.2.code ≤ 1),
      if fatal then rs.filter (fun p => codeClass p.2.code == 2) else []]
    (groups.findSome? oldestRec).map (·.1)

/-- CLASS byte of a record (R545). -/
def KilnRecord.classByte (r : KilnRecord) : Nat :=
  codeClass r.code + 4 * b2n r.nested + 8 * b2n r.injected + 16 * b2n r.isOpen + 32 * b2n r.escalated + 128

/-- The 32 bytes of a record (R545). -/
def KilnRecord.bytes (r : KilnRecord) : List Byte :=
  toLe 2 r.code ++ toLe 1 r.classByte ++ toLe 1 r.link ++ toLe 2 r.unit ++ toLe 2 r.count ++ toLe 8 r.first
    ++ toLe 8 r.last ++ toLe 4 r.data ++ toLe 2 r.seq ++ toLe 2 0

/-- CL_LOG_STATUS (R564). -/
def Kiln.statusWord (k : Kiln) : Nat :=
  k.records.length + 128 * b2n k.instF + 256 * k.escalations + 65536 * k.lost

/-- CRC-32C (R270): reflected polynomial 0x82F6_3B78, initial value and final XOR all ones. -/
def crc32c (bs : List Byte) : Nat := (crcBytes 0x82F63B78 0xFFFFFFFF bs) ^^^ 0xFFFFFFFF

/-- Records in the order of the log summary image: class F, U, then D, newest first within each, up to 16 (R556). -/
def Kiln.summaryRecords (k : Kiln) : List KilnRecord :=
  let newest (c : Nat) := (sortBy (fun a b => !olderRec a b) (k.records.filter (fun p => codeClass p.2.code == c))).map (·.2)
  (newest 3 ++ newest 2 ++ newest 1).take 16

/-- The log summary image (R556). -/
def State.logImage (s : State) (gen : Nat) : List Byte :=
  let recs := s.kiln.summaryRecords
  let body := (recs.map KilnRecord.bytes).flatten
  let head := toLe 4 0x474C4C43 ++ toLe 1 3 ++ toLe 1 recs.length ++ toLe 2 0 ++ toLe 4 gen ++ toLe 8 s.now
    ++ toLe 4 (s.regN 0x3804) ++ toLe 4 s.kiln.statusWord
  head ++ toLe 4 (crc32c (head ++ body)) ++ body

/-- A log summary image is being written. -/
def State.logWriting (s : State) : Bool := s.nvOps.any (fun u => match u with
  | .logWrite _ => true
  | _ => false)

/-- Writes bytes to NVM in ascending 64-bit words; `use` is told which write is the last (R419). -/
def State.nvWriteBytes (s : State) (addr : Nat) (bs : List Byte) (use : Bool → NvUse) : State :=
  let ws := pieces 8 bs
  (ws.foldl (fun (acc : State × Nat) w =>
    (acc.1.nvWriteReq (addr + 8 * acc.2) (leNat w) (use (acc.2 + 1 == ws.length)), acc.2 + 1)) (s, 0)).1

/-- Writes the log summary image to the copy that does not hold the newest valid one (R556); while one is being written, the next waits for its
end (R419, DEDUCED). -/
def State.writeLogImage (s : State) : State :=
  if s.logWriting then { s with kiln := { s.kiln with imageNext := true } }
  else
    let newest := s.kiln.image.getD Config.nvmLogImage
    let gen := (newest.1 + 1) % 2 ^ 32
    let copy := 1 - newest.2
    ({ s with kiln := { s.kiln with image := some (gen, copy), imageErr := false, imageNext := false } }).nvWriteBytes
      (0x090000 + 0x400 * copy) (s.logImage gen) (fun l => .logWrite l)

/-- The present record of a code, unit and INJECTED bit (R547). -/
def Kiln.find (k : Kiln) (r : Raised) : Option (Nat × KilnRecord) :=
  k.records.find? (fun p => p.2.code == r.code && p.2.unit == r.unit && p.2.injected == r.injected)

/-- OPEN records of the unit of another code, created before this step (R550). -/
def Kiln.parents (k : Kiln) (fresh : List Nat) (r : Raised) : List (Nat × KilnRecord) :=
  k.records.filter (fun p => p.2.isOpen && p.2.ofUnit (codeKind r.code) r.unit && p.2.code != r.code && !fresh.contains p.1)

/-- What logging one code answers: the state, the indexes created in this step, and the unit to escalate, if any. -/
structure Logged where
  state : State
  fresh : List Nat
  esc   : List (UnitKind × Nat)

/-- Logs one raised code (R547 to R551, R553, R554). `byEscalation`: the code comes from an escalation's own action, so it is nested
and does not escalate; 0x0A30 records an escalation and is no action of one (R552). While the CFG domain is down only the summary is kept. -/
def logOne (byEscalation : Bool) (g : Logged) (r : Raised) : Logged :=
  let s := g.state
  let cls := codeClass r.code
  let kind := codeKind r.code
  let safe := r.injected && s.inj.safe
  let parents := s.kiln.parents g.fresh r
  let parent := (oldestRec parents).map (·.1)
  let nested := !safe && ((byEscalation && r.code != 0x0A30) || !parents.isEmpty)
  let outcome := outcomeCodes.contains r.code
  let esc := nested && !byEscalation && cls ≥ 1 && !outcome &&
    !(s.kiln.records.any (fun p => p.2.isOpen && p.2.escSeen && p.2.ofUnit kind r.unit))
  let s1 := (s.sticky 0x3804 cls).sticky 0x3804 (15 + r.code / 256)
  let k := s1.kiln
  let k1 := if esc then { k with
      escalations := satAdd 8 k.escalations 1, frameEsc := k.frameEsc + 1,
      records := k.records.map (fun p =>
        if p.2.isOpen && p.2.ofUnit kind r.unit then (p.1, { p.2 with escSeen := true }) else p) } else k
  let link := if nested then parent.getD 0xFF else 0xFF
  let escs := if esc then g.esc ++ [(kind, r.unit)] else g.esc
  if !s.cfgUp then { g with state := s1 }
  else match k1.find r with
  | some (i, old) =>
    let new := { old with
      last := s.now, count := satAdd 16 old.count (1 + r.more), bounds := 0, nested := old.nested || nested,
      link := if old.link = 0xFF then link else old.link, escalated := old.escalated || esc }
    { g with state := { s1 with kiln := { k1 with records := insertKey i new k1.records } }, esc := escs }
  | none =>
    match k1.slotFor (cls == 3) (if nested then parent else none) with
    | none =>
      { g with state := ({ s1 with kiln := { k1 with lost := satAdd 16 k1.lost 1 } }).sticky 0x3804 4, esc := escs }
    | some i =>
      let full := (lookupKey i k1.records).isSome
      let k2 := if full then { k1.free i with lost := satAdd 16 k1.lost 1 } else k1
      let new : KilnRecord := {
        code := r.code, nested := nested, injected := r.injected,
        isOpen := cls ≥ 1 && !outcome && !safe, escalated := esc, link := if link = i then 0xFF else link, unit := r.unit,
        count := satAdd 16 1 r.more,
        first := s.now, last := s.now, data := r.data, seq := k2.nextSeq, escSeen := esc }
      let s2 := { s1 with kiln := { k2 with records := insertKey i new k2.records, nextSeq := (k2.nextSeq + 1) % 65536 } }
      let s3 := if full then s2.sticky 0x3804 4 else s2
      let s4 := if cls = 3 then s3.writeLogImage else s3
      let s5 := if bit (s4.fld 0x3800 3 0) cls then
          s4.postNow 0x0021 i r.code (toLe 1 cls ++ toLe 1 (b2n r.injected + 2 * b2n nested + 4 * b2n esc) ++ toLe 2 r.unit)
        else s4
      { state := s5, fresh := g.fresh ++ [i], esc := escs }

/-- Logs the codes of one step in ascending code order (R547). -/
def logAll (byEscalation : Bool) (fresh : List Nat) (s : State) : Logged :=
  let rs := sortBy (fun (a b : Raised) => a.code ≤ b.code) s.raised
  rs.foldl (logOne byEscalation) ⟨{ s with raised := [] }, fresh, []⟩

/-- Ends the handling window of a stream's records at its close (R549). -/
def State.closeStreamWindows (s : State) (id : Nat) : State :=
  { s with kiln := { s.kiln with records := s.kiln.records.map (fun p =>
      if p.2.ofUnit .stream id then (p.1, { p.2 with isOpen := false }) else p) } }

/-- The strand is in service with no substate, or SHARD (R549). -/
def State.strandSettled (s : State) (i : Nat) : Bool :=
  match s.strands[i]? with
  | some st => (st.service && st.sub == .none) || st.state == .shard
  | none => false

/-- The windows that end at a frame boundary (R549). -/
def State.windowTick (s : State) : State :=
  { s with kiln := { s.kiln with records := s.kiln.records.map (fun p =>
      if !p.2.isOpen then p
      else
        let n := p.2.bounds + 1
        let done := if codeKind p.2.code == .strand then s.strandSettled p.2.unit else n ≥ 2
        (p.1, { p.2 with bounds := n, isOpen := !done })) } }

/-- IRQ_N: low while the class F summary bit is set and unmasked (R41, R553); 1 in AON reset (R505). -/
def State.driveIrq (s : State) : State :=
  { s with irqN := s.resets.aon || !(s.flag 0x3804 3 && !s.flag 0x3808 3) }

end Sys2Proof.Machine
end

