-- ==== Sys2Proof/Machine/Numerics.lean ====
section
/-! DEFINITION. Formats, rounding, overflow, block and outer scales (R129 to R147), and FP32 addition (R162). -/

namespace Sys2Proof.Machine

/-- A decoded element: exact, `m * 2 ^ e` with a sign (R129). -/
inductive Num where
  | nan
  | inf (neg : Bool)
  | fin (neg : Bool) (m : Nat) (e : Int)
  deriving DecidableEq, Repr

/-! ## Format codes (R129) -/

/-- Format code 0x0 to 0xD; 0xE and 0xF are reserved (R129). -/
def fmtLegal (f : Nat) : Bool := f ≤ 0xD

/-- Element width in bits (R105, R106, R129). -/
def elemBits (f : Nat) : Nat :=
  if f = 2 ∨ f = 0xC then 32 else if f ≤ 1 then 16 else if f = 7 ∨ f = 8 then 6 else if f = 9 then 4 else 8

/-- MX formats: one E8M0 scale byte for 32 elements. -/
def isMx (f : Nat) : Bool := 5 ≤ f && f ≤ 0xA

/-- Per-tensor scaled formats. -/
def isPerTensor (f : Nat) : Bool := f = 3 || f = 4 || f = 0xB

/-- Bytes of a whole DENSE block of 32 elements. -/
def blockBytes (f : Nat) : Nat := if isMx f then 1 + 4 * elemBits f else 4 * elemBits f

/-- Dense size of `n` elements (R70). -/
def denseSize (f n : Nat) : Nat :=
  if isMx f then blockBytes f * ceilDiv n 32 else n * elemBits f / 8

/-- Mantissa bits of a floating-point format. -/
def manBits (f : Nat) : Nat :=
  if f = 0 then 7 else if f = 1 then 10 else if f = 2 then 23 else if f = 3 ∨ f = 5 then 3
  else if f = 4 ∨ f = 6 then 2 else if f = 7 then 2 else if f = 8 then 3 else 1

/-- Exponent bits of a floating-point format. -/
def expBits (f : Nat) : Nat :=
  if f = 0 then 8 else if f = 1 then 5 else if f = 2 then 8 else if f = 3 ∨ f = 5 then 4
  else if f = 4 ∨ f = 6 then 5 else if f = 7 then 3 else 2

/-- Exponent bias. -/
def fmtBias (f : Nat) : Nat :=
  if f = 0 ∨ f = 2 then 127 else if f = 1 ∨ f = 4 ∨ f = 6 then 15 else if f = 3 ∨ f = 5 then 7
  else if f = 7 then 3 else 1

/-- Integer formats: INT8, INT32 and MXINT8. -/
def isInt (f : Nat) : Bool := f = 0xA || f = 0xB || f = 0xC

/-- The largest finite magnitude, as the code without its sign. -/
def maxMagCode (f : Nat) : Nat :=
  if f = 0 then 0x7F7F else if f = 1 then 0x7BFF else if f = 2 then 0x7F7FFFFF
  else if f = 3 ∨ f = 5 then 0x7E else if f = 4 ∨ f = 6 then 0x7B else if f = 7 ∨ f = 8 then 0x1F
  else if f = 9 then 7 else if f = 0xC then 2 ^ 31 - 1 else 127

/-- The canonical NaN code (R130); INT8 has none and takes 0 (R141). -/
def canonicalNan (f : Nat) : Nat :=
  if f = 0 then 0x7FC0 else if f = 1 then 0x7E00 else if f = 2 then 0x7FC00000
  else if f = 3 ∨ f = 5 then 0x7F else if f = 4 ∨ f = 6 then 0x7E else 0

/-- emax of an MX element format (R143). -/
def mxEmax (f : Nat) : Int :=
  if f = 5 then 8 else if f = 6 then 15 else if f = 7 then 4 else if f = 0xA then 0 else 2

/-! ## Decoding codes -/

/-- The value of an element code at exponent shift `sh` (a block scale, or minus the outer scale's exponent). -/
def decodeElem (f code : Nat) (sh : Int) : Num :=
  let w := elemBits f
  if isInt f then
    let neg := code.testBit (w - 1)
    let m := if neg then 2 ^ w - code else code
    .fin neg m (sh + if f = 0xA then -6 else 0)
  else
    let mb := manBits f
    let eb := expBits f
    let neg := code.testBit (w - 1)
    let man := code % 2 ^ mb
    let ex := (code >>> mb) % 2 ^ eb
    let top := ex = 2 ^ eb - 1
    if (f = 0 ∨ f = 1 ∨ f = 2 ∨ f = 4 ∨ f = 6) ∧ top then (if man = 0 then .inf neg else .nan)
    else if (f = 3 ∨ f = 5) ∧ top ∧ man = 7 then .nan
    else if ex = 0 then .fin neg man (1 - (fmtBias f : Int) - mb + sh)
    else .fin neg (man + 2 ^ mb) ((ex : Int) - fmtBias f - mb + sh)

/-- The value of an element whose block has scale byte `sb`, or whose parcel has outer scale `2 ^ k` (R131, R146). -/
def elemValue (f : Nat) (k : Int) (sb code : Nat) : Num :=
  if isMx f then (if sb = 0xFF then .nan else decodeElem f code ((sb : Int) - 127))
  else if isPerTensor f then decodeElem f code (-k) else decodeElem f code 0

/-- A delivered element is +0 or −0 (R155); a byte of OPAQUE8 is no number, and counts as zero where it is 0. -/
def isZeroElem (f : Nat) (x : Nat × Nat) : Bool :=
  if f = 0xD then x.2 == 0
  else match elemValue f 0 x.1 x.2 with
    | .fin _ m _ => m == 0
    | _ => false

/-- The exponent of an outer scale: a power of two as a normal FP32 value (R146). -/
def outerExp (w : Nat) : Int := (bits w 30 23 : Int) - 127

/-- An FP32 word that is a positive power of two from 2^-126 to 2^127 (R146). -/
def isOuterScale (w : Nat) : Bool := bits w 22 0 = 0 && !(bit w 31) && 1 ≤ bits w 30 23 && bits w 30 23 ≤ 254

/-- The FP32 word of 2^k. -/
def outerWord (k : Int) : Nat := (k + 127).toNat <<< 23

/-! ## Rounding (R136) -/

/-- floor(log2) of a non-zero magnitude. -/
def magLog (m : Nat) (e : Int) : Int := (Nat.log2 m : Int) + e

/-- Rounds `m * 2 ^ e` to a multiple of `2 ^ g`; the answer counts units. RND: 0 RNE, 1 SR, 2 RTZ (R136). -/
def roundUnits (rnd draw m : Nat) (e g : Int) : Nat :=
  if e ≥ g then m <<< (e - g).toNat
  else
    let d := (g - e).toNat
    let q := m >>> d
    let rem := m - q <<< d
    let up :=
      if rnd = 0 then decide (2 * rem > 2 ^ d) || (decide (2 * rem = 2 ^ d) && q % 2 == 1)
      else if rnd = 1 then decide ((rem <<< 16) >>> d + draw ≥ 65536)
      else false
    if up then q + 1 else q

/-- The unsigned code of `v` rounded to the grid of `f`, without an upper limit: it exceeds `maxMagCode f` on overflow. -/
def roundMag (f rnd draw m : Nat) (e : Int) : Nat :=
  if m = 0 then 0
  else if isInt f then roundUnits rnd draw m e (if f = 0xA then -6 else 0)
  else
    let mb := manBits f
    let emin : Int := 1 - fmtBias f
    let g := max (magLog m e) emin - mb
    let r := roundUnits rnd draw m e g
    -- `r` units of `2 ^ g`; one binade is `2 ^ mb` codes wide, so the carry into the next binade is an addition
    ((g + mb - emin).toNat) * 2 ^ mb + r

/-- The code of a magnitude with a sign. -/
def signedCode (f : Nat) (neg : Bool) (mag : Nat) : Nat :=
  if isInt f then (if neg ∧ mag ≠ 0 then 2 ^ elemBits f - mag else mag)
  else if neg then mag + 2 ^ (elemBits f - 1) else mag

/-- What one parcel's conversion adds to the counters of R171 (R140, R144, R155). -/
structure NumCount where
  conv      : Nat := 0
  nonzero   : Nat := 0
  flushed   : Nat := 0
  sat       : Nat := 0
  nanIn     : Nat := 0
  strictNan : Nat := 0
  mxClamp   : Nat := 0
  deriving DecidableEq, Repr

/-- Sum of two tallies. -/
def NumCount.add (a b : NumCount) : NumCount where
  conv := a.conv + b.conv
  nonzero := a.nonzero + b.nonzero
  flushed := a.flushed + b.flushed
  sat := a.sat + b.sat
  nanIn := a.nanIn + b.nanIn
  strictNan := a.strictNan + b.strictNan
  mxClamp := a.mxClamp + b.mxClamp

/-- A finite, non-zero value. -/
def Num.nonzeroFinite : Num → Bool
  | .fin _ m _ => m != 0
  | _ => false

/-- One element into a format without a block scale; `k` is the output's outer scale exponent (R136, R140, R141, R142). -/
def convertElem (f rnd : Nat) (strict : Bool) (k : Int) (draw : Nat) (v : Num) : Nat × NumCount :=
  let nz := b2n v.nonzeroFinite
  match v with
  | .nan => (canonicalNan f, { conv := 1, nanIn := 1, strictNan := b2n strict })
  | .inf neg =>
    if strict then (canonicalNan f, { conv := 1, strictNan := 1 })
    else (signedCode f neg (maxMagCode f), { conv := 1, sat := 1 })
  | .fin neg m e =>
    let mag := roundMag f rnd draw m (e + if isPerTensor f then k else 0)
    if mag > maxMagCode f then
      if strict then (canonicalNan f, { conv := 1, nonzero := nz, strictNan := 1 })
      else (signedCode f neg (maxMagCode f), { conv := 1, nonzero := nz, sat := 1 })
    else (signedCode f neg mag, { conv := 1, nonzero := nz, flushed := b2n (mag == 0 && v.nonzeroFinite) })

/-- The largest exponent of a block's finite non-zero elements (R143). -/
def blockLog (vs : List Num) : Option Int :=
  vs.foldl (fun acc v => match v with
    | .fin _ m e => if m = 0 then acc else some (match acc with | none => magLog m e | some a => max a (magLog m e))
    | _ => acc) none

/-- The scale byte of an MX output block (R143). -/
def blockScale (f : Nat) (strict : Bool) (vs : List Num) : Nat :=
  if vs.any (fun v => v == .nan) then 0xFF
  else if strict && vs.any (fun v => match v with | .inf _ => true | _ => false) then 0xFF
  else match blockLog vs with
    | none => 0
    | some l => ((max (-127) (min 127 (l - mxEmax f))) + 127).toNat

/-- The largest positive code, written in a NaN block (R145). -/
def mxNanFill (f : Nat) : Nat := maxMagCode f

/-- One element of an MX output block with scale byte `sb` (R143 to R145). -/
def convertMxElem (f rnd : Nat) (strict : Bool) (sb draw : Nat) (v : Num) : Nat × NumCount :=
  let nz := b2n v.nonzeroFinite
  if sb = 0xFF then
    match v with
    | .nan => (mxNanFill f, { conv := 1, nanIn := 1, strictNan := b2n strict })
    | .inf _ => (mxNanFill f, { conv := 1, sat := b2n (!strict), strictNan := b2n strict })
    | .fin .. => (mxNanFill f, { conv := 1, nonzero := nz })
  else
    match v with
    | .nan => (mxNanFill f, { conv := 1, nanIn := 1 })
    | .inf neg => (signedCode f neg (maxMagCode f), { conv := 1, sat := 1 })
    | .fin neg m e =>
      let mag := roundMag f rnd draw m (e - ((sb : Int) - 127))
      if mag > maxMagCode f then (signedCode f neg (maxMagCode f), { conv := 1, nonzero := nz, mxClamp := 1 })
      else (signedCode f neg mag, { conv := 1, nonzero := nz, flushed := b2n (mag == 0 && v.nonzeroFinite) })

/-! ## Stochastic rounding (R137) -/

/-- One step of the Galois LFSR (R137). -/
def lfsrStep (st : Nat) : Nat := if st % 2 = 1 then (st >>> 1) ^^^ 0x80200003 else st >>> 1

/-- `n` steps. -/
def lfsrRun : Nat → Nat → Nat
  | 0, st => st
  | n + 1, st => lfsrRun n (lfsrStep st)

/-- One draw: 16 steps, the low 16 bits (R137). -/
def lfsrDraw (st : Nat) : Nat × Nat :=
  let s := lfsrRun 16 st
  (s, s % 65536)

/-- `n` draws, in order. -/
def lfsrDraws : Nat → Nat → Nat × List Nat
  | 0, st => (st, [])
  | n + 1, st =>
    let d := lfsrDraw st
    let r := lfsrDraws n d.1
    (r.1, d.2 :: r.2)

/-- SEED rotated left by 16 bits: the receiver's state (R137). -/
def seedRotl16 (seed : Nat) : Nat := (seed % 65536) <<< 16 + (seed >>> 16) % 65536

/-! ## A tensor as elements -/

/-- One element of a region: its block's scale byte (0 outside MX) and its code. -/
abbrev Elem := Nat × Nat

/-- Converts one group of up to 32 elements to `dst`, with draws (R132 to R145). -/
def convertBlock (src dst rnd : Nat) (strict : Bool) (kIn kOut : Int) (draws : List Nat) (es : List Elem) :
    List Elem × NumCount :=
  let vs := es.map (fun p => elemValue src kIn p.1 p.2)
  let sb := if isMx dst then blockScale dst strict vs else 0
  let rs := (vs.zip (draws ++ List.replicate (es.length - draws.length) 0)).map (fun p =>
    if isMx dst then convertMxElem dst rnd strict sb p.2 p.1 else convertElem dst rnd strict kOut p.2 p.1)
  (rs.map (fun r => (sb, r.1)), rs.foldl (fun c r => c.add r.2) {})

/-- The class of a conversion takes draws: SR, not identity, not exact (R133, R138). -/
def takesDraws (src dst rnd : Nat) : Bool := rnd = 1 && src != dst && dst != 2

/-- Converts elements in blocks of 32 (R133, R138); the answer holds the elements, the tally and the LFSR state after. -/
def convertElems (src dst rnd : Nat) (strict : Bool) (kIn kOut : Int) : Nat → Nat → List Elem →
    List Elem × NumCount × Nat
  | 0, st, _ => ([], {}, st)
  | fuel + 1, st, es =>
    if es.isEmpty then ([], {}, st)
    else if src = dst then (es, {}, st)
    else
      let blk := es.take 32
      let d := if takesDraws src dst rnd then lfsrDraws blk.length st else (st, [])
      let r := convertBlock src dst rnd strict kIn kOut d.2 blk
      let rest := convertElems src dst rnd strict kIn kOut fuel d.1 (es.drop 32)
      (r.1 ++ rest.1, r.2.add rest.2.1, rest.2.2)

/-- The largest finite magnitude among elements, as an FP32 code whose exponent field goes on above 254 where the magnitude does (R151). -/
def largestMag (src : Nat) (kIn : Int) (es : List Elem) : Nat :=
  es.foldl (fun acc p => match elemValue src kIn p.1 p.2 with
    | .fin _ m e => max acc (roundMag 2 2 0 m e)
    | _ => acc) 0

/-- The same, saturated to the largest finite FP32 value (R149). -/
def largestFp32 (src : Nat) (kIn : Int) (es : List Elem) : Nat := min (largestMag src kIn es) (maxMagCode 2)

/-- The exponent k of the outer scale for a magnitude `h` given as `largestMag` gives it (R147). -/
def outerScaleExp (wire margin h : Nat) : Int :=
  let raw : Int :=
    if h = 0 then -(margin : Int)
    else
      let m := if h < 2 ^ 23 then h else h % 2 ^ 23 + 2 ^ 23
      let eh := magLog m ((max (h / 2 ^ 23) 1 : Nat) - 150)
      -- m_F as a fraction of 2^23: 448 = 1.75 * 2^8, 57,344 = 1.75 * 2^15, 127 = 1.984375 * 2^6
      let eF : Int := if wire = 3 then 8 else if wire = 4 then 15 else 6
      let mF : Nat := if wire = 0xB then 127 <<< 17 else 7 <<< 21
      let mh : Nat := m <<< (23 - Nat.log2 m)
      eF - eh - margin - (if mF < mh then 1 else 0)
  max (-126) (min 127 raw)

/-! ## FP32 addition (R162) -/

/-- The FP32 code of an exact sum rounded to nearest even; `none` on overflow. -/
def fp32OfExact (neg : Bool) (m : Nat) (e : Int) : Option Nat :=
  let mag := roundMag 2 0 0 m e
  if mag > maxMagCode 2 then none else some (signedCode 2 neg mag)

/-- Exact sum of two finite values as sign, magnitude and exponent. -/
def exactSum (na : Bool) (ma : Nat) (ea : Int) (nb : Bool) (mb : Nat) (eb : Int) : Bool × Nat × Int :=
  let e := min ea eb
  let a := ma <<< (ea - e).toNat
  let b := mb <<< (eb - e).toNat
  if na = nb then (na, a + b, e)
  else if a = b then (false, 0, e)
  else if a > b then (na, a - b, e) else (nb, b - a, e)

/-- IEEE binary32 addition under R162: the code, whether it overflowed, and whether STRICT produced NaN. -/
def fp32Add (strict : Bool) (a b : Nat) : Nat × Bool :=
  match decodeElem 2 a 0, decodeElem 2 b 0 with
  | .nan, _ => (canonicalNan 2, false)
  | _, .nan => (canonicalNan 2, false)
  | .inf n, .inf n' => (if n = n' then signedCode 2 n 0x7F800000 else canonicalNan 2, false)
  | .inf n, _ => (signedCode 2 n 0x7F800000, false)
  | _, .inf n => (signedCode 2 n 0x7F800000, false)
  | .fin na ma ea, .fin nb mb eb =>
    if ma = 0 ∧ mb = 0 then (signedCode 2 (na && nb) 0, false)
    else
      let r := exactSum na ma ea nb mb eb
      match fp32OfExact r.1 r.2.1 r.2.2 with
      | some c => (c, false)
      | none => (if strict then canonicalNan 2 else signedCode 2 r.1 (maxMagCode 2), true)

end Sys2Proof.Machine
end

