-- ==== Sys2Proof/Machine/Codec.lean ====
section
/-! DEFINITION. The Glaze codec: packings, mode choice, the delivered offset and the decode checks (R103 to R123). -/

namespace Sys2Proof.Machine

/-! ## Codec modes (R66): 0 DENSE, 1 SPARSE, 2 STRUCT24, 3 OPAQUE -/

/-- A little-endian field of elements of `w` bits (R105, R106). -/
def packField (w : Nat) (codes : List Nat) : Nat :=
  (codes.foldl (fun (acc : Nat × Nat) c => (acc.1 + (c % 2 ^ w) <<< acc.2, acc.2 + w)) (0, 0)).1

/-- `n` elements of `w` bits from a field. -/
def unpackField (w n v : Nat) : List Nat := (List.range n).map (fun j => (v >>> (w * j)) % 2 ^ w)

/-- One block in the DENSE packing; an MX block is filled with zero codes to 32 elements (R105, R106). -/
def packBlock (f : Nat) (es : List Elem) : List Byte :=
  let codes := es.map (·.2)
  if isMx f then
    toLe 1 ((es.headD (0, 0)).1) ++ toLe (4 * elemBits f) (packField (elemBits f) codes)
  else toLe (es.length * elemBits f / 8) (packField (elemBits f) codes)

/-- The DENSE packing of elements, block by block. -/
def packDense (f : Nat) : Nat → List Elem → List Byte
  | 0, _ => []
  | fuel + 1, es => if es.isEmpty then [] else packBlock f (es.take 32) ++ packDense f fuel (es.drop 32)

/-- The elements of a block whose bytes (perhaps cut short) are given: those that are complete (R119). -/
def unpackBlock (f n : Nat) (bs : List Byte) : List Elem :=
  let w := elemBits f
  if isMx f then
    let body := bs.drop 1
    let have_ := min n (body.length * 8 / w)
    (unpackField w have_ (leNat body)).map (fun c => (byteAt bs 0, c))
  else
    let have_ := min n (bs.length * 8 / w)
    (unpackField w have_ (leNat (bs.take (n * w / 8)))).map (fun c => (0, c))

/-- The size of the block with `n` elements in the DENSE packing. -/
def blockLen (f n : Nat) : Nat := if isMx f then blockBytes f else n * elemBits f / 8

/-- The pad elements of a last MX block are the zero code (R122). -/
def padsZero (f n : Nat) (bs : List Byte) : Bool :=
  !isMx f || n == 32 || (leNat ((bs.take (blockBytes f)).drop 1)) >>> (elemBits f * n) == 0

/-- What has been decoded of a region: the complete elements in order (R119), whether a check of R122 failed, and the bytes of the region
once all elements are complete: pad elements of a last MX block may still be missing then. -/
structure Decoded where
  elems : List Elem := []
  bad   : Bool := false
  /-- A pad element of the last MX block is not the zero code. -/
  pad   : Bool := false
  used  : Nat := 0
  deriving DecidableEq, Repr

/-- Decodes a DENSE or OPAQUE region of `e` elements in format `f`. -/
def decodeDense (f : Nat) : Nat → Nat → List Byte → Decoded
  | 0, _, _ => {}
  | fuel + 1, e, bs =>
    if e = 0 then {}
    else
      let n := min e 32
      let len := blockLen f n
      let es := unpackBlock f n (bs.take len)
      if es.length < n then { elems := es }
      else
        let r := decodeDense f fuel (e - n) (bs.drop len)
        { elems := es ++ r.elems, bad := r.bad, pad := r.pad || (decide (len ≤ bs.length) && !padsZero f n (bs.take len)),
          used := len + r.used }

/-- The blocks of one superblock, by its bitmap (R107). -/
def decodeSuper (f bitmap : Nat) : Nat → Nat → Nat → List Byte → Decoded × Bool
  | 0, _, _, _ => ({}, true)
  | fuel + 1, i, e, bs =>
    if e = 0 then ({}, true)
    else
      let n := min e 32
      if bitmap.testBit i then
        let len := blockLen f n
        let es := unpackBlock f n (bs.take len)
        if es.length < n then ({ elems := es }, false)
        else
          let r := decodeSuper f bitmap fuel (i + 1) (e - n) (bs.drop len)
          ({ elems := es ++ r.1.elems, bad := r.1.bad,
             pad := r.1.pad || (decide (len ≤ bs.length) && !padsZero f n (bs.take len)), used := len + r.1.used }, r.2)
      else
        let r := decodeSuper f bitmap fuel (i + 1) (e - n) bs
        ({ r.1 with elems := List.replicate n (0, 0) ++ r.1.elems }, r.2)

/-- Decodes a SPARSE region (R107). -/
def decodeSparse (f : Nat) : Nat → Nat → List Byte → Decoded
  | 0, _, _ => {}
  | fuel + 1, e, bs =>
    if e = 0 then {}
    else if bs.length < 4 then {}
    else
      let bitmap := leNat (bs.take 4)
      let n := min e 1024
      let blocks := ceilDiv n 32
      let badMap := bitmap >>> blocks != 0
      let r := decodeSuper f bitmap 32 0 n (bs.drop 4)
      if r.2 then
        let t := decodeSparse f fuel (e - n) (bs.drop (4 + r.1.used))
        { elems := r.1.elems ++ t.elems, bad := badMap || r.1.bad || t.bad, pad := r.1.pad || t.pad, used := 4 + r.1.used + t.used }
      else { r.1 with bad := badMap || r.1.bad }

/-- STRUCT24 block size (R108). -/
def s24Bytes (f : Nat) : Nat := (if isMx f then 5 else 4) + 2 * elemBits f

/-- The eight position pairs of a position word. -/
def s24Pairs (w : Nat) : List (Nat × Nat) :=
  (List.range 8).map (fun g => (bits w (4 * g + 1) (4 * g), bits w (4 * g + 3) (4 * g + 2)))

/-- Decodes a STRUCT24 region (R108, R119). -/
def decodeS24 (f : Nat) : Nat → Nat → List Byte → Decoded
  | 0, _, _ => {}
  | fuel + 1, e, bs =>
    if e = 0 then {}
    else
      let h := if isMx f then 5 else 4
      let len := s24Bytes f
      if bs.length < h then {}
      else
        let sb := if isMx f then byteAt bs 0 else 0
        let pairs := s24Pairs (leNat ((bs.drop (h - 4)).take 4))
        let w := elemBits f
        let body := (bs.take len).drop h
        let kept := unpackField w 16 (leNat body)
        let groups := min 8 (body.length * 8 / w / 2)
        let es := ((List.range groups).map (fun g =>
          let p := pairs.getD g (0, 1)
          (List.range 4).map (fun j =>
            (sb, if j = p.1 then kept.getD (2 * g) 0 else if j = p.2 then kept.getD (2 * g + 1) 0 else 0)))).flatten
        let badPos := pairs.any (fun p => p.1 ≥ p.2)
        if bs.length < len then { elems := es.take e, bad := badPos }
        else
          let r := decodeS24 f fuel (e - 32) (bs.drop len)
          { elems := es.take e ++ r.elems, bad := badPos || r.bad, used := len + r.used }

/-- Decodes the wire bytes of a region received so far. `f` is the wire format, or SRC_FMT for OPAQUE (R116). -/
def decodeRegion (mode f e : Nat) (bs : List Byte) : Decoded :=
  let fuel := ceilDiv e 32 + 1
  if mode = 1 then decodeSparse f fuel e bs
  else if mode = 2 then decodeS24 f fuel e bs
  else decodeDense f fuel e bs

/-- All 32 codes of a block are the zero code (R104). -/
def zeroBlock (es : List Elem) : Bool := es.all (fun p => p.2 == 0)

/-- The blocks of a tensor. -/
def blocksOf (es : List Elem) : List (List Elem) :=
  (List.range (ceilDiv es.length 32)).map (fun b => (es.drop (32 * b)).take 32)

/-- The SPARSE packing (R107). -/
def packSparse (f : Nat) (es : List Elem) : List Byte :=
  let bl := blocksOf es
  ((List.range (ceilDiv bl.length 32)).map (fun k =>
    let sb := (bl.drop (32 * k)).take 32
    let word := (sb.foldl (fun (acc : Nat × Nat) b => (acc.1 + (b2n (!zeroBlock b)) <<< acc.2, acc.2 + 1)) (0, 0)).1
    toLe 4 word ++ ((sb.filter (fun b => !zeroBlock b)).map (packBlock f)).flatten)).flatten

/-- The kept positions of one group of four codes (R108). -/
def keptPair (g : List Nat) : Nat × Nat :=
  let nz := (List.range 4).filter (fun j => g.getD j 0 != 0)
  let z := (List.range 4).filter (fun j => g.getD j 0 == 0)
  let pick := (nz ++ z.take (2 - nz.length)).take 2
  let a := pick.getD 0 0
  let b := pick.getD 1 1
  (min a b, max a b)

/-- A tensor is eligible for STRUCT24 (R108). -/
def s24Eligible (es : List Elem) : Bool :=
  es.length % 32 == 0 &&
    (List.range (es.length / 4)).all (fun g => countWhere (fun p => p.2 != 0) ((es.drop (4 * g)).take 4) ≤ 2)

/-- The STRUCT24 packing (R108). -/
def packS24 (f : Nat) (es : List Elem) : List Byte :=
  ((blocksOf es).map (fun b =>
    let codes := b.map (·.2)
    let gs := (List.range 8).map (fun g => (codes.drop (4 * g)).take 4)
    let pairs := gs.map keptPair
    let word := packField 2 ((pairs.map (fun p => [p.1, p.2])).flatten)
    let kept := ((gs.zip pairs).map (fun x => [x.1.getD x.2.1 0, x.1.getD x.2.2 0])).flatten
    (if isMx f then toLe 1 ((b.headD (0, 0)).1) else []) ++ toLe 4 word ++
      toLe (2 * elemBits f) (packField (elemBits f) kept))).flatten

/-- Length of the SPARSE packing (R110). -/
def sparseLen (f : Nat) (es : List Elem) : Nat :=
  4 * ceilDiv (ceilDiv es.length 32) 32 +
    (((blocksOf es).filter (fun b => !zeroBlock b)).map (fun b => blockLen f b.length)).foldl (· + ·) 0

/-- The choice of R111 without lookahead: OPAQUE or DENSE by E and the formats alone. `own` is the stream's WIRE_FMT and `wire` the one
on the wire, which differ on a transcoded stream; OPAQUE is then no candidate of the second branch (R473). -/
def modeWithout (src own wire e : Nat) : Nat :=
  let opq := denseSize src e
  if own != src && denseSize own e ≥ opq then 3
  else if own = wire ∧ opq ≤ denseSize wire e then 3 else 0

/-- The choice of R111 with the whole region in lookahead: the mode, and whether STRUCT24 missed. -/
def modeWith (src own wire e ctl : Nat) (es : List Elem) : Nat × Bool :=
  let opq := denseSize src e
  let dns := denseSize wire e
  if own != src && denseSize own e ≥ opq then (3, false)
  else
    let s24 := bit ctl 1 && s24Eligible es
    let miss := bit ctl 1 && !s24Eligible es
    let ls := ceilDiv e 32 * s24Bytes wire
    let lp := sparseLen wire es
    let best0 := if own = wire then min opq dns else dns
    let best1 := if s24 then min best0 ls else best0
    let best := if bit ctl 0 then best1 else min best1 lp
    let mode :=
      if own == wire && opq == best then 3
      else if dns == best then 0
      else if s24 && ls == best then 2 else 1
    (mode, miss)

/-- The elements of a format among MXFP6 and MXFP4 rewritten as MXFP8 E4M3 codes of the same values (R473). -/
def transcodeElems (own : Nat) (es : List Elem) : List Elem :=
  es.map (fun p =>
    if p.1 = 0xFF then (p.1, 0x7E)
    else match decodeElem own p.2 0 with
      | .fin neg m e => (p.1, signedCode 5 neg (roundMag 5 0 0 m e))
      | _ => (p.1, 0x7E))

/-- Length of a packed region. -/
def regionLen (mode src wire e : Nat) (es : List Elem) : Nat :=
  if mode = 3 then denseSize src e else if mode = 0 then denseSize wire e
  else if mode = 2 then ceilDiv e 32 * s24Bytes wire else sparseLen wire es

/-- The wire bytes of a whole converted region. -/
def packRegion (mode wire : Nat) (es : List Elem) : List Byte :=
  if mode = 1 then packSparse wire es
  else if mode = 2 then packS24 wire es
  else packDense wire (ceilDiv es.length 32 + 1) es

/-- Zero bytes that bring a length to a multiple of 4 (R64). -/
def padLen (n : Nat) : Nat := (4 - n % 4) % 4

/-- The delivered offset of R120, within the parcel: from the number of complete elements, E, DLV_FMT, the tensor bytes received
against the region's end, and the trailing bytes received. `all` says that every element is complete. -/
def deliveredOffset (dlv e complete hdrBytes regionBytes trailing : Nat) : Nat :=
  if hdrBytes < 32 then hdrBytes
  else if e = 0 then 32 + trailing
  else if complete ≥ e then
    let t := denseSize dlv e
    32 + t + padLen (32 + t) + trailing
  else if regionBytes = 0 then 32
  else if isMx dlv then 32 + complete / 32 * blockBytes dlv
  else 32 + complete * elemBits dlv / 8

/-- Cells that the bytes up to `d` take (R74, R75). -/
def cellsOf (d : Nat) : Nat := ceilDiv d 240

end Sys2Proof.Machine
end

