-- ==== Sys2Proof/Machine/StreamTx.lean ====
section
/-! DEFINITION. The sending side of a stream: parcel headers, lookahead, the step rules and outer scales, the choice of a mode, and the
next flit of a stream (R61 to R80, R97 to R121, R146 to R157). -/

namespace Sys2Proof.Machine

/-! ## Parcel headers (R66, R67) -/

def hStream (b : List Byte) : Nat := field b 0 2 % 4096
def hClass (b : List Byte) : Nat := bits (field b 0 2) 14 12
def hAtomic (b : List Byte) : Bool := bit (field b 0 2) 15
def hMb (b : List Byte) : Nat := field b 2 2
def hVersion (b : List Byte) : Nat := field b 4 2
def hStage (b : List Byte) : Nat := field b 6 2
def hDir (b : List Byte) : Nat := bits (byteAt b 8) 1 0
def hCodec (b : List Byte) : Nat := bits (byteAt b 8) 3 2
def hRnd (b : List Byte) : Nat := bits (byteAt b 8) 5 4
def hWfmt (b : List Byte) : Nat := bits (byteAt b 9) 3 0
def hDfmt (b : List Byte) : Nat := bits (byteAt b 9) 7 4
def hSbLen (b : List Byte) : Nat := field b 10 2
def hOuter (b : List Byte) : Nat := field b 16 4
def hWireLen (b : List Byte) : Nat := field b 20 4
def hTags (b : List Byte) : Nat := field b 24 2
def hFlags (b : List Byte) : Nat := field b 26 2
def hContrib (b : List Byte) : Nat := bits (hFlags b) 3 0
def hMbEnd (b : List Byte) : Bool := bit (hFlags b) 4
def hBwdDone (b : List Byte) : Bool := bit (hFlags b) 5
def hEmpty (b : List Byte) : Bool := bit (hFlags b) 9
def hPseq (b : List Byte) : Nat := field b 28 2

/-- Elements of the tensor region: ELEMENTS 0 stands for 2^32 unless EMPTY is set. -/
def hElems (b : List Byte) : Nat :=
  if hEmpty b then 0 else if field b 12 4 = 0 then 2 ^ 32 else field b 12 4

/-- Length of a parcel whose tensor region takes `region` bytes (R64). -/
def parcelLen (region : Nat) (b : List Byte) : Nat :=
  32 + region + padLen (32 + region) + 4 * hSbLen b + 16 * hTags b

/-- Delivered size D (R70). -/
def deliveredSize (dlv : Nat) (b : List Byte) : Nat := parcelLen (denseSize dlv (hElems b)) b

/-- Charge of a SOURCE parcel (R185). -/
def sourceCharge (c : StreamCfg) (b : List Byte) : Nat :=
  cellsOf (max (parcelLen (denseSize c.srcFmt (hElems b)) b) (deliveredSize c.dlvFmt b))

/-- A parcel header from its fields. -/
def makeHeader (stream cls : Nat) (atomic : Bool) (mb version stage dir codec rnd wfmt dfmt sbLen elements outer wireLen tags
    flags pseq : Nat) : List Byte :=
  toLe 2 (stream + cls * 4096 + b2n atomic * 32768) ++ toLe 2 mb ++ toLe 2 version ++ toLe 2 stage
    ++ toLe 1 (dir + 4 * codec + 16 * rnd) ++ toLe 1 (wfmt + 16 * dfmt) ++ toLe 2 sbLen ++ toLe 4 elements ++ toLe 4 outer
    ++ toLe 4 wireLen ++ toLe 2 tags ++ toLe 2 flags ++ toLe 2 pseq ++ [0, 0]

/-! ## Numeric state of a side (R148 to R157) -/

/-- WIRE_FMT is per-tensor scaled and differs from SRC_FMT (R147). -/
def StreamCfg.histScaled (c : StreamCfg) : Bool := isPerTensor c.wireFmt && c.wireFmt != c.srcFmt

def StreamCfg.strict (c : StreamCfg) : Bool := bit c.numCtl 0
def StreamCfg.margin (c : StreamCfg) : Nat := bits c.numCtl 2 1

/-- FALLBACK_EXP, two's complement; none for 0x80 (R135). -/
def StreamCfg.fallback (c : StreamCfg) : Option Int :=
  let v := bits c.numCtl 10 3
  if v = 0x80 then none else some (if v < 128 then (v : Int) else (v : Int) - 256)

def StreamCfg.flushN (c : StreamCfg) : Nat := if bits c.flushCtl 15 0 = 0 then 1000 else bits c.flushCtl 15 0
def StreamCfg.flushThr (c : StreamCfg) : Nat := if bits c.flushCtl 23 16 = 0 then 128 else bits c.flushCtl 23 16
def StreamCfg.flushOff (c : StreamCfg) : Bool := bit c.flushCtl 24
def StreamCfg.dispRole (c : StreamCfg) : Nat := bits c.dispCtl 1 0
def StreamCfg.dispTable (c : StreamCfg) : Nat := bits c.dispCtl 5 2 + 1
def StreamCfg.dispPair (c : StreamCfg) : Nat := bits c.dispCtl 17 6
def StreamCfg.watches (c : StreamCfg) : Bool := c.dispRole == 0 && bit c.dispCtl 18
def StreamCfg.watchExp (c : StreamCfg) : Nat := bits c.dispCtl 30 19
def StreamCfg.shelfRole (c : StreamCfg) : Nat := bits c.shelfCtl 2 0
def StreamCfg.vcheck (c : StreamCfg) : Bool := bit c.shelfCtl 3
def StreamCfg.shelfPair (c : StreamCfg) : Nat := bits c.shelfCtl 15 4

/-- The stream is in HISTORY_COLD (R150). -/
def NumCtx.cold (c : StreamCfg) (n : NumCtx) : Bool := c.histScaled && n.histValid < 16

/-- The step maximum goes into the history (R149). -/
def NumCtx.pushHistory (c : StreamCfg) (n : NumCtx) : NumCtx :=
  if c.histScaled && n.stepConv then
    { n with
      hist := modAt (fun _ => n.stepMax) n.histNext n.hist, histNext := (n.histNext + 1) % 16,
      histValid := min 16 (n.histValid + 1) }
  else n

/-- A step ends (R149, R156): the state after, and the causes of a flush alarm. `rx` is the receiving side, `idle` R197's report. -/
def NumCtx.stepEnd (c : StreamCfg) (rx idle : Bool) (n0 : NumCtx) : NumCtx × Bool × Bool :=
  let n := if rx then n0 else n0.pushHistory c
  let n := { n with steps := wrapAdd 32 n.steps 1 }
  let clear (n : NumCtx) : NumCtx := { n with
    stepNonzero := 0, stepFlushed := 0, bwdSeen := false, zeroSoFar := true, stepMax := 0, stepConv := false }
  if idle then (clear { n with dispatchIdle := satAdd 16 n.dispatchIdle 1 }, false, false)
  else
    let fracHit := n.stepNonzero > 0 && n.stepFlushed * 256 ≥ c.flushThr * n.stepNonzero
    let zeroHit := rx && n.bwdSeen && n.zeroSoFar
    let runFrac := if n.stepNonzero > 0 then (if fracHit then satAdd 16 n.runFrac 1 else 0) else n.runFrac
    let runZero := if rx && n.bwdSeen then (if zeroHit then satAdd 16 n.runZero 1 else 0) else n.runZero
    let zs := if zeroHit then satAdd 16 n.zeroSteps 1 else n.zeroSteps
    let fracUp := runFrac = c.flushN && n.runFrac < runFrac
    let zeroUp := runZero = c.flushN && n.runZero < runZero
    (clear { n with runFrac := runFrac, runZero := runZero, zeroSteps := zs }, fracUp, zeroUp)

/-- The tally of a parcel's conversion enters the counters (R155, R171). -/
def NumCtx.count (n : NumCtx) (t : NumCount) : NumCtx := { n with
  conv := wrapAdd 48 n.conv t.conv, nonzero := wrapAdd 48 n.nonzero t.nonzero, flushed := wrapAdd 48 n.flushed t.flushed,
  sat := satAdd 32 n.sat t.sat, nanIn := satAdd 32 n.nanIn t.nanIn, strictNan := satAdd 32 n.strictNan t.strictNan,
  mxClamp := satAdd 32 n.mxClamp t.mxClamp, strictHit := n.strictHit || t.strictNan != 0,
  stepNonzero := wrapAdd 32 n.stepNonzero t.nonzero, stepFlushed := wrapAdd 32 n.stepFlushed t.flushed,
  converted := n.converted || t.conv != 0 }

/-- Sticky bits and the code of R140 that a tally brings; `seen`: the code has been recorded for the parcel already. -/
def State.numSticky (s : State) (id : Nat) (t : NumCount) (seen : Bool := false) : State :=
  let s1 := if t.sat != 0 then s.sticky 0x4808 0 else s
  let s2 := if t.strictNan != 0 then (let u := s1.sticky 0x4808 1; if seen then u else u.raise 0x0422 id) else s1
  if t.nanIn != 0 then s2.sticky 0x4808 2 else s2

/-- The flush alarm (R157), for a stream whose FLUSH_OFF is clear. -/
def State.flushAlarm (s : State) (id : Nat) (inbound frac zero : Bool) : State :=
  let w := id + 4096 * b2n inbound + 8192 * b2n frac + 16384 * b2n zero + 2 ^ 31
  (((s.sticky 0x4808 4).setReg 0x480C (BitVec.ofNat 32 w)).raise 0x0421 id).postEvent 0x0005 id 0x0421
    (toLe 1 (b2n inbound + 2 * b2n frac + 4 * b2n zero))

/-- A stream enters HISTORY_COLD (R150). -/
def State.enterCold (s : State) (id : Nat) : State := (s.sticky 0x4808 3).raise 0x0420 id

/-! ## Outbound streams -/

def State.tx? (s : State) (id : Nat) : Option TxStream := lookupKey id s.tx
def State.setTx (s : State) (id : Nat) (st : TxStream) : State := { s with tx := insertKey id st s.tx }
def State.modTx (s : State) (id : Nat) (f : TxStream → TxStream) : State :=
  match s.tx? id with
  | some st => s.setTx id (f st)
  | none => s

/-- The adapter slice of a station (R22). -/
def State.sliceOf (s : State) (stn : Nat) : Nat := (s.stations.getD stn {}).port % 4

/-- A change that waits for the next parcel takes effect (R58, R139). DESIGN CHOICE: a MASK that names RND or SEED changes that field, also
where the value is the one that it has: the LFSR is loaded anew. -/
def TxStream.applyModify (st : TxStream) : TxStream :=
  match st.modify with
  | none => st
  | some m => { st with
      modify := none, weight := if bit m.mask 0 then m.weight else st.weight, rnd := if bit m.mask 1 then m.rnd else st.rnd,
      seed := if bit m.mask 2 then m.seed else st.seed,
      num := if bit m.mask 1 || bit m.mask 2 then { st.num with lfsr := if bit m.mask 2 then m.seed else st.seed } else st.num }

/-- The parcel's step rule (R148): the numeric state, whether a step ended, and the alarm causes. -/
def stepRule (c : StreamCfg) (rx : Bool) (idle : Bool) (hdr : List Byte) (n : NumCtx) : NumCtx × Bool × Bool × Bool :=
  if hDir hdr ≤ 1 && hStage hdr == c.stepStage then
    match n.stepVer with
    | none => ({ n with stepVer := some (hVersion hdr) }, false, false, false)
    | some v =>
      let d := (hVersion hdr + 65536 - v) % 65536
      if 1 ≤ d && d ≤ 32767 then
        let r := n.stepEnd c rx idle
        ({ r.1 with stepVer := some (hVersion hdr) }, true, r.2.1, r.2.2)
      else (n, false, false, false)
  else (n, false, false, false)

/-- Whether the present step counts as idle (R197). -/
def stepIdle (c : StreamCfg) (watchIdle : Bool) (tags : Nat) : Bool :=
  if c.dispRole = 2 ∨ c.dispRole = 3 then tags == 0 else c.watches && watchIdle

/-- The source elements of a parcel that are complete in the bytes taken in. -/
def TxParcel.elems (p : TxParcel) (src : Nat) : List Elem :=
  let e := hElems p.src
  (decodeDense src (ceilDiv e 32 + 1) e ((p.src.drop 32).take (denseSize src e))).elems

/-- All of the tensor region has been taken in. -/
def TxParcel.regionIn (p : TxParcel) (src : Nat) : Bool := p.src.length ≥ 32 + denseSize src (hElems p.src)

/-- The exponent of the outer scale for a parcel (R147, R151, R152). -/
def outerFor (c : StreamCfg) (cls : Nat) (n : NumCtx) (p : TxParcel) : Int :=
  let m := c.margin
  let top := n.hist.foldl max 0
  if !n.cold c then outerScaleExp c.wireFmt m top
  else if cls = 1 then c.fallback.getD 0
  else if denseSize c.srcFmt (hElems p.src) ≤ 524288 then
    outerScaleExp c.wireFmt m (largestMag c.srcFmt (outerExp (hOuter p.src)) (p.elems c.srcFmt))
  else if n.histValid ≥ 1 then outerScaleExp c.wireFmt m top
  else match c.fallback with
    | some f => f
    | none => outerScaleExp c.wireFmt m 0

/-- Prepares the head parcel of a stream, once: modifications, the step rule and the outer scale (R58, R148, R151). -/
def State.prepareHead (s : State) (id : Nat) : State :=
  match s.tx? id with
  | none => s
  | some st0 =>
    match st0.queue with
    | [] => s
    | p :: rest =>
      if p.prepared then s
      else
        let st := st0.applyModify
        let c := st.cfg
        let r := stepRule c false (stepIdle c st.watchIdle st.stepTags) p.src st.num
        let n := r.1
        let tags := (if r.2.1 then 0 else st.stepTags) + hTags p.src
        let alarm := (r.2.2.1 || r.2.2.2) && !c.flushOff
        let n := if alarm then { n with flushAlarm := true, frac := n.frac || r.2.2.1, zero := n.zero || r.2.2.2 } else n
        let p1 := { p with
          prepared := true, rnd := st.rnd, cold := n.cold c,
          kOut := if c.histScaled then outerFor c st.cls n p else outerExp (hOuter p.src) }
        let s1 := s.setTx id { st with
          num := n, queue := p1 :: rest, stepTags := tags, watchIdle := if r.2.1 then true else st.watchIdle }
        if alarm then s1.flushAlarm id false r.2.2.1 r.2.2.2 else s1

/-- The stream's own WIRE_FMT (R473). -/
def TxStream.own (st : TxStream) : Nat := if st.transcoded then st.ownFmt else st.cfg.wireFmt

/-- The source elements that can be converted: all that have come, or, for an MX wire format, those of whole blocks (R118). -/
def TxStream.inHand (st : TxStream) (p : TxParcel) : List Elem :=
  let es := p.elems st.cfg.srcFmt
  if p.regionIn st.cfg.srcFmt || !(isMx st.own || isMx st.cfg.wireFmt) then es else es.take (es.length / 32 * 32)

/-- The converted elements available, their tally, and the rounding state after them (R117, R132, R138). -/
def TxStream.convert (st : TxStream) (p : TxParcel) (mode : Nat) : List Elem × NumCount × Nat :=
  let c := st.cfg
  let es := st.inHand p
  if mode = 3 then (es, {}, st.num.lfsr)
  else
    let r := convertElems c.srcFmt st.own p.rnd c.strict (outerExp (hOuter p.src)) p.kOut (es.length / 32 + 1) st.num.lfsr es
    if st.transcoded then (transcodeElems st.own r.1, r.2) else r

/-- Chooses the codec mode of a parcel (R111): the mode and whether STRUCT24 missed. `la`: lookahead holds the whole region. -/
def TxStream.chooseMode (st : TxStream) (p : TxParcel) (la : Bool) : Nat × Bool :=
  let c := st.cfg
  let e := hElems p.src
  if e = 0 then (0, false)
  else if la then modeWith c.srcFmt st.own c.wireFmt e c.codecCtl (st.convert p 0).1
  else (modeWithout c.srcFmt st.own c.wireFmt e, false)

/-- The encoded tensor region, as far as the bytes taken in allow. -/
def TxStream.encodedRegion (st : TxStream) (p : TxParcel) (mode : Nat) : List Byte :=
  let c := st.cfg
  let e := hElems p.src
  if e = 0 then []
  else if mode = 3 then (p.src.drop 32).take (denseSize c.srcFmt e)
  else packRegion mode c.wireFmt (st.convert p mode).1

/-- The wire bytes after the header that are available (R118): the encoded region and, once it is whole, pad, sideband and tags. -/
def TxStream.encoded (st : TxStream) (p : TxParcel) (mode : Nat) : List Byte :=
  let ls := denseSize st.cfg.srcFmt (hElems p.src)
  let region := st.encodedRegion p mode
  if p.regionIn st.cfg.srcFmt then
    region ++ zeros (padLen (32 + region.length)) ++ p.src.drop (32 + ls + padLen (32 + ls))
  else region

/-- The wire header of a parcel (R66, R67, R69, R114). -/
def TxStream.wireHeader (st : TxStream) (id : Nat) (p : TxParcel) (mode : Nat) : List Byte :=
  let c := st.cfg
  let b := p.src
  let e := hElems b
  let len := if e = 0 then 0 else regionLen mode c.srcFmt c.wireFmt e (if mode = 1 then (st.convert p mode).1 else [])
  let outer :=
    if isPerTensor c.wireFmt then (if c.histScaled then outerWord p.kOut else hOuter b) else 0x3F800000
  let host := match p.source with
    | .host _ => true
    | _ => false
  let flags := (hFlags b &&& 0x023F) + 64 * b2n host + 128 * b2n (p.cold && e != 0) + 256 * b2n (st.transcoded && mode != 3)
  toLe 2 (id + st.cls * 4096 + b2n (hAtomic b) * 32768) ++ slice b 2 6
    ++ toLe 1 ((byteAt b 8 &&& 3) + 4 * mode + 16 * p.rnd) ++ toLe 1 (c.wireFmt + 16 * c.dlvFmt) ++ slice b 10 6
    ++ toLe 4 outer ++ toLe 4 (if len ≥ 2 ^ 32 - 1 then 2 ^ 32 - 1 else len) ++ slice b 24 2 ++ toLe 2 flags
    ++ toLe 2 p.pseq ++ zeros 2

/-- The delivered offset after `w` wire bytes of a parcel with header `hdr`, formats `wire` (SRC_FMT for OPAQUE) and `dlv` (R120). -/
def offsetAfter (src wire dlv : Nat) (hdr w : List Byte) : Nat :=
  let mode := hCodec hdr
  let f := if mode = 3 then src else wire
  let e := hElems hdr
  let body := w.drop 32
  if w.length ≤ 32 ∨ e = 0 then deliveredOffset dlv e 0 w.length 0 (w.length - 32)
  else
    let d := decodeRegion mode f e body
    if d.elems.length < e then deliveredOffset dlv e d.elems.length 32 body.length 0
    else
      let pad := padLen (32 + d.used)
      deliveredOffset dlv e d.elems.length 32 body.length (body.length - d.used - pad)

/-- A flit before it gets its strand, sequence number and credits (R265). -/
structure FlitOut where
  type    : Nat
  cls     : Nat
  stream  : Nat
  payload : List Byte
  first   : Bool := false
  last    : Bool := false
  abort   : Bool := false
  deriving DecidableEq, Repr

/-- The largest number of bytes, at most `n`, after which the flit's charge is at most 64 cells (R121). -/
def cutAtCharge (off : Nat → Nat) (d0 : Nat) : Nat → Nat
  | 0 => 0
  | n + 1 => if cellsOf (off (n + 1)) - cellsOf d0 ≤ 64 then n + 1 else cutAtCharge off d0 n

/-- One 96-byte record of a scale image (R153). -/
def scaleRecord (id : Nat) (inbound : Bool) (c : StreamCfg) (n : NumCtx) : List Byte :=
  toLe 2 (id + 4096 * b2n inbound) ++ toLe 2 c.stepStage ++ toLe 2 (n.stepVer.getD 0)
    ++ toLe 1 ((if c.histScaled then n.histValid else 0) + 32 * b2n n.stepVer.isSome) ++ toLe 1 n.histNext ++ toLe 4 n.lfsr ++ toLe 4 n.stepMax
    ++ (if c.histScaled then (n.hist.map (toLe 4)).flatten else zeros 64) ++ toLe 2 n.runFrac ++ toLe 2 n.runZero ++ toLe 4 n.stepNonzero
    ++ toLe 4 n.stepFlushed
    ++ toLe 4 (b2n n.zeroSoFar + 2 * b2n n.bwdSeen)

/-- The record of an open context, by direction (inbound first component) and key. -/
def State.saveRecord (s : State) (x : Bool × Nat) : Option (List Byte) :=
  if x.1 then (lookupKey x.2 s.rx).map (fun st => scaleRecord st.cfg.id true st.cfg st.num)
  else (lookupKey x.2 s.tx).map (fun st => scaleRecord x.2 false st.cfg st.num)

/-- A parcel of a context has been converted: a scale image that waits for it takes its record (R153). -/
def State.saveTake (s : State) (x : Bool × Nat) : State :=
  { s with saves := s.saves.map (fun (v : ScaleSave) =>
    if v.left.head? = some x then { v with left := v.left.tail, recs := v.recs ++ (s.saveRecord x).toList } else v) }

/-- Slots 0 to 9 (R94), 10 to 19 (R127), 20 to 33 (R171), then SKEW, DRAW_SKIP and the flags word. -/
def numSlots (n : NumCtx) : List Nat :=
  [n.conv, n.nonzero, n.flushed, n.sat, n.nanIn, n.strictNan, n.mxClamp, n.steps, n.zeroSteps, n.dispatchIdle,
   n.runFrac, n.runZero, n.histValid, n.lfsr]

/-- The flags word of the counter record. -/
def numFlags (c : StreamCfg) (n : NumCtx) (tx stall : Bool) : Nat :=
  b2n n.strictHit + 2 * b2n n.flushAlarm + 4 * b2n n.frac + 8 * b2n n.zero + 16 * b2n (tx && n.cold c) + 32 * b2n stall

/-- The counter record of an outbound context. -/
def TxStream.counterRecord (t : TxStream) : List Byte :=
  let a := [t.parcelsTx, t.flitsTx, 0, t.malformed, t.refused, t.headerErr, 0, 0, 64 - t.pairCred, t.credits]
  let b := [t.modeOpq, t.modeDns, t.modeS24, t.modeSpr, t.srcBytes, t.wireBytes, t.early, t.s24Miss, t.laSkip, 0]
  padTo 320 (((a ++ b ++ numSlots t.num ++ [0, 0, numFlags t.cfg t.num true false]).map (toLe 8)).flatten)

/-- The counter record that a query asked for is written to host memory (R257). -/
def State.writeQuery (s : State) (desc : Nat) (record : List Byte) : State :=
  match s.desc? desc with
  | some d => s.hmWriteReq (field d.entry 0x18 8) record (.record desc)
  | none => s

/-- A parcel of an outbound stream has ended: the queries that wait for it are answered (R257). -/
def State.queryTake (s : State) (id : Nat) : State :=
  let mine := s.queries.filter (fun q => q.2 == (false, id))
  if mine.isEmpty then s
  else match lookupKey id s.tx with
  | some st => forEach mine (fun q s => s.writeQuery q.1 st.counterRecord) { s with queries := s.queries.filter (fun q => q.2 != (false, id)) }
  | none => s

/-- Source tensor bytes that have been taken in of a parcel (R127). -/
def TxStream.took (st : TxStream) (p : TxParcel) : Nat := min (p.src.length - 32) (denseSize st.cfg.srcFmt (hElems p.src))

/-- A parcel leaves its stream before its first flit: the source bytes taken in of it are counted (R127). -/
def TxStream.untake (st : TxStream) (p : TxParcel) : TxStream :=
  if p.started then st else { st with srcBytes := wrapAdd 48 st.srcBytes (st.took p) }

/-- The tally and rounding state of a parcel that leaves the stream, whole or cut short, enter the stream (R117, R127, R149, R155): it takes
one draw for each of its elements (R138), and adds the source bytes taken in and the `wireLen` encoded bytes sent. Counters and rounding
state move here and not within the parcel (DESIGN CHOICE). -/
def State.commitParcel (s : State) (id : Nat) (st : TxStream) (p : TxParcel) (mode wireLen : Nat) : State :=
  let c := st.cfg
  let e := hElems p.src
  let r := st.convert p mode
  let drawn := if takesDraws c.srcFmt st.own p.rnd then (if p.regionIn c.srcFmt then r.2.2 else lfsrRun (16 * e) st.num.lfsr)
    else st.num.lfsr
  let es := st.inHand p
  let draws := e != 0 && mode != 3
  let converts := !es.isEmpty && mode != 3
  let (inj, s) := if converts then s.fire 0x1B id else (false, s)
  let tally : NumCount := if converts then r.2.1 else {}
  let tally := if inj then { tally with nanIn := tally.nanIn + 1, strictNan := tally.strictNan + b2n c.strict } else tally
  let n := st.num.count tally
  let n := { n with
    lfsr := if draws then drawn else n.lfsr, converted := n.converted || converts,
    stepConv := n.stepConv || (converts && c.srcFmt != st.own),
    stepMax := if converts && c.histScaled then
        max n.stepMax (largestFp32 c.srcFmt (outerExp (hOuter p.src)) es) else n.stepMax }
  let one (k : Nat) : Nat := b2n (mode == k)
  let st1 := { st with
    num := n, modeDns := wrapAdd 32 st.modeDns (one 0), modeSpr := wrapAdd 32 st.modeSpr (one 1),
    modeS24 := wrapAdd 32 st.modeS24 (one 2), modeOpq := wrapAdd 32 st.modeOpq (one 3),
    srcBytes := wrapAdd 48 st.srcBytes (st.took p), wireBytes := wrapAdd 48 st.wireBytes wireLen }
  ((s.marked inj ((s.setTx id st1).numSticky id tally)).saveTake (false, id)).queryTake id

/-- Drops one binding (R215); REFS counts the bindings. -/
def State.dropBinding (s : State) (stage mb : Nat) : State :=
  { s with bindings := s.bindings.filter (fun b => !(b.stage == stage && b.mb == mb)) }

/-- What follows the last flit of a parcel besides the stream's own counters. -/
def State.parcelSent (s : State) (p : TxParcel) (mode : Nat) : State :=
  let s1 := match p.source with
    | .host d => s.complete d 0 (toLe 2 p.pseq ++ toLe 1 mode)
    | _ => s
  match p.drops with
  | some (stage, mb) => s1.dropBinding stage mb
  | none => s1

/-- A parcel of which flits have been sent ends before its last byte (R90, R302): what it has converted and sent is counted (R127). -/
def State.cutParcel (s : State) (id : Nat) (st : TxStream) (p : TxParcel) : State :=
  let mode := p.mode.getD 0
  s.commitParcel id st p mode (min (p.sent - 32) (st.encodedRegion p mode).length)

/-- The abort flit of a parcel already begun (R302): it takes no credit. -/
def State.abortFlit (s : State) (id : Nat) (st : TxStream) (p : TxParcel) (rest : List TxParcel) : FlitOut × State :=
  (⟨2, st.cls, id, [], false, true, true⟩, s.cutParcel id { st with queue := rest, flitsTx := wrapAdd 48 st.flitsTx 1 } p)

/-- The next flit of an F, O or D stream, and the state once it has been sent; none while the stream has no flit ready (R75 to R82,
R111, R118). -/
def State.parcelFlit (s0 : State) (id : Nat) : Option (FlitOut × State) :=
  let s := s0.prepareHead id
  match s.tx? id with
  | none => none
  | some st =>
    match st.queue with
    | [] => none
    | p0 :: rest =>
      let c := st.cfg
      if p0.abort && p0.started then some (s.abortFlit id st p0 rest)
      else if p0.src.length < 32 ∨ p0.waitsLa ∨ (p0.held != 0 && !p0.laDone) ∨
          (p0.cold && !p0.regionIn c.srcFmt && st.cls != 1 && denseSize c.srcFmt (hElems p0.src) ≤ 524288) then none
      else
        let mb := hMb p0.src
        let dir := hDir p0.src
        let opens := !p0.started && !st.openPairs.contains (mb, dir)
        let atomic := hAtomic p0.src
        let mode := p0.mode.getD (st.chooseMode p0 (p0.held != 0)).1
        let p := if p0.started then p0 else { p0 with pseq := st.pseq, mode := some mode }
        let hdr := if p.started then p.hdr else st.wireHeader id p mode
        let w := hdr ++ st.encoded p mode
        let n0 := min 240 (w.length - p.sent)
        let whole := p.complete && p.sent + n0 == w.length
        if n0 = 0 ∨ (n0 < 240 ∧ !whole ∧ !p.idleEnd) ∨ (opens ∧ st.pairCred = 0) then none
        else
          let off (n : Nat) : Nat := offsetAfter c.srcFmt c.wireFmt c.dlvFmt hdr (w.take (p.sent + n))
          let n := if atomic then n0 else cutAtCharge off p.dOff n0
          let d1 := off n
          let charge :=
            if atomic then (if p.started then 0 else cellsOf (deliveredSize c.dlvFmt p.src))
            else cellsOf d1 - cellsOf p.dOff
          if st.credits < charge then none
          else
            let last := p.complete && p.sent + n == w.length
            let pairs0 := if opens then st.openPairs ++ [(mb, dir)] else st.openPairs
            let pairs := if !p.started && hMbEnd p.src then pairs0.filter (· != (mb, dir)) else pairs0
            let st1 := { st with
              credits := st.credits - charge, pairCred := if opens then st.pairCred - 1 else st.pairCred, openPairs := pairs,
              pseq := if p.started then st.pseq else wrapAdd 16 st.pseq 1, flitsTx := wrapAdd 48 st.flitsTx 1,
              early := wrapAdd 32 st.early (b2n (n < n0)),
              queue := if last then rest else
                { p with started := true, hdr := hdr, sent := p.sent + n, dOff := d1, idleEnd := false } :: rest,
              parcelsTx := if last then wrapAdd 32 st.parcelsTx 1 else st.parcelsTx }
            let flit : FlitOut := ⟨if p.started then 2 else 1, st.cls, id, (w.drop p.sent).take n, !p.started, last, false⟩
            let s1 := if last then
                (s.commitParcel id st1 p mode (st.encodedRegion p mode).length).parcelSent p mode
              else s.setTx id st1
            some (flit, s1)

/-- A flit is the last of a packet of this P stream. -/
def lastPass (id : Nat) (b : List Byte) : Bool :=
  let w := field b 0 8
  bits w 3 0 == 3 && bits w 18 7 == id && bit w 28

/-- Packets of a P stream whose last flit has been sent and not acknowledged (R499). -/
def State.passUnacked (s : State) (id : Nat) : Nat :=
  (s.strands.map (fun (x : Strand) =>
    countWhere (fun (f : SentFlit) => lastPass id f.body) (x.link.replay ++ (x.link.carryOut.map (fun c => c.left)).flatten))).foldl (· + ·) 0

/-- The next flit of a P stream (R88): a packet starts at a fresh cell, and each flit takes one. A change of WEIGHT waits for a packet's
first flit (R58). -/
def State.passFlit (s : State) (id : Nat) : Option (FlitOut × State) :=
  match s.tx? id with
  | none => none
  | some st0 =>
    match st0.ptQueue with
    | [] => none
    | (bs, off, _) :: rest =>
      let st := if off = 0 then st0.applyModify else st0
      if st.credits = 0 then none
      else
        let n := min 240 (bs.length - off)
        let last := off + n == bs.length
        some (⟨3, 3, id, slice bs off n, off == 0, last, false⟩,
          s.setTx id { st with
            credits := st.credits - 1, flitsTx := wrapAdd 48 st.flitsTx 1,
            ptSent := if last then st.ptSent.drop (st.ptSent.length - s.passUnacked id) ++ [bs.take 16] else st.ptSent,
            ptQueue := if last then rest else (bs, off + n, true) :: rest,
            parcelsTx := if last then wrapAdd 32 st.parcelsTx 1 else st.parcelsTx })

/-! ## Waiting parcels (R80, R82, R185) -/

/-- Rows of a SOURCE stream that are kept for the combine. -/
def TxStream.keptRows (st : TxStream) : Nat := (st.kept.map (fun k => k.marks.length)).foldl (· + ·) 0

/-- The head parcel of a SOURCE stream waits: its charge does not fit the credits, the kept rows are too many, or no pair credit is left. -/
def TxStream.scatterWaits (st : TxStream) (p : TxParcel) : Bool :=
  sourceCharge st.cfg p.src > st.credits || st.keptRows + hTags p.src > 4096 ||
    (!st.openPairs.contains (hMb p.src, hDir p.src) && st.pairCred == 0)

/-- The head parcel of a stream waits for credits or for a pair slot: with all of them it would have a flit ready. -/
def State.creditWaits (s : State) (id : Nat) : Bool :=
  match s.tx? id with
  | none => false
  | some st =>
    match st.queue with
    | [] => false
    | p :: _ =>
      if st.cfg.dispRole = 1 then p.complete && st.scatterWaits p
      else (s.parcelFlit id).isNone && ((s.setTx id { st with credits := st.capacity, pairCred := 64 }).parcelFlit id).isSome

/-- A parcel of this port that arrived before `arrival` waits for credits or for a pair slot: later ones wait behind it (R80). -/
def State.portBlocks (s : State) (port arrival : Nat) : Bool :=
  s.tx.any (fun t => t.2.queue.any (fun p => p.source == .station port && p.arrival < arrival) && s.creditWaits t.1)

/-- The head parcel of a stream waits behind an earlier one of its port. -/
def State.headBlocked (s : State) (st : TxStream) : Bool :=
  match st.queue with
  | [] => false
  | p :: _ =>
    match p.source with
    | .station port => s.portBlocks port p.arrival
    | _ => false

/-- The next flit of any stream that may send: it is open, not fenced, no SOURCE stream (R175), and waits behind no other. -/
def State.nextFlit (s : State) (id : Nat) : Option (FlitOut × State) :=
  match s.tx? id with
  | none => none
  | some st =>
    let may := match st.phase with
      | .opening _ => false
      | _ => true
    if !may || st.fence.isSome || st.cfg.dispRole == 1 || s.headBlocked st then none
    else if st.cls = 3 then s.passFlit id else s.parcelFlit id

/-! ## Lookahead (R112, R151) -/

/-- What the parcels that are coming in on the ports of a slice have got of its lookahead buffer. -/
def State.portSeeks (s : State) (slice : Nat) : List Seek :=
  (s.ports.zipIdx.filter (fun x => x.2 % 4 == slice)).filterMap (fun x => x.1.inSeek)

/-- Bytes of a slice's lookahead buffer that are held. -/
def State.lookaheadUsed (s : State) (slice : Nat) : Nat :=
  (s.tx.map (fun t => if s.sliceOf t.2.cfg.localStn = slice then
    (t.2.queue.map (·.held)).foldl (· + ·) 0 else 0)).foldl (· + ·) 0 + ((s.portSeeks slice).map (·.held)).foldl (· + ·) 0

/-- A parcel on this stream seeks lookahead (R112). -/
def StreamCfg.seeksLookahead (c : StreamCfg) : Bool := !bit c.codecCtl 0 || bit c.codecCtl 1

/-- A cold parcel of this stream waits for lookahead (R151, rule 1). -/
def TxStream.mustHold (st : TxStream) (region : Nat) : Bool :=
  st.num.cold st.cfg && st.cls != 1 && region ≤ 524288

/-- Some cold parcel of the slice already waits for space. -/
def State.someWaits (s : State) (slice : Nat) : Bool :=
  s.tx.any (fun t => s.sliceOf t.2.cfg.localStn == slice && t.2.queue.any (·.waitsLa)) || (s.portSeeks slice).any (·.waits)

/-- The source region that a parcel's first bytes announce. -/
def TxStream.regionOf (t : TxStream) (b : List Byte) : Nat := if b.length < 32 then 0 else denseSize t.cfg.srcFmt (hElems b)

/-- What a parcel with header `b` gets when its first bytes arrive. -/
def State.seek (s : State) (st : TxStream) (b : List Byte) : Seek :=
  let slice := s.sliceOf st.cfg.localStn
  let region := st.regionOf b
  let fits := region ≤ 1048576 - s.lookaheadUsed slice && !s.someWaits slice
  let holds : Seek := ⟨region, false, false, s.arrivals⟩
  if region = 0 then { holds with held := 0 }
  else if st.mustHold region then (if fits then holds else { holds with held := 0, waits := true })
  else if !st.cfg.seeksLookahead then { holds with held := 0 }
  else if region ≤ 524288 && fits then holds
  else { holds with held := 0, skips := true }

/-- The parcels of a stream that must now hold lookahead space and have none wait for it, those that are still coming in on a port too
(R151). -/
def State.seekQueued (s : State) (id : Nat) : State :=
  match s.tx? id with
  | none => s
  | some t =>
    let must (b : List Byte) : Bool := t.regionOf b != 0 && t.mustHold (t.regionOf b)
    let s1 := s.setTx id { t with queue := t.queue.map (fun (p : TxParcel) =>
      if !p.started && p.held == 0 && must p.src then { p with waitsLa := true } else p) }
    { s1 with ports := s1.ports.map (fun (q : Port) => { q with inSeek := q.inSeek.map (fun k =>
      if bits q.inSide 17 6 == id && k.held == 0 && must q.inBytes then { k with waits := true, skips := false } else k) }) }

/-- The parcels of a slice that wait for lookahead space: arrival order, stream and region (R151). -/
def State.laWaits (s : State) (slice : Nat) : List (Nat × Nat × Nat) :=
  let size (id : Nat) (b : List Byte) : Nat := match s.tx? id with
    | some t => denseSize t.cfg.srcFmt (hElems b)
    | none => 0
  let queued := ((s.tx.filter (fun t => s.sliceOf t.2.cfg.localStn == slice)).map (fun t =>
    (t.2.queue.filter (fun (p : TxParcel) => p.waitsLa)).map (fun (p : TxParcel) => (p.arrival, t.1, size t.1 p.src)))).flatten
  let coming := (s.ports.zipIdx.filter (fun x => x.2 % 4 == slice)).filterMap (fun x => match x.1.inSeek with
    | some k => if k.waits then some (k.arrival, bits x.1.inSide 17 6, size (bits x.1.inSide 17 6) x.1.inBytes) else none
    | none => none)
  sortBy (fun (a b : Nat × Nat × Nat) => a.1 ≤ b.1) (queued ++ coming)

/-- The first waiting parcel takes its space, if it is free (R151): it is queued on its stream, or still coming in on its port. -/
def State.laGrant (s : State) (slice : Nat) : State :=
  match s.laWaits slice with
  | [] => s
  | (arrival, id, region) :: _ =>
    if region + s.lookaheadUsed slice ≤ 1048576 then
      let s1 := s.modTx id (fun (t : TxStream) => { t with queue := t.queue.map (fun (p : TxParcel) =>
        if p.waitsLa && p.arrival == arrival then { p with waitsLa := false, held := region } else p) })
      { s1 with ports := s1.ports.map (fun (q : Port) => { q with inSeek := q.inSeek.map (fun k =>
        if k.waits && k.arrival == arrival then { k with waits := false, held := region } else k) }) }
    else s

/-- The stream as it will be once its head parcel has left it. -/
def State.sendHead (s0 : State) (id : Nat) : State :=
  let s := s0.prepareHead id
  match s.tx? id with
  | none => s
  | some st =>
    match st.queue with
    | [] => s
    | p :: rest => s.commitParcel id { st with queue := rest } p (p.mode.getD (st.chooseMode p (p.held != 0)).1) 0

/-- The choice of a mode for parcel `k` of a stream's queue misses STRUCT24 (R111, R113); the parcels before it are converted first. -/
def State.laMiss (s : State) (id k : Nat) : Bool :=
  let t := (forRange k (fun _ s => s.sendHead id) s).prepareHead id
  match t.tx? id with
  | none => false
  | some st =>
    match st.queue with
    | [] => false
    | p :: _ => (st.chooseMode p (p.held != 0)).2

/-- The mode of parcel `k`, wholly in lookahead, is chosen: a miss is counted (R111, R127). -/
def State.laChoose (s : State) (id k : Nat) : State :=
  s.modTx id (fun (t : TxStream) => { t with s24Miss := satAdd 16 t.s24Miss (b2n (s.laMiss id k)) })

/-- The oldest parcel of a queue whose whole region has come into lookahead and whose mode has not been chosen. -/
def laReady (src : Nat) (q : List TxParcel) : Option Nat := q.findIdx? (fun p => p.held != 0 && !p.laDone && p.regionIn src)

/-- LOOKAHEAD_DONE: that parcel's mode is chosen (R112). -/
def State.laDone (s : State) (id : Nat) : State :=
  match (s.tx? id).bind (fun t => laReady t.cfg.srcFmt t.queue) with
  | none => s
  | some k => (s.laChoose id k).modTx id (fun (t : TxStream) => { t with
      queue := modAt (fun (p : TxParcel) => { p with laDone := true }) k t.queue })

/-- The modes of the parcels held in lookahead are chosen again (R113). -/
def State.laRechoose (s : State) (id : Nat) : State :=
  match s.tx? id with
  | none => s
  | some st => forEach st.queue.zipIdx (fun x s => if x.1.laDone && !x.1.started then s.laChoose id x.2 else s) s

end Sys2Proof.Machine
end

