-- ==== Sys2Proof/Machine/RxBase.lean ====
section
/-! DEFINITION. The receiving side of a stream: contexts, cells, pair slots, the delivered bytes of a parcel, and how a parcel ends
(R72 to R92, R116 to R120). -/

namespace Sys2Proof.Machine

/-! ## Contexts -/

/-- Key of an inbound context: a looped stream's context has its own numbers, since the id spaces of the two directions differ. -/
def rxKey (looped : Bool) (id : Nat) : Nat := if looped then 4096 + id else id

def State.rx? (s : State) (key : Nat) : Option RxStream := lookupKey key s.rx
def State.setRx (s : State) (key : Nat) (st : RxStream) : State := { s with rx := insertKey key st s.rx }
def State.modRx (s : State) (key : Nat) (f : RxStream → RxStream) : State :=
  match s.rx? key with
  | some st => s.setRx key (f st)
  | none => s

/-- The inbound context that a station's pop or an INBOUND field of `id` names: the linked one, else the looped one. -/
def State.rxOf (s : State) (id : Nat) : Option (Nat × RxStream) :=
  match s.rx? id with
  | some st => some (id, st)
  | none => (s.rx? (4096 + id)).map (fun st => (4096 + id, st))

/-- Capacity C of a buffer (R73). -/
def capacityOf (pages : Nat) : Nat := 4096 * pages / 240 + 1

/-- The fixed station-to-station latency holds for a stream (R322): LOCKED_OK, with NO_SPARSE set and S24_EN clear. -/
def State.fixedLat (s : State) (cls : Nat) (c : StreamCfg) (looped : Bool) : Bool :=
  s.guard.lockedOk && cls == 1 && !looped && bit c.codecCtl 0 && !bit c.codecCtl 1

/-- A parcel as the O channel may show it at an LCLK index: without the bytes that the fixed latency still holds (R322). -/
def RxParcel.shown (p : RxParcel) (now : Nat) : RxParcel :=
  match p.ripen.find? (fun x => now < x.2) with
  | none => p
  | some x => { p with avail := p.avail.take x.1, complete := false }

/-! ## Credits (R77, R82, R292) -/

/-- Returns cells to the sender: due for a linked stream, at once for a looped one. -/
def State.returnCells (s : State) (key n : Nat) : State :=
  match s.rx? key with
  | none => s
  | some st =>
    let s1 := s.setRx key { st with
      cells := st.cells - n, dueCells := if st.looped then st.dueCells else st.dueCells + n }
    if st.looped then
      s1.modTx st.cfg.id (fun (t : TxStream) => { t with credits := min t.capacity (t.credits + n) })
    else s1

/-- Returns one pair credit. -/
def State.returnPair (s : State) (key : Nat) : State :=
  match s.rx? key with
  | none => s
  | some st =>
    if st.looped then s.modTx st.cfg.id (fun (t : TxStream) => { t with pairCred := min 64 (t.pairCred + 1) })
    else s.setRx key { st with duePairs := st.duePairs + 1 }

/-! ## Pair slots (R81) -/

/-- Frees the slots that are ending and that no parcel needs any more. -/
def State.freeSlots (s : State) (key : Nat) : State :=
  match s.rx? key with
  | none => s
  | some st =>
    let free := st.pairs.filter (fun p => p.ending && !(st.parcels.any (fun q => !q.gone && q.checked && q.slot == p.id)))
    let keep := st.pairs.filter (fun p => !(p.ending && !(st.parcels.any (fun q => !q.gone && q.checked && q.slot == p.id))))
    forEach free (fun _ s => s.returnPair key) (s.setRx key { st with pairs := keep })

/-- The slot that a parcel of a pair joins, and the slots after it; the last parcel of its pair marks the slot as ending. -/
def RxStream.joinSlot (st : RxStream) (mb dir : Nat) (mbEnd : Bool) : Nat × RxStream :=
  match st.pairs.find? (fun p => p.mb == mb && p.dir == dir && !p.ending) with
  | some p =>
    (p.id, { st with pairs := st.pairs.map (fun (q : PairSlot) =>
      if q.id = p.id then { q with ending := mbEnd } else q) })
  | none => (st.nextSlot, { st with
      pairs := st.pairs ++ [⟨st.nextSlot, mb, dir, mbEnd⟩], nextSlot := st.nextSlot + 1 })

/-- A discarded parcel with MB_END closes its pair as the sender closed it (R81). -/
def State.closePair (s : State) (key mb dir : Nat) : State :=
  match s.rx? key with
  | none => s
  | some st =>
    if st.pairs.any (fun p => p.mb == mb && p.dir == dir && !p.ending) then
      (s.setRx key { st with pairs := st.pairs.map (fun (q : PairSlot) =>
        if q.mb = mb ∧ q.dir = dir then { q with ending := true } else q) }).freeSlots key
    else s.returnPair key

/-! ## Parcels -/

def RxStream.parcel? (st : RxStream) (uid : Nat) : Option RxParcel := st.parcels.find? (fun p => p.uid == uid)

/-- Nothing more of the parcel is taken in: it is discarded, or it has ended. -/
def RxParcel.lost (p : RxParcel) : Bool := p.gone || p.ended.isSome

def State.modParcel (s : State) (key uid : Nat) (f : RxParcel → RxParcel) : State :=
  s.modRx key (fun (st : RxStream) => { st with
    parcels := st.parcels.map (fun (p : RxParcel) => if p.uid = uid then f p else p) })

/-- Cells of a parcel all of whose bytes are written: they lie below `upto`, and no outstanding write reaches into them. -/
def RxParcel.writtenCells (p : RxParcel) (upto : Nat) : Nat :=
  countWhere (fun i => 240 * (i + 1) ≤ upto && p.outst.all (fun w => w.2.2 ≤ 240 * i || 240 * (i + 1) ≤ w.2.1)) (List.range p.cells)

/-- The parts of a write of `n` bytes from the delivered offset `from_` on, as `outst` lists them. -/
def outstanding (from_ n : Nat) : List (Nat × Nat × Nat) :=
  (List.range (ceilDiv n 4096)).map (fun i => (4096 * i, from_ + 4096 * i, from_ + min n (4096 * (i + 1))))

/-- Removes a parcel; its remaining cells return, and its slot may be freed. -/
def State.dropParcel (s : State) (key uid : Nat) : State :=
  match (s.rx? key).bind (fun st => st.parcel? uid) with
  | none => s
  | some p =>
    ((s.returnCells key (p.cells - p.returned)).modRx key (fun (st : RxStream) => { st with
      parcels := st.parcels.filter (fun q => q.uid != uid) })).freeSlots key

/-- Discards a parcel that may still be arriving: its cells return, and what arrives of it later is discarded too. A complete parcel is
removed. -/
def State.discardParcel (s : State) (key uid : Nat) : State :=
  match (s.rx? key).bind (fun st => st.parcel? uid) with
  | none => s
  | some p =>
    if p.complete then s.dropParcel key uid
    else
      ((s.returnCells key (p.cells - p.returned)).modParcel key uid (fun (q : RxParcel) => { q with
        gone := true, returned := q.cells })).freeSlots key

/-- A write of a parcel's bytes is acknowledged (R165, R170, R203): the cells whose bytes are all written return, and after the last write of a
whole parcel the parcel goes. -/
def State.pieceAcked (s : State) (key uid off : Nat) : State :=
  let s1 := s.modParcel key uid (fun (q : RxParcel) => { q with outst := q.outst.filter (fun w => w.1 != off) })
  match (s1.rx? key).bind (fun st => st.parcel? uid) with
  | none => s1
  | some p =>
    if p.gone then s1
    else if p.outst.isEmpty && (p.capture.map (·.whole)).getD true then s1.dropParcel key uid
    else
      let cells := p.writtenCells ((p.capture.map (fun c => if c.whole then 240 * p.cells else c.upto)).getD (240 * p.cells))
      (s1.returnCells key (cells - p.returned)).modParcel key uid (fun (q : RxParcel) => { q with returned := max q.returned cells })

/-- Looped parcels go to the capture buffer (R170). -/
def State.captures (s : State) (st : RxStream) : Bool := st.looped && s.flag 0x4800 1

/-- The hold mark of a parcel that may be delivered: 5 where it is captured instead. -/
def State.freeHold (s : State) (st : RxStream) : Nat := if s.captures st then 5 else 0

/-- The delivered bytes of a parcel that the wire bytes received allow (R116, R120), with the tally and the rounding state. -/
def RxStream.deliver (st : RxStream) (p : RxParcel) : List Byte × NumCount × Nat × List Elem :=
  let c := st.cfg
  let hdr := p.wire.take 32
  let mode := hCodec hdr
  let e := hElems hdr
  let body := p.wire.drop 32
  if p.wire.length < 32 then (p.wire, {}, p.lfsr0, [])
  else if e = 0 then (hdr ++ body, {}, p.lfsr0, [])
  else
    let f := if mode = 3 then c.srcFmt else c.wireFmt
    let d := decodeRegion mode f e body
    let k := outerExp (hOuter hdr)
    let r := convertElems f c.dlvFmt (hRnd hdr) c.strict k k (d.elems.length / 32 + 1) p.lfsr0 d.elems
    let tensor := packDense c.dlvFmt (r.1.length / 32 + 1) r.1
    if d.elems.length ≥ e then
      let used := d.used + padLen (32 + d.used)
      (hdr ++ tensor ++ zeros (padLen (32 + tensor.length)) ++ body.drop used, r.2.1, r.2.2, r.1)
    else
      let off := offsetAfter c.srcFmt c.wireFmt c.dlvFmt hdr p.wire
      (hdr ++ tensor.take (off - 32), r.2.1, r.2.2, r.1)

/-! ## O channel (R31, R33, R85, R90) -/

/-- A side field: STATION, STREAM, SOP, EOP, BYTES, MB, DIR, STATUS (R31). -/
def sideField (stn stream : Nat) (sop eop : Bool) (bytes mb dir status : Nat) : Nat :=
  stn + stream * 2 ^ 6 + b2n sop * 2 ^ 18 + b2n eop * 2 ^ 19 + bytes * 2 ^ 20 + mb * 2 ^ 32 + dir * 2 ^ 48 + status * 2 ^ 56

def State.modPort (s : State) (n : Nat) (f : Port → Port) : State := { s with ports := modAt f n s.ports }

/-- Queues a one-byte beat on a port. -/
def State.answerBeat (s : State) (port side : Nat) : State :=
  s.modPort port (fun p => { p with answers := p.answers ++ [side] })

/-- The receiving station of an inbound stream: the station of REMOTE (R49). -/
def StreamCfg.station (c : StreamCfg) : Nat := c.remote % 64

/-- The port of an inbound stream. -/
def State.rxPort (s : State) (st : RxStream) : Nat := (s.stations.getD st.cfg.station {}).port

/-- The port is delivering this stream's parcel. -/
def State.portBusyWith (s : State) (st : RxStream) (key : Nat) : Bool :=
  (s.ports.getD (s.rxPort st) {}).outOf == some key

/-- The beat on offer at a port is the last of a parcel. -/
def State.lastOffered (s : State) (port key uid : Nat) : Bool :=
  match (s.ports.getD port {}).offer with
  | some b => b.source == some (key, uid) && bit b.side 19
  | none => false

/-- Ends a parcel on the O channel: by a beat without SOP where beats of it have left or one is on offer (R30, R72, R90, R122), and
otherwise it is marked to be ended on its pop. `keep` false: a parcel of which nothing has left is discarded instead. -/
def State.endParcel (s : State) (key uid status : Nat) (keep : Bool) : State :=
  match s.rx? key with
  | none => s
  | some st =>
    match st.parcel? uid with
    | none => s
    | some p =>
      if p.taken > 0 then
        let port := s.rxPort st
        let side := sideField st.cfg.station st.cfg.id false true 1 p.mb p.dir status
        (s.modPort port (fun q => { q with
          outOf := none, answers := if s.lastOffered port key uid then q.answers else side :: q.answers })).discardParcel key uid
      else if keep then
        (s.returnCells key (p.cells - p.returned)).modParcel key uid (fun (q : RxParcel) => { q with
          ended := some status, complete := true, returned := q.cells, hold := 0 })
      else s.discardParcel key uid

/-- The tally of the delivered conversion enters the receiving side, and with `draws` one draw for each element of the parcel (R138, R155).
Only the elements in the first `n` wire bytes are converted. A BWD parcel of which not every element is delivered is no parcel of zeros.
Counters and rounding state move here and not within the parcel (DESIGN CHOICE). -/
def State.commitRxTo (s : State) (key uid n : Nat) (draws : Bool := true) : State :=
  match s.rx? key with
  | none => s
  | some st =>
    match st.parcel? uid with
    | none => s
    | some p =>
      let c := st.cfg
      let hdr := p.wire.take 32
      let e := hElems hdr
      let f := if hCodec hdr = 3 then c.srcFmt else c.wireFmt
      let d := st.deliver { p with wire := p.wire.take n }
      let (inj, s) := if e = 0 then (false, s) else s.fire 0x1B c.id
      let tally := if inj then { d.2.1 with nanIn := d.2.1.nanIn + 1, strictNan := d.2.1.strictNan + b2n c.strict } else d.2.1
      let n := st.num.count tally
      let zeros := d.2.2.2.length == e && d.2.2.2.all (isZeroElem c.dlvFmt)
      let bwd := hDir hdr = 1 && e ≥ 1
      let n := { n with
        lfsr := if draws && takesDraws f c.dlvFmt (hRnd hdr) then lfsrRun (16 * e) p.lfsr0 else n.lfsr,
        converted := n.converted || !d.2.2.2.isEmpty, bwdSeen := n.bwdSeen || bwd, zeroSoFar := n.zeroSoFar && (!bwd || zeros) }
      let s1 := (s.setRx key { st with num := n }).modParcel key uid (fun (q : RxParcel) => { q with
        strictSeen := q.strictSeen || tally.strictNan != 0 })
      (s.marked inj (s1.numSticky c.id tally p.strictSeen)).saveTake (true, key)

/-- All of the parcel's bytes are converted. -/
def State.commitRx (s : State) (key uid : Nat) : State :=
  match (s.rx? key).bind (fun st => st.parcel? uid) with
  | none => s
  | some p => s.commitRxTo key uid p.wire.length

/-- Applies the changes that MODIFY messages have named for the arriving parcel (R58, R139). -/
def State.rxModify (s : State) (key : Nat) (hdr : List Byte) : State :=
  match s.rx? key with
  | none => s
  | some st =>
    let one (t : RxStream) (m : Modify) : RxStream := { t with
      cfg := { t.cfg with
        rnd := if bit m.mask 1 then m.rnd else t.cfg.rnd,
        atomicLimit := if bit m.mask 3 then m.atomicLimit else t.cfg.atomicLimit },
      num := if bit m.mask 1 || bit m.mask 2 then { t.num with lfsr := seedRotl16 m.seed } else t.num }
    let t := (st.modifies.filter (fun (m : Modify) => m.pseq == hPseq hdr)).foldl one st
    s.setRx key { t with modifies := st.modifies.filter (fun (m : Modify) => m.pseq != hPseq hdr) }

/-- The step rule on the receiving side, once per parcel and before it converts (R148, R157, R197). Only the dispatching instance, which opened
the stream, keeps its idle flag. -/
def State.rxStep (s : State) (key : Nat) (hdr : List Byte) : State :=
  match s.rx? key with
  | none => s
  | some st =>
    let c := st.cfg
    let r := stepRule c true (stepIdle c st.watchIdle st.stepTags) hdr st.num
    let alarm := (r.2.2.1 || r.2.2.2) && !c.flushOff
    let n := if alarm then
        { r.1 with flushAlarm := true, frac := r.1.frac || r.2.2.1, zero := r.1.zero || r.2.2.2 } else r.1
    let s1 := s.setRx key { st with
      num := n, stepTags := (if r.2.1 then 0 else st.stepTags) + hTags hdr, watchIdle := st.looped && (r.2.1 || st.watchIdle) }
    if alarm then s1.flushAlarm c.id true r.2.2.1 r.2.2.2 else s1

/-- Discards a parcel: of one that is still arriving, what has come of it is converted, and its draws are taken (R127, R138, R155). -/
def State.abandonParcel (s : State) (key uid : Nat) : State :=
  match (s.rx? key).bind (fun st => st.parcel? uid) with
  | none => s
  | some p => (if p.checked && !p.complete && !p.lost then s.commitRx key uid else s).discardParcel key uid

/-- A received parcel fails a check of R72, R122 or R123: counted, recorded, its cells returned, its pair closed as R81 says. The flit
that fails, which begins after `n` wire bytes, is not converted, and a parcel that R72 discards takes no draw (R138). -/
def State.failFrom (s : State) (key uid code n : Nat) : State :=
  match s.rx? key with
  | none => s
  | some st =>
    match st.parcel? uid with
    | none => s
    | some p =>
      let hdr := p.wire.take 32
      let s1 := if code = 0x0403 then s.modRx key (fun (t : RxStream) => { t with headerErr := satAdd 16 t.headerErr 1 })
        else s.modRx key (fun (t : RxStream) => { t with decodeErr := satAdd 16 t.decodeErr 1 })
      let s2 := s1.raise code st.cfg.id
      let s3 := if p.checked then s2.commitRxTo key uid n (code != 0x0403) else s2
      let s4 := s3.endParcel key uid 0x11 false
      if hMbEnd hdr && p.wire.length ≥ 32 && !p.checked then s4.closePair key (hMb hdr) (hDir hdr) else s4

/-- A received parcel fails a check after all that has arrived of it has been converted. -/
def State.failParcel (s : State) (key uid code : Nat) : State :=
  match (s.rx? key).bind (fun st => st.parcel? uid) with
  | none => s
  | some p => s.failFrom key uid code p.wire.length

end Sys2Proof.Machine
end

