-- ==== Sys2Proof/Machine/Peer.lean ====
section
/-! DEFINITION. What the block knows of its peer (R459 to R471), addresses (R49), and parcels that enter a stream. -/

namespace Sys2Proof.Machine

/-- A field of the peer's identity block (R459); 0 without one. -/
def State.peerField (s : State) (off len : Nat) : Nat := field (s.peerBlock.getD []) off len

/-- Capability word CAPS_Ni of the negotiated record (R467). -/
def State.caps (s : State) (i : Nat) : Nat := field (s.record.getD []) (4 + 4 * i) 4

/-- The peer is at Jezal level 2 (R472). -/
def State.peerLevel2 (s : State) : Bool := s.peerBlock.isSome && s.peerField 2 1 == 2

/-- Release offset K (R314): REPLAY_ALLOW of the negotiated record decides from NEG_DONE on (R471). -/
def State.releaseK (s : State) : Nat :=
  if bit (s.caps 3) 0 || !s.negDone then (if s.build.pers = .V then 24 else 28) else 8

/-- Rows from the grant of a flit to its serialisation row, which its ROW names (R314). -/
def State.grantLead (s : State) : Nat := if s.build.pers = .V then 4 else 8

/-- The station-independent part of this instance's addresses (R49). -/
def State.ownBase (s : State) : Nat :=
  (if s.flag 0x640C 31 then s.fld 0x640C 10 0 else 0) * 2 ^ 21 + s.straps.slotId * 2 ^ 16 + s.build.instanceNo * 2 ^ 13

/-- The same of the peer's: the PACKAGE that its PKG messages carry, SLOT and INSTANCE of its identity block. -/
def State.peerBase (s : State) : Nat :=
  (if s.flag 0x6410 31 then s.fld 0x6410 10 0 else 0) * 2 ^ 21 + bits (s.peerField 4 1) 4 0 * 2 ^ 16 + bits (s.peerField 4 1) 7 5 * 2 ^ 13

/-- A global station address without its reserved bits (R49, R50). -/
def addrBase (a : Nat) : Nat := a - a % 64

/-- The address has no reserved bit set (R50). -/
def addrOk (a : Nat) : Bool := bits a 12 6 == 0

/-- Largest atomic parcel that this instance accepts (R22). -/
def State.atomicMax (s : State) : Nat := min 1048576 (s.build.stagingMiB * 262144)

/-- Strands of the link: the smaller of the two counts once a record or an early identity is held (R458). -/
def State.linkStrands (s : State) : Nat :=
  match s.record with
  | some r => min s.build.strands (byteAt r 1 + 1)
  | none =>
    match s.early with
    | some e => min s.build.strands (byteAt e 6 + 1)
    | none => s.build.strands

/-- Pages that a station's open streams hold (R47, R52). -/
def State.pagesHeld (s : State) (stn : Nat) : Nat :=
  (s.rx.map (fun x => if x.2.cfg.station = stn then x.2.cfg.bufPages else 0)).foldl (· + ·) 0

/-- A strand is FIRED at full width, in the merge (R326). -/
def State.fullWidth (s : State) (i : Nat) : Bool :=
  match s.strands[i]? with
  | some x => x.state == .fired
  | none => false

/-- Queues a management message (R295). -/
def State.pushMsg (s : State) (type : Nat) (body : List Byte) : State :=
  { s with mgmt := s.mgmt ++ [toLe 1 type ++ toLe 1 (body.length / 4) ++ [0, 0] ++ body] }

/-- A parcel enters an outbound stream, with what it got of the lookahead buffer as its first beat arrived, or seeking now (R112, R151). -/
def State.enqueue (s : State) (id : Nat) (p : TxParcel) (sought : Option Seek := none) : State :=
  match s.tx? id with
  | none => s
  | some st =>
    let la := sought.getD (s.seek st p.src)
    { s with arrivals := s.arrivals + b2n sought.isNone }.setTx id { st with
      queue := st.queue ++ [{ p with held := la.held, waitsLa := la.waits, arrival := la.arrival }],
      laSkip := satAdd 16 st.laSkip (b2n la.skips) }

end Sys2Proof.Machine
end

