-- ==== Sys2Proof/Machine/Shelves.lean ====
section
/-! DEFINITION. Shelves, bindings, fetches and fills (R201 to R218, R233, R234). -/

namespace Sys2Proof.Machine

/-! ## The table -/

/-- The shelf table can serve here: BASE role and a table in the build (R19, R609). -/
def State.hasShelves (s : State) : Bool := s.role == .base && s.build.shelves != 0

def State.shelf (s : State) (i : Nat) : Shelf := s.shelves.getD i {}
def State.modShelf (s : State) (i : Nat) (f : Shelf → Shelf) : State := { s with shelves := modAt f i s.shelves }

/-- REFS: bindings to a shelf (R204). -/
def State.refs (s : State) (i : Nat) : Nat := countWhere (fun b => b.shelf == i) s.bindings

/-- REL_MIN (R233). -/
def State.relMin (s : State) : Nat := s.fld 0x5800 2 0

/-- `a` is newer than `b` (R205). -/
def newer (a b : Nat) : Bool :=
  let d := (a + 65536 - b) % 65536
  1 ≤ d && d ≤ 32767

/-- Indexes of shelves that satisfy a test. -/
def State.shelvesWhere (s : State) (f : Shelf → Bool) : List Nat :=
  (s.shelves.zipIdx.filter (fun p => f p.1)).map (·.2)

/-- CURRENT shelf of a stage. -/
def State.currentOf (s : State) (stage : Nat) : Option Nat :=
  (s.shelvesWhere (fun h => h.state != .free && h.current && h.stage == stage)).head?

/-- The shelf of (STAGE, VERSION) that is not FREE. -/
def State.shelfOf (s : State) (stage version : Nat) : Option Nat :=
  (s.shelvesWhere (fun h => h.state != .free && h.stage == stage && h.version == version)).head?

/-- Two ranges overlap. -/
def overlap (b1 l1 b2 l2 : Nat) : Bool := b1 < b2 + l2 && b2 < b1 + l1

/-- A range overlaps an open accumulation region (R158). -/
def State.hitsRegion (s : State) (base len : Nat) : Bool :=
  s.regions.any (fun r => overlap base len r.2.base (4 * r.2.elems * r.2.slots))

/-- A base-die range as R204 requires. -/
def rangeLegal (base len : Nat) : Bool :=
  base % 512 == 0 && len % 512 == 0 && len != 0 && base + len ≤ 2 ^ 48

/-! ## SHELF_OPEN (R207, R208) -/

/-- Fields of a SHELF_OPEN entry. -/
def opShelf (e : List Byte) : Nat := byteAt e 8
def opFmt (e : List Byte) : Nat := bits (byteAt e 9) 3 0
def opStage (e : List Byte) : Nat := field e 0xA 2
def opVersion (e : List Byte) : Nat := field e 0xC 2
def opWaitMs (e : List Byte) : Nat := field e 0xE 2
def opBase (e : List Byte) : Nat := field e 0x10 8
def opLen (e : List Byte) : Nat := field e 0x18 8

/-- The shelves that block a SHELF_OPEN (R208); an entry that waits for a named shelf is also blocked while that shelf is taken. -/
def State.openBlockers (s : State) (e : List Byte) : List Nat :=
  let used := s.shelvesWhere (fun h => h.state != .free)
  let named := opShelf e
  let full := if named = 0xFF then (if used.length = s.shelves.length then used else []) else used.filter (· == named)
  let stage := s.shelvesWhere (fun h => h.state != .free && h.stage == opStage e)
  let covers := s.shelvesWhere (fun h => h.state != .free && overlap h.base h.len (opBase e) (opLen e))
  full ++ (if stage.length ≥ 4 then stage else []) ++ covers

/-- The status and blocking shelf of a SHELF_OPEN that ends unserved (R208). -/
def State.openRefusal (s : State) (bl : List Nat) : Nat × Nat :=
  let unsafe_ (i : Nat) : Bool :=
    let h := s.shelf i
    h.state == .committed && !h.current && s.refs i == 0 && h.level < s.relMin
  let busy (i : Nat) : Bool := s.refs i != 0 || (s.shelf i).state == .drawing
  match bl.find? unsafe_ with
  | some i => (0x33, i)
  | none => match bl.find? busy with
    | some i => (0x32, i)
    | none => (0x12, bl.headD 0)

/-- Takes the entry: the shelf becomes FILLING (R206). -/
def State.takeShelf (s : State) (desc : Nat) (e : List Byte) : State :=
  let i := if opShelf e = 0xFF then (s.shelvesWhere (fun h => h.state == .free)).headD 0 else opShelf e
  (s.modShelf i (fun _ => {
    state := .filling, stage := opStage e, version := opVersion e, fmt := opFmt e, base := opBase e, len := opLen e })).complete
    desc 0 (toLe 1 i)

/-- Serves the waiting SHELF_OPENs in submission order (R208). DESIGN CHOICE: the checks of R207 were made at acceptance and are not made
again, so that two waiting SHELF_OPENs of one STAGE and VERSION both get a shelf. -/
def State.serveShelfWaits (s : State) : State :=
  forEach s.shelfWaits (fun d s =>
    match s.desc? d with
    | none => { s with shelfWaits := s.shelfWaits.filter (· != d) }
    | some x =>
      if (s.openBlockers x.entry).isEmpty then
        { s with shelfWaits := s.shelfWaits.filter (· != d) }.takeShelf d x.entry
      else s) s

/-! ## Freeing (R206, R218, R234) -/

/-- FILL writes to a shelf outlive it: they no longer count for its index. -/
def State.orphanFills (s : State) (i : Nat) : State :=
  { s with memOps := s.memOps.map (fun o => (o.1, o.2.1, match o.2.2 with
      | .fill shelf stream p => .fill (shelf.filter (· != i)) stream p
      | u => u)) }

/-- A shelf becomes FREE: SHELF_FREED is posted, a suspended draw of it is discarded, and waiting SHELF_OPENs are served. -/
def State.freeShelf (s : State) (i : Nat) : State :=
  let h := s.shelf i
  let s1 := (s.modShelf i (fun _ => {})).orphanFills i
  let s2 := { s1 with draws := s1.draws.filter (fun (d : Draw) => !(d.shelf == some i && d.phase == DrawPhase.suspended)) }
  let s3 := forEach h.commits (fun d s => s.badField d 8) s2
  (s3.postEvent 0x0011 i 0 (toLe 2 h.stage ++ toLe 2 h.version ++ toLe 1 h.level)).serveShelfWaits

/-- The automatic rows of R206 for one shelf; one that an accepted VERSION_COMMIT is about to make CURRENT stays (R249). -/
def State.settleShelf (s : State) (i : Nat) : State :=
  let h := s.shelf i
  if h.state == .committed && !h.current && s.refs i == 0 && h.commits.isEmpty then
    if h.level ≥ s.relMin then s.freeShelf i
    else if h.copyUnsafe then s
    else
      (((s.modShelf i (fun h => { h with copyUnsafe := true })).sticky 0x5808 2).raise 0x0605 i).postEvent 0x0012 i 0x0605
        (toLe 2 h.stage ++ toLe 2 h.version ++ toLe 1 h.level)
  else s

/-- The automatic rows of R206, for every shelf. -/
def State.settleShelves (s : State) : State := forRange s.shelves.length (fun i s => s.settleShelf i) s

/-! ## Fetches and bindings (R211 to R215) -/

/-- Marks the oldest fetch answer of a WEIGHT stream as being read by a MEM request. -/
def markReading (weight request : Nat) : List Fetch → List Fetch
  | [] => []
  | g :: gs => if g.weight = weight then { g with reading := some request } :: gs else g :: markReading weight request gs

/-- Starts the MEM read of the oldest fetch answer of each WEIGHT stream. -/
def State.pumpFetch (s : State) (weight : Nat) : State :=
  match s.fetches.find? (fun f => f.weight == weight) with
  | none => s
  | some f =>
    if f.reading.isSome || f.left = 0 then s
    else
      let n := min f.left 4096
      let ch := match s.tx? weight with
        | some st => s.sliceOf st.cfg.localStn
        | none => 0
      ({ s with fetches := markReading weight s.reqSeq s.fetches }).memReadReq ch f.addr n (.fetch weight)

/-- The answer to a fetch request enters the WEIGHT stream (R211). -/
def State.answerFetch (s : State) (key uid shelf : Nat) : State :=
  match (s.rx? key).bind (fun st => (st.parcel? uid).map (fun p => (st, p))) with
  | none => s
  | some (st, p) =>
    let hdr := p.wire.take 32
    let h := s.shelf shelf
    let first := field p.wire 32 4
    let count := field p.wire 36 4
    let weight := st.cfg.shelfPair
    let start := denseSize h.fmt first
    let len := denseSize h.fmt count
    let flags := 16 * b2n (hMbEnd hdr)
    let ansHdr := makeHeader weight 0 false (hMb hdr) h.version (hStage hdr) 2 0 0 0 0 0 count 0 0 0 flags 0
    let drops := if hDir hdr = 1 && hBwdDone hdr then some (hStage hdr, hMb hdr) else none
    let s1 := s.enqueue weight { source := .fetchAnswer, src := ansHdr, drops := drops }
    let s2 := { s1 with fetches := s1.fetches ++ [(⟨weight, shelf, h.base + start, len, none⟩ : Fetch)] }
    (s2.pumpFetch weight).dropParcel key uid

/-- Holds an inbound item for a version check (R213). Cause 0 MISMATCH, 1 UNBOUND. -/
def State.holdItem (s : State) (key uid cause bound : Nat) : State :=
  match (s.rx? key).bind (fun st => (st.parcel? uid).map (fun p => (st, p))) with
  | none => s
  | some (st, p) =>
    let hdr := p.wire.take 32
    let s1 := (s.modParcel key uid (fun (q : RxParcel) => { q with hold := 1 })).modRx key (fun (t : RxStream) => { t with
      skew := satAdd 16 t.skew 1 })
    ((s1.raise 0x0601 st.cfg.id).sticky 0x5808 0).postEvent 0x0010 st.cfg.id 0x0601
      (toLe 2 (hStage hdr) ++ toLe 2 (hMb hdr) ++ toLe 2 (hVersion hdr) ++ toLe 2 bound ++ toLe 1 cause)

/-- A fetch waits for a CURRENT shelf (0x0602) or a free binding (0x0609), recorded once (R212). -/
def State.fetchWaits (s : State) (key uid code : Nat) : State :=
  match (s.rx? key).bind (fun st => (st.parcel? uid).map (fun p => (st, p))) with
  | none => s
  | some (st, p) =>
    let s1 := s.modParcel key uid (fun (q : RxParcel) => { q with
      hold := 4, waitSeen := if q.waitSeen.contains code then q.waitSeen else q.waitSeen ++ [code] })
    if p.waitSeen.contains code then s1
    else
      let s2 := (s1.raise code st.cfg.id).sticky 0x5808 (if code = 0x0602 then 5 else 6)
      if code = 0x0602 then s2.postEvent 0x0014 st.cfg.id code (toLe 2 (hStage (p.wire.take 32))) else s2

/-- The binding of (stage, mb), if any: the shelf. -/
def State.bindingOf (s : State) (stage mb : Nat) : Option Nat :=
  (s.bindings.find? (fun b => b.stage == stage && b.mb == mb)).map (·.shelf)

/-- The fields of a fetch request obey R211. -/
def fetchFieldsOk (w : List Byte) : Bool :=
  let h := w.take 32
  hEmpty h && hDir h ≤ 1 && hVersion h == 0 && hSbLen h == 2 && hTags h == 0 && field w 32 4 % 32 == 0 && field w 36 4 != 0

/-- A fetch request is discarded unanswered (R211): it is counted and recorded. -/
def State.badFetch (s : State) (key uid : Nat) : State :=
  ((s.modRx key (fun (t : RxStream) => { t with headerErr := satAdd 16 t.headerErr 1 })).raise 0x060B (key % 4096)).dropParcel key uid

/-- Serves one fetch request: binds if needed, answers, holds, waits or discards it (R211, R212); one that SKEW_RELEASE has passed is served
as if FWD (R214). -/
def State.serveFetch (s : State) (key uid : Nat) : State :=
  match (s.rx? key).bind (fun st => (st.parcel? uid).map (fun p => (st, p))) with
  | none => s
  | some (st, p) =>
    let hdr := p.wire.take 32
    let stage := hStage hdr
    let mb := hMb hdr
    if !fetchFieldsOk p.wire then s.badFetch key uid
    else
      let fwd := p.fwd || hDir hdr == 0
      let go (s : State) (i : Nat) : State :=
        let h := s.shelf i
        let srcFmt := match s.tx? st.cfg.shelfPair with
          | some t => t.cfg.srcFmt
          | none => h.fmt
        if denseSize h.fmt (field p.wire 32 4 + field p.wire 36 4) > h.len || h.fmt != srcFmt then s.badFetch key uid
        else s.answerFetch key uid i
      match s.bindingOf stage mb with
      | some i => go s i
      | none =>
        if fwd then
          match s.currentOf stage with
          | none => s.fetchWaits key uid 0x0602
          | some i =>
            if s.bindings.length ≥ 4096 then s.fetchWaits key uid 0x0609
            else go { s with bindings := s.bindings ++ [({ stage := stage, mb := mb, shelf := i } : Binding)] } i
        else s.holdItem key uid 1 0xFFFF

/-- The version check of a BWD parcel on a VCHECK stream (R212): it becomes deliverable, or, once complete, is held (R213). -/
def State.checkVersion (s : State) (key uid : Nat) : State :=
  match (s.rx? key).bind (fun st => (st.parcel? uid).map (fun p => (st, p))) with
  | none => s
  | some (st, p) =>
    let hdr := p.wire.take 32
    let armed := s.inj.armed && s.inj.point == 0x1E && s.inj.unit == st.cfg.id
    let pass := s.modParcel key uid (fun (q : RxParcel) => { q with hold := s.freeHold st })
    if hDir hdr != 1 then pass
    else match s.bindingOf (hStage hdr) (hMb hdr) with
      | none => if p.complete then s.holdItem key uid 1 0xFFFF else s
      | some i =>
        if armed then
          (if p.complete then
            let t := (s.fire 0x1E st.cfg.id).2
            t.marked true (t.holdItem key uid 0 (s.shelf i).version)
          else s)
        else if (s.shelf i).version = hVersion hdr then pass
        else if p.complete then s.holdItem key uid 0 (s.shelf i).version else s

/-- Works through a stream's items in order until one is held or waits (R213); `n` bounds the items. DESIGN CHOICE: VCHECK on a FETCH stream
(R202) leaves its requests as they are: they are served, or held UNBOUND, and never MISMATCH. -/
def State.advanceItems (key : Nat) : Nat → State → State
  | 0, s => s
  | n + 1, s =>
    match s.rx? key with
    | none => s
    | some st =>
      if st.parcels.any (fun p => p.hold == 1 && !p.gone) then s
      else match st.parcels.find? (fun p => (p.hold == 3 || p.hold == 4) && !p.gone) with
        | none => s
        | some p =>
          let s1 := if st.cfg.shelfRole = 1 then (if p.complete then s.serveFetch key p.uid else s)
            else s.checkVersion key p.uid
          match (s1.rx? key).bind (fun t => t.parcel? p.uid) with
          | some q => if q.hold = 3 ∨ q.hold = 4 then s1 else State.advanceItems key n s1
          | none => State.advanceItems key n s1

/-- Works through one stream. -/
def State.advanceStream (s : State) (key : Nat) : State :=
  match s.rx? key with
  | none => s
  | some st => State.advanceItems key (st.parcels.length + 1) s

/-- After a commit or a dropped binding, waiting fetches are looked at again. -/
def State.advanceFetches (s : State) : State :=
  forEach s.rx (fun r s => if r.2.cfg.shelfRole = 1 then s.advanceStream r.1 else s) s

/-- A binding ends (R215): the shelf may become free. -/
def State.unbind (s : State) (stage mb : Nat) : State := (s.dropBinding stage mb).settleShelves.advanceFetches

/-! ## Fills (R209, R210) -/

/-- FIRST of a FILL parcel: its sideband word 0, after the tensor region and pad. -/
def fillFirst (avail : List Byte) (dlv : Nat) : Nat :=
  let t := denseSize dlv (hElems avail)
  field avail (32 + t + padLen (32 + t)) 4

/-- A complete FILL parcel is written into its shelf, or discarded (R209, R210). -/
def State.fillParcel (s : State) (key uid : Nat) : State :=
  match (s.rx? key).bind (fun st => (st.parcel? uid).map (fun p => (st, p))) with
  | none => s
  | some (st, p) =>
    let stage := hStage p.avail
    let version := hVersion p.avail
    let refuse (s : State) (code : Nat) : State :=
      ((s.raise code st.cfg.id).postEvent 0x0015 st.cfg.id code (toLe 2 stage ++ toLe 2 version)).dropParcel key uid
    match s.shelfOf stage version with
    | none => refuse s 0x0604
    | some i =>
      let h := s.shelf i
      let len := denseSize st.cfg.dlvFmt (hElems p.avail)
      let start := denseSize h.fmt (fillFirst p.avail st.cfg.dlvFmt)
      if h.state != .filling || !h.commits.isEmpty then refuse (s.sticky 0x5808 1) 0x0603
      else if st.cfg.dlvFmt != h.fmt || start + len > h.len then (s.raise 0x060B st.cfg.id).dropParcel key uid
      else
        let w := s.memWrites (s.rxPort st % 4) (h.base + start) (slice p.avail 32 len) (fun off => .fill (some i) st.cfg.id (some (key, uid, off)))
        if w.2 = 0 then s.dropParcel key uid
        else
          (w.1.modShelf i (fun h => { h with fillOut := h.fillOut + w.2 })).modParcel key uid (fun (q : RxParcel) => { q with
            hold := 2, outst := outstanding 32 len })

/-- A FILL write is acknowledged (R203, R210); `shelf` is none where its shelf has been freed since. -/
def State.fillAcked (s : State) (shelf : Option Nat) (stream : Nat) (piece : Option (Nat × Nat × Nat)) (err : Bool) : State :=
  let s1 := forEach shelf.toList (fun i s => s.modShelf i (fun h => { h with fillOut := h.fillOut - 1, fillErr := h.fillErr || err })) s
  let s2 := if err then (s1.sticky 0x5808 7).raise 0x0606 stream else s1
  match piece with
  | some (key, uid, off) => s2.pieceAcked key uid off
  | none => s2

/-! ## Commit (R216) -/

/-- CURRENT moves to a shelf, and the accepted commits complete (R216). DESIGN CHOICE: a write error of the fill after the commit was accepted
completes it with ABORTED, and the shelf stays FILLING; of a shelf that became HELD meanwhile it completes with 0x30. -/
def State.applyCommit (s : State) (i : Nat) : State :=
  let h := s.shelf i
  if h.state = .held then forEach h.commits (fun d s => s.complete d 0x30) (s.modShelf i (fun h => { h with commits := [] }))
  else if h.fillErr && h.state = .filling then
    forEach h.commits (fun d s => s.complete d 0x60) (s.modShelf i (fun h => { h with commits := [] }))
  else
    let old := s.currentOf h.stage
    let s1 := match old with
      | some j => s.modShelf j (fun h => { h with current := false })
      | none => s
    let s2 := s1.modShelf i (fun h => { h with
      current := true, state := if h.state = .filling then .committed else h.state, commits := [] })
    let lost := match old with
      | some j => if j = i then 0xFF else j
      | none => 0xFF
    (forEach h.commits (fun d s => s.complete d 0 (toLe 1 i ++ toLe 1 lost)) s2).settleShelves.advanceFetches

end Sys2Proof.Machine
end

