-- ==== Sys2Proof/Machine/Draws.lean ====
section
/-! DEFINITION. Draws, the keeper's checks, and restores (R219 to R237). -/

namespace Sys2Proof.Machine

/-! ## Draws -/

def State.draw? (s : State) (id : Nat) : Option Draw := s.draws.find? (fun d => d.id == id)
def State.modDraw (s : State) (id : Nat) (f : Draw → Draw) : State :=
  { s with draws := s.draws.map (fun (d : Draw) => if d.id = id then f d else d) }

/-- Chunks of a length (R219). -/
def chunkCount (len : Nat) : Nat := ceilDiv len 65536

/-- Bytes of chunk `c`. -/
def chunkLen (len c : Nat) : Nat := min 65536 (len - 65536 * c)

/-- RESULT of DRAW_START: LEVEL, chunk count or failing chunk, version digest. -/
def drawResult (level count digest : Nat) : List Byte := toLe 4 level ++ toLe 4 count ++ toLe 8 digest

/-- The key of a slot. -/
def State.key (s : State) (k : Nat) : List Byte := (s.keys.getD k none).getD []

/-- The HMAC of a version digest, or zeros (R221, R231). -/
def State.drawMac (s : State) (key : Option Nat) (digest : Nat) : List Byte :=
  match key with
  | some k => hmacSha256 (s.key k) (toLe 8 digest)
  | none => zeros 32

/-- LEVEL of a draw's shelf. -/
def State.drawLevel (s : State) (d : Draw) : Nat :=
  match d.shelf with
  | some i => (s.shelf i).level
  | none => 0

/-- A DRAW stream is looped: its keeper is on this die (R169). -/
def State.drawLoops (s : State) (stream : Nat) : Bool := (s.tx? stream).any (·.looped)

/-- Copy level of a keeper reached by a stream (R232). -/
def State.copyLevel (s : State) (stream : Nat) : Nat :=
  let own := s.straps.feedTag
  let peer := s.peerField 5 1
  if s.drawLoops stream ∨ own = peer ∨ own = 0 ∨ peer = 0 then 1 else 2

/-- Die id in the peer's identity block (R459). -/
def State.peerDieId (s : State) : Nat := s.peerField 8 8

/-- Unique die id of the keeper that a DRAW stream reaches (R230). -/
def State.keeperDie (s : State) (stream : Nat) : Nat := if s.drawLoops stream then s.dieId else s.peerDieId

/-- Parcels of a draw that have not begun leave its stream's queue. -/
def State.dropDrawParcels (s : State) (d : Draw) : State :=
  s.modTx d.stream (fun (st : TxStream) =>
    let out := st.queue.filter (fun p => !p.started && (match p.source with
      | .draw k _ => k == d.id
      | _ => false))
    { out.foldl TxStream.untake st with queue := st.queue.filter (fun p => !out.contains p) })

/-- A draw ends: its shelf returns to COMMITTED, and DRAW_START completes. -/
def State.endDraw (s : State) (d : Draw) (status : Nat) (result : List Byte) : State :=
  let s1 := { s with draws := s.draws.filter (fun (x : Draw) => x.id != d.id) }.dropDrawParcels d
  let s2 := match d.shelf with
    | some i => s1.modShelf i (fun h => { h with state := .committed })
    | none => s1
  (s2.complete d.desc status result).settleShelves

/-- A draw is aborted by an error (R225, R227). -/
def State.abortDraw (s : State) (d : Draw) (code unit : Nat) : State :=
  let s1 := (s.raise code unit).sticky 0x5808 4
  let s2 := if code = 0x0606 then s1.sticky 0x5808 7 else s1
  s2.endDraw d 0x60 (drawResult (s.drawLevel d) d.next 0)

/-- A draw ends by an escalation or with the numeric units (R24, R238, R551): ABORTED, and one that is suspended loses its context. -/
def State.cutDraw (s : State) (d : Draw) : State :=
  if d.phase = .running then (s.endDraw d 0x60 (drawResult (s.drawLevel d) d.next 0)).sticky 0x5808 4
  else
    let s1 := { s with draws := s.draws.filter (fun (x : Draw) => x.id != d.id) }
    (match d.shelf with
    | some i => s1.modShelf i (fun h => { h with drawSusp := false })
    | none => s1).sticky 0x5808 4

/-- A STREAM draw is suspended (R230). -/
def State.suspendDraw (s : State) (d : Draw) (status : Nat) : State :=
  let s1 := (s.dropDrawParcels d).modDraw d.id (fun x => { x with phase := .suspended, reading := none, got := [] })
  let s2 := match d.shelf with
    | some i => s1.modShelf i (fun h => { h with state := .committed, drawSusp := true })
    | none => s1
  ((s2.sticky 0x5808 4).complete d.desc status (drawResult (s.drawLevel d) d.ackNext 0)).settleShelves

/-- The closing parcel of a STREAM draw (R221). -/
def State.sendClosing (s : State) (d : Draw) : State :=
  let dg := digestOf d.digests
  let hdr := makeHeader d.stream 4 true d.id d.version d.stage 3 0 0 0 0 14 0 0 0 0 (16 + 512) 0
  let w1 := d.id + 256 * b2n d.key.isSome + 512 * d.key.getD 0
  let sb := toLe 4 (chunkCount d.len) ++ toLe 4 w1 ++ toLe 8 dg ++ toLe 8 d.len ++ s.drawMac d.key dg
  (s.modDraw d.id (fun x => { x with closed := true })).enqueue d.stream
    { source := .draw d.id none, src := hdr ++ sb, complete := true }

/-- The digest table of a HOST draw is written (R227). -/
def State.writeDrawTable (s : State) (d : Draw) : State :=
  let dg := digestOf d.digests
  let head := toLe 4 0x57444C43 ++ toLe 1 3 ++ toLe 1 d.id ++ toLe 2 (b2n d.key.isSome + 2 * d.key.getD 0) ++ toLe 2 d.stage
    ++ toLe 2 d.version ++ toLe 4 (chunkCount d.len) ++ toLe 8 d.len ++ toLe 8 dg ++ s.drawMac d.key dg
  let table := head ++ (d.digests.map (toLe 8)).flatten
  (s.hmWrites4 d.tabAddr table (fun _ => .drawTable d.desc)).modDraw d.id (fun x => { x with
    closed := true, writes := x.writes + ceilDiv table.length 4096 })

/-- Carries a draw on: the next read, or the closing parcel or table after the last chunk. -/
def State.pumpDraw (s : State) (id : Nat) : State :=
  match s.draw? id with
  | none => s
  | some d =>
    if d.phase = .suspended ∨ d.reading.isSome ∨ d.keeper = 2 ∨ d.closed then s
    else if d.next ≥ chunkCount d.len then (if d.keeper = 0 then s.sendClosing d else s.writeDrawTable d)
    else
      let room := match s.tx? d.stream with
        | some st => st.queue.length < 2 && st.fence.isNone
        | none => false
      if d.keeper = 0 && !room then s
      else
        let ch := match s.tx? d.stream with
          | some st => if d.keeper = 0 then s.sliceOf st.cfg.localStn else s.memChannel
          | none => s.memChannel
        let n := min 4096 (chunkLen d.len d.next - d.got.length)
        (s.memReadReq ch (d.base + 65536 * d.next + d.got.length) n (.drawRead id)).modDraw id (fun x => { x with
          reading := some s.reqSeq })

/-- Carries every draw on. -/
def State.pumpDraws (s : State) : State := forEach s.draws (fun d s => s.pumpDraw d.id) s

/-- A whole chunk has been read: it is sent to the keeper or written to the host (R220, R227). -/
def State.sendChunk (s : State) (d : Draw) (bytes : List Byte) : State :=
  let dg := crc64 0 bytes
  let c := d.next
  let s1 := s.modDraw d.id (fun x => { x with next := c + 1, got := [], digests := x.digests.take c ++ [dg] })
  if d.keeper = 0 then
    let hdr := makeHeader d.stream 4 true d.id d.version d.stage 3 0 0 0 0 4 bytes.length 0 0 0 16 0
    s1.enqueue d.stream { source := .draw d.id (some c), src := hdr ++ bytes ++ toLe 4 c ++ toLe 4 d.id ++ toLe 8 dg,
                          complete := true }
  else
    (s1.hmWrites4 (d.dataAddr + 65536 * c) bytes (fun _ => .drawChunk d.desc)).modDraw d.id (fun x => { x with
      writes := x.writes + ceilDiv bytes.length 4096 })

/-- Read data of a draw arrive (R220, R225); data of a read that a go-back has overtaken are dropped. -/
def State.drawData (s : State) (id request : Nat) (data : List Byte) (err : Bool) : State :=
  match s.draw? id with
  | none => s
  | some d =>
    if d.reading != some request then s
    else if err then s.abortDraw d 0x0606 (if d.keeper = 0 then d.stream else 0)
    else
      let got := d.got ++ data
      let s1 := s.modDraw id (fun x => { x with reading := none, got := got })
      (if got.length ≥ chunkLen d.len d.next then s1.sendChunk d (got.take (chunkLen d.len d.next)) else s1).pumpDraw id

/-- A draw is complete (R226, R227). -/
def State.finishDraw (s : State) (d : Draw) : State :=
  let dg := digestOf d.digests
  let count := chunkCount d.len
  let copy := s.copyLevel d.stream
  match d.shelf with
  | some i =>
    let level := if d.keeper = 0 then max (s.shelf i).level copy else (s.shelf i).level
    let s1 := s.modShelf i (fun h => { h with level := level, vdigest := some dg, drawSusp := false })
    if d.keeper = 1 then (s1.postEvent 0x0013 d.id 0 (toLe 8 dg)).endDraw d 0 (drawResult level count dg)
    else if level ≥ s.relMin then s1.endDraw d 0 (drawResult level count dg)
    else (s1.sticky 0x5808 2).endDraw d 0x33 (drawResult level count dg)
  | none =>
    if d.keeper = 1 then (s.postEvent 0x0013 d.id 0 (toLe 8 dg)).endDraw d 0 (drawResult 0 count dg)
    else s.endDraw d (if copy ≥ s.relMin then 0 else 0x33) (drawResult copy count dg)

/-- An HM write of the HOST draw that a DRAW_START began is acknowledged (R227). -/
def State.drawWriteAcked (s : State) (desc : Nat) (err : Bool) : State :=
  match s.draws.find? (fun d => d.desc == desc) with
  | none => s
  | some d =>
    if err then s.abortDraw d 0x0607 d.id
    else
      let s1 := s.modDraw d.id (fun x => { x with writes := x.writes - 1 })
      if d.closed && d.writes = 1 then s1.finishDraw { d with writes := 0 } else s1

/-- CHUNK_OK (R225, R226, R298). -/
def State.chunkOk (s : State) (stream : Nat) (closing : Bool) (id index : Nat) : State :=
  match s.draw? id with
  | none => s
  | some d =>
    if d.phase = .suspended ∨ d.keeper ≠ 0 ∨ d.stream ≠ stream then s
    else if closing then (if d.closed && d.ackNext = chunkCount d.len then s.finishDraw d else s)
    else if index = d.ackNext ∧ index < d.next then
      (s.modDraw id (fun x => { x with
        ackNext := index + 1, running := digestStep x.running index (x.digests.getD index 0) })).pumpDraw id
    else s

/-- CHUNK_BAD (R225): the draw goes back, or ends on the second failure of the same chunk. -/
def State.chunkBad (s : State) (stream : Nat) (id index : Nat) : State :=
  match s.draw? id with
  | none => s
  | some d =>
    if d.phase = .suspended ∨ d.keeper ≠ 0 ∨ d.stream ≠ stream then s
    else if d.badSeen.contains index then
      ((s.raise 0x0608 d.id).sticky 0x5808 3).endDraw d 0x30 (drawResult (s.drawLevel d) index 0)
    else
      ((s.dropDrawParcels d).modDraw id (fun x => { x with
        next := index, got := [], reading := none, closed := false, badSeen := x.badSeen ++ [index] })).pumpDraw id

/-! ## The keeper (R223) -/

/-- The words of a chunk or closing parcel's sideband, from its delivered bytes. -/
def sbWords (avail : List Byte) (dlv : Nat) : List Byte :=
  let t := denseSize dlv (hElems avail)
  avail.drop (32 + t + padLen (32 + t))

/-- The message that answers a chunk or closing parcel (R297): of a looped stream it reaches the draw on this instance (R169). -/
def State.chunkMsg (s : State) (st : RxStream) (type : Nat) (closing : Bool) (drawId index : Nat) : State :=
  let id := st.cfg.id
  if st.looped then (if type = 0x18 then s.chunkOk id closing drawId index else s.chunkBad id drawId index)
  else s.pushMsg type (toLe 2 (id + 4096 * b2n closing) ++ toLe 1 drawId ++ [0] ++ toLe 4 index)

/-- The chunk with this index of a draw is the next that the keeper expects (R223): index 0 begins a draw, and a chunk that no other of its
draw precedes on this stream may continue those accepted of the same STAGE and VERSION (R230). -/
def RxStream.expects (st : RxStream) (kept : Option KeptDraw) (drawId index stage version : Nat) : Bool :=
  index == 0 ||
    match st.drawNext with
    | some (id, n) => id == drawId && index == n
    | none => kept.any (fun k => k.stage == stage && k.version == version && index ≤ k.digests.length)

/-- The key of a draw at this keeper: a looped draw and one of the peer may have the same DRAW_ID (R169). -/
def RxStream.keeperKey (st : RxStream) (drawId : Nat) : Nat := drawId + 64 * b2n st.looped

/-- The keeper checks a complete chunk or closing parcel before delivering it (R223). -/
def State.keeperCheck (s : State) (key uid : Nat) : State :=
  match (s.rx? key).bind (fun st => (st.parcel? uid).map (fun p => (st, p))) with
  | none => s
  | some (st, p) =>
    let w := sbWords p.avail st.cfg.dlvFmt
    let index := field w 0 4
    let drawId := bits (field w 4 4) 5 0
    let digest := field w 8 8
    let stage := hStage p.avail
    let version := hVersion p.avail
    let kept := lookupKey (st.keeperKey drawId) s.keepers
    let done := (kept.map (·.digests)).getD []
    if hEmpty p.avail then
      if digest = digestOf done then
        (s.modRx key (fun (t : RxStream) => { t with drawNext := none })).modParcel key uid (fun (q : RxParcel) => { q with
          hold := s.freeHold st })
      else (s.chunkMsg st 0x19 true drawId index).discardParcel key uid
    else if !st.expects kept drawId index stage version then
      (s.modRx key (fun (t : RxStream) => { t with drawSkip := satAdd 16 t.drawSkip 1 })).discardParcel key uid
    else
      let (inj, s) := s.fire 0x1F st.cfg.id
      if inj || crc64 0 (slice p.avail 32 (hElems p.avail)) != digest then
        ((s.modRx key (fun (t : RxStream) => { t with drawNext := some (drawId, index) })).chunkMsg st 0x19 false drawId index).discardParcel
          key uid
      else
        ({ s with keepers := insertKey (st.keeperKey drawId) ⟨stage, version, done.take index ++ [digest]⟩ s.keepers }.modRx key (fun (t : RxStream) => { t with
          drawNext := some (drawId, index + 1) })).modParcel key uid (fun (q : RxParcel) => { q with hold := s.freeHold st })

/-- The keeper station has taken a chunk or closing parcel whole (R223). -/
def State.keeperTaken (s : State) (st : RxStream) (avail : List Byte) : State :=
  let w := sbWords avail st.cfg.dlvFmt
  s.chunkMsg st 0x18 (hEmpty avail) (bits (field w 4 4) 5 0) (field w 0 4)

/-! ## Restores (R235, R236) -/

def State.modRestore (s : State) (desc : Nat) (f : Restore → Restore) : State :=
  { s with restores := s.restores.map (fun (r : Restore) => if r.desc = desc then f r else r) }

def State.restore? (s : State) (desc : Nat) : Option Restore := s.restores.find? (fun r => r.desc == desc)

/-- RESULT of RESTORE: count or failing chunk, recomputed digest. -/
def restoreResult (count digest : Nat) : List Byte := toLe 4 0 ++ toLe 4 count ++ toLe 8 digest

/-- A restore ends without success: the shelf stays HELD. -/
def State.endRestore (s : State) (r : Restore) (status : Nat) (result : List Byte) : State :=
  ({ s with restores := s.restores.filter (fun (x : Restore) => x.desc != r.desc) }).complete r.desc status result

/-- A check of a restore fails (R236). -/
def State.failRestore (s : State) (r : Restore) (drawId index : Nat) : State :=
  ((s.raise 0x0608 drawId).sticky 0x5808 3).endRestore r 0x30 (restoreResult index r.running)

/-- A memory or host error ends a restore (R236); only one of MEM sets MEM_ERR (R238). -/
def State.errRestore (s : State) (r : Restore) (mem : Bool) : State :=
  let s1 := s.raise 0x0606 (r.stream.getD 0 % 4096)
  (if mem then s1.sticky 0x5808 7 else s1).endRestore r 0x60 (restoreResult r.next r.running)

/-- A restore whose every check has passed and whose writes are acknowledged succeeds (R236). -/
def State.finishRestore (s : State) (desc : Nat) : State :=
  match s.restore? desc with
  | none => s
  | some r =>
    if !(r.passed && r.writes = 0) then s
    else
      let s1 := s.endRestore r 0 (restoreResult (chunkCount r.len) r.running)
      match r.shelf with
      | none => s1
      | some i =>
        let s2 := s1.modShelf i (fun h => { h with
          state := .committed, vdigest := some r.running, level := r.level, commits := [] })
        let s3 := forEach (s.shelf i).commits (fun d s => s.complete d 0x30) s2
        if r.commit then s3.applyCommit i else s3.settleShelves

/-- One chunk of a restore: checked and written (R236). A chunk beyond the count or of another length fails as these do, with no index. The
parcel that carries it, if any, waits for the writes. -/
def State.restoreChunk (s : State) (r : Restore) (drawId index digest stage version : Nat) (bytes : List Byte)
    (parcel : Option (Nat × Nat)) : State :=
  let odd := index ≥ chunkCount r.len || bytes.length != chunkLen r.len index
  if index != r.next || odd || crc64 0 bytes != digest || stage != r.stage || version != r.version then
    let s1 := s.failRestore r drawId (if index = r.next && odd then 0xFFFFFFFF else index)
    match parcel with
    | some (key, uid) => s1.dropParcel key uid
    | none => s1
  else
    let ch := match r.stream.bind s.rx? with
      | some st => s.rxPort st % 4
      | none => s.memChannel
    let w := s.memWrites ch (r.base + 65536 * index) bytes (fun off => .restoreWrite r.desc (parcel.map (fun x => (x.1, x.2, off))))
    let s1 := w.1.modRestore r.desc (fun x => { x with
      next := index + 1, running := digestStep x.running index digest, writes := x.writes + w.2, got := [] })
    match parcel with
    | some (key, uid) => s1.modParcel key uid (fun (q : RxParcel) => { q with hold := 2, outst := outstanding 32 bytes.length })
    | none => s1

/-- The last checks of a restore: count, length, version digest, EXPECT and HMAC (R236). -/
def State.restoreClosing (s : State) (r : Restore) (drawId count len digest : Nat) (mac : List Byte) : State :=
  let ok := count == r.next && count == chunkCount r.len && len == r.len && digest == r.running &&
    (r.expect.isNone || r.expect == some r.running) && (r.key.isNone || mac == s.drawMac r.key r.running)
  if ok then (s.modRestore r.desc (fun x => { x with passed := true })).finishRestore r.desc
  else s.failRestore r drawId 0xFFFFFFFF

/-- A complete parcel of a RESTORE stream (R236); without an active restore it is discarded. -/
def State.restoreParcel (s : State) (key uid : Nat) : State :=
  match (s.rx? key).bind (fun st => (st.parcel? uid).map (fun p => (st, p))) with
  | none => s
  | some (st, p) =>
    match s.restores.find? (fun r => r.stream == some key && !r.passed) with
    | none => s.dropParcel key uid
    | some r =>
      let w := sbWords p.avail st.cfg.dlvFmt
      let drawId := bits (field w 4 4) 5 0
      if hEmpty p.avail then
        (if hStage p.avail = r.stage ∧ hVersion p.avail = r.version then
            s.restoreClosing r drawId (field w 0 4) (field w 16 8) (field w 8 8) (slice w 24 32)
          else s.failRestore r drawId 0xFFFFFFFF).dropParcel key uid
      else
        let (inj, s) := s.fire 0x1F st.cfg.id
        if inj then s.marked true ((s.failRestore r drawId (field w 0 4)).dropParcel key uid)
        else s.restoreChunk r drawId (field w 0 4) (field w 8 8) (hStage p.avail) (hVersion p.avail)
          (slice p.avail 32 (hElems p.avail)) (some (key, uid))

/-- A restore write is acknowledged. -/
def State.restoreAcked (s : State) (desc : Nat) (piece : Option (Nat × Nat × Nat)) (err : Bool) : State :=
  let s1 := match piece with
    | none => s
    | some (key, uid, off) => s.pieceAcked key uid off
  match s1.restore? desc with
  | none => s1
  | some r =>
    if err then s1.errRestore r true
    else (s1.modRestore desc (fun x => { x with writes := x.writes - 1 })).finishRestore desc

/-- Length of a HOST restore's digest table. -/
def tableLen (len : Nat) : Nat := 64 + 8 * chunkCount len

/-- The next HM read of a HOST restore: its table, then its chunks in order. -/
def State.pumpRestore (s : State) (desc : Nat) : State :=
  match s.restore? desc with
  | none => s
  | some r =>
    if r.stream.isSome || r.passed then s
    else if r.table.length < tableLen r.len then
      s.hmReadReq (r.tabAddr + r.table.length) (min 4096 (tableLen r.len - r.table.length)) (.restoreTable desc)
    else if r.next < chunkCount r.len then
      s.hmReadReq (r.dataAddr + 65536 * r.next + r.got.length) (min 4096 (chunkLen r.len r.next - r.got.length))
        (.restoreChunk desc)
    else s

/-- What the header of a digest table breaks of R236: STAGE or VERSION, which chunk 0 is the first to fail, or else the count or LEN. -/
def tableFault (r : Restore) (t : List Byte) : Option Nat :=
  if field t 8 2 ≠ r.stage ∨ field t 10 2 ≠ r.version then some 0
  else if field t 12 4 ≠ chunkCount r.len ∨ field t 16 8 ≠ r.len then some 0xFFFFFFFF else none

/-- HM data of a HOST restore arrive. -/
def State.restoreData (s : State) (desc : Nat) (inTable : Bool) (data : List Byte) (err : Bool) : State :=
  match s.restore? desc with
  | none => s
  | some r =>
    if err then s.errRestore r false
    else if inTable then
      let t := r.table ++ data
      let s1 := s.modRestore desc (fun x => { x with table := t })
      match if t.length ≥ tableLen r.len then tableFault r t else none with
      | some index => s1.failRestore r (bits (byteAt t 5) 5 0) index
      | none => s1.pumpRestore desc
    else
      let got := r.got ++ data
      let want := chunkLen r.len r.next
      if got.length < want then (s.modRestore desc (fun x => { x with got := got })).pumpRestore desc
      else
        let t := r.table
        let s1 := s.restoreChunk r (byteAt t 5) r.next (field t (64 + 8 * r.next) 8) r.stage r.version (got.take want) none
        match s1.restore? desc with
        | none => s1
        | some r1 =>
          if r1.next = chunkCount r1.len then
            s1.restoreClosing r1 (byteAt t 5) (field t 12 4) (field t 16 8) (field t 24 8) (slice t 32 32)
          else s1.pumpRestore desc

end Sys2Proof.Machine
end

