-- ==== Sys2Proof/Machine/Saggar.lean ====
section
/-! DEFINITION. The checks of the Saggar (R478 to R485). What its fence does to the streams stands in Settle. -/

namespace Sys2Proof.Machine

/-- The Saggar acts (R478): built in, in the HUB role, and enabled. -/
def State.sagOn (s : State) : Bool := s.build.saggar && s.role == .hub && s.flag 0x4000 0

/-- A violation (R485). `stickyBit`: its place in CL_SAG_STICKY. -/
def State.violation (s : State) (code unit stickyBit : Nat) : State :=
  let s1 := ((s.bumpSat 0x4014 31 0 1).sticky 0x4010 stickyBit).raise code unit
  if s.flag 0x4000 1 then { s1 with sag := { s1.sag with fenceDue := true } } else s1

/-- A stream id lies in an enabled range (R479). -/
def State.sagRange (s : State) (id : Nat) : Bool :=
  [0x4020, 0x4024, 0x4028, 0x402C].any (fun r => s.flag r 31 && s.fld r 11 0 ≤ id && id ≤ s.fld r 27 16)

/-- The first check of R479 that an OPEN fails: the code, its sticky bit and FIELD. `resv`: reservations of the peer's open F streams. -/
def State.sagOpen (s : State) (c : StreamCfg) (resv : Nat) : Option (Nat × Nat × Nat) :=
  let bitOf := if c.cls = 4 then 3 else c.cls - 1
  if c.cls = 0 || !s.flag 0x4004 bitOf then some (0x0810, 0, 0x08)
  else if !s.sagRange c.id then some (0x0811, 1, 0x08)
  else if c.cls = 3 ∧ !s.flag 0x4004 (16 + c.vc) then some (0x0810, 0, 0x1C)
  else if c.cls = 1 ∧ c.resvSlots + resv > s.fld 0x403C 23 0 then some (0x0811, 1, 0x30)
  else if c.cls = 4 ∧ s.flag 0x4000 6 ∧ c.shelfRole ≠ 4 ∧ c.shelfRole ≠ 5 then some (0x0813, 3, 0x2C)
  else none

/-- A PT packet's address and direction lie in an enabled window (R480). -/
def State.sagWindow (s : State) (packet : List Byte) : Bool :=
  let addr := field packet (s.fld 0x4008 5 0) (if s.flag 0x4008 6 then 8 else 4)
  let write := (bit (byteAt packet (s.fld 0x4008 13 8)) (s.fld 0x4008 16 14)) == s.flag 0x4008 17
  (List.range 16).any (fun w =>
    let r := 0x4100 + 16 * w
    let base := s.fld r 31 12 * 4096 + s.regN (r + 4) * 2 ^ 32
    let lim := s.fld (r + 8) 31 12 * 4096 + 4095 + s.regN (r + 12) * 2 ^ 32
    s.flag r 0 && base ≤ addr && addr ≤ lim && s.flag r (if write then 2 else 1))

/-- Chunks seen on a stream for a DRAW_ID. -/
def Sag.seen (g : Sag) (k : Bool × Nat × Nat) : List SeenChunk := ((g.chunks.find? (fun x => x.1 == k)).map (·.2)).getD []

/-- The bits that a chunk parcel and a closing parcel share (R220, R221): their header fields, and word 1 with `extra` bits above DRAW_ID. -/
def drawShape (b w : List Byte) (extra : Nat) : Bool :=
  let word := field w 4 4
  hAtomic b && hDir b == 3 && hMbEnd b && hMb b == bits word 5 0 && hTags b == 0 && word &&& (63 ||| extra) == word

/-- A D parcel in the DENSE layout of format `fmt` obeys R483 under the digest controls `ctl`; with it, the chunks seen. A chunk whose index is
not the next one or an earlier one is no chunk that R223 takes: it passes, and is not among those seen (DEDUCED). -/
def State.sagDigest (s0 : State) (inbound : Bool) (id fmt ctl : Nat) (b : List Byte) : Bool × State :=
  let (inj, s) := s0.fire 0x1F id
  let w := sbWords b fmt
  let k := (inbound, id, bits (field w 4 4) 5 0)
  let done := s.sag.seen k
  if hEmpty b then
    let dg := field w 8 8
    let hmac := bit (field w 4 4) 8
    let ok := drawShape b w 0xF00 && hSbLen b == 14 && field w 0 4 == done.length && field w 16 8 == (done.map (·.len)).foldl (· + ·) 0 &&
      done.all (fun c => c.stage == hStage b && c.version == hVersion b) && dg == digestOf (done.map (·.digest)) && (hmac || allZero (slice w 24 32)) &&
      (!bit ctl 7 || (hmac && (s.keys.getD (bits ctl 10 8) none).isSome && slice w 24 32 == hmacSha256 (s.key (bits ctl 10 8)) (toLe 8 dg)))
    (ok && !inj, s)
  else
    let dg := crc64 0 (slice b 32 (hElems b))
    let index := field w 0 4
    let before := done.take index
    -- only the last chunk of a draw is short, and all name one STAGE and VERSION (R219, R220)
    let fits := hElems b ≤ 65536 && (done.length < index ||
      before.all (fun c => c.len == 65536 && c.stage == hStage b && c.version == hVersion b))
    let ok := !inj && drawShape b w 0 && fmt == 0xD && hSbLen b == 4 && dg == field w 8 8 && fits
    let rest := s.sag.chunks.filter (fun x => x.1 != k)
    (ok, if ok && index ≤ done.length then
        { s with sag := { s.sag with chunks := rest ++ [(k, before ++ [⟨dg, hElems b, hStage b, hVersion b⟩])] } } else s)

/-- The Saggar checks D parcels (R483) under the digest controls `ctl`. -/
def State.sagChecksD (s : State) (cls : Nat) (looped : Bool) (ctl : Nat) : Bool := s.sagOn && bit ctl 6 && cls == 4 && !looped

/-- A stream-control or TOPO message is counted (R481): it may be taken, or is skipped; `id`: the stream that it names, 0 for TOPO. -/
def State.sagMessage (s : State) (id : Nat) : Bool × State :=
  if !s.sagOn then (true, s)
  else if s.sag.msgs < s.sag.msgMax then (true, { s with sag := { s.sag with msgs := s.sag.msgs + 1 } })
  else
    let s1 := { s with sag := { s.sag with skipped := true } }
    (false, if s.sag.skipped then s1 else s1.violation 0x0814 id 4)

/-- Cells of a class that may still be returned in this frame (R482). -/
def State.sagCells (s : State) (cls : Nat) : Option Nat :=
  let cap (rate used : Nat) : Option Nat := if rate = 0 then none else some (rate - used)
  if !s.sagOn then none
  else if cls = 2 then cap s.sag.rateO s.sag.cellsO
  else if cls = 3 then cap s.sag.rateP s.sag.cellsP
  else if cls = 4 then cap s.sag.rateD s.sag.cellsD
  else none

/-- Counts returned cells of a class. -/
def State.sagReturned (s : State) (cls n : Nat) : State :=
  let g := s.sag
  { s with sag := { g with
    cellsO := if cls = 2 then g.cellsO + n else g.cellsO, cellsP := if cls = 3 then g.cellsP + n else g.cellsP,
    cellsD := if cls = 4 then g.cellsD + n else g.cellsD } }

/-- A new frame begins for the Saggar's counts (R481, R482), under the rates and the cap that the registers then hold (R486). -/
def State.sagFrame (s : State) : State :=
  { s with sag := { s.sag with
    msgs := 0, skipped := false, cellsO := 0, cellsP := 0, cellsD := 0
    rateO := s.fld 0x4030 23 0, rateP := s.fld 0x4034 23 0, rateD := s.fld 0x4038 23 0, msgMax := s.fld 0x4040 7 0 } }

end Sys2Proof.Machine
end

