-- ==== Sys2Proof/Machine/Accum.lean ====
section
/-! DEFINITION. Accumulate-on-arrival (R158 to R165). -/

namespace Sys2Proof.Machine

def State.region? (s : State) (r : Nat) : Option AccRegion := lookupKey r s.regions
def State.setRegion (s : State) (r : Nat) (g : AccRegion) : State := { s with regions := insertKey r g s.regions }

/-- The inbound context bound to a region as contributor `c` (R159). -/
def State.contribKey (s : State) (r c : Nat) : Option Nat :=
  (s.rx.find? (fun x => x.2.cfg.accRegion == r && x.2.cfg.accIndex == c)).map (·.1)

/-- A stream's parcels of micro-batch `mb` that wait for accumulation, up to the first with MB_END (R160). -/
def RxStream.accRunOf (st : RxStream) (mb : Nat) : List RxParcel :=
  let mine := st.parcels.filter (fun p => !p.gone && p.hold == 2 && p.mb == mb)
  match mine.findIdx? (·.mbEnd) with
  | some i => mine.take (i + 1)
  | none => mine

/-- The run of the first parcel that waits. -/
def RxStream.accRun (st : RxStream) : List RxParcel :=
  match st.parcels.find? (fun p => !p.gone && p.hold == 2) with
  | none => []
  | some p => st.accRunOf p.mb

/-- FP32 codes of a parcel that have arrived and are not yet added, each with the parcel's number. -/
def RxParcel.accWords (p : RxParcel) : List (Nat × Nat) :=
  (pieces 4 ((p.avail.drop (32 + 4 * p.accDone)).take (4 * (hElems p.avail - p.accDone)))).filterMap
    (fun w => if w.length = 4 then some (p.uid, leNat w) else none)

/-- The first 128 words of a run. -/
def RxStream.accChunk (st : RxStream) : List (Nat × Nat) := ((st.accRun.map RxParcel.accWords).flatten).take 128

/-- Counts `n` more elements of a stream's run as added: cells return as their elements are done, whole parcels leave (R165). -/
def State.accConsume (s : State) (key : Nat) : Nat → Nat → State
  | 0, _ => s
  | fuel + 1, n =>
    match (s.rx? key).bind (fun st => st.accRun.head?) with
    | none => s
    | some p =>
      let left := hElems p.avail - p.accDone
      let k := min n left
      let done := p.accDone + k
      if done ≥ hElems p.avail && p.complete then State.accConsume (s.dropParcel key p.uid) key fuel (n - k)
      else
        let cells := min p.cells ((32 + 4 * done) / 240)
        (s.returnCells key (cells - p.returned)).modParcel key p.uid (fun (q : RxParcel) => { q with
          accDone := done, returned := max q.returned cells })

/-- The same for the next `n` elements of the run, with the ELEMENTS of the parcels that have left with them, and whether the one with
MB_END has. -/
def State.accTake (s : State) (key n : Nat) : State × Nat × Bool :=
  match s.rx? key with
  | none => (s, 0, false)
  | some st =>
    let run := st.accRun
    let s1 := s.accConsume key (run.length + 1) n
    let left := match s1.rx? key with
      | some t => t.parcels.map (fun (p : RxParcel) => p.uid)
      | none => []
    let gone := run.filter (fun (p : RxParcel) => !left.contains p.uid)
    (s1, (gone.map (fun p => hElems p.wire)).foldl (· + ·) 0, gone.any (·.mbEnd))

/-- A contributor's part of a round is over: it has ended, and no chunk of it is in flight. -/
def AccContrib.over (c : AccContrib) : Bool := c.ended && c.busy.isNone

/-- A round with every contributor's part over completes (R160, R164). -/
def State.finishRounds (s : State) (r : Nat) : State :=
  match s.region? r with
  | none => s
  | some g =>
    let s1 := s.setRegion r { g with rounds := g.rounds.filter (fun x => !(x.contribs.all AccContrib.over)) }
    forEach (g.rounds.filter (fun x => x.contribs.all AccContrib.over)) (fun x s =>
      let s2 := s.bumpWrap 0x4828 31 0 1
      let s3 := if x.failed then (s2.bumpSat 0x482C 15 0 1).sticky 0x4808 5 else s2
      s3.postEvent 0x0016 r 0 (toLe 2 x.mb ++ toLe 1 x.slot ++ toLe 1 (b2n x.failed))) s1

/-- Changes the round of a slot. -/
def AccRegion.modRound (g : AccRegion) (slot : Nat) (f : AccRound → AccRound) : AccRegion :=
  { g with rounds := g.rounds.map (fun (x : AccRound) => if x.slot = slot then f x else x) }

/-- Changes contributor `c` of a round. -/
def AccRound.modC (x : AccRound) (c : Nat) (f : AccContrib → AccContrib) : AccRound := { x with contribs := modAt f c x.contribs }

/-- Changes contributor `c` of a region's round. -/
def State.modContrib (s : State) (r slot c : Nat) (f : AccContrib → AccContrib) : State :=
  match s.region? r with
  | none => s
  | some g => s.setRegion r (g.modRound slot (fun x => x.modC c f))

/-- Base-die address of chunk `j` of a slot. -/
def AccRegion.addr (g : AccRegion) (slot j : Nat) : Nat := g.base + 4 * g.elems * slot + 512 * j

/-- A contributor's run breaks the element count (R164): it adds nothing further, and its parcels up to MB_END are discarded. -/
def State.accBreak (s : State) (r key c slot mb : Nat) (run : List RxParcel) (ended : Bool) : State :=
  let s1 := forEach run (fun p s => s.abandonParcel key p.uid) (s.raise 0x0425 r)
  let s2 := if ended then s1 else s1.modRx key (fun (t : RxStream) => { t with accDrain := some mb })
  match s2.region? r with
  | none => s2
  | some g => s2.setRegion r (g.modRound slot (fun x => { x.modC c (fun k => { k with ended := true }) with failed := true }))

/-- Whether contributor `c` may start its chunk `j` now: in ORDERED mode once every lower contributor has done so, and never beside another
addition to the same chunk (R161). -/
def AccRound.mayStart (x : AccRound) (ordered : Bool) (c j : Nat) : Bool :=
  (!ordered || (List.range c).all (fun i => let q := x.contribs.getD i {}; q.next > j || q.ended)) &&
    !(x.contribs.zipIdx.any (fun q => q.2 != c && q.1.busy.isSome && q.1.next == j))

/-- Contributor `c` starts chunk `j` of a round, whose words have come: a chunk that has failed is passed over, the first addend is written,
and others are added to what stands in memory (R161, R164). The flag says whether another attempt could follow. -/
def State.accStart (s : State) (r key : Nat) (st : RxStream) (g : AccRegion) (x : AccRound) (c j : Nat) : State × Bool :=
  let ch := s.rxPort st % 4
  if x.bad.contains j then
    let u := s.accTake key 128
    (u.1.modContrib r x.slot c (fun q => { q with next := j + 1, elems := q.elems + u.2.1, ended := u.2.2 }), true)
  else if !g.addTo && !x.written.contains j then
    ((s.setRegion r (g.modRound x.slot (fun y => { y.modC c (fun q => { q with busy := some s.reqSeq }) with
      written := y.written ++ [j] }))).memWriteReq ch (g.addr x.slot j) ((st.accChunk.map (fun w => toLe 4 w.2)).flatten) (.accWrite r c), false)
  else
    ((s.modContrib r x.slot c (fun q => { q with busy := some s.reqSeq })).memReadReq ch (g.addr x.slot j) 512 (.accRead r c), false)

/-- One attempt of contributor `c`: begins its round, finds a broken count, ends its part with MB_END, or starts its next chunk. The flag
says whether anything happened that another attempt could follow. Whole parts that a fenced contributor still holds begin rounds too
(DEDUCED). -/
def State.accTry (s : State) (r c : Nat) : State × Bool :=
  match s.region? r, s.contribKey r c with
  | some g, some key =>
    match s.rx? key with
    | none => (s, false)
    | some st =>
      let run := st.accRun
      match run with
      | [] => (s, false)
      | p :: _ =>
        let slot := p.mb % g.slots
        match g.rounds.find? (fun x => x.slot == slot) with
        | none =>
          (s.setRegion r { g with rounds := g.rounds ++
            [{ slot := slot, mb := p.mb, contribs := List.replicate g.contribs {} }] }, true)
        | some x =>
          let k := x.contribs.getD c {}
          if x.mb != p.mb || k.ended || k.busy.isSome then (s, false)
          else
            let ended := run.any (·.mbEnd)
            let total := k.elems + (run.map (fun q => hElems q.wire)).foldl (· + ·) 0
            let (inj, s) := if ended then s.fire 0x1C r else (false, s)
            if inj || total > g.elems || (ended && total != g.elems) then
              (s.marked inj (s.accBreak r key c slot p.mb run ended), true)
            else if ended && 128 * k.next ≥ g.elems then
              let u := s.accTake key 0
              if u.2.2 then (u.1.modContrib r slot c (fun q => { q with ended := true }), true) else (u.1, false)
            else if st.accChunk.length < 128 || !x.mayStart g.ordered c k.next then (s, false)
            else s.accStart r key st g x c k.next
  | _, _ => (s, false)

/-- Rounds under way in a region. -/
def State.roundsOf (s : State) (r : Nat) : Nat := ((s.region? r).map (fun g => g.rounds.length)).getD 0

/-- Attempts of every contributor, lower ones first, until nothing more can start: a round that ends frees its slot for the next one (R160).
`n` bounds the rounds of attempts. -/
def State.accPump (r : Nat) : Nat → State → State
  | 0, s => s
  | n + 1, s =>
    let a := (List.range 16).foldl (fun (x : State × Bool) c => let t := x.1.accTry r c; (t.1, x.2 || t.2)) (s, false)
    let t := a.1.finishRounds r
    if a.2 || t.roundsOf r != a.1.roundsOf r then State.accPump r n t else t

/-- More attempts than can do something: each that does begins or ends a round or a part, or passes over a chunk of what is buffered. -/
def State.accBound (s : State) (r : Nat) : Nat :=
  (s.rx.map (fun x => if x.2.cfg.accRegion = r then 64 + (x.2.parcels.map (fun p => 4 + p.avail.length)).foldl (· + ·) 0 else 0)).foldl
    (· + ·) (64 + s.roundsOf r)

/-- Works a region. -/
def State.accRun (s : State) (r : Nat) : State := State.accPump r (s.accBound r) s

/-- The round for which request `request` of contributor `c` is in flight. -/
def AccRegion.inFlight (g : AccRegion) (c request : Nat) : Option AccRound :=
  g.rounds.find? (fun x => (x.contribs.getD c {}).busy == some request)

/-- A chunk's addition is over: its elements count as added, and the round goes on. A part that has ended meanwhile has nothing more to count. -/
def State.accAdvance (s : State) (r c request : Nat) (bad : Bool) : State :=
  match (s.region? r).bind (fun g => g.inFlight c request) with
  | none => s
  | some x =>
    let k := x.contribs.getD c {}
    let j := k.next
    let u := match s.contribKey r c with
      | some key => if k.ended then (s, 0, false) else s.accTake key 128
      | none => (s, 0, false)
    match u.1.region? r with
    | none => u.1
    | some g =>
      let s2 := u.1.setRegion r (g.modRound x.slot (fun y =>
        { y.modC c (fun q => { q with busy := none, next := j + 1, elems := q.elems + u.2.1, ended := q.ended || u.2.2 }) with
          bad := if bad then y.bad ++ [j] else y.bad, failed := y.failed || bad, written := y.written ++ [j] }))
      (if bad then s2.raise 0x0424 r else s2).accRun r

/-- A contributor's additions give NaNs under STRICT (R140, R162): they count on its stream, and each parcel records the code once. -/
def State.accStrict (s : State) (key : Nat) (uids : List Nat) : State :=
  if uids.isEmpty then s
  else
    let s1 := (s.modRx key (fun (t : RxStream) => { t with num := { t.num with
      strictNan := satAdd 32 t.num.strictNan uids.length, strictHit := true } })).sticky 0x4808 1
    forEach uids (fun uid s =>
      match (s.rx? key).bind (fun st => (st.parcel? uid).map (fun p => (st.cfg.id, p))) with
      | some (id, p) =>
        if p.strictSeen then s
        else (s.raise 0x0422 id).modParcel key uid (fun (q : RxParcel) => { q with strictSeen := true })
      | none => s) s1

/-- The slot's words for a chunk arrive: they are added and written back (R161, R162). Of a part that has ended meanwhile nothing is
added. -/
def State.accData (s : State) (r c request : Nat) (data : List Byte) (err : Bool) : State :=
  match (s.region? r).bind (fun g => (g.inFlight c request).map (fun x => (g, x))) with
  | none => s
  | some (g, x) =>
    let k := x.contribs.getD c {}
    match (s.contribKey r c).bind (fun key => (s.rx? key).map (fun st => (key, st))) with
    | none => s.accAdvance r c request err
    | some (key, st) =>
      if err || k.ended then s.accAdvance r c request err
      else
        let words := st.accChunk
        let old := (pieces 4 (padTo (4 * words.length) data)).map leNat
        let sums := (old.zip words).map (fun p => (p.2.1, fp32Add g.strict p.1 p.2.2))
        let clipped := sums.filter (·.2.2)
        let s1 := if g.strict then s.accStrict key (clipped.map (·.1))
          else s.setRegion r { g with accSat := satAdd 32 g.accSat clipped.length }
        (s1.modContrib r x.slot c (fun q => { q with busy := some s1.reqSeq })).memWriteReq (s.rxPort st % 4) (g.addr x.slot k.next)
          ((sums.map (fun p => toLe 4 p.2.1)).flatten) (.accWrite r c)

/-- A contributor's stream is interrupted (R164): its part of every incomplete round ends, and the parcels of those parts are discarded. Of
what it has buffered for later rounds only whole parts stay: nothing could end the others. -/
def State.accInterrupt (s : State) (key : Nat) (st : RxStream) : State :=
  let r := st.cfg.accRegion
  let c := st.cfg.accIndex
  match s.region? r with
  | none => s
  | some g =>
    let open_ := g.rounds.filter (fun x => !(x.contribs.getD c {}).ended)
    let s1 := s.setRegion r { g with rounds := g.rounds.map (fun (x : AccRound) =>
      if (x.contribs.getD c {}).ended then x
      else { x.modC c (fun k => { k with ended := true }) with failed := true }) }
    let s2 := forEach open_ (fun x s =>
      match s.rx? key with
      | some t => forEach (t.accRunOf x.mb) (fun p s => s.abandonParcel key p.uid) s
      | none => s) s1
    let s3 := match s2.rx? key with
      | some t => forEach t.parcels (fun (p : RxParcel) (s : State) =>
          let whole := (t.parcels.dropWhile (fun (q : RxParcel) => q.uid != p.uid)).any (fun q => !q.gone && q.hold == 2 && q.mb == p.mb && q.mbEnd)
          if !p.gone && p.hold == 2 && !whole then s.abandonParcel key p.uid else s) s2
      | none => s2
    s3.accRun r

end Sys2Proof.Machine
end

