-- ==== Sys2Proof/Machine/Experts.lean ====
section
/-! DEFINITION. Expert dispatch and combine (R174 to R198). -/

namespace Sys2Proof.Machine

/-! ## Tables -/

def State.table? (s : State) (t : Nat) : Option DispTable := lookupKey t s.tables
def State.setTable (s : State) (t : DispTable) : State := { s with tables := insertKey t.num t s.tables }

/-- The open EXPERT stream of a table whose REMOTE is an address (R181). -/
def State.resolveExpert (s : State) (num addr : Nat) : Option Nat :=
  (s.tx.find? (fun x => x.2.phase == .live && x.2.cfg.dispRole == 2 && x.2.cfg.dispTable == num && x.2.cfg.remote == addr)).map (·.1)

/-- A table's settings with every enabled entry and the spill station resolved (R181). -/
def State.resolveSet (s : State) (num : Nat) (d : DispSet) : DispSet := { d with
  entries := d.entries.map (fun (e : DispEntry) => if e.enabled then { e with stream := s.resolveExpert num e.addr } else e),
  spillTo := if d.policy = 1 then s.resolveExpert num d.spillAddr else none }

/-- Every enabled entry and the spill station resolve. -/
def DispSet.resolved (d : DispSet) : Bool :=
  d.entries.all (fun e => !e.enabled || e.stream.isSome) && (d.policy != 1 || d.spillTo.isSome)

/-- An opened EXPERT stream resolves the entries and the spill station that name its REMOTE (R181). -/
def DispSet.adopt (d : DispSet) (remote id : Nat) : DispSet := { d with
  entries := d.entries.map (fun (e : DispEntry) => if e.enabled && e.addr == remote then { e with stream := some id } else e),
  spillTo := if d.policy = 1 ∧ d.spillAddr = remote then some id else d.spillTo }

/-- The pair of an EXPERT stream is fenced: either of its two contexts says so, so that it stays so until both are closed (R196). -/
def State.pairFenced (s : State) (id : Nat) : Bool :=
  (s.tx? id).any (·.pairFenced) || s.rx.any (fun x => x.2.cfg.dispRole == 3 && x.2.cfg.dispPair == id && x.2.pairFenced)

/-- Rows of an EXPERT stream may no longer be routed: it is fenced, or no longer open. -/
def State.expertFenced (s : State) (id : Nat) : Bool :=
  match s.tx? id with
  | none => true
  | some st => s.pairFenced id || st.fence.isSome || st.phase != .live

/-! ## Tags (R184, R191) -/

/-- Slot `j` of a routing tag. -/
def tagSlot (tag : List Byte) (j : Nat) : Nat := field tag (2 * j) 2
def slotExpert (v : Nat) : Nat := v % 4096
def slotValid (v : Nat) : Bool := bit v 12
def slotDropOk (v : Nat) : Bool := bit v 13

/-- A routing tag is well formed (R184). -/
def tagOk (tag : List Byte) : Bool :=
  (List.range 8).all (fun j => let v := tagSlot tag j; v < 2 ^ 14 && (slotValid v || !slotDropOk v))

/-- Bytes of row `r` of a source parcel. -/
def rowBytes (src h : Nat) (bytes : List Byte) (r : Nat) : List Byte := slice bytes (32 + denseSize src h * r) (denseSize src h)

/-- Offset of the sideband of a parcel in the I-channel layout. -/
def sidebandAt (fmt : Nat) (b : List Byte) : Nat :=
  let t := denseSize fmt (hElems b)
  32 + t + padLen (32 + t)

/-- Routing tag of row `r`. -/
def rowTag (src : Nat) (b : List Byte) (r : Nat) : List Byte := slice b (sidebandAt src b + 4 * hSbLen b + 16 * r) 16

/-- Gate weight of row `r`, slot `j`. -/
def rowGate (src : Nat) (b : List Byte) (r j : Nat) : Nat := field b (sidebandAt src b + 4 * (8 * r + j)) 4

/-- A forwarded tag (R191). -/
def forwardTag (expert slot : Nat) (held : Bool) (source table row pseq : Nat) : List Byte :=
  toLe 2 (expert + slot * 4096 + b2n held * 32768) ++ toLe 2 (source + (table - 1) * 4096) ++ toLe 4 row ++ toLe 2 pseq ++ zeros 6

/-- A SOURCE parcel obeys R183, R184 and R186, given the open window. -/
def sourceOk (c : StreamCfg) (h : Nat) (window : Option (Nat × Nat)) (b : List Byte) : Bool :=
  let r := hTags b
  r ≤ 4096 && field b 12 4 == r * h && hSbLen b == 8 * r && hEmpty b == (r == 0) && !hAtomic b &&
    (List.range r).all (fun i => tagOk (rowTag c.srcFmt b i)) &&
    (match window with
      | none => true
      | some w => w == (hMb b, hDir b))

/-! ## Scatter (R187 to R190) -/

/-- A row that leaves: its EXPERT stream, its bytes, its tag, and where it came from. -/
structure OutRow where
  stream : Nat
  bytes  : List Byte
  sent   : SentRow
  expert : Option Nat
  deriving DecidableEq, Repr

/-- What a scatter builds up. -/
structure Scatter where
  table : DispTable
  rows  : List OutRow := []
  /-- A row without a valid slot, and a slot of an unmapped expert, have been met (R199). -/
  noRoute  : Bool := false
  unmapped : Bool := false
  deriving DecidableEq, Repr

def bumpCount (k : Nat) (l : List (Nat × Nat)) : List (Nat × Nat) := insertKey k ((lookupKey k l).getD 0 + 1) l
def bumpCount32 (k : Nat) (l : List (Nat × Nat)) : List (Nat × Nat) := insertKey k (wrapAdd 32 ((lookupKey k l).getD 0) 1) l

/-- A slot is dropped: DROPS and its expert's DROPPED rise. -/
def DispTable.drop1 (t : DispTable) (e : Nat) : DispTable :=
  { t with drops := wrapAdd 32 t.drops 1, dropped := bumpCount32 e t.dropped }

/-- An expert has room in the open window. -/
def DispTable.hasRoom (t : DispTable) (e : Nat) : Bool :=
  match t.cur.entries[e]? with
  | some x => x.cap == 0xFFFF || (lookupKey e t.counts).getD 0 < x.cap
  | none => false

/-- Marks slot `j` of row `r` of a kept parcel. -/
def SrcParcel.mark (p : SrcParcel) (r j : Nat) (m : SlotMark) : SrcParcel :=
  { p with marks := modAt (fun row => modAt (fun _ => m) j row) r p.marks }

/-- A row is sent to expert `e` on its stream. -/
def Scatter.send (g : Scatter) (e : Option Nat) (o : OutRow) : Scatter :=
  let t := g.table
  let t1 := { t with slotsSent := wrapAdd 48 t.slotsSent 1 }
  let t2 := match e with
    | some k => { t1 with counts := bumpCount k t1.counts, sent := bumpCount32 k t1.sent }
    | none => t1
  { g with table := t2, rows := g.rows ++ [{ o with expert := e }] }

/-- The decision for one slot of a row (R187): the scatter after it, and the slot's mark. A slot that would spill to a fenced stream is
dropped as fenced (DESIGN CHOICE). -/
def scatterSlot (s : State) (c : StreamCfg) (p : SrcParcel) (r j : Nat) (g : Scatter) : Scatter × SlotMark :=
  let t := g.table
  let h := t.cur.rowElems
  let v := tagSlot (rowTag c.srcFmt p.bytes r) j
  let e := slotExpert v
  let off : Scatter × SlotMark := ({ g with table := { t with unmapped := satAdd 32 t.unmapped 1 }, unmapped := true }, .off)
  if !slotValid v then (g, .off)
  else match t.cur.entries[e]? with
    | none => off
    | some x =>
      if !x.enabled then off
      else
        let dest := x.stream.getD 0
        let u : SentRow := {
          tag := forwardTag e j false c.id t.num (p.row0 + r) p.pseq, mb := p.mb, pseq := p.pseq, row := r, slot := j }
        let row (stream : Nat) : OutRow := ⟨stream, rowBytes c.srcFmt h p.bytes r, u, none⟩
        if s.expertFenced dest then ({ g with table := { t with fencedDrop := satAdd 32 t.fencedDrop 1 } }, .off)
        else if t.hasRoom e then (g.send (some e) (row dest), .sent)
        else if slotDropOk v || t.cur.policy == 0 then ({ g with table := t.drop1 e }, .off)
        else if t.cur.policy = 1 then
          let spill := t.cur.spillTo.getD 0
          if s.expertFenced spill then ({ g with table := { t with fencedDrop := satAdd 32 t.fencedDrop 1 } }, .off)
          else ({ g with table := { t with spills := wrapAdd 32 t.spills 1 } }.send none (row spill), .sent)
        else
          let t1 := { t with holds := wrapAdd 32 t.holds 1 }
          if t1.held.length ≥ t1.cur.holdMax then
            ({ g with table := { (t1.drop1 e) with holdFull := satAdd 16 t1.holdFull 1 } }, .off)
          else ({ g with table := { t1 with held := t1.held ++ [⟨e, dest, p.pseq, r, j⟩] } }, .held)

/-- The slots of one row, and NO_ROUTE for a row without a valid one. -/
def scatterRow (s : State) (c : StreamCfg) (p : SrcParcel) (r : Nat) (g0 : Scatter) : Scatter × List SlotMark :=
  let g1 := if (List.range 8).any (fun j => slotValid (tagSlot (rowTag c.srcFmt p.bytes r) j)) then g0
    else { g0 with table := { g0.table with noRoute := satAdd 32 g0.table.noRoute 1 }, noRoute := true }
  (List.range 8).foldl (fun (acc : Scatter × List SlotMark) j =>
    let x := scatterSlot s c p r j acc.1
    (x.1, acc.2 ++ [x.2])) (g1, [])

/-- The held slots at the start of a window, oldest first (R187, R189): the scatter, and the kept parcels with the slots marked. -/
def scatterHeld (s : State) (c : StreamCfg) (kept : List SrcParcel) (t : DispTable) : Scatter × List SrcParcel :=
  t.held.foldl (fun (acc : Scatter × List SrcParcel) (x : HeldSlot) =>
    let g := acc.1
    let markAs (m : SlotMark) : List SrcParcel := acc.2.map (fun (p : SrcParcel) => if p.pseq = x.pseq then p.mark x.row x.slot m else p)
    match acc.2.find? (fun p => p.pseq == x.pseq) with
    | none => acc
    | some p =>
      if s.expertFenced x.stream then
        ({ g with table := { (g.table.drop1 x.expert) with fencedDrop := satAdd 32 g.table.fencedDrop 1 } }, markAs .off)
      else if g.table.hasRoom x.expert then
        let u : SentRow := {
          tag := forwardTag x.expert x.slot true c.id t.num (p.row0 + x.row) p.pseq, mb := p.mb, pseq := p.pseq, row := x.row,
          slot := x.slot }
        (g.send (some x.expert) ⟨x.stream, rowBytes c.srcFmt t.cur.rowElems p.bytes x.row, u, none⟩, markAs .sent)
      else ({ g with table := { (g.table.drop1 x.expert) with holdDropped := satAdd 16 g.table.holdDropped 1 } }, markAs .off))
    ({ table := { t with held := [], holdFrom := none } }, kept)

/-- Sends the rows of one scatter on one EXPERT stream, as one parcel (R190). `like`: the parcel whose fields it takes. A stream of a fenced
pair still gets its EMPTY parcel, to which no answer is due (R196). -/
def State.sendExpert (s : State) (h stream : Nat) (like : List Byte) (mbEnd : Bool) (rows : List OutRow) : State :=
  match s.tx? stream with
  | none => s
  | some st =>
    let body := (rows.map (·.bytes)).flatten
    let flags := 16 * b2n mbEnd + 512 * b2n rows.isEmpty
    let hdr := makeHeader stream st.cls false (hMb like) (hVersion like) (hStage like) (hDir like) 0 0 0 0 0 (rows.length * h) 0 0
      rows.length flags 0
    let src := hdr ++ body ++ zeros (padLen (32 + body.length)) ++ (rows.map (·.sent.tag)).flatten
    let sent := if rows.isEmpty then [({ tag := [], mb := hMb like, empty := true } : SentRow)]
      else rows.zipIdx.map (fun (x : OutRow × Nat) => { x.1.sent with last := mbEnd && x.2 + 1 == rows.length })
    (s.modTx stream (fun (t : TxStream) => { t with
      unanswered := if s.pairFenced stream then t.unanswered else t.unanswered ++ sent })).enqueue stream
      { source := .dispatch, src := src, complete := true }

/-- The streams of some rows, each once, ascending. -/
def rowStreams (rows : List OutRow) : List Nat :=
  (sortBy (fun (a b : Nat) => decide (a ≤ b)) (rows.map (·.stream))).eraseDups

/-- The idle flags that rows sent to experts clear (R197). -/
def State.watchRows (s : State) (num : Nat) (rows : List OutRow) : State :=
  let hit (c : StreamCfg) : Bool := c.watches && c.dispTable == num && rows.any (fun o => o.expert == some c.watchExp)
  { s with
    tx := s.tx.map (fun x => if hit x.2.cfg then (x.1, { x.2 with watchIdle := false }) else x),
    rx := s.rx.map (fun x => if hit x.2.cfg then (x.1, { x.2 with watchIdle := false }) else x) }

/-- Sticky bits for what a scatter from table `a` to table `b` has met (R199): drops and spills show in their counters, which wrap; the
counters of rows without a route and of unmapped slots saturate, and are told beside. -/
def State.dispSticky (s : State) (a b : DispTable) (noRoute unmapped : Bool) : State :=
  let on (p : Bool) (i : Nat) (s : State) : State := if p then s.sticky 0x5004 i else s
  on unmapped 4 (on noRoute 3 (on (b.spills != a.spills) 1 (on (b.drops != a.drops) 0 s)))

/-- The rows that a scatter sends, stream by stream, and the EMPTY parcels of R190. `like`: the parcel whose fields the parcel of some rows
takes. -/
def State.sendRows (s : State) (num h : Nat) (like : List OutRow → List Byte) (mbEnd : Bool) (rows : List OutRow) (empties : Bool) : State :=
  let ids := rowStreams rows
  let mine (id : Nat) : List OutRow := rows.filter (fun o => o.stream == id)
  let s1 := forEach ids (fun id s => s.sendExpert h id (like (mine id)) mbEnd (mine id)) s
  let others := if empties then s.tx.filter (fun x => x.2.cfg.dispRole == 2 && x.2.cfg.dispTable == num && !ids.contains x.1 &&
    x.2.fence.isNone && x.2.phase == .live) else []
  (forEach others (fun x s => s.sendExpert h x.1 (like []) true []) s1).watchRows num rows

/-- Scatters the head parcel of a SOURCE stream once its charge, its pair and the limit on kept rows allow (R185 to R190). The held rows of
one EXPERT stream go in one parcel, and where several parcels held them it takes VERSION, STAGE, MB and DIR from that of its first row
(DESIGN CHOICE). -/
def State.scatter (s : State) (id : Nat) : State :=
  match s.tx? id with
  | none => s
  | some st0 =>
    match s.table? st0.cfg.dispTable, st0.queue with
    | some t0, p0 :: _ =>
      let charge := sourceCharge st0.cfg p0.src
      let keptRows := (st0.kept.map (fun k => k.marks.length)).foldl (· + ·) 0
      let pair := (hMb p0.src, hDir p0.src)
      let opens := !st0.openPairs.contains pair
      if st0.cfg.dispRole ≠ 1 ∨ !p0.complete ∨ st0.fence.isSome ∨ charge > st0.credits ∨ keptRows + hTags p0.src > 4096 ∨
          (opens ∧ st0.pairCred = 0) ∨ s.headBlocked st0 then s
      else
        let s := s.prepareHead id
        match s.tx? id with
        | none => s
        | some st =>
          match st.queue with
          | [] => s
          | p :: rest =>
            let c := st.cfg
            let starts := t0.window.isNone
            let t1 := if starts then
                { t0 with cur := t0.next.getD t0.cur, next := none, window := some pair, row := 0, counts := [] } else t0
            let hd := if starts then scatterHeld s c st.kept t1 else ({ table := t1 }, st.kept)
            let tx : TxParcel := { p with pseq := st.pseq }
            let hdr := st.wireHeader id tx 0
            let r := hTags p.src
            let kp : SrcParcel := {
              pseq := st.pseq, bytes := hdr ++ p.src.drop 32, cells := charge, mb := pair.1, dir := pair.2,
              row0 := hd.1.table.row, marks := [] }
            let res := (List.range r).foldl (fun (acc : Scatter × List (List SlotMark)) i =>
              let x := scatterRow s c kp i acc.1
              (x.1, acc.2 ++ [x.2])) (({ table := hd.1.table } : Scatter), [])
            let mbEnd := hMbEnd p.src
            let t2 := res.1.table
            let t3 := { t2 with
              rows := wrapAdd 48 t2.rows r, row := t2.row + r, window := if mbEnd then none else t2.window,
              holdFrom := if mbEnd && !t2.held.isEmpty then some s.now else t2.holdFrom }
            let pairs0 := if opens then st.openPairs ++ [pair] else st.openPairs
            let holder (rows : List OutRow) : List Byte := match rows.head? with
              | some o => ((st.kept.find? (fun k => k.pseq == o.sent.pseq)).map (·.bytes)).getD []
              | none => []
            let s1 := s.setTx id { st with
              queue := rest, kept := hd.2 ++ [{ kp with marks := res.2 }], credits := st.credits - charge,
              pairCred := if opens then st.pairCred - 1 else st.pairCred,
              openPairs := if mbEnd then pairs0.filter (· != pair) else pairs0,
              pseq := wrapAdd 16 st.pseq 1, parcelsTx := wrapAdd 32 st.parcelsTx 1 }
            let s2 := (s1.setTable t3).modRx (4096 + id) (fun (x : RxStream) => { x with cells := x.cells + charge })
            let s3 := s2.sendRows t3.num t3.cur.rowElems holder true hd.1.rows false
            let s4 := s3.sendRows t3.num t3.cur.rowElems (fun _ => kp.bytes) mbEnd res.1.rows mbEnd
            (s4.dispSticky t0 t3 res.1.noRoute res.1.unmapped).parcelSent tx 0
    | _, _ => s

/-- HOLD_TICKS have passed without a new window: every held slot ends as a drop (R189). -/
def State.expireHolds (s : State) (num : Nat) : State :=
  match s.table? num with
  | none => s
  | some t =>
    if t.holdFrom.isNone || t.window.isSome then s
    else
      let t1 := t.held.foldl (fun (t : DispTable) (x : HeldSlot) =>
        { (t.drop1 x.expert) with holdExpired := satAdd 16 t.holdExpired 1 }) t
      let s1 := s.setTable { t1 with held := [], holdFrom := none }
      let s2 := match t.source with
        | none => s1
        | some id => s1.modTx id (fun (st : TxStream) => { st with
            kept := st.kept.map (fun (p : SrcParcel) =>
              t.held.foldl (fun (p : SrcParcel) (x : HeldSlot) => if p.pseq = x.pseq then p.mark x.row x.slot .off else p) p) })
      let s3 := forEach t.held (fun _ s => s.raise 0x0504 num) s2
      if t.held.isEmpty then s3 else (s3.sticky 0x5004 2).sticky 0x5004 0

/-! ## Answers (R192, R193, R196) -/

/-- No further row of an EXPERT stream is answered: what it has sent unanswered is lost, and the slots held for it end (R189, R196). -/
def State.losePair (s : State) (id : Nat) : State :=
  match s.tx? id with
  | none => s
  | some st =>
    if st.cfg.dispRole ≠ 2 then s
    else
      let s1 := s.setTx id { st with unanswered := [] }
      match s1.table? st.cfg.dispTable with
      | none => s1
      | some t =>
        let rows := st.unanswered.filter (fun u => !u.empty)
        let mine := t.held.filter (fun x => x.stream == id)
        let t1 := mine.foldl (fun (t : DispTable) (x : HeldSlot) =>
          { (t.drop1 x.expert) with fencedDrop := satAdd 32 t.fencedDrop 1 }) t
        let held := t.held.filter (fun x => x.stream != id)
        let t2 := { t1 with
          held := held, returnLost := satAdd 32 t1.returnLost rows.length,
          holdFrom := if held.isEmpty then none else t1.holdFrom }
        let s2 := (s1.setTable t2).dispSticky t t2 false false
        let s3 := if rows.isEmpty then s2 else s2.sticky 0x5004 5
        match t.source with
        | none => s3
        | some src => s3.modTx src (fun (x : TxStream) => { x with
            kept := x.kept.map (fun (p : SrcParcel) =>
              let p1 := rows.foldl (fun (p : SrcParcel) (u : SentRow) =>
                if p.pseq = u.pseq && !u.orphan then { (p.mark u.row u.slot .lost) with lost := true } else p) p
              mine.foldl (fun (p : SrcParcel) (u : HeldSlot) =>
                if p.pseq = u.pseq then p.mark u.row u.slot .off else p) p1) })

/-- A pair of EXPERT and RETURN streams is fenced (R196). -/
def State.fencePair (s : State) (id : Nat) : State :=
  match s.tx? id with
  | none => s
  | some st =>
    if st.cfg.dispRole ≠ 2 ∨ st.pairFenced then s
    else
      let s1 := s.losePair id
      { s1.modTx id (fun (t : TxStream) => { t with pairFenced := true }) with
        rx := s1.rx.map (fun x => (x.1, if x.2.cfg.dispRole = 3 ∧ x.2.cfg.dispPair = id then { x.2 with pairFenced := true } else x.2)) }

/-- A kept SOURCE parcel ends before its combine (R90, R557): its cells return, its held slots leave the hold queue, and no answer still due to
its rows is taken into it; it keeps its place for its one beat (DEDUCED). -/
def State.endKept (s : State) (id index status : Nat) : State :=
  match s.tx? id with
  | none => s
  | some st =>
    match st.kept[index]? with
    | none => s
    | some p =>
      let stopped (m : SlotMark) : SlotMark := match m with
        | .held => .off
        | .sent => .lost
        | m => m
      let q : SrcParcel := { p with cells := 0, marks := p.marks.map (fun row => row.map stopped), ended := some status }
      let orphan (x : Nat × TxStream) : Nat × TxStream := (x.1,
        if x.2.cfg.dispRole = 2 ∧ x.2.cfg.dispTable = st.cfg.dispTable then { x.2 with
          unanswered := x.2.unanswered.map (fun (u : SentRow) => if u.pseq = p.pseq && !u.empty then { u with orphan := true } else u) } else x.2)
      let s1 := (s.setTx id { st with kept := st.kept.set index q }).returnCells (4096 + id) p.cells
      let s2 := { s1 with
        tx := s1.tx.map orphan
        tables := s1.tables.map (fun (x : Nat × DispTable) =>
          let held := x.2.held.filter (fun (y : HeldSlot) => y.pseq != p.pseq)
          (x.1, if x.1 = st.cfg.dispTable then
            { x.2 with held := held, holdFrom := if held.isEmpty then none else x.2.holdFrom } else x.2)) }
      if p.ended.isSome then s else s2.raise 0x0405 id

/-- The rows of a SOURCE stream that is freed stay to be answered, but no parcel takes their answers (R194). -/
def State.orphanRows (s : State) (id num : Nat) : State :=
  { s with tx := s.tx.map (fun x => (x.1, if x.2.cfg.dispRole = 2 ∧ x.2.cfg.dispTable = num ∧ x.1 ≠ id then
      { x.2 with unanswered := x.2.unanswered.map (fun (u : SentRow) => { u with orphan := true }) } else x.2)) }

/-- FP32 codes of a delivered row (R194). -/
def rowFp32 (dlv : Nat) (codes : List Nat) : List Nat :=
  codes.map (fun c => match decodeElem dlv c 0 with
    | .nan => canonicalNan 2
    | .inf n => signedCode 2 n 0x7F800000
    | .fin n m e => signedCode 2 n (roundMag 2 0 0 m e))

/-- A complete RETURN parcel answers the oldest unanswered rows of its EXPERT stream: how many rows it answers, or none if it breaks R192
or R193. One of no rows and without MB_END answers none and breaks nothing (DESIGN CHOICE). -/
def answerCount (h : Nat) (b : List Byte) (dlv : Nat) (un : List SentRow) : Option Nat :=
  let r := hTags b
  if hElems b ≠ r * h ∨ hSbLen b ≠ 0 ∨ hAtomic b then none
  else if r = 0 then
    (if !hMbEnd b then some 0
     else match un with
      | u :: _ => if u.empty ∧ u.mb = hMb b then some 1 else none
      | [] => none)
  else
    let us := un.take r
    let tags := (List.range r).map (fun i => rowTag dlv b i)
    let ok := us.length == r && us.map (·.tag) == tags && us.all (fun u => !u.empty && u.mb == hMb b) &&
      us.zipIdx.all (fun u => u.1.last == (hMbEnd b && u.2 + 1 == r))
    if ok then some r else none

/-- A complete RETURN parcel is consumed by the combine (R193, R194). On a fenced pair, or where the EXPERT stream is closed, it answers
nothing (R196) and is discarded without R193's check (DESIGN CHOICE). -/
def State.returnParcel (s : State) (key uid : Nat) : State :=
  match (s.rx? key).bind (fun st => (st.parcel? uid).map (fun p => (st, p))) with
  | none => s
  | some (st, p) =>
    let pair := st.cfg.dispPair
    match s.tx? pair, s.table? st.cfg.dispTable with
    | some ex, some t =>
      if s.pairFenced pair || ex.cfg.dispRole != 2 then s.dropParcel key uid
      else
        let h := t.cur.rowElems
        let dlv := st.cfg.dlvFmt
        let (inj, s) := s.fire 0x1D st.cfg.id
        match if inj then none else answerCount h p.avail dlv ex.unanswered with
        | none =>
          s.marked inj (((((s.setTable { t with returnOrder := satAdd 16 t.returnOrder 1 }).sticky 0x5004 6).raise 0x0503 st.cfg.id).fencePair
            pair).dropParcel key uid)
        | some n =>
          let us := ex.unanswered.take n
          let w := denseSize dlv 1
          let rows := us.zipIdx.map (fun (u : SentRow × Nat) =>
            (u.1, rowFp32 dlv ((pieces w (slice p.avail (32 + w * h * u.2) (w * h))).map leNat)))
          let s1 := s.setTx pair { ex with unanswered := ex.unanswered.drop n }
          let s2 := match t.source with
            | none => s1
            | some src => s1.modTx src (fun (x : TxStream) => { x with
                kept := x.kept.map (fun (k : SrcParcel) =>
                  rows.foldl (fun (k : SrcParcel) (u : SentRow × List Nat) =>
                    if k.pseq = u.1.pseq && !u.1.empty && !u.1.orphan then k.mark u.1.row u.1.slot (.answered u.2) else k) k) })
          s2.dropParcel key uid
    | _, _ => s.dropParcel key uid

/-- Cells of a RETURN parcel return as the combine takes its rows (R193, R165). -/
def State.returnProgress (s : State) (key uid h : Nat) : State :=
  match (s.rx? key).bind (fun st => (st.parcel? uid).map (fun p => (st, p))) with
  | none => s
  | some (st, p) =>
    let row := denseSize st.cfg.dlvFmt 1 * h
    let got := (p.avail.length - 32) / row
    let cells := min p.cells ((32 + row * got) / 240)
    (s.returnCells key (cells - p.returned)).modParcel key uid (fun (q : RxParcel) => { q with returned := max q.returned cells })

/-! ## Combine (R194 to R196) -/

/-- IEEE binary32 multiplication under R162: the code, and whether it overflowed. -/
def fp32Mul (strict : Bool) (a b : Nat) : Nat × Bool :=
  match decodeElem 2 a 0, decodeElem 2 b 0 with
  | .nan, _ => (canonicalNan 2, false)
  | _, .nan => (canonicalNan 2, false)
  | .inf n, .inf n' => (signedCode 2 (n != n') 0x7F800000, false)
  | .inf n, .fin n' m _ => (if m = 0 then canonicalNan 2 else signedCode 2 (n != n') 0x7F800000, false)
  | .fin n m _, .inf n' => (if m = 0 then canonicalNan 2 else signedCode 2 (n != n') 0x7F800000, false)
  | .fin na ma ea, .fin nb mb eb =>
    match fp32OfExact (na != nb) (ma * mb) (ea + eb) with
    | some c => (c, false)
    | none => (if strict then canonicalNan 2 else signedCode 2 (na != nb) (maxMagCode 2), true)

/-- The sum for one element over its answered slots, as (gate, element) pairs in slot order, and the overflows (R194). -/
def combineElem (strict : Bool) (terms : List (Nat × Nat)) : Nat × Nat :=
  let r := terms.foldl (fun (acc : Option Nat × Nat) (t : Nat × Nat) =>
    let p := fp32Mul strict t.1 t.2
    match acc.1 with
    | none => (some p.1, acc.2 + b2n p.2)
    | some v =>
      let q := fp32Add strict v p.1
      (some q.1, acc.2 + b2n p.2 + b2n q.2)) (none, 0)
  (r.1.getD 0, r.2)

/-- The combined row of a kept parcel, and its overflows. -/
def combineRow (strict : Bool) (src h : Nat) (p : SrcParcel) (r : Nat) (marks : List SlotMark) : List Nat × Nat :=
  let answered := marks.zipIdx.filterMap (fun (m : SlotMark × Nat) => match m.1 with
    | .answered row => some (rowGate src p.bytes r m.2, row)
    | _ => none)
  let es := (List.range h).map (fun i => combineElem strict (answered.map (fun a => (a.1, a.2.getD i 0))))
  (es.map (·.1), (es.map (·.2)).foldl (· + ·) 0)

/-- A kept parcel is ready: every row is scattered and every sent slot answered or lost (R194). -/
def SrcParcel.ready (p : SrcParcel) : Bool :=
  p.marks.all (fun row => row.all (fun m => match m with
    | .held => false
    | .sent => false
    | _ => true))

/-- Combines the oldest kept parcel of a SOURCE stream and makes it deliverable (R194 to R196). The number of the delivered parcel. Its wire
bytes, which a CAP_WIRE capture takes (R170), are its wire header and the router's source bytes (DESIGN CHOICE). One that has ended takes its
place in PSEQ order and its draws (R138), and is not captured (DEDUCED). -/
def State.combine (s : State) (id : Nat) : State × Option Nat :=
  match s.tx? id, s.rx? (4096 + id) with
  | some st, some rx0 =>
    match st.kept, s.table? st.cfg.dispTable with
    | p :: rest, some t =>
      if !p.ready then (s, none)
      else
        let c := rx0.cfg
        let key := 4096 + id
        let hdr := p.bytes.take 32
        let s1 := ((s.setTx id { st with kept := rest }).rxModify key hdr).rxStep key hdr
        match s1.rx? key, p.ended with
        | none, _ => (s1, none)
        | some rx, some status =>
          let j := rx.joinSlot p.mb p.dir (hMbEnd hdr)
          let bwd := hDir hdr = 1 && hElems hdr ≥ 1
          let q : RxParcel := {
            uid := rx.nextUid, wire := p.bytes, mb := p.mb, dir := p.dir, mbEnd := hMbEnd hdr, complete := true, slot := j.1, checked := true,
            ended := some status }
          (s1.setRx key { j.2 with
            num := { rx.num with
              lfsr := if takesDraws 2 c.dlvFmt (hRnd hdr) then lfsrRun (16 * hElems hdr) rx.num.lfsr else rx.num.lfsr
              bwdSeen := rx.num.bwdSeen || bwd, zeroSoFar := rx.num.zeroSoFar && !bwd },
            parcels := j.2.parcels ++ [q], nextUid := rx.nextUid + 1 }, none)
        | some rx, none =>
          let rows := p.marks.zipIdx.map (fun (m : List SlotMark × Nat) => combineRow c.strict c.srcFmt t.cur.rowElems p m.2 m.1)
          let codes := (rows.map (·.1)).flatten
          let nans := (rows.map (·.2)).foldl (· + ·) 0
          let k := outerExp (hOuter hdr)
          let r := convertElems 2 c.dlvFmt (hRnd hdr) c.strict k k (codes.length / 32 + 1) rx.num.lfsr (codes.map (fun x => (0, x)))
          let tally := if c.strict then { r.2.1 with strictNan := r.2.1.strictNan + nans } else r.2.1
          let tensor := packDense c.dlvFmt (r.1.length / 32 + 1) r.1
          let avail := hdr ++ tensor ++ zeros (padLen (32 + tensor.length)) ++ p.bytes.drop (sidebandAt c.srcFmt p.bytes)
          let bwd := hDir hdr = 1 && codes.length ≥ 1
          let n := rx.num.count tally
          let n := { n with
            lfsr := r.2.2, converted := n.converted || !codes.isEmpty, bwdSeen := n.bwdSeen || bwd
            zeroSoFar := n.zeroSoFar && (!bwd || r.1.all (isZeroElem c.dlvFmt)) }
          let j := rx.joinSlot p.mb p.dir (hMbEnd hdr)
          let q : RxParcel := {
            uid := rx.nextUid, wire := p.bytes, dOff := avail.length, cells := p.cells, mb := p.mb, dir := p.dir,
            mbEnd := hMbEnd hdr, complete := true, avail := avail, slot := j.1, checked := true,
            okStatus := if p.lost then 1 else 0 }
          let s2 := (s1.setRx key { j.2 with
            num := n, parcels := j.2.parcels ++ [q], nextUid := rx.nextUid + 1, parcelsRx := wrapAdd 32 j.2.parcelsRx 1 }).numSticky
            c.id tally
          let s3 := if c.strict || nans = 0 then s2 else s2.setTable { t with combineSat := satAdd 32 t.combineSat nans }
          (if p.lost then s3.raise 0x0502 t.num else s3, some rx.nextUid)
    | _, _ => (s, none)
  | _, _ => (s, none)

end Sys2Proof.Machine
end

