-- ==== Sys2Proof/Machine/StreamRx.lean ====
section
/-! DEFINITION. Parcel and packet flits that reach the stream layer: header, decode and mode checks, charges, storage, the roles of
streams, interruptions and closes (R72 to R92, R116 to R123, R170, R302, R474). -/

namespace Sys2Proof.Machine

/-! ## Flit header fields (R265) -/

def fWord (b : List Byte) : Nat := field b 0 8
def fType (b : List Byte) : Nat := bits (fWord b) 3 0
def fClass (b : List Byte) : Nat := bits (fWord b) 6 4
def fStream (b : List Byte) : Nat := bits (fWord b) 18 7
def fValid (b : List Byte) : Nat := bits (fWord b) 26 19
def fFirst (b : List Byte) : Bool := bit (fWord b) 27
def fLast (b : List Byte) : Bool := bit (fWord b) 28
def fAbort (b : List Byte) : Bool := bit (fWord b) 29
def fCrValid (b : List Byte) : Bool := bit (fWord b) 30
def fCrStream (b : List Byte) : Nat := bits (fWord b) 42 31
def fCrCells (b : List Byte) : Nat := bits (fWord b) 49 43
def fCrPairs (b : List Byte) : Nat := bits (fWord b) 51 50
def fRow (b : List Byte) : Nat := bits (fWord b) 63 52

/-- The valid payload bytes of a flit. -/
def fPayload (b : List Byte) : List Byte := slice b 8 (fValid b)

/-! ## Checks -/

/-- The header checks of R72 that the header alone decides (R66 to R68, R159, R209). -/
def headerOk (st : RxStream) (h : List Byte) : Bool :=
  let c := st.cfg
  let mine := hStream h == c.id && hClass h == st.cls && hWfmt h == c.wireFmt && hDfmt h == c.dlvFmt && hRnd h == c.rnd && hPseq h == st.pseq
  let shape := bits (byteAt h 8) 7 6 == 0 && field h 30 2 == 0 && hSbLen h ≤ 16384 && hFlags h < 1024 &&
    (hContrib h == (if c.accRegion = 0 then 0 else c.accIndex)) && (!hBwdDone h || hDir h == 1) &&
    (!hEmpty h || field h 12 4 == 0)
  let plain := (!hAtomic h || c.atomicLimit != 0) && (hTags h == 0 || c.dispRole != 0)
  let fill := c.shelfRole != 3 || (hDir h == 2 && hSbLen h == 1 && hTags h == 0)
  mine && shape && plain && fill && st.cls != 3

/-- The mode checks of R123. -/
def modeOk (c : StreamCfg) (h : List Byte) : Bool :=
  let m := hCodec h
  if hEmpty h then m == 0 && hWireLen h == 0
  else
    let e := hElems h
    let opq := denseSize c.srcFmt e
    let dns := denseSize c.wireFmt e
    let packed := m == 1 || m == 2
    !(c.wireFmt != c.srcFmt && dns ≥ opq && m != 3) && !(m == 0 && dns ≥ opq) &&
      !(packed && !(hWireLen h < dns && hWireLen h < opq)) &&
      !(m == 1 && bit c.codecCtl 0) && !(m == 2 && !bit c.codecCtl 1) && !(packed && opq > 524288) &&
      !(m == 2 && e % 32 != 0)

/-- The format of the encoded region: WIRE_FMT, or SRC_FMT in OPAQUE. -/
def regionFmt (c : StreamCfg) (h : List Byte) : Nat := if hCodec h = 3 then c.srcFmt else c.wireFmt

/-- The wire length of a parcel whose region has ended after `used` bytes (R64). -/
def wireTotal (h : List Byte) (used : Nat) : Nat := parcelLen used h

/-- What the decode checks of R122 say of the bytes received; `last`: the parcel's last flit is among them. The second component is the
check on pad elements. -/
def decodeCheck (c : StreamCfg) (w : List Byte) (last : Bool) : Bool × Bool :=
  let h := w.take 32
  let e := hElems h
  let d := if e = 0 then ({} : Decoded) else decodeRegion (hCodec h) (regionFmt c h) e (w.drop 32)
  let all := d.elems.length ≥ e
  let stated := hWireLen h != 0xFFFFFFFF
  let fail := d.bad || (all && stated && hWireLen h != d.used) || (all && w.length > wireTotal h d.used) ||
    (last && (!all || w.length != wireTotal h d.used))
  (!fail, !d.pad)

/-- A level 2 peer's parcel breaks what does not discard it (R474): the parcel is counted once, and recorded once per stream per frame. -/
def State.lenient (s : State) (key uid : Nat) : State :=
  match s.rx? key with
  | none => s
  | some st =>
    let seen := (st.parcel? uid).any (·.lax)
    let s1 := (s.setRx key { st with
      decodeErr := if seen then st.decodeErr else satAdd 16 st.decodeErr 1, laxSeen := true }).modParcel key uid (fun (q : RxParcel) => { q with
      lax := true })
    if st.laxSeen then s1 else s1.raise 0x0804 st.cfg.id

/-! ## Roles of inbound streams -/

/-- The hold mark that a parcel takes once its header is checked: 2 taken by the stream's role, 3 to be version checked or served in
order, 5 to be captured, 0 deliverable. What a unit takes is not captured, looped or not (DEDUCED). DESIGN CHOICE: CAP_EN is taken here (R170), so
that a parcel buffered keeps its mark when CAP_EN changes. -/
def State.roleHold (s : State) (st : RxStream) : Nat :=
  let c := st.cfg
  if c.accRegion ≠ 0 ∨ c.dispRole = 3 ∨ c.shelfRole = 3 ∨ c.shelfRole = 4 ∨ c.shelfRole = 5 then 2
  else if c.shelfRole = 1 ∨ c.vcheck then 3
  else s.freeHold st

/-- The bytes of a parcel that are written to the capture buffer, and how many there will be in all. -/
def captureBytes (c : StreamCfg) (wire : Bool) (p : RxParcel) : List Byte × Nat :=
  let hdr := p.wire.take 32
  if wire then (p.wire, if p.complete then p.wire.length else if hWireLen hdr = 0xFFFFFFFF then 2 ^ 32 else parcelLen (hWireLen hdr) hdr)
  else (p.avail, deliveredSize c.dlvFmt hdr)

/-- Writes to the capture buffer what has come of the parcel that is being captured: 4 KiB at a time, and its rest with its end, which moves
PTR past it (R170). -/
def State.capturePieces (s : State) (key uid : Nat) : Nat → State
  | 0 => s
  | n + 1 =>
    match (s.rx? key).bind (fun st => (st.parcel? uid).map (fun p => (st, p))) with
    | none => s
    | some (st, p) =>
      match p.capture with
      | none => s
      | some c =>
        let b := captureBytes st.cfg c.wire p
        let len := min 4096 (b.1.length - c.done)
        let last := p.complete && c.done + len == b.1.length
        if c.whole || (len < 4096 && !last) then s
        else
          let reach (k : Nat) : Nat :=
            if c.wire then offsetAfter st.cfg.srcFmt st.cfg.wireFmt st.cfg.dlvFmt (p.wire.take 32) (p.wire.take k) else k
          let s1 := (s.hmWriteReq (s.ringBase 0x4810 + c.start + c.done) (slice b.1 c.done len) (.capture (some (key, uid, c.done)))).modParcel
            key uid (fun (q : RxParcel) => { q with
              outst := q.outst ++ [(c.done, reach c.done, reach (c.done + len))],
              capture := some { c with done := c.done + len, upto := reach (c.done + len), whole := last } })
          State.capturePieces (if last then s1.setFld 0x481C 27 0 (c.start + b.1.length) else s1) key uid n

/-- The next parcel to be captured, in the order of each stream, lower ids first: one that is arriving, unless it is atomic, or one that is
whole. -/
def State.nextCapture (s : State) : Option (Nat × RxParcel) :=
  s.rx.findSome? (fun x => (x.2.parcels.find? (fun p => !p.gone && p.hold == 5 && !(p.capture.map (·.whole)).getD false)).bind (fun p =>
    if p.checked && (p.complete || !p.atomic) then some (x.1, p) else none))

/-- A parcel is being captured and has not ended: others wait for it, since each starts at or above PTR. -/
def State.capturing (s : State) : Option (Nat × RxParcel) :=
  s.rx.findSome? (fun x => (x.2.parcels.find? (fun p => !p.gone && (p.capture.map (fun c => !c.whole)).getD false)).map (fun p => (x.1, p)))

/-- Captures go on (R170): the one under way, and then the next one, which is discarded where it would pass the buffer's end; `n` bounds
them. -/
def State.pumpCapture : Nat → State → State
  | 0, s => s
  | n + 1, s =>
    match s.capturing with
    | some (key, p) =>
      let s1 := s.capturePieces key p.uid (p.wire.length + p.avail.length + 1)
      if s1.capturing.isSome then s1 else State.pumpCapture n s1
    | none =>
      match s.nextCapture with
      | none => s
      | some (key, p) =>
        let wire := s.flag 0x4800 2
        let start := (s.fld 0x481C 27 0 + 63) / 64 * 64
        let total := match s.rx? key with
          | some st => (captureBytes st.cfg wire p).2
          | none => 0
        if start + total > 4096 * s.fld 0x4818 15 0 then
          let s1 := s.setFlag 0x481C 31 true
          State.pumpCapture n (s1.abandonParcel key p.uid)
        else State.pumpCapture n (s.modParcel key p.uid (fun (q : RxParcel) => { q with capture := some { start := start, wire := wire } }))

/-- All captures that can go on do. -/
def State.pumpCaptures (s : State) : State :=
  State.pumpCapture (2 * ((s.rx.map (fun x => x.2.parcels.length)).foldl (· + ·) 0) + 1) s

/-- A complete parcel meets its stream's role. -/
def State.roleComplete (s : State) (key uid : Nat) : State :=
  match (s.rx? key).bind (fun st => (st.parcel? uid).map (fun p => (st, p))) with
  | none => s
  | some (st, p) =>
    let c := st.cfg
    if p.hold = 0 then s
    else if c.accRegion ≠ 0 then s.accRun c.accRegion
    else if c.dispRole = 3 then s.returnParcel key uid
    else if c.shelfRole = 3 then
      s.fillParcel key uid
    else if c.shelfRole = 4 then s.keeperCheck key uid
    else if c.shelfRole = 5 then s.restoreParcel key uid
    else if p.hold = 3 then s.advanceStream key
    else s

/-- A parcel that is still arriving meets its stream's role. -/
def State.roleProgress (s : State) (key uid : Nat) : State :=
  match (s.rx? key).bind (fun st => (st.parcel? uid).map (fun p => (st, p))) with
  | none => s
  | some (st, p) =>
    let c := st.cfg
    if p.hold = 0 ∨ p.gone then s
    else if c.accRegion ≠ 0 then s.accRun c.accRegion
    else if c.dispRole = 3 then
      match s.table? c.dispTable with
      | some t => s.returnProgress key uid t.cur.rowElems
      | none => s
    else if p.hold = 3 then s.advanceStream key
    else s

/-! ## Arriving bytes -/

/-- The header of an arriving parcel is whole: the checks of R72 (`charged`: that on its first charge) and R123, the step rule, the pair
slot, and the parcel's role. -/
def State.rxHeader (s0 : State) (key uid : Nat) (charged : Bool) : State :=
  match (s0.rx? key).bind (fun st => st.parcel? uid) with
  | none => s0
  | some p0 =>
    let hdr := p0.wire.take 32
    let s := s0.rxModify key hdr
    match s.rx? key with
    | none => s
    | some st0 =>
      let st := if st0.demotePseq = some (hPseq hdr) then { st0 with cls := 2, demotePseq := none } else st0
      let (inj, s1) := (s.setRx key { st with pseq := wrapAdd 16 (hPseq hdr) 1 }).fire 0x17 st.cfg.id
      if inj || !charged || !headerOk st hdr then s1.marked inj (s1.failParcel key uid 0x0403)
      else
        let s2 := s1.rxStep key hdr
        match s2.rx? key with
        | none => s2
        | some st2 =>
          let j := st2.joinSlot (hMb hdr) (hDir hdr) (hMbEnd hdr)
          let drain := st2.cfg.accRegion != 0 && st2.accDrain == some (hMb hdr)
          let s3 := (s2.setRx key { j.2 with
            accDrain := if drain && hMbEnd hdr then none else st2.accDrain }).modParcel key uid (fun (q : RxParcel) => { q with
            atomic := hAtomic hdr, mb := hMb hdr, dir := hDir hdr, mbEnd := hMbEnd hdr, slot := j.1, checked := true,
            lfsr0 := st2.num.lfsr, hold := s.roleHold st2 })
          let (bad, s4) := s3.fire 0x1A st.cfg.id
          if drain then (s3.commitRxTo key uid 32).discardParcel key uid
          else if bad then s4.marked true (s4.failFrom key uid 0x0411 32)
          else if modeOk st2.cfg hdr then s4
          else if s.peerLevel2 && !st.looped then s4.lenient key uid
          else s4.failFrom key uid 0x0411 32

/-- Charges a parcel for the bytes it has now (R75, R76, R78): the cells of an atomic parcel with its header, or those that the delivered
offset reaches. The answer says whether the charge is in order. -/
def State.rxCharge (s : State) (key uid : Nat) : State × Bool :=
  match (s.rx? key).bind (fun st => (st.parcel? uid).map (fun p => (st, p))) with
  | none => (s, true)
  | some (st, p) =>
    let c := st.cfg
    let hdr := p.wire.take 32
    let whole := p.wire.length ≥ 32
    let d1 := if whole then offsetAfter c.srcFmt c.wireFmt c.dlvFmt hdr p.wire else p.wire.length
    let n := if whole && hAtomic hdr then cellsOf (deliveredSize c.dlvFmt hdr) - p.cells else cellsOf d1 - cellsOf p.dOff
    let ok := (hAtomic hdr && whole || n ≤ 64) && st.cells + st.dueCells + n ≤ st.capacity
    let s1 := (s.setRx key { st with cells := st.cells + n }).modParcel key uid (fun (q : RxParcel) => { q with
      dOff := d1, cells := q.cells + n })
    (if p.lost then (s1.returnCells key n).modParcel key uid (fun (q : RxParcel) => { q with returned := q.cells }) else s1, ok)

/-- The Saggar's check of a complete D parcel (R483): one that fails is discarded as R122 discards. -/
def State.sagInbound (s : State) (key uid : Nat) : State × Bool :=
  match (s.rx? key).bind (fun st => (st.parcel? uid).map (fun p => (st, p))) with
  | none => (s, false)
  | some (st, p) =>
    if !s.sagChecksD st.cls st.looped p.sagCtl then (s, true)
    else
      let r := s.sagDigest true st.cfg.id st.cfg.dlvFmt p.sagCtl p.avail
      if r.1 then (r.2, true)
      else
        let s1 := r.2.marked (r.2.inj.fired != s.inj.fired)
          ((r.2.modRx key (fun (t : RxStream) => { t with decodeErr := satAdd 16 t.decodeErr 1 })).violation 0x0813 st.cfg.id 3)
        ((s1.commitRx key uid).endParcel key uid 0x11 false, false)

/-- A parcel of which the last flit has arrived and every check has passed. -/
def State.rxComplete (s0 : State) (key uid : Nat) : State :=
  let r := s0.sagInbound key uid
  if !r.2 then r.1
  else
  let s := r.1
  let s1 := s.commitRx key uid
  let s2 := s1.modRx key (fun (t : RxStream) => { t with parcelsRx := wrapAdd 32 t.parcelsRx 1 })
  (s2.modParcel key uid (fun (q : RxParcel) => { q with complete := true })).roleComplete key uid

/-- The last flit of a parcel of which nothing more is taken in: it goes, but for one that still owes its end to a pop (R90). -/
def State.endLost (s : State) (key uid : Nat) : State :=
  match (s.rx? key).bind (fun st => st.parcel? uid) with
  | none => s
  | some p =>
    if p.gone then s.dropParcel key uid else s.modParcel key uid (fun (q : RxParcel) => { q with complete := true })

/-- The bytes of one flit enter the newest parcel of a stream. Of a first flit that fails both, the mode check of R123 comes before the
decode check of R122 (DESIGN CHOICE). -/
def State.rxBytes (s : State) (key uid : Nat) (bytes : List Byte) (last : Bool) : State :=
  match (s.rx? key).bind (fun st => (st.parcel? uid).map (fun p => (st, p))) with
  | none => s
  | some (st, p) =>
    let s1 := s.modParcel key uid (fun (q : RxParcel) => { q with wire := q.wire ++ bytes })
    let whole := p.wire.length + bytes.length ≥ 32
    let ch := s1.rxCharge key uid
    let s2 := ch.1
    let s3 := if whole && p.wire.length < 32 && !p.lost then s2.rxHeader key uid ch.2 else s2
    let s4 := s3.modRx key (fun (t : RxStream) => { t with busy := !last })
    match (s4.rx? key).bind (fun t => t.parcel? uid) with
    | none => s4
    | some q =>
      let w := p.wire ++ bytes
      if q.lost then (if last then s4.endLost key uid else s4)
      else
        let s5 :=
          if !ch.2 then s4.failFrom key uid 0x0403 (max 32 p.wire.length)
          else if !whole then (if last then s4.failParcel key uid 0x0403 else s4)
          else
            let chk := decodeCheck st.cfg w last
            let lax := s.peerLevel2 && !st.looped
            let (inj, s4) := if last then s4.fire 0x19 st.cfg.id else (false, s4)
            if inj || !chk.1 || (!chk.2 && !lax) then s4.marked inj (s4.failFrom key uid 0x0410 (max 32 p.wire.length))
            else
              let t := if last && !chk.2 then s4.lenient key uid else s4
              let u := t.modRx key (fun (x : RxStream) => { x with parcels := x.parcels.map (fun (y : RxParcel) =>
                if y.uid = uid then { y with
                  avail := (x.deliver y).1,
                  ripen := if s.fixedLat x.cls x.cfg x.looped then y.ripen ++ [(y.avail.length, s.lclk + 7)] else y.ripen } else y) })
              let first := ((u.rx? key).bind (fun x => x.parcel? uid)).map (fun y => fillFirst y.avail st.cfg.dlvFmt)
              if last && st.cfg.shelfRole == 3 && first.any (fun k => k % 32 != 0) then u.failFrom key uid 0x0403 (max 32 p.wire.length)
              else if last then u.rxComplete key uid else u.roleProgress key uid
        match (s5.rx? key).bind (fun t => t.parcel? uid) with
        | some r => if last && r.gone then s5.dropParcel key uid else s5
        | none => s5

/-- Flits of a parcel on a stream that is not open are discarded with it (R72). -/
def State.ghost (s : State) (id : Nat) (last : Bool) : State :=
  let rest := s.ghosts.filter (· != id)
  { s with ghosts := if last then rest else rest ++ [id] }

/-- A fault of R300 found in merge order. -/
def State.flitFault (s : State) (strand : Nat) : State :=
  ({ s with strands := modAt (fun (x : Strand) => { x with
      link := { x.link with protoErr := satAdd 8 x.link.protoErr 1 } }) strand s.strands }).raise 0x0204 strand

/-- The parcel in progress on a stream. -/
def RxStream.current (st : RxStream) : Option RxParcel := if st.busy then st.parcels.getLast? else none

/-- An abort ends the parcel in progress (R302). -/
def State.rxAbort (s : State) (key : Nat) : State :=
  match (s.rx? key).bind (fun st => st.current) with
  | none => s
  | some p =>
    let s1 := s.modRx key (fun (t : RxStream) => { t with busy := false })
    if p.lost then s1.endLost key p.uid
    else
      let s2 := if p.checked then s1.commitRx key p.uid else s1
      if p.atomic || !p.checked then
        match s2.rx? key with
        | some st => s2.modRx key (fun (_ : RxStream) => { st with parcels := st.parcels.map (fun (q : RxParcel) =>
            if q.uid = p.uid then { q with complete := true } else q) }) |>.discardParcel key p.uid
        | none => s2
      else
        let code := s2.raise 0x0405 (match s2.rx? key with
          | some st => st.cfg.id
          | none => key)
        if p.hold = 2 ∨ p.hold = 5 then (code.modParcel key p.uid (fun (q : RxParcel) => { q with complete := true })).discardParcel key p.uid
        else (code.modParcel key p.uid (fun (q : RxParcel) => { q with complete := true })).endParcel key p.uid 0x60 true

/-- A flit of the parcel in progress was a protocol fault (R300): the parcel fails its header checks. -/
def State.cutRx (s : State) (key : Nat) (p : RxParcel) (last : Bool) : State :=
  let s1 := if p.lost then s else s.failParcel key p.uid 0x0403
  let s2 := if last then s1.endLost key p.uid else s1
  s2.modRx key (fun (t : RxStream) => { t with busy := !last && t.current.isSome })

/-- A PARCEL_HEAD flit reaches the stream layer (R72, R300). -/
def State.rxHead (s : State) (strand key : Nat) (body : List Byte) : State :=
  let last := fLast body
  match s.rx? key with
  | none =>
    let s1 := if s.ghosts.contains key then s.flitFault strand else s.raise 0x0403 (key % 4096)
    s1.ghost key last
  | some st =>
    match st.current with
    | some p => (s.flitFault strand).cutRx key p last
    | none =>
      if st.fence.isSome then (if s.ghosts.contains key then s.flitFault strand else s).ghost key last
      else
        let p : RxParcel := { uid := st.nextUid, cls := fClass body, sagCtl := s.regN 0x4000 }
        (s.setRx key { st with
          parcels := st.parcels ++ [p], nextUid := st.nextUid + 1, busy := true }).rxBytes key st.nextUid (fPayload body) last

/-- A PARCEL_BODY flit reaches the stream layer (R120, R300, R302). -/
def State.rxBody (s : State) (strand key : Nat) (body : List Byte) : State :=
  if s.ghosts.contains key then s.ghost key (fLast body)
  else
    match s.rx? key with
    | none => s.flitFault strand
    | some st =>
      match st.current with
      | none => s.flitFault strand
      | some p =>
        if p.cls ≠ fClass body then (s.flitFault strand).cutRx key p (fLast body)
        else if fAbort body then s.rxAbort key else s.rxBytes key p.uid (fPayload body) (fLast body)

/-! ## PT packets (R88) -/

/-- A packet of a P stream is in progress. -/
def RxStream.inPacket (st : RxStream) : Bool :=
  match st.packets.getLast? with
  | some p => !p.2.1
  | none => false

/-- A flit of the packet in progress was a protocol fault: the packet fails its header checks once, its cells return, and what comes of it
later is discarded with it (R72, R300). One that is partly delivered is ended by one beat (DEDUCED). -/
def State.cutPacket (s : State) (key : Nat) (last : Bool) : State :=
  match s.rx? key with
  | none => s
  | some st =>
    match st.packets.getLast? with
    | none => s
    | some p =>
      let rest := st.packets.dropLast
      let s1 := s.setRx key { st with
        packets := if last then rest else rest ++ [(p.1, false, 0)], ptDrop := !last,
        headerErr := if st.ptDrop then st.headerErr else satAdd 16 st.headerErr 1 }
      if st.ptDrop then s1
      else
        let s2 := (s1.returnCells key (ceilDiv p.1.length 240)).raise 0x0403 st.cfg.id
        if p.2.2 = 0 then s2 else { s2 with ptErr := modAt (fun l => (false, []) :: l) st.cfg.vc s2.ptErr }

/-- A PASS flit reaches the stream layer: its bytes join the packet, which takes ⌈L / 240⌉ cells. On a stream of another class it breaks R267.
One beyond the sender's credit is taken like any other (DESIGN CHOICE). -/
def State.rxPass (s : State) (strand key : Nat) (body : List Byte) : State :=
  match s.rx? key with
  | none =>
    let on := s.ghosts.contains key
    let s1 := if on != fFirst body then s else s.flitFault strand
    let s2 := if fFirst body then s1.raise 0x0403 (key % 4096) else s1
    if on || fFirst body then s2.ghost key (fLast body) else s2
  | some st =>
    let open_ := st.inPacket
    if st.cls ≠ 3 then s.flitFault strand
    else if st.fence.isSome then
      let on := s.ghosts.contains key
      let s1 := if on != fFirst body then s else s.flitFault strand
      if on || fFirst body then s1.ghost key (fLast body) else s1
    else if open_ == fFirst body then
      -- FIRST 0 with nothing in progress, or FIRST 1 within a packet: the packet in progress fails
      let s1 := s.flitFault strand
      if open_ then s1.cutPacket key (fLast body) else s1
    else
      if st.ptDrop && open_ then
        -- the rest of a packet that has failed; its bytes are kept only to count its cells
        let old := (st.packets.getLast?.map (·.1)).getD []
        let bytes := old ++ fPayload body
        let n := ceilDiv bytes.length 240 - ceilDiv old.length 240
        let s1 := s.setRx key { st with
          cells := st.cells + n, ptDrop := !fLast body,
          packets := if fLast body then st.packets.dropLast else st.packets.dropLast ++ [(bytes, false, 0)] }
        s1.returnCells key n
      else
        let old := if open_ then (st.packets.getLast?.map (·.1)).getD [] else []
        let bytes := old ++ fPayload body
        let n := ceilDiv bytes.length 240 - ceilDiv old.length 240
        let rest := if open_ then st.packets.dropLast else st.packets
        let s1 := s.setRx key { st with cells := st.cells + n }
        let first := s.build.ptBits / 8
        let checkNow := s.sagOn && !st.looped && old.length < first && (bytes.length ≥ first || fLast body)
        if checkNow && !s.sagWindow bytes then
          let s2 := s1.modRx key (fun (t : RxStream) => { t with
            packets := if fLast body then rest else rest ++ [(bytes, false, 0)], ptDrop := !fLast body })
          (s2.returnCells key (ceilDiv bytes.length 240)).violation 0x0812 st.cfg.vc 2
        else
          s1.modRx key (fun (t : RxStream) => { t with
            packets := rest ++ [(bytes, fLast body, 0)],
            parcelsRx := if fLast body then wrapAdd 32 t.parcelsRx 1 else t.parcelsRx })

/-- A flit whose contents were discarded at acceptance reaches its place in the merge (R300): the parcel or packet that it was a part of
fails its header checks. -/
def State.rxFault (s : State) (key : Nat) (body : List Byte) : State :=
  match s.rx? key with
  | none => if fFirst body || s.ghosts.contains key then s.ghost key (fLast body) else s
  | some st =>
    if st.fence.isSome then (if fFirst body || s.ghosts.contains key then s.ghost key (fLast body) else s)
    else if (st.cls == 3) != (fType body == 3) then s
    else if st.cls = 3 then
      if st.inPacket then s.cutPacket key (fLast body)
      else if fFirst body then
        (s.setRx key { st with packets := st.packets ++ [([], false, 0)], ptDrop := false }).cutPacket key (fLast body)
      else s
    else match st.current with
      | some p => s.cutRx key p (fLast body)
      | none =>
        if fType body ≠ 1 then s
        else
          let p : RxParcel := { uid := st.nextUid, cls := fClass body }
          (s.setRx key { st with parcels := st.parcels ++ [p], nextUid := st.nextUid + 1, busy := true }).cutRx key p (fLast body)

/-- Discarded flits at the front of what the merge has passed on take their effect. -/
def State.portFaults : Nat → State → State
  | 0, s => s
  | n + 1, s =>
    match s.port with
    | .fault key body :: rest => State.portFaults n ({ s with port := rest }.rxFault key body)
    | _ => s

/-! ## Interruptions (R90) -/

/-- A parcel of the stream waits for, or has, bytes for a pop's pair. -/
def RxStream.serves (st : RxStream) (mb dir : Nat) : Bool :=
  st.parcels.any (fun p => !p.gone && p.checked && p.mb == mb && p.dir == dir && ((p.hold != 2 && p.hold != 5) || st.cfg.shelfRole == 4))

/-- The parcel in progress of an interrupted stream (R90). -/
def State.interruptParcel (s : State) (key status : Nat) : State :=
  match s.rx? key with
  | none => s
  | some st =>
    match st.current with
    | none => s
    | some p =>
      let s1 := s.modRx key (fun (t : RxStream) => { t with busy := false })
      if p.lost then s1.endLost key p.uid
      else
        let s2 := (if p.checked then s1.commitRx key p.uid else s1).modParcel key p.uid (fun (q : RxParcel) => { q with
          complete := true })
        if p.atomic || !p.checked then s2.discardParcel key p.uid
        else
          let s3 := s2.raise 0x0405 st.cfg.id
          if p.hold = 2 ∨ p.hold = 5 then s3.discardParcel key p.uid else s3.endParcel key p.uid status true

/-- Parcels of a pair that no pop has taken. -/
def RxStream.unclaimed (st : RxStream) (mb dir : Nat) : Nat :=
  countWhere (fun p => !p.gone && p.checked && !p.popped && p.mb == mb && p.dir == dir &&
    ((p.hold != 2 && p.hold != 5) || st.cfg.shelfRole == 4)) st.parcels

/-- A pop of a stream, behind those that wait already, has nothing buffered: each of them takes one parcel of its pair (R83, R90). -/
def RxStream.starves (st : RxStream) (before : List Pop) (q : Pop) : Bool :=
  st.unclaimed q.mb q.dir ≤ countWhere (fun x => x == q) before

/-- Splits waiting pops into those that stay and those that are answered. -/
def RxStream.sortPops (st : RxStream) (every : Bool) (pops : List Pop) : List Pop × List Pop :=
  pops.foldl (fun (acc : List Pop × List Pop) q =>
    if q.stream == st.cfg.id && (every || st.starves acc.1 q) then (acc.1, acc.2 ++ [q]) else (acc.1 ++ [q], acc.2)) ([], [])

/-- Waiting pops of a stream with nothing buffered for them are answered with the status; `every`: all of them. -/
def State.answerPops (s : State) (key status : Nat) (every : Bool) : State :=
  match s.rx? key with
  | none => s
  | some st =>
    let port := s.rxPort st
    let gone := (st.sortPops every (s.ports.getD port {}).pops).2
    let s1 := s.modPort port (fun p => { p with pops := (st.sortPops every p.pops).1 })
    forEach gone (fun q s => s.answerBeat port (sideField st.cfg.station st.cfg.id true true 1 q.mb q.dir status)) s1

/-- A parcel or a packet of the stream is in progress: the rest of it may still arrive. -/
def RxStream.midway (st : RxStream) : Bool :=
  st.current.isSome || st.inPacket

/-- The packets of a stream that `stays` does not keep are gone: one that was partly delivered is ended by one beat (R499; the same for a
stream that is fenced or closed by force: DEDUCED). -/
def State.cutPackets (s : State) (key : Nat) (stays : List Byte × Bool × Nat → Bool) : State :=
  match s.rx? key with
  | none => s
  | some st =>
    let part := st.packets.any (fun q => !stays q && q.2.2 != 0)
    let s1 := s.setRx key { st with packets := st.packets.filter stays, ptDrop := false }
    if part then { s1 with ptErr := modAt (fun l => (false, []) :: l) st.cfg.vc s1.ptErr } else s1

/-- An inbound stream is fenced, or its partner becomes QUIET or LOST (R90). A complete parcel that is partly delivered is delivered whole
(DESIGN CHOICE). -/
def State.interruptRx (s : State) (key status : Nat) : State :=
  match s.rx? key with
  | none => s
  | some st0 =>
    if st0.fence.isSome then s
    else
      let s1 := s.interruptParcel key status
      let cut := (st0.packets.map (fun q => if q.2.1 || st0.ptDrop then 0 else ceilDiv q.1.length 240)).foldl (· + ·) 0
      let s2 := ((s1.cutPackets key (fun q => q.2.1)).modRx key (fun (t : RxStream) => { t with
        fence := some status, drawNext := none })).returnCells key cut
      let s3 := match s2.rx? key with
        | some st => if st.cfg.accRegion ≠ 0 then s2.accInterrupt key st else s2
        | none => s2
      let s4 := match s3.rx? key with
        | some st => if st.cfg.dispRole = 3 then s3.fencePair st.cfg.dispPair else s3
        | none => s3
      let s5 := if st0.midway then s4.ghost key false else s4
      s5.answerPops key status false

/-- A flit on its way to an inbound context. -/
def PortItem.isOf (key : Nat) (i : PortItem) : Bool :=
  match i with
  | .flit _ k _ | .fault k _ => k == key
  | .message _ _ => false

/-- Outstanding writes of a stream's parcels outlive its context: they no longer name a parcel. -/
def State.detach (s : State) (key : Nat) : State :=
  let keep (p : Option (Nat × Nat × Nat)) : Option (Nat × Nat × Nat) := p.filter (fun x => x.1 != key)
  { s with
    memOps := s.memOps.map (fun o => (o.1, o.2.1, match o.2.2 with
      | .fill shelf stream p => .fill shelf stream (keep p)
      | .restoreWrite d p => .restoreWrite d (keep p)
      | u => u))
    hmWrites := s.hmWrites.map (fun o => (o.1, match o.2 with
      | .capture p => .capture (keep p)
      | u => u)) }

/-- Frees an inbound context by a forced close (R59, R90, R92): what is being delivered ends with ABORTED, the rest is discarded, and
every pop of the stream is answered. Flits of a looped stream that have not reached it go with it (R169). `forced` false: an orderly close,
which finds nothing buffered, interrupts no accumulation (R164) and fences no pair (R196). -/
def State.freeRx (s : State) (key : Nat) (forced : Bool := true) : State :=
  match s.rx? key with
  | none => s
  | some st0 =>
    let busy := st0.midway && !st0.looped
    let s0 := s.cutPackets key (fun _ => false)
    let s1 := if st0.fence.isSome then s0 else s0.interruptParcel key 0x60
    let s2 := match s1.rx? key with
      | some st =>
        if s1.portBusyWith st key then
          match st.parcels.find? (fun (p : RxParcel) => p.popped) with
          | some p =>
            let cut := !p.atomic && p.ended.isNone && !s1.lastOffered (s1.rxPort st) key p.uid
            (if cut then s1.raise 0x0405 st.cfg.id else s1).endParcel key p.uid 0x60 false
          | none => s1
        else s1
      | none => s1
    let s3 := match s2.rx? key with
      | some st => if st.cfg.accRegion ≠ 0 ∧ forced then s2.accInterrupt key st else s2
      | none => s2
    let s4 := if st0.cfg.dispRole = 3 ∧ forced then s3.fencePair st0.cfg.dispPair else s3
    let s5 := s4.answerPops key 0x60 true
    let s6 := ({ s5 with
      rx := eraseKey key s5.rx, port := if st0.looped then s5.port.filter (fun i => !i.isOf key) else s5.port }).detach key
    if st0.looped then { s6 with ghosts := s6.ghosts.filter (· != key) } else if busy then s6.ghost key false else s6

/-- An inbound stream has nothing buffered and nothing arriving (R59). -/
def RxStream.empty (st : RxStream) : Bool := st.parcels.isEmpty && st.packets.isEmpty && !st.busy

end Sys2Proof.Machine
end

