-- ==== Sys2Proof/Machine/StreamIo.lean ====
section
/-! DEFINITION. Station ports, pops, the pass-through port, parcels from host memory, and the closing of streams (R30 to R34, R59,
R80 to R92, R260, R499). -/

namespace Sys2Proof.Machine

/-! ## Closing and interrupting outbound streams (R59, R90, R298) -/

/-- An outbound parcel that ends without its last flit: a station's parcel is reported, a host's descriptor completes (R90). -/
def State.dropTxParcel (s0 : State) (id status : Nat) (p : TxParcel) : State :=
  let s := s0.modTx id (fun (t : TxStream) => t.untake p)
  match p.source with
  | .station _ =>
    if p.started then s
    else s.postEvent 0x0003 id 0 (toLe 2 (hMb p.src) ++ toLe 1 status)
  | .host d => s.complete d status
  | _ => s

/-- An error response (R499): one beat with the first 16 bytes of the failed packet and the status. -/
def State.ptRespond (s : State) (vc : Nat) (packet : List Byte) (status : Nat) : State :=
  { s with ptErr := modAt (fun l => l ++ [(true, padTo 16 packet ++ toLe 1 status)]) vc s.ptErr }

/-- An outbound stream is fenced, or its partner becomes QUIET or LOST (R90). PARCEL_SENDs that have not entered complete; packets
that have not left are answered with an error response. -/
def State.interruptTx (s : State) (id status : Nat) : State :=
  match s.tx? id with
  | none => s
  | some st =>
    if st.fence.isSome then s
    else
      let s0 := match st.queue with
        | p :: _ => if p.started then s.cutParcel id st p else s
        | [] => s
      let s1 := s0.modTx id (fun (t : TxStream) => { t with fence := some status, queue := [], ptQueue := [], modify := none })
      let s2 := forEach st.queue (fun p s => s.dropTxParcel id status p) s1
      let waiting := s2.sends.filter (fun (x : Send) => x.stream == id && !x.entered)
      let s3 := forEach waiting (fun x s => s.complete x.desc status) { s2 with
        sends := s2.sends.filter (fun (x : Send) => x.stream != id),
        fetches := s2.fetches.filter (fun (f : Fetch) => f.weight != id) }
      let s3 := forEach st.ptQueue (fun p s => s.ptRespond st.cfg.vc p.1 status) s3
      if st.cfg.dispRole = 2 then s3.fencePair id else s3

/-- An F stream that holds or awaits a reservation on the link (R327). -/
def TxStream.reserves (t : TxStream) : Bool := t.cfg.cls == 1 && !t.demoted && !t.demoting && !t.looped && !t.withdrawn

/-- Closes the records and bindings that name an outbound stream, and removes its context. A table that a SOURCE leaves governs from then on
as it was last loaded (R181, R182), and no parcel takes the answers still due to its rows (R194). `forced` false: the end of a close without
force, which finds nothing waiting and fences no pair (R196). -/
def State.freeTx (s : State) (id : Nat) (forced : Bool := true) : State :=
  match s.tx? id with
  | none => s
  | some st =>
    let s0 := if forced then (s.interruptTx id 0x60).fencePair id else s.losePair id
    let s1 := if st.cfg.dispRole = 1 then s0.orphanRows id st.cfg.dispTable else s0
    let s2 := { s1 with tx := eraseKey id s1.tx, tables := s1.tables.map (fun x =>
      let t := x.2
      let clear (d : DispSet) : DispSet := { d with
        entries := d.entries.map (fun (e : DispEntry) => if e.stream = some id then { e with stream := none } else e),
        spillTo := if d.spillTo = some id then none else d.spillTo }
      let t1 : DispTable := { t with cur := clear t.cur, next := t.next.map clear }
      (x.1, if t1.source = some id then
        { t1 with
          cur := t1.next.getD t1.cur, next := none, source := none, window := none, row := 0, counts := [], held := [], holdFrom := none }
      else t1)) }
    let s3 := if st.reserves && st.withdraw then { s2 with guard := { s2.guard with freed := s2.guard.freed ++ [st.cfg] } } else s2
    if st.looped then s3 else s3.closeStreamWindows id

/-- Accepted flits of a stream still wait for the merge or their release: those of class F may wait when its CLOSE has passed (R316). -/
def State.flitsHeld (s : State) (id : Nat) : Bool :=
  s.strands.any (fun x => x.link.queue.any (fun f => fStream f.body == id && 1 ≤ fType f.body && fType f.body ≤ 3))

/-- An inbound context is freed once a CLOSE has come and nothing is buffered, or on its way there: a CLOSE acts after every flit of the
stream (R59, R169, R318). -/
def State.checkCloseRx (s : State) (key : Nat) : State :=
  match s.rx? key with
  | none => s
  | some st =>
    if !(st.closeSeen && st.empty) || s.port.any (fun i => i.isOf key) || (!st.looped && s.flitsHeld key) then s
    else
      let s1 := s.freeRx key false
      if st.looped then
        let d := match s1.tx? st.cfg.id with
          | some t => (match t.phase with
            | .closing d _ => d
            | _ => none)
          | none => none
        let s2 := (s1.freeTx st.cfg.id false).closeStreamWindows st.cfg.id
        match d with
        | some d => s2.complete d 0
        | none => s2
      else (s1.pushMsg 0x13 (toLe 2 (st.cfg.id + 4096) ++ [0, 0])).closeStreamWindows st.cfg.id

/-- An outbound stream that is closing without force sends its CLOSE after its last parcel (R298). -/
def State.checkCloseTx (s : State) (id : Nat) : State :=
  match s.tx? id with
  | none => s
  | some st =>
    match st.phase with
    | .closing d false =>
      if !(st.queue.isEmpty && st.kept.isEmpty && st.ptQueue.isEmpty && !s.sends.any (fun x => x.stream == id)) then s
      else
        let s1 := s.setTx id { st with phase := .closing d true }
        if st.looped then (s1.modRx (4096 + id) (fun (t : RxStream) => { t with closeSeen := true })).checkCloseRx (4096 + id)
        else s1.pushMsg 0x12 (toLe 2 id ++ [0, 0])
    | _ => s

/-! ## Parcels that enter a stream -/

/-- The pair of the window that a SOURCE parcel would join: that of the last parcel before it (R186). -/
def State.windowAhead (s : State) (st : TxStream) : Option (Nat × Nat) :=
  match st.queue.getLast? with
  | some p => if hMbEnd p.src then none else some (hMb p.src, hDir p.src)
  | none => (s.table? st.cfg.dispTable).bind (fun t => t.window)

/-- The rules of R32, R65, R66, R68, R146, R159, R183, R203 and R209 that concern a parcel's bytes. `b` holds all of them, or at least
the header where `part` is set; `len` is their number. R183 sets a SOURCE parcel's SB_LEN, above R66's range for more than 2,048 rows
(DEDUCED). -/
def State.parcelOk (s : State) (st : TxStream) (b : List Byte) (len : Nat) (part : Bool) : Bool :=
  let c := st.cfg
  b.length ≥ 32 && len == parcelLen (denseSize c.srcFmt (hElems b)) b && hStream b == c.id && (hSbLen b ≤ 16384 || c.dispRole == 1) &&
    (hTags b == 0 || c.dispRole != 0) && (!hAtomic b || st.atomicLim != 0) && (hContrib b == 0 || c.accRegion != 0) &&
    (!hBwdDone b || hDir b == 1) && (!hEmpty b || field b 12 4 == 0) && (!isPerTensor c.srcFmt || isOuterScale (hOuter b)) &&
    (c.accRegion == 0 || (hSbLen b == 0 && hTags b == 0)) && c.shelfRole != 2 &&
    (c.shelfRole != 3 || (hDir b == 2 && hSbLen b == 1 && hTags b == 0 && (part || fillFirst b c.srcFmt % 32 == 0))) &&
    (c.dispRole != 1 || (part || match s.table? c.dispTable with
      | some t => sourceOk c t.cur.rowElems (s.windowAhead st) b
      | none => false))

/-- An atomic parcel above the limit is refused (R79): a station's is counted and reported, a PARCEL_SEND completes. The source bytes of one
that was `taken` in, into the queue or into lookahead space, are counted (R127). -/
def State.refuseAtomic (s0 : State) (id : Nat) (p : TxParcel) (taken : Bool) : State :=
  let s := if taken then s0.modTx id (fun (t : TxStream) => t.untake p) else s0
  match p.source with
  | .host d => (s.raise 0x0402 id).complete d 0x15
  | _ => ((s.modTx id (fun (t : TxStream) => { t with refused := satAdd 16 t.refused 1 })).raise 0x0402 id).postEvent 0x0002 id 0x0402
      (toLe 2 (hMb p.src) ++ toLe 1 (hDir p.src))

/-- A SOURCE parcel above the stream's capacity is refused (R185): it is counted and reported, and a PARCEL_SEND completes
with NO_RESOURCE (DESIGN CHOICE). -/
def State.refuseSource (s : State) (id : Nat) (p : TxParcel) : State :=
  let s1 := ((s.modTx id (fun (t : TxStream) => { t with refused := satAdd 16 t.refused 1 })).raise 0x0501 id).postEvent 0x0002 id 0x0501
    (toLe 2 (hMb p.src) ++ toLe 1 (hDir p.src))
  match p.source with
  | .host d => s1.complete d 0x12
  | _ => s1

/-- A parcel with good bytes enters its stream, unless its size is refused (R79, R185). -/
def State.enterParcel (s : State) (id : Nat) (p : TxParcel) (sought : Option Seek := none) : State :=
  match s.tx? id with
  | none => s
  | some st =>
    let c := st.cfg
    if hAtomic p.src && deliveredSize c.dlvFmt p.src > st.atomicLim then s.refuseAtomic id p (sought.any (fun q => q.held != 0))
    else if c.dispRole = 1 ∧ sourceCharge c p.src > st.capacity then s.refuseSource id p
    else if s.sagChecksD st.cls st.looped (s.regN 0x4000) then
      let r := s.sagDigest false id c.srcFmt (s.regN 0x4000) p.src
      if r.1 then r.2.enqueue id p sought
      else
        let s1 := r.2.marked (r.2.inj.fired != s.inj.fired)
          ((r.2.setTx id { st with refused := satAdd 16 st.refused 1 }).violation 0x0813 id 3)
        match p.source with
        | .host d => s1.complete d 0x40
        | _ => s1
    else s.enqueue id p sought

/-! ## Station I channel (R32) -/

def sideStation (w : Nat) : Nat := bits w 5 0
def sideStream (w : Nat) : Nat := bits w 17 6
def sideSop (w : Nat) : Bool := bit w 18
def sideEop (w : Nat) : Bool := bit w 19
def sideBytes (w : Nat) : Nat := bits w 29 20
def sideMb (w : Nat) : Nat := bits w 47 32
def sideDir (w : Nat) : Nat := bits w 49 48

/-- The station exists (R44). -/
def Station.exists_ (t : Station) : Bool := !allZero t.name

/-- The station is bound to a port. -/
def State.boundTo (s : State) (stn port : Nat) : Bool :=
  let t := s.stations.getD stn {}
  t.exists_ && t.port == port

/-- A parcel from the I channel is discarded as malformed (R32). -/
def State.malformed (s : State) (stream : Nat) : State :=
  (s.modTx stream (fun (t : TxStream) => { t with malformed := satAdd 16 t.malformed 1 })).raise 0x0401 stream

/-- A parcel of the stream may be offered: it is open. A parcel that is part-way in on the I channel when the stream begins to close is not
yet accepted (DESIGN CHOICE): at its EOP the test fails, and it counts as malformed. -/
def TxStream.takes (st : TxStream) : Bool := st.phase == .live && st.cls != 3

/-- The side field of a port's parcel names its stream, station and header rightly (R32). -/
def State.inNamed (s : State) (port : Nat) (st : TxStream) (q : Port) : Bool :=
  st.cfg.localStn == sideStation q.inSide && s.boundTo (sideStation q.inSide) port && hMb q.inBytes == sideMb q.inSide &&
    hDir q.inBytes == sideDir q.inSide

/-! Parcels of a stream whose latency is fixed enter it with their first beat: each flit counts IN from the beat that completes its own bytes
(R322, R323). A beat that breaks R32 once flits have left ends the parcel by an abort flit (R302, DEDUCED). -/

/-- A parcel that `hit` names leaves the queue before its first flit, and after it is aborted on the wire. -/
def TxStream.cutSource (t : TxStream) (hit : TxParcel → Bool) : TxStream := { t with
  queue := (t.queue.filter (fun p => !(hit p && !p.started))).map (fun (p : TxParcel) => if hit p then { p with abort := true } else p)
  srcBytes := ((t.queue.filter hit).foldl TxStream.untake t).srcBytes }

/-- The parcel of a port that is still coming in and has entered its stream. -/
def TxParcel.comesBy (port : Nat) (p : TxParcel) : Bool := p.source == .station port && !p.complete

/-- Parcels of the stream are sent as they come in: their latency is fixed, and no check needs all of their bytes. -/
def State.goesThrough (s : State) (st : TxStream) : Bool :=
  s.fixedLat st.cls st.cfg st.looped && st.cfg.dispRole != 1 && st.cfg.shelfRole != 3 && !s.sagChecksD st.cls st.looped (s.regN 0x4000)

/-- The parcel that has come in part is taken back, or aborted. -/
def State.stopThrough (s : State) (port : Nat) : State :=
  let q := s.ports.getD port {}
  if q.inThru then (s.modPort port (fun p => { p with inThru := false })).modTx (sideStream q.inSide) (fun t => t.cutSource (·.comesBy port))
  else s

/-- What a port has of a parcel that has entered its stream joins it. -/
def State.feedThrough (s : State) (port : Nat) (whole : Bool) : State :=
  let q := s.ports.getD port {}
  if q.inThru then s.modTx (sideStream q.inSide) (fun (t : TxStream) => { t with queue := t.queue.map (fun (p : TxParcel) =>
    if p.comesBy port then { p with src := q.inBytes, stamps := q.inStamps, complete := whole } else p) })
  else s

/-- The parcel assembled on a port is whole. -/
def State.endIntake (s : State) (port : Nat) : State :=
  let q := s.ports.getD port {}
  let id := sideStream q.inSide
  let b := q.inBytes
  let clear (s : State) : State := s.modPort port (fun p => { p with
    inOpen := false, inBytes := [], inStamps := [], inBad := false, inThru := false, inSeek := none })
  let (inj, s0) := s.fire 0x16 id
  let s1 := clear s0
  match s1.tx? id with
  | none => if q.inThru then s1 else s1.malformed id
  | some st =>
    let bad := q.inBad || inj || !s1.inNamed port st q || !s1.parcelOk st b b.length false
    if q.inThru then
      if !st.queue.any (·.comesBy port) then s1
      else if bad then s1.marked inj (State.malformed (clear (s0.stopThrough port)) id)
      else clear (s0.feedThrough port true)
    else if bad || !st.takes then s1.marked inj (s1.malformed id)
    else
      let p : TxParcel := { source := .station port, src := b, complete := true, stamps := q.inStamps }
      match st.fence with
      | some status => s1.dropTxParcel id status p
      | none => s1.enterParcel id p q.inSeek

/-- A parcel of this port waits under R80. -/
def State.portWaits (s : State) (port : Nat) : Bool := s.portBlocks port s.arrivals

/-- A station port operates: out of reset, with its slice's domain on (R24, R505). -/
def State.portUp (s : State) (port : Nat) : Bool := !s.coreHeld && s.cfgUp && s.domainOn (16 + port % 4)

/-- The ports are not held by a key wash (R580). -/
def State.notWashed (s : State) : Bool := !s.flag 0x7004 1 && !s.flag 0x7004 0

/-- ST{n}_I_READY for a beat: low at a parcel boundary under HOLD_I (R601), and for every beat under a key wash (R580) or R80. -/
def State.intakeReady (s : State) (port : Nat) (sop : Bool) : Bool :=
  s.portUp port && s.notWashed && !s.portWaits port && (!sop || !s.flag 0x100 1)

/-- The parcel whose first beat has come on a port seeks lookahead, if its stream would take it (R112, R151). -/
def State.seekIntake (s : State) (port : Nat) : State :=
  let q := s.ports.getD port {}
  match s.tx? (sideStream q.inSide) with
  | none => s
  | some st =>
    if !st.takes || st.fence.isSome || q.inBad then s
    else { s with arrivals := s.arrivals + 1 }.modPort port (fun p => { p with inSeek := some (s.seek st q.inBytes) })

/-- The parcel whose first beat has come on a port enters a stream of fixed latency. -/
def State.enterThrough (s : State) (port : Nat) : State :=
  let q := s.ports.getD port {}
  let id := sideStream q.inSide
  match s.tx? id with
  | none => s
  | some st =>
    let len := parcelLen (denseSize st.cfg.srcFmt (hElems q.inBytes)) q.inBytes
    if !s.goesThrough st || !st.takes || st.fence.isSome || q.inBad || !s.inNamed port st q || !s.parcelOk st q.inBytes len true then s
    else (s.modPort port (fun p => { p with inThru := true, inSeek := none })).enterParcel id
      { source := .station port, src := q.inBytes, stamps := q.inStamps } q.inSeek

/-- A beat transfers on an I channel (R32). -/
def State.intake (s : State) (port side : Nat) (data : List Byte) : State :=
  let q0 := s.ports.getD port {}
  let sop := sideSop side
  let n := sideBytes side
  if !s.intakeReady port (sop || !q0.inOpen) then s
  else
    let s1 := if sop && q0.inOpen then (s.stopThrough port).malformed (sideStream q0.inSide) else s
    let start := sop || !q0.inOpen
    let same := sideStation side == sideStation q0.inSide && sideStream side == sideStream q0.inSide &&
      sideMb side == sideMb q0.inSide && sideDir side == sideDir q0.inSide
    let bad := n == 0 || n > 512 || (n < 512 && !sideEop side) || (start && !sop) || (!start && (q0.inBad || !same))
    let bytes := (if start then [] else q0.inBytes) ++ data.take (min n 512)
    let s2 := s1.modPort port (fun p => { p with
      inOpen := true, inSide := if start then side else q0.inSide, inBytes := bytes,
      inStamps := (if start then [] else q0.inStamps) ++ [(bytes.length, s.lclk)], inBad := bad, inSeek := if start then none else p.inSeek })
    let s3 := if bad then s2.stopThrough port
      else if !start then s2.feedThrough port false
      else if sideEop side then s2.seekIntake port
      else (s2.seekIntake port).enterThrough port
    if sideEop side then s3.endIntake port else s3

/-! ## PARCEL_SEND (R260) -/

def State.modSend (s : State) (desc : Nat) (f : Send → Send) : State :=
  { s with sends := s.sends.map (fun (x : Send) => if x.desc = desc then f x else x) }

/-- The next HM read of a PARCEL_SEND. -/
def State.readSend (s : State) (desc : Nat) : State :=
  match s.sends.find? (fun x => x.desc == desc) with
  | none => s
  | some x =>
    if x.reading || x.read ≥ x.len then s
    else (s.modSend desc (fun y => { y with reading := true })).hmReadReq (x.addr + x.read) (min 4096 (x.len - x.read))
      (.parcelSend desc)

/-- The bytes of a PARCEL_SEND break R32, R65 or R68: counted, and the descriptor completes (R260). -/
def State.badSend (s : State) (desc id : Nat) : State :=
  let s1 := ({ s with sends := s.sends.filter (fun (x : Send) => x.desc != desc) }).malformed id
  s1.badField desc 0xFF

/-- The oldest PARCEL_SEND of a stream that has not entered it does so when its header, and all bytes that a check needs, have been read,
at a parcel boundary of the station's own port, and HOLD_I is clear (R260, R601). -/
def State.enterSend (s : State) (desc : Nat) : State :=
  match s.sends.find? (fun x => x.desc == desc) with
  | none => s
  | some x =>
    let first := match s.sends.find? (fun y => y.stream == x.stream && !y.entered) with
      | some y => y.desc == desc
      | none => false
    match s.tx? x.stream with
    | none => s
    | some st =>
      let q := s.ports.getD ((s.stations.getD st.cfg.localStn {}).port) {}
      let begun := q.inOpen && sideStream q.inSide == x.stream
      let full := x.read ≥ x.len
      let need := st.cfg.dispRole == 1 || st.cfg.shelfRole == 3 || s.sagChecksD st.cls st.looped (s.regN 0x4000)
      if x.entered || !first || begun || s.flag 0x100 1 || (!full && (need || x.got.length < 32)) then s
      else if !s.parcelOk st x.got x.len (!full) then s.badSend desc x.stream
      else
        let p : TxParcel := { source := .host desc, src := x.got, complete := full }
        ((s.modSend desc (fun y => { y with entered := true, got := [] })).enterParcel x.stream p)

/-- Carries PARCEL_SENDs on: those that may enter do, and those whose bytes are all in leave the list. -/
def State.pumpSends (s : State) : State :=
  let s1 := forEach s.sends (fun (x : Send) s => (s.enterSend x.desc).readSend x.desc) s
  { s1 with sends := s1.sends.filter (fun (x : Send) => (s1.desc? x.desc).isSome && !(x.entered && x.read ≥ x.len)) }

/-- HM data of a PARCEL_SEND arrive (R260). -/
def State.sendData (s : State) (desc : Nat) (data : List Byte) (err : Bool) : State :=
  match s.sends.find? (fun x => x.desc == desc) with
  | none => s
  | some x =>
    let n := min 4096 (x.len - x.read)
    let bytes := padTo n data
    let s0 := s.modSend desc (fun y => { y with reading := false, read := y.read + n, got := if y.entered then [] else y.got ++ bytes })
    if !err then
      let s1 := if x.entered then s0.modTx x.stream (fun (t : TxStream) => { t with
          queue := t.queue.map (fun (p : TxParcel) => if p.source = .host desc then
            { p with src := p.src ++ bytes, complete := x.read + n ≥ x.len } else p) }) else s0
      s1.pumpSends
    else
      -- HM_RD_ERR: before the first flit nothing is sent; after it the parcel is aborted on the wire
      let s1 := { s with sends := s.sends.filter (fun (y : Send) => y.desc != desc) }
      let s2 := s1.modTx x.stream (fun (t : TxStream) => t.cutSource (fun p => p.source == .host desc))
      (s2.complete desc 0x60).pumpSends

/-! ## Pops and the O channel (R33, R77, R83 to R85) -/

/-- The oldest parcel of a pair that a pop may take. -/
def RxStream.popParcel (st : RxStream) (mb dir : Nat) : Option RxParcel :=
  st.parcels.find? (fun p => !p.gone && p.checked && !p.popped && p.mb == mb && p.dir == dir)

/-- A parcel's first beat can leave: its end is due, or it may be delivered and holds a whole beat (R85). -/
def RxParcel.startable (p : RxParcel) : Bool :=
  p.ended.isSome || (p.hold == 0 && (if p.atomic then p.complete else p.complete || p.avail.length ≥ 512))

/-- A stream's receiving station is bound to the port. -/
def State.popStream (s : State) (port id : Nat) : Option (Nat × RxStream) :=
  (s.rxOf id).bind (fun x => if s.boundTo x.2.cfg.station port && x.2.cls != 3 then some x else none)

/-- The first waiting pop that can be served, with its stream's key and parcel: pops of one stream in order (R84). -/
def State.servable (s : State) (port : Nat) : List Nat → List Pop → Option (Pop × Nat × RxParcel)
  | _, [] => none
  | seen, q :: rest =>
    if seen.contains q.stream then State.servable s port seen rest
    else
      match s.popStream port q.stream with
      | none => State.servable s port seen rest
      | some (key, st) =>
        match st.popParcel q.mb q.dir with
        | some p => if (p.shown s.lclk).startable then some (q, key, p) else State.servable s port (seen ++ [q.stream]) rest
        | none => State.servable s port (seen ++ [q.stream]) rest

/-- What follows the delivery of a parcel's last beat: its cells and slot, its binding (R215), the keeper's promise (R223), and the
close of a stream now empty (R59). -/
def State.delivered (s : State) (key uid : Nat) : State :=
  match (s.rx? key).bind (fun st => (st.parcel? uid).map (fun p => (st, p))) with
  | none => s
  | some (st, p) =>
    let s1 := s.dropParcel key uid
    let s2 := if st.cfg.vcheck && hBwdDone p.wire && hDir p.wire == 1 then s1.unbind (hStage p.wire) (hMb p.wire) else s1
    let s3 := if st.cfg.shelfRole = 4 then s2.keeperTaken st p.avail else s2
    s3.checkCloseRx key

/-- A port offers a beat. -/
def State.offer (s : State) (port side : Nat) (data : List Byte) (source : Option (Nat × Nat)) : State :=
  s.modPort port (fun q => { q with offer := some ⟨side, data, source⟩ })

/-- A port offers the next beat of the parcel that it delivers, if the parcel holds a whole beat or its last one (R85). -/
def State.offerNext (s : State) (port key uid : Nat) : State :=
  match (s.rx? key).bind (fun st => (st.parcel? uid).map (fun p => (st, p))) with
  | none => s.modPort port (fun q => { q with outOf := none })
  | some (st, p) =>
    let v := p.shown s.lclk
    let left := v.avail.length - p.taken
    if left < 512 ∧ !v.complete then s
    else
      let n := min 512 left
      let eop := v.complete && n == left
      let side := sideField st.cfg.station st.cfg.id (p.taken == 0) eop n p.mb p.dir (if eop then p.okStatus else 0)
      ((s.offer port side (slice p.avail p.taken n) (some (key, uid))).modPort port (fun q => { q with
        outOf := if eop then none else some key })).modParcel key uid (fun (q : RxParcel) => { q with
        taken := q.taken + n, popped := true })

/-- A port that offers no beat chooses its next one (R30, R84, R85, R90): the parcel in delivery goes on; between parcels, answers to pops
go first, then the first pop that can be served. -/
def State.offerBeat (s : State) (port : Nat) : State :=
  let q := s.ports.getD port {}
  if !s.portUp port || q.offer.isSome then s
  else
    match q.outOf.bind (fun key => ((s.rx? key).bind (fun st => st.parcels.find? (fun (p : RxParcel) => p.popped))).map
        (fun p => (key, p.uid))) with
    | some (key, uid) => s.offerNext port key uid
    | none =>
      match q.answers with
      | side :: rest => (s.modPort port (fun q => { q with outOf := none, answers := rest })).offer port side [0] none
      | [] =>
        match s.servable port [] q.pops with
        | none => s.modPort port (fun q => { q with outOf := none })
        | some (pop, key, p) =>
          let s1 := s.modPort port (fun q => { q with pops := q.pops.erase pop })
          match p.ended, s.rx? key with
          | some status, some st =>
            (s1.offer port (sideField st.cfg.station st.cfg.id true true 1 p.mb p.dir status) [0] (some (key, p.uid))).modParcel key p.uid
              (fun (q : RxParcel) => { q with popped := true })
          | _, _ => s1.offerNext port key p.uid

/-- Every port that offers no beat chooses one. -/
def State.offerBeats (s : State) : State := forRange s.ports.length (fun port s => s.offerBeat port) s

/-- A beat of a parcel has transferred: the cells whose bytes have all been taken return (R77), and with the last beat the parcel's end. -/
def State.beatTaken (s : State) (key uid : Nat) (last : Bool) : State :=
  match (s.rx? key).bind (fun st => st.parcel? uid) with
  | none => s
  | some p =>
    if p.ended.isSome then (s.discardParcel key uid).checkCloseRx key
    else
      let cells := if last then p.cells else min p.cells (p.taken / 240)
      let s1 := (s.returnCells key (cells - p.returned)).modParcel key uid (fun (q : RxParcel) => { q with
        returned := max q.returned cells })
      if last then s1.delivered key uid else s1

/-- The beat on offer at an O channel transfers (R30, R77, R85, R90). -/
def State.drain (s0 : State) (port : Nat) : State :=
  let s := s0.offerBeat port
  if !s.portUp port then s
  else
    match (s.ports.getD port {}).offer with
    | none => s
    | some b =>
      let s1 := (s.modPort port (fun q => { q with offer := none })).emit (.oBeat port b.side b.data)
      match b.source with
      | none => s1
      | some (key, uid) => s1.beatTaken key uid (bit b.side 19)

/-- A pop request is taken (R33, R83, R86, R90). -/
def State.pop (s : State) (port stream mb dir : Nat) : State :=
  let q := s.ports.getD port {}
  if !s.portUp port || !s.notWashed || q.pops.length ≥ 16 then s
  else
    match s.popStream port stream with
    | none => s.answerBeat port (sideField 0 stream true true 1 mb dir 0x11)
    | some (key, st) =>
      let s1 := if st.stall && st.serves mb dir then s.modRx key (fun (t : RxStream) => { t with stall := false }) else s
      match st.fence with
      | some status =>
        if st.starves q.pops ⟨stream, mb, dir⟩ then s1.answerBeat port (sideField st.cfg.station stream true true 1 mb dir status)
        else s1.modPort port (fun p => { p with pops := p.pops ++ [⟨stream, mb, dir⟩] })
      | none => s1.modPort port (fun p => { p with pops := p.pops ++ [⟨stream, mb, dir⟩] })

/-- The stall test of R86 for an inbound stream. -/
def State.stallTest (s : State) (st : RxStream) : Bool :=
  let pops := (s.ports.getD (s.rxPort st) {}).pops.filter (fun q => q.stream == st.cfg.id)
  st.cells == st.capacity && !pops.isEmpty && pops.all (fun q => !st.serves q.mb q.dir)

/-- The stall test has held for 1,024 ticks (R86). -/
def State.queueStall (s : State) (id : Nat) : State :=
  match s.rxOf id with
  | none => s
  | some (key, st) =>
    if st.stall || !s.stallTest st then s
    else ((s.setRx key { st with stall := true, stalls := satAdd 16 st.stalls 1 }).raise 0x0404 st.cfg.id).postEvent 0x0004
      st.cfg.id 0x0404 []

/-! ## Pass-through port (R34, R88, R89, R499) -/

/-- The pass-through port operates: CFG out of reset and slice 0 on (R24, R505). -/
def State.ptUp (s : State) : Bool := s.cfgUp && s.domainOn 16

/-- PARTNER_QUIET or PARTNER_LOST while the partner state is QUIET or LOST (R498). -/
def State.partnerStatus (s : State) : Option Nat :=
  match s.partner with
  | .quiet => some 0x21
  | .lost => some 0x20
  | _ => none

/-- The open outbound P stream of a fabric virtual channel. -/
def State.ptStream (s : State) (vc : Nat) : Option (Nat × TxStream) :=
  s.tx.find? (fun x => x.2.cls == 3 && x.2.cfg.vc == vc && x.2.phase == .live)

/-- A whole PT packet has been taken in. -/
def State.ptPacket (s0 : State) (vc : Nat) (packet : List Byte) : State :=
  let (inj, s) := s0.fire 0x14 vc
  if inj || packet.length > 4352 then (s.ptRespond vc packet 0x11).raise 0x0209 vc 0 inj
  else
    match s.ptStream vc with
    | none => (s.ptRespond vc packet 0x12).raise 0x0407 vc
    | some (id, st) =>
      match s.partnerStatus.or st.fence with
      | some status => s.ptRespond vc packet status
      | none => s.setTx id { st with ptQueue := st.ptQueue ++ [(packet, 0, true)] }

/-- A PT beat transfers (R34); PT_I_READY falls at a packet boundary under HOLD_I (R601). -/
def State.ptIntake (s : State) (vc : Nat) (sop eop : Bool) (data : List Byte) : State :=
  let cur := s.ptIn.getD vc none
  if !s.ptUp || (cur.isNone && s.flag 0x100 1) then s
  else
    let bytes := (if sop then [] else cur.getD []) ++ data.take (s.build.ptBits / 8)
    if eop then ({ s with ptIn := modAt (fun _ => none) vc s.ptIn }).ptPacket vc bytes
    else { s with ptIn := modAt (fun _ => some bytes) vc s.ptIn }

/-- The next beat of the oldest packet of an inbound P stream. -/
def State.ptBeatOf (s : State) (vc key : Nat) (st : RxStream) : State :=
  match st.packets with
  | [] => s
  | (bytes, whole, off) :: rest =>
    let w := s.build.ptBits / 8
    let left := bytes.length - off
    if (left < w ∨ (st.ptDrop ∧ rest.isEmpty)) ∧ !whole then s
    else
      let n := min w left
      let eop := whole && n == left
      let s1 := s.emit (.ptBeat vc (off == 0) eop false (slice bytes off n))
      if eop then ((s1.setRx key { st with packets := rest }).returnCells key (ceilDiv bytes.length 240)).checkCloseRx key
      else s1.setRx key { st with packets := (bytes, whole, off + n) :: rest }

/-- A PT beat leaves on a channel: error beats between packets, else the next beat of the channel's packet (R88, R499). -/
def State.ptDrain (s : State) (vc : Nat) : State :=
  let x := s.rx.find? (fun r => r.2.cls == 3 && r.2.cfg.vc == vc && !r.2.packets.isEmpty)
  let inside := match x with
    | some r => (r.2.packets.head?.map (fun p => p.2.2 != 0)).getD false
    | none => false
  if !s.ptUp then s
  else
    match s.ptErr.getD vc [], inside with
    | (sop, bytes) :: rest, false =>
      ({ s with ptErr := modAt (fun _ => rest) vc s.ptErr }).emit (.ptBeat vc sop true true bytes)
    | _, _ =>
      match x with
      | some r => s.ptBeatOf vc r.1 r.2
      | none => s

end Sys2Proof.Machine
end

