-- ==== Sys2Proof/Machine/Streams.lean ====
section
/-! DEFINITION. Stations, and opening, changing and closing streams, with their messages (R44 to R59, R98 to R101, R134, R139, R175 to
R178, R202, R298, R326, R469, R470, R473, R479). -/

namespace Sys2Proof.Machine

/-- The first check that fails: its status and FIELD. -/
def firstFail : List (Bool × Nat × Nat) → Option (Nat × Nat)
  | [] => none
  | (bad, status, off) :: rest => if bad then some (status, off) else firstFail rest

/-! ## The stream parameters -/

/-- The parameters in bytes 0x08 to 0x37 of STREAM_OPEN, which OPEN carries unchanged (R297). -/
def streamCfg (b : List Byte) : StreamCfg where
  id := bits (field b 0 2) 11 0
  cls := bits (field b 0 2) 14 12
  localStn := bits (byteAt b 2) 5 0
  rnd := bits (byteAt b 3) 1 0
  remote := field b 4 4
  bufPages := bits (field b 8 2) 8 0
  srcFmt := bits (byteAt b 10) 3 0
  wireFmt := bits (byteAt b 10) 7 4
  dlvFmt := bits (byteAt b 11) 3 0
  weight := bits (byteAt b 11) 7 4
  atomicLimit := field b 12 4
  seed := field b 16 4
  vc := bits (byteAt b 20) 3 0
  codecCtl := byteAt b 21
  numCtl := field b 22 2
  flushCtl := field b 24 4
  stepStage := field b 28 2
  accRegion := byteAt b 30
  accIndex := bits (byteAt b 31) 3 0
  dispCtl := field b 32 4
  shelfCtl := field b 36 4
  resvSlots := field b 40 4
  setFirst := byteAt b 44
  setCount := byteAt b 45
  setStandby := byteAt b 46
  hasStandby := bit (byteAt b 47) 0

/-- Reserved-bit masks of the STREAM_OPEN body (R9). CODEC_CTL, NUM_CTL, FLUSH_CTL, DISP_CTL and SHELF_CTL have `reservedCtl`, and REMOTE
the check of R50. -/
def streamOpenMask : List Nat :=
  [255, 0x7F, 0x3F, 3] ++ fullMask 4 ++ [255, 1, 255, 255] ++ fullMask 8 ++ [15] ++ fullMask 10 ++ [15] ++ fullMask 12
    ++ [255, 255, 255, 1]

/-- Reserved bits of REMOTE (R50) and of the control fields of STREAM_OPEN (R9), which come before every other check of it. -/
def reservedCtl (c : StreamCfg) : List (Bool × Nat × Nat) :=
  [(!addrOk c.remote, 0x11, 0x0C), (bits c.codecCtl 7 2 != 0, 0x11, 0x1D), (bits c.numCtl 15 11 != 0, 0x11, 0x1E), (bits c.flushCtl 31 25 != 0, 0x11, 0x20),
   (bit c.dispCtl 31, 0x11, 0x28), (bits c.shelfCtl 31 16 != 0, 0x11, 0x2C)]

/-- The stream is looped: a SOURCE stream, or one whose REMOTE is on this instance under LOOP_EN (R169, R175). -/
def State.loops (s : State) (c : StreamCfg) : Bool :=
  c.dispRole == 1 || (s.flag 0x4800 0 && addrBase c.remote == s.ownBase)

/-- The codec control that will be used (R100). -/
def State.codecUsed (s : State) (c : StreamCfg) (looped : Bool) : Nat :=
  if looped || c.cls == 3 then c.codecCtl
  else
    let a := if bit (s.caps 1) 0 then c.codecCtl else setBits c.codecCtl 0 0 1
    if bit (s.caps 1) 1 then a else setBits a 1 1 0

/-- What the STREAM_OPENs that wait for a dispatch table ask for: their ids count as open, and what they take as taken (R249). -/
def State.opensLater (s : State) : List StreamCfg :=
  s.tableWaits.filterMap (fun w => ((s.desc? w.2).filter (fun d => d.opcode == 0x10)).map (fun d => streamCfg (d.entry.drop 8)))

/-- Contexts taken, those of waiting STREAM_OPENs among them (R52, R249). -/
def State.contexts (s : State) : Nat :=
  s.tx.length + s.rx.length + (s.opensLater.map (fun c => if s.loops c then 2 else 1)).foldl (· + ·) 0

/-- Pages of a station that looped STREAM_OPENs wait to take (R47, R249). -/
def State.pagesLater (s : State) (stn : Nat) : Nat :=
  ((s.opensLater.filter (fun c => s.loops c && c.station == stn)).map (·.bufPages)).foldl (· + ·) 0

/-- The wire format needs transcoding (R473). -/
def State.transcodes (s : State) (c : StreamCfg) (looped : Bool) : Bool :=
  !looped && (c.wireFmt == 7 || c.wireFmt == 8 || c.wireFmt == 9) && !bit (s.caps 0) c.wireFmt && bit (s.caps 0) 5

/-! ## Reservations (R325 to R327) -/

/-- Strands of a striping set, standby included. -/
def StreamCfg.strandSet (c : StreamCfg) : List Nat :=
  (List.range (c.setCount + 1)).map (· + c.setFirst) ++ (if c.hasStandby then [c.setStandby] else [])

/-- L(m) of R325: ⌊5,120 (m − 1) − 102.4 m⌋. -/
def resvLimit (m : Nat) : Nat := (51200 * (m - 1) - 1024 * m) / 10

/-- A strand has left service at its boundary to be retired or parked, and still empties its replay buffer (R291). -/
def Strand.goneFor (x : Strand) (row : Nat) : Bool := x.draining && x.leave.any (fun (v : Svc) => v.reason != 0 && v.row ≤ row)

/-- CAP of R331: 5,120 for each strand FIRED at full width, 2,560 for each CRAZED strand, but none for one in HOLD for more than 8
frames, nor for one that has been retired or parked. -/
def State.capNow (s : State) : Nat :=
  (s.strands.map (fun x => if (x.sub = .hold ∧ x.held > 8) ∨ x.goneFor s.lclk then 0
    else if x.state = .fired then 5120 else if x.state = .crazed then 2560 else 0)).foldl (· + ·) 0

/-- Two F streams name the same set. -/
def sameSet (a b : StreamCfg) : Bool :=
  a.setFirst == b.setFirst && a.setCount == b.setCount && a.hasStandby == b.hasStandby && a.setStandby == b.setStandby

/-- The checks of R326, with those of the descriptor on the set's bounds. A looped stream takes no slot of any strand. -/
def State.resvChecks (s : State) (c : StreamCfg) (looped : Bool) : List (Bool × Nat × Nat) :=
  let set := c.strandSet
  let later := s.opensLater.filter (fun o => o.cls == 1 && !s.loops o)
  let open_ := (s.tx.filter (fun x => x.2.reserves)).map (·.2.cfg) ++ later
  let others := open_ ++ s.guard.freed
  let meets := open_.any (fun o => !sameSet c o && o.strandSet.any (fun i => set.contains i))
  let onSet := ((others.filter (sameSet c)).map (·.resvSlots)).foldl (· + ·) 0
  let total := (others.map (·.resvSlots)).foldl (· + ·) 0
  let n := s.linkStrands
  [(c.resvSlots == 0 || c.resvSlots ≥ 2 ^ 24, 0x11, 0x30), (set.length < 2, 0x11, 0x35),
   (c.setFirst + c.setCount ≥ n, 0x11, 0x34),
   (c.hasStandby && (c.setStandby ≥ n || (c.setFirst ≤ c.setStandby && c.setStandby ≤ c.setFirst + c.setCount)), 0x11, 0x36),
   (!c.hasStandby && c.setStandby != 0, 0x11, 0x36),
   (!looped && meets, 0x11, 0x34), (!looped && set.any (fun i => !s.fullWidth i), 0x11, 0x34),
   (!looped && onSet + c.resvSlots > resvLimit set.length, 0x12, 0),
   (!looped && 100 * (total + c.resvSlots) + s.guard.dfloor * s.capNow > 100 * s.capNow, 0x12, 0)]

/-! ## The checks of the sender -/

/-- Formats that carry no conversion, or that take an outer scale. -/
def rawFmt (f : Nat) : Bool := f == 0xC || f == 0xD

/-- Dispatch settings (R174 to R178), on the sender. -/
def State.dispChecks (s : State) (c : StreamCfg) : List (Bool × Nat × Nat) :=
  let role := c.dispRole
  let watch := bit c.dispCtl 18
  let table := s.table? c.dispTable
  let unused := (role != 0 && (watch || c.watchExp != 0)) || (role != 3 && c.dispPair != 0) ||
    (role == 0 && !watch && bits c.dispCtl 30 2 != 0)
  let uses := role == 1 || role == 2 || c.watches
  let h := (table.map (·.cur.rowElems)).getD 0
  let widest := max (denseSize c.srcFmt 32) (denseSize c.dlvFmt 32)
  let source := role == 1 && (c.cls != 2 || c.atomicLimit != 0 || c.codecCtl != 0 || c.accRegion != 0 || c.wireFmt != c.srcFmt ||
    rawFmt c.srcFmt || rawFmt c.dlvFmt || isPerTensor c.srcFmt || isPerTensor c.dlvFmt ||
    (table.bind (·.source)).isSome || h / 32 * widest > 65536 || !(match table with
      | some t => (s.resolveSet t.num t.cur).resolved
      | none => false))
  let srcOf := (table.bind (·.source)).bind (fun i => s.tx? i)
  let expert := role == 2 && (!(c.cls == 1 || c.cls == 2) || c.atomicLimit != 0 || c.accRegion != 0 ||
    (match srcOf with
      | some t => t.cfg.srcFmt != c.srcFmt
      | none => false) ||
    s.tx.any (fun x => x.2.cfg.dispRole == 2 && x.2.cfg.dispTable == c.dispTable && x.2.cfg.remote == c.remote))
  let ret := role == 3 && (c.atomicLimit != 0 || c.accRegion != 0)
  [((c.cls == 3 || c.cls == 4) && c.dispCtl != 0, 0x11, 0x28), (unused, 0x11, 0x28),
   (uses && (s.build.dispTables == 0 || table.isNone), 0x12, 0),
   (role == 1 && addrBase c.remote != s.ownBase, 0x11, 0x0C), (source || expert || ret, 0x11, 0x28)]

/-- Shelf settings (R201, R202), on the sender. -/
def State.shelfChecks (s : State) (c : StreamCfg) : List (Bool × Nat × Nat) :=
  let role := c.shelfRole
  let marked := role != 0 || c.vcheck
  let f (x : Nat) : Bool := x == 0xD
  let cls := (role == 1 && !(c.cls == 1 || c.cls == 2)) || (role == 2 && !(c.cls == 1 || c.cls == 2)) || (role == 3 && c.cls != 2) ||
    ((role == 4 || role == 5) && c.cls != 4)
  let fmts := (role == 2 && rawFmt c.srcFmt) || (role == 3 && !(c.dlvFmt ≤ 2 || isMx c.dlvFmt)) ||
    ((role == 4 || role == 5) && (!(f c.srcFmt && f c.wireFmt && f c.dlvFmt) || c.atomicLimit < 65584))
  [(c.cls == 3 && c.shelfCtl != 0, 0x11, 0x2C), (role > 5, 0x11, 0x2C),
   (role != 1 && c.shelfPair != 0, 0x11, 0x2C), (c.vcheck && role > 1, 0x11, 0x2C),
   (marked && (c.dispRole != 0 || c.accRegion != 0), 0x11, 0x2C), (cls || fmts, 0x11, 0x2C),
   ((role == 2 && !s.hasShelves) || (role == 4 && s.role != .base), 0x12, 0)]

/-- The rows of R470 on the accumulate, dispatch, shelf and scale settings, in R470's order, of a stream toward the peer. -/
def State.settingCaps (s : State) (c : StreamCfg) (far : Bool) : List (Bool × Nat × Nat) :=
  [(far && c.strict && !bit (s.caps 0) 18, 0x14, 0x1E), (far && c.accRegion != 0 && !bit (s.caps 2) 0, 0x14, 0x26),
   (far && (c.dispRole == 2 || c.dispRole == 3) && !bit (s.caps 2) 2, 0x14, 0x28),
   (far && (c.shelfRole == 1 || c.shelfRole == 2 || c.shelfRole == 3 || c.vcheck) && !bit (s.caps 2) 3, 0x14, 0x2C),
   (far && c.shelfRole == 4 && !bit (s.caps 2) 4, 0x14, 0x2C)]

/-- A stream needs the peer; a REMOTE on this instance that does not loop does not: it is refused as R169 says. -/
def State.farStream (s : State) (c : StreamCfg) (looped : Bool) : Bool :=
  !looped && (addrBase c.remote != s.ownBase || (s.negDone && s.peerBase == s.ownBase))

/-- The rows of R56 before the dispatch, accumulate and scale settings, in order, with those of R57, R469 and R470. -/
def State.openFirst (s : State) (c : StreamCfg) (looped : Bool) : List (Bool × Nat × Nat) :=
  let far := s.farStream c looped
  let p := c.cls == 3
  let cap (w i : Nat) : Bool := bit (s.caps w) i
  let fmtCap (f : Nat) : Bool := cap 0 f
  let atomicN := if looped then s.atomicMax else field (s.record.getD []) 0x24 4
  let stagingN := if looped then s.build.stagingMiB else field (s.record.getD []) 0x28 2
  reservedCtl c ++ [(far && !s.negDone, 0x12, 0),
   (c.id == 0 || (s.tx? c.id).isSome || s.opensLater.any (fun o => o.id == c.id) || (looped && (s.rxOf c.id).isSome) || (far && (s.rx? (4096 + c.id)).isSome), 0x11, 0x08),
   (c.cls == 0 || c.cls > 4, 0x11, 0x08),
   (far && ((c.cls == 1 && !cap 1 2) || (p && !cap 1 3) || (c.cls == 4 && !cap 1 4)), 0x14, 0x08),
   (s.contexts + (if looped then 2 else 1) > 4096, 0x12, 0),
   (!(s.stations.getD c.localStn {}).exists_, 0x11, 0x0A),
   (c.dispRole != 1 && (if looped then addrBase c.remote != s.ownBase else !far || addrBase c.remote != s.peerBase), 0x11, 0x0C),
   (4096 * c.bufPages > stagingN * 262144, 0x13, 0x10),
   (p && c.atomicLimit != 0, 0x11, 0x14), (c.atomicLimit > 1048576, 0x11, 0x14),
   (far && c.atomicLimit != 0 && !cap 1 5, 0x14, 0x14),
   (c.atomicLimit > atomicN || c.atomicLimit > 4096 * c.bufPages, 0x13, 0x14)]
  ++ [(!fmtLegal c.srcFmt || (p && c.srcFmt != 0), 0x11, 0x12), (!fmtLegal c.wireFmt || (p && c.wireFmt != 0), 0x11, 0x12),
   (!fmtLegal c.dlvFmt || (p && c.dlvFmt != 0), 0x11, 0x13),
   (far && !p && !fmtCap c.srcFmt, 0x14, 0x12), (far && !p && !fmtCap c.dlvFmt, 0x14, 0x13),
   (far && !p && !fmtCap c.wireFmt && !s.transcodes c looped, 0x14, 0x12),
   (c.rnd == 3 || (p && c.rnd != 0), 0x11, 0x0B), (far && ((c.rnd == 1 && !cap 0 16) || (c.rnd == 2 && !cap 0 17)), 0x14, 0x0B),
   ((c.rnd == 1 && c.seed == 0) || (p && c.seed != 0), 0x11, 0x18),
   ((c.cls == 2 || p) == (c.weight == 0), 0x11, 0x13),
   ((!p && c.vc != 0) || (p && s.tx.any (fun x => x.2.cfg.cls == 3 && x.2.cfg.vc == c.vc)), 0x11, 0x1C)]
  ++ (if c.cls = 1 then s.resvChecks c looped
      else [(c.resvSlots != 0, 0x11, 0x30), (c.setFirst != 0, 0x11, 0x34), (c.setCount != 0, 0x11, 0x35),
        (c.setStandby != 0, 0x11, 0x36), (c.hasStandby, 0x11, 0x37)])

/-- The rows of R56 on the dispatch, accumulate and scale settings, with those of R470, R101 and R134. -/
def State.openLast (s : State) (c : StreamCfg) (looped : Bool) : List (Bool × Nat × Nat) :=
  let p := c.cls == 3
  s.settingCaps c (s.farStream c looped)
  ++ s.dispChecks c
  ++ [((p || c.cls == 4) && c.accRegion != 0, 0x11, 0x26), (c.accRegion > 64, 0x11, 0x26),
   (c.accRegion == 0 && c.accIndex != 0, 0x11, 0x27)]
  ++ s.shelfChecks c
  ++ [(p && c.codecCtl != 0, 0x11, 0x1D), (p && c.numCtl != 0, 0x11, 0x1E), (p && c.flushCtl != 0, 0x11, 0x20),
   (p && c.stepStage != 0, 0x11, 0x24),
   (!p && denseSize c.wireFmt 32 > denseSize c.srcFmt 32, 0x11, 0x12),
   (!p && isPerTensor c.srcFmt && c.wireFmt != c.srcFmt, 0x11, 0x12),
   ((rawFmt c.srcFmt || rawFmt c.wireFmt || rawFmt c.dlvFmt) && !(c.srcFmt == c.wireFmt && c.wireFmt == c.dlvFmt), 0x11, 0x12),
   (isPerTensor c.dlvFmt && c.dlvFmt != c.wireFmt, 0x11, 0x13),
   (c.cls == 1 && c.histScaled && bits c.numCtl 10 3 == 0x80, 0x11, 0x1E),
   (c.strict && c.wireFmt == 0xB && c.srcFmt != 0xB, 0x11, 0x1E),
   (c.accRegion != 0 && (c.dlvFmt != 2 || c.rnd == 1), 0x11, 0x26),
   (bits c.numCtl 10 3 == 0x81, 0x11, 0x1E)]

/-- The checks that the sender makes of a STREAM_OPEN, in order (R56, R57, R101, R134, R469, R470). -/
def State.openChecks (s : State) (c : StreamCfg) (looped : Bool) : List (Bool × Nat × Nat) :=
  s.openFirst c looped ++ s.openLast c looped

/-! ## The checks of the receiver -/

/-- Reservations of the peer's open F streams (R479): a demoted stream has none left (R333). -/
def State.peerResv (s : State) : Nat :=
  (s.rx.map (fun x => if x.2.cls = 1 && !x.2.looped then x.2.cfg.resvSlots else 0)).foldl (· + ·) 0

/-- The checks that the receiving instance makes of an OPEN (R56, R159, R177, R202, R479). `sender`: address of the sending station. -/
def State.acceptChecks (s : State) (c : StreamCfg) (looped : Bool) : List (Bool × Nat × Nat) :=
  let stn := c.station
  let free := (s.stations.getD stn {}).quota - s.pagesHeld stn - s.pagesLater stn
  let sender := (if looped then s.ownBase else s.peerBase) + c.localStn
  let region := s.region? c.accRegion
  let ret := c.dispRole == 3 && !(match s.tx? c.dispPair, s.table? c.dispTable with
    | some ex, some t => ex.cfg.dispRole == 2 && ex.cfg.dispTable == c.dispTable && ex.cfg.remote == sender && ex.phase == .live &&
        !(s.rx.any (fun x => x.2.cfg.dispRole == 3 && x.2.cfg.dispPair == c.dispPair)) && c.dlvFmt ≤ 2 &&
        4096 * c.bufPages ≥ t.cur.rowElems * denseSize c.dlvFmt 1
    | _, _ => false)
  let holder := c.shelfRole == 1 || c.shelfRole == 3 || c.vcheck
  let pair := c.shelfRole == 1 && !(match s.tx? c.shelfPair with
    | some w => w.cfg.shelfRole == 2 && w.cfg.remote == sender && w.phase == .live
    | none => false)
  let sag := if s.sagOn && !looped then s.sagOpen c s.peerResv else none
  [(!looped && s.sag.fenced, 0x40, 0x08), (c.id == 0 || (s.rxOf c.id).isSome, 0x11, 0x08),
   (!looped && s.contexts + 1 > 4096, 0x12, 0),
   (!(s.stations.getD stn {}).exists_, 0x11, 0x0C),
   (sag.isSome, 0x40, (sag.map (·.2.2)).getD 0),
   (c.bufPages < 8 || c.bufPages > 256, 0x11, 0x10), (c.bufPages > free, 0x12, 0),
   (c.atomicLimit > 1048576, 0x11, 0x14), (c.atomicLimit > s.atomicMax || c.atomicLimit > 4096 * c.bufPages, 0x13, 0x14), (ret, 0x11, 0x28),
   (c.accRegion != 0 && !(match region with
      | some g => c.accIndex < g.contribs && (s.contribKey c.accRegion c.accIndex).isNone
      | none => false), 0x11, 0x26),
   ((holder && !s.hasShelves) || (c.shelfRole == 5 && s.role != .base), 0x12, 0), (pair, 0x11, 0x2C)]

/-! ## Opening (R53 to R57, R298) -/

/-- An inbound context for an accepted OPEN. -/
def openRx (c : StreamCfg) (looped : Bool) : RxStream :=
  { cfg := c, cls := c.cls, looped := looped, capacity := capacityOf c.bufPages, num := { lfsr := seedRotl16 c.seed },
    watchIdle := false }

/-- The inbound context of an accepted OPEN: a RETURN stream joins a pair that is fenced as fenced, so that the pair stays so until both of its
streams are closed (R196, DEDUCED). -/
def State.newRx (s : State) (c : StreamCfg) (looped : Bool) : RxStream :=
  { openRx c looped with pairFenced := c.dispRole == 3 && s.pairFenced c.dispPair }

/-- An outbound context at STREAM_OPEN. -/
def openTx (c : StreamCfg) (looped : Bool) (phase : Phase) : TxStream :=
  { cfg := c, cls := c.cls, looped := looped, phase := phase, weight := c.weight, rnd := c.rnd, seed := c.seed,
    atomicLim := c.atomicLimit, num := { lfsr := c.seed } }

/-- STREAM_OPEN ends with OK or OK_DEGRADED: the stream is open with capacity C (R55, R75, R181, R327), and one that is history-scaled
enters HISTORY_COLD (R150). -/
def State.openDone (s : State) (id desc capacity : Nat) : State :=
  match s.tx? id with
  | none => s
  | some st =>
    let e := ((s.desc? desc).map (·.entry)).getD []
    let degraded := st.transcoded || byteAt e 0x1D != st.cfg.codecCtl
    let s0 := if st.cfg.histScaled then s.enterCold id else s
    let s1 := s0.setTx id { st with phase := .live, capacity := capacity, credits := capacity, joinRow := s.lclk + 64 }
    let s2 := if st.cfg.dispRole = 2 then
        match s1.table? st.cfg.dispTable with
        | some t => if t.source.isSome then
            s1.setTable { t with cur := t.cur.adopt st.cfg.remote id, next := t.next.map (fun d => d.adopt st.cfg.remote id) } else s1
        | none => s1
      else if st.cfg.dispRole = 1 then
        match s1.table? st.cfg.dispTable with
        | some t => s1.setTable { t with cur := s1.resolveSet t.num t.cur, source := some id, window := none, row := 0, counts := [] }
        | none => s1
      else s1
    s2.complete desc (if degraded then 1 else 0) (toLe 1 st.cfg.codecCtl ++ [0] ++ toLe 2 capacity)

/-- STREAM_OPEN (R53), once its table is at hand: the local checks, then the OPEN request, or both ends of a looped stream. -/
def State.openStream (s : State) (desc : Nat) (e : List Byte) : State :=
  let c0 := streamCfg (e.drop 8)
  let looped := s.loops c0
  match firstFail (s.openChecks c0 looped) with
  | some (st, off) => s.complete desc st [] off
  | none =>
    let used := s.codecUsed c0 looped
    let trans := s.transcodes c0 looped
    let c := { c0 with codecCtl := used, wireFmt := if trans then 5 else c0.wireFmt }
    let t := { openTx c looped (.opening desc) with transcoded := trans, ownFmt := c0.wireFmt }
    if looped then
      match firstFail (s.acceptChecks c true) with
      | some (st, off) => s.complete desc st [] off
      | none =>
        let s1 := (s.setTx c.id t).setRx (4096 + c.id) (s.newRx c true)
        s1.openDone c.id desc (capacityOf c.bufPages)
    else
      let body := slice e 8 48
      let body := patch body 21 (toLe 1 used)
      let body := patch body 10 (toLe 1 (c.srcFmt + 16 * c.wireFmt))
      (s.setTx c.id t).pushMsg 0x10 body

/-- STREAM_OPEN (R53): one that has passed the rows of R56 before the dispatch settings, and whose settings use a dispatch table, takes its
turn on it. That of a looped stream posts no STREAM_ACCEPTED (DEDUCED). -/
def State.streamOpen (s : State) (desc : Nat) (e : List Byte) : State :=
  let c := streamCfg (e.drop 8)
  if (firstFail (s.openFirst c (s.loops c))).isSome then s.openStream desc e
  else if c.dispRole == 1 || c.dispRole == 2 || c.watches then s.afterLoads c.dispTable desc (fun s => s.openStream desc e)
  else s.openStream desc e

/-- An OPEN request is received (R56, R298, R479). -/
def State.openMsg (s : State) (body : List Byte) : State :=
  let c := streamCfg body
  let answer (s : State) (status off cap : Nat) : State :=
    s.pushMsg 0x11 (toLe 2 c.id ++ toLe 1 status ++ [0] ++ toLe 2 off ++ toLe 2 cap)
  match firstFail (s.acceptChecks c false) with
  | some (st, off) =>
    let s1 := if st = 0x40 then
        match (if s.sagOn then s.sagOpen c s.peerResv else none) with
        | some (code, stickyBit, _) => if s.sag.fenced then s else s.violation code c.id stickyBit
        | none => s
      else s
    answer s1 st off 0
  | none =>
    -- messages keep their place among the flits (R276): nothing of an earlier stream with this id follows its OPEN
    let s1 := { s with ghosts := s.ghosts.filter (· != c.id) }.setRx c.id (s.newRx c false)
    let s2 := s1.postEvent 0x0001 c.id 0 (toLe 1 c.station ++ [0, 0, 0] ++ toLe 4 (s.peerBase + c.localStn))
    answer s2 0 0 (capacityOf c.bufPages)

/-- OPEN_ANS is received (R55, R298). -/
def State.openAnsMsg (s : State) (body : List Byte) : State :=
  let id := bits (field body 0 2) 11 0
  match s.tx? id with
  | none => s
  | some st =>
    match st.phase with
    | .opening d =>
      let status := byteAt body 2
      let (silent, s) := s.fire 0x18 0
      if silent then s
      else if status = 0 then s.openDone id d (field body 6 2 % 8192)
      else ({ s with tx := eraseKey id s.tx }).complete d status [] (field body 4 2) true
    | _ => s

/-- No answer to OPEN within 1 ms (R54). -/
def State.openTimeout (s : State) (id : Nat) : State :=
  match s.tx? id with
  | none => s
  | some st =>
    match st.phase with
    | .opening d =>
      ((({ s with tx := eraseKey id s.tx }).raise 0x0406 id 0 (s.inj.point == 0x18 && s.inj.fired != 0)).pushMsg
        0x12 (toLe 2 (id + 8192) ++ [0, 0])).complete d 0x60
    | _ => s

/-! ## Closing (R59, R92, R181, R298) -/

/-- Reserved bits of STREAM_CLOSE. -/
def streamCloseMask : List Nat := [255, 0x3F]

/-- A close that does not need the peer: the partner is QUIET or LOST, or no record is in force (R257, R469). -/
def State.peerGone (s : State) : Bool := s.partnerStatus.isSome || !s.negDone

/-- Frees both contexts of a looped stream by force. -/
def State.closeLooped (s : State) (id desc : Nat) : State :=
  ((((s.fencePair id).freeRx (4096 + id)).freeTx id).closeStreamWindows id).complete desc 0

/-- The descriptor of a close that a forced close overtakes. -/
def State.overtake (s : State) (ph : Phase) : State :=
  match ph with
  | .closing (some d) _ => s.complete d 0x60
  | _ => s

/-- STREAM_CLOSE of an outbound stream. -/
def State.closeOut (s : State) (desc id : Nat) (force : Bool) (st : TxStream) : State :=
  let bound := st.cfg.dispRole == 2 && ((s.table? st.cfg.dispTable).bind (·.source)).isSome
  let open_ := match st.phase with
    | .live => true
    | .closing _ _ => force
    | .opening _ => false
  if !open_ || (bound && !force && !s.pairFenced id) then s.badField desc 8
  else if force then
    let s1 := s.overtake st.phase
    if st.looped then s1.closeLooped id desc
    else if s.peerGone then (s1.freeTx id).complete desc 0
    else
      let s2 := (s1.fencePair id).interruptTx id 0x60
      (s2.modTx id (fun (t : TxStream) => { t with phase := .closing (some desc) true, withdraw := true })).pushMsg 0x12
        (toLe 2 (id + 8192) ++ [0, 0])
  else if !st.looped && !s.negDone then s.complete desc 0x12
  else (s.setTx id { st with phase := .closing (some desc) false }).checkCloseTx id

/-- STREAM_CLOSE with INBOUND (R92). -/
def State.closeIn (s : State) (desc id : Nat) : State :=
  match s.rx? id with
  | none =>
    match s.rx? (4096 + id), s.tx? id with
    | some _, some t => (s.overtake t.phase).closeLooped id desc
    | _, _ => s.badField desc 8
  | some st =>
    if st.closing.isSome then s.badField desc 8
    else
      let s1 := (s.freeRx id).closeStreamWindows id
      if s.peerGone then s1.complete desc 0
      else (s1.setRx id { openRx st.cfg false with closing := some desc, fence := some 0x60 }).pushMsg 0x12
        (toLe 2 (id + 4096 + 8192) ++ [0, 0])

/-- STREAM_CLOSE. -/
def State.streamClose (s : State) (desc : Nat) (e : List Byte) : State :=
  let w := field e 8 2
  let id := bits w 11 0
  if bit w 12 then s.closeIn desc id
  else match s.tx? id with
    | none => s.badField desc 8
    | some st => s.closeOut desc id (bit w 13) st

/-- The context of a lost partner's stream, kept until it is closed here (R92). -/
def RxStream.kept (st : RxStream) : Bool := st.closing.isNone && st.partnerLost

/-- CLOSE is received (R298). One that names a kept context is answered and leaves it as it is (R92); one for a stream that is still opening
is ignored, since it is not open yet (R55). -/
def State.closeMsg (s : State) (body : List Byte) : State :=
  let w := field body 0 2
  let id := bits w 11 0
  if bit w 12 then
    -- inbound to the peer: this side's outbound stream ends with ABORTED
    match s.tx? id with
    | none => s
    | some st =>
      let free (s : State) : State := (s.freeTx id).pushMsg 0x13 (toLe 2 id ++ [0, 0])
      if st.looped then s
      else match st.phase with
        | .opening _ => s
        | .live | .closing none _ => free s
        | .closing (some d) _ => (free s).complete d 0
  else
    match s.rx? id with
    | none => s
    | some st =>
      if st.kept then s.pushMsg 0x13 (toLe 2 (id + 4096) ++ [0, 0])
      else if bit w 13 || st.closing.isSome then
        let s1 := ((s.freeRx id).closeStreamWindows id).pushMsg 0x13 (toLe 2 (id + 4096) ++ [0, 0])
        match st.closing with
        | some d => s1.complete d 0
        | none => s1
      else (s.setRx id { st with closeSeen := true }).checkCloseRx id

/-- CLOSE_ANS is received (R298). -/
def State.closeAnsMsg (s : State) (body : List Byte) : State :=
  let w := field body 0 2
  let id := bits w 11 0
  if bit w 12 then
    match s.tx? id with
    | none => s
    | some st =>
      match st.phase with
      | .closing d true =>
        if st.looped then s
        else
          let s1 := s.freeTx id st.fence.isSome
          match d with
          | some d => s1.complete d 0
          | none => s1
      | _ => s
  else
    match s.rx? id with
    | none => s
    | some st =>
      match st.closing with
      | some d => ({ s with rx := eraseKey id s.rx }).complete d 0
      | none => s

/-! ## Changing (R58, R139) -/

/-- Reserved bits of STREAM_MODIFY. -/
def streamModifyMask : List Nat := [255, 0x3F, 15, 0x3F] ++ fullMask 8 ++ List.replicate 4 0 ++ fullMask 8

/-- The counter record of an inbound context. -/
def RxStream.counterRecord (t : RxStream) : List Byte :=
  let a := [0, 0, t.parcelsRx, 0, 0, t.headerErr, t.stalls, t.cells, t.pairs.length, 0]
  let b := [0, 0, 0, 0, 0, 0, 0, 0, 0, t.decodeErr]
  padTo 320 (((a ++ b ++ numSlots t.num ++ [t.skew, t.drawSkip, numFlags t.cfg t.num false t.stall]).map (toLe 8)).flatten)

/-- A waiting query goes on: its record is a snapshot between two parcels of the stream (R257). One whose context has gone ends with ABORTED
(DEDUCED). -/
def State.pumpQuery (s0 : State) (q : Nat × Bool × Nat) : State :=
  let s := { s0 with queries := s0.queries.filter (· != q) }
  if q.2.1 then
    match s.rx? q.2.2 with
    | some st => if st.busy then s0 else s.writeQuery q.1 st.counterRecord
    | none => s.complete q.1 0x60
  else
    match s.tx? q.2.2 with
    | some st => if st.queue.any (·.started) then s0 else s.writeQuery q.1 st.counterRecord
    | none => s.complete q.1 0x60

def State.pumpQueries (s : State) : State := forEach s.queries (fun q s => s.pumpQuery q) s

/-- STREAM_MODIFY (R58, R139): QUERY writes the counter record; otherwise the change waits for the next parcel. -/
def State.streamModify (s : State) (desc : Nat) (e : List Byte) : State :=
  let w := field e 8 2
  let id := bits w 11 0
  let mask := byteAt e 0xA
  let weight := bits (byteAt e 0xB) 3 0
  let rnd := bits (byteAt e 0xB) 5 4
  let seed := field e 0xC 4
  let lim := field e 0x10 4
  let addr := field e 0x18 8
  if bit w 12 then
    let unused := firstFail [(mask != 0, 0x11, 0xA), (byteAt e 0xB != 0, 0x11, 0xB), (seed != 0, 0x11, 0xC), (lim != 0, 0x11, 0x10),
      (addr % 64 != 0, 0x11, 0x18)]
    let side := if bit w 13 then (s.rxOf id).map (fun x => ((true, x.1), x.2.looped))
      else (s.tx? id).bind (fun t => match t.phase with
        | .opening _ => none
        | _ => some ((false, id), t.looped))
    match unused, side with
    | some (st, off), _ => s.complete desc st [] off
    | none, none => s.badField desc 8
    | none, some (x, looped) =>
      if !looped && !bit w 13 && !s.negDone then s.complete desc 0x12
      else State.pumpQuery { s with queries := s.queries ++ [(desc, x)] } (desc, x)
  else
    match s.tx? id with
    | none => s.badField desc 8
    | some st =>
      let c := st.cfg
      -- a second change before the next parcel joins the first, and is checked against it (R249)
      let old := st.modify.getD { mask := 0, weight := st.weight, rnd := st.rnd, seed := st.seed, atomicLimit := st.atomicLim }
      let newRnd := if bit mask 1 then rnd else old.rnd
      let newSeed := if bit mask 2 then seed else old.seed
      let checks := [(bit w 13 || st.phase != .live, 0x11, 8), (!st.looped && !s.negDone, 0x12, 0), (mask == 0, 0x11, 0xA),
        (c.cls == 3 && bits mask 3 1 != 0, 0x11, 0xA), (bit mask 0 && !(st.cls == 2 || c.cls == 3), 0x11, 0xA),
        (if bit mask 0 then weight == 0 else weight != 0, 0x11, 0xB),
        (if bit mask 1 then rnd == 3 || (rnd == 1 && c.accRegion != 0) else rnd != 0, 0x11, 0xB),
        (!st.looped && bit mask 1 && ((rnd == 1 && !bit (s.caps 0) 16) || (rnd == 2 && !bit (s.caps 0) 17)), 0x14, 0xB),
        (if bit mask 2 then newRnd == 1 && seed == 0 else seed != 0, 0x11, 0xC), (newRnd == 1 && newSeed == 0, 0x11, 0xC),
        (if bit mask 3 then lim > st.atomicLim else lim != 0, 0x11, 0x10), (addr != 0, 0x11, 0x18)]
      match firstFail checks with
      | some (status, off) => s.complete desc status [] off
      | none =>
        let m : Modify := {
          mask := old.mask ||| mask, weight := if bit mask 0 then weight else old.weight, rnd := if bit mask 1 then rnd else old.rnd,
          seed := if bit mask 2 then seed else old.seed, atomicLimit := if bit mask 3 then lim else old.atomicLimit, pseq := st.pseq }
        let keep (p : TxParcel) : Bool := p.started || !(hAtomic p.src && deliveredSize c.dlvFmt p.src > m.atomicLimit)
        let dropped := st.queue.filter (fun p => !keep p)
        let again (p : TxParcel) : TxParcel := if p.started then p else { p with prepared := false, mode := none }
        let s1 := s.setTx id { st with
          modify := some m, atomicLim := m.atomicLimit, queue := (st.queue.filter keep).map again }
        let s2 := (forEach dropped (fun p s => s.refuseAtomic id p true) s1).laRechoose id
        let body := toLe 2 id ++ toLe 1 m.mask ++ toLe 1 (m.weight + 16 * m.rnd) ++ toLe 4 m.seed ++ toLe 4 m.atomicLimit ++
          toLe 2 m.pseq ++ [0, 0]
        let s3 := if st.looped then s2.modRx (4096 + id) (fun (t : RxStream) => { t with
            modifies := t.modifies.filter (fun (x : Modify) => x.pseq != m.pseq) ++ [m] })
          else if c.cls = 3 then s2 else s2.pushMsg 0x14 body
        s3.complete desc 0

/-- MODIFY is received (R139, R297). -/
def State.modifyMsg (s : State) (body : List Byte) : State :=
  let id := bits (field body 0 2) 11 0
  let m : Modify := {
    mask := bits (byteAt body 2) 3 0, weight := bits (byteAt body 3) 3 0, rnd := bits (byteAt body 3) 5 4, seed := field body 4 4,
    atomicLimit := field body 8 4, pseq := field body 12 2 }
  s.modRx id (fun (t : RxStream) => { t with modifies := t.modifies.filter (fun (x : Modify) => x.pseq != m.pseq) ++ [m] })

/-- DEMOTE is received (R334). -/
def State.demoteMsg (s : State) (body : List Byte) : State :=
  s.modRx (bits (field body 0 2) 11 0) (fun (t : RxStream) => if t.cls = 1 then { t with demotePseq := some (field body 2 2) } else t)

/-! ## PARCEL_SEND and STATION_NAME -/

def parcelSendMask : List Nat := [255, 15] ++ List.replicate 6 0 ++ fullMask 16

/-- PARCEL_SEND (R260). -/
def State.parcelSend (s : State) (desc : Nat) (e : List Byte) : State :=
  let id := bits (field e 8 2) 11 0
  let len := field e 0x10 8
  let addr := field e 0x18 8
  match s.tx? id with
  | none => s.badField desc 8
  | some st =>
    if !st.takes then s.badField desc 8
    else match st.fence with
      | some status => s.complete desc (if !st.looped && !s.negDone then 0x12 else status)
      | none =>
        if !st.looped && !s.negDone then s.complete desc 0x12
        else if addr % 64 ≠ 0 then s.badField desc 0x18
        else if len < 32 then s.badSend desc id
        else
          let d : Send := {
            desc := desc, stream := id, addr := addr, len := len }
          State.pumpSends { s with sends := s.sends ++ [d] }

def stationNameMask : List Nat := [0x7F, 0x3F] ++ fullMask 18

/-- A station name is well formed (R45). -/
def nameOk (n : List Byte) : Bool :=
  let body := n.takeWhile (· != 0)
  body.all (fun b => 0x20 ≤ b.toNat && b.toNat ≤ 0x7E) && allZero (n.drop body.length)

/-- Pages of a port's bank that quotas of other stations leave (R47). -/
def State.bankFree (s : State) (stn port : Nat) : Nat :=
  let others := (s.stations.zipIdx.map (fun x =>
    if x.2 ≠ stn ∧ x.1.exists_ ∧ x.1.port % 4 = port % 4 then x.1.quota else 0)).foldl (· + ·) 0
  s.build.stagingMiB * 64 - others

/-- STATION_NAME (R44 to R47). -/
def State.stationName (s : State) (desc : Nat) (e : List Byte) : State :=
  let stn := bits (byteAt e 8) 5 0
  let port := bits (byteAt e 9) 5 0
  let quota := field e 0xA 2
  let name := slice e 0xC 16
  let old := s.stations.getD stn {}
  let none_ := allZero name
  let held := s.pagesHeld stn
  let open_ := s.tx.any (fun x => x.2.cfg.localStn == stn) || s.rx.any (fun x => x.2.cfg.station == stn) ||
    s.opensLater.any (fun c => c.localStn == stn || (s.loops c && c.station == stn))
  let result (t : Station) : List Byte := toLe 1 (if t.exists_ then t.port else 0xFF) ++ [0] ++ toLe 2 t.quota ++ toLe 2 held
  let checks := if bit (byteAt e 8) 6 then
      [(port != 0, 0x11, 9), (quota != 0, 0x11, 0xA), (!none_, 0x11, 0xC)]
    else [((if none_ then port != 0 else port ≥ s.build.ports), 0x11, 9), (none_ && quota != 0, 0x11, 0xA), (!nameOk name, 0x11, 0xC),
      (open_ && (none_ || port != old.port), 0x11, if none_ then 0xC else 9),
      (!none_ && (quota > s.bankFree stn port || quota < held + s.pagesLater stn), 0x12, 0)]
  match firstFail checks with
  | some (status, off) => s.complete desc status (result old) off
  | none =>
    if bit (byteAt e 8) 6 then s.complete desc 0 (result old)
    else
      let t : Station := { name := name, port := port, quota := quota }
      ({ s with stations := modAt (fun _ => t) stn s.stations }).complete desc 0 (result t)

/-! ## Fencing (R90, R551) -/

/-- An outbound stream is fenced: descriptors that name it complete with the status, and a draw or restore on it ends as on partner
loss. A stream that is opening is not opened. -/
def State.fenceOut (s : State) (id status : Nat) : State :=
  match s.tx? id with
  | none => s
  | some st =>
    let s1 := match st.phase with
      | .opening d => (({ s with tx := eraseKey id s.tx }).pushMsg 0x12 (toLe 2 (id + 8192) ++ [0, 0])).complete d status
      | .closing d sent =>
        let t := (s.interruptTx id status).modTx id (fun (t : TxStream) => { t with phase := .closing none sent })
        match d with
        | some d => t.complete d status
        | none => t
      | .live => s.interruptTx id status
    forEach s1.draws (fun (d : Draw) s =>
      if d.keeper = 0 ∧ d.phase = .running ∧ d.stream = id then s.suspendDraw d status else s) s1

/-- An inbound stream is fenced. -/
def State.fenceIn (s : State) (key status : Nat) : State :=
  match s.rx? key with
  | none => s
  | some st =>
    let s1 := s.interruptRx key status
    let s2 := match st.closing with
      | some d => (s1.modRx key (fun (t : RxStream) => { t with closing := none })).complete d status
      | none => s1
    forEach s2.restores (fun (r : Restore) s =>
      if r.stream = some key then s.endRestore r status (restoreResult r.next r.running) else s) s2

/-- Streams are fenced with a status: all of them, or only those to the peer. -/
def State.fenceStreams (s : State) (status : Nat) (loops : Bool) : State :=
  let s1 := forEach s.tx (fun (p : Nat × TxStream) s => if loops || !p.2.looped then s.fenceOut p.1 status else s) s
  forEach s1.rx (fun (p : Nat × RxStream) s => if loops || !p.2.looped then s.fenceIn p.1 status else s) s1

end Sys2Proof.Machine
end

