-- ==== Sys2Proof/Machine/Descs.lean ====
section
/-! DEFINITION. The descriptors of shelves, versions, draws, restores, accumulation, scale images, dispatch tables, the kiln log and
key slots: their checks in table order and their effects (R158, R179, R207 to R236, R257). -/

namespace Sys2Proof.Machine

/-! ## Shared -/

/-- Reads host memory for a descriptor in requests of at most 4 KiB: the next one after the bytes already read. -/
def State.readMore (s : State) (desc addr total : Nat) (use : HmReadUse) : State :=
  let got := ((lookupKey desc s.reads).getD []).length
  if got < total then s.hmReadReq (addr + got) (min 4096 (total - got)) use else s

/-- The bytes read so far for a descriptor. -/
def State.readSoFar (s : State) (desc : Nat) : List Byte := (lookupKey desc s.reads).getD []

/-- Adds read bytes. -/
def State.addRead (s : State) (desc : Nat) (data : List Byte) : State :=
  { s with reads := insertKey desc (s.readSoFar desc ++ data) s.reads }

/-- Forgets what has been read. -/
def State.endRead (s : State) (desc : Nat) : State := { s with reads := eraseKey desc s.reads }

/-- Completes with the first failing check, or goes on. -/
def State.checked (s : State) (desc : Nat) (checks : List (Bool × Nat × Nat)) (go : State → State) : State :=
  match firstFail checks with
  | some (status, off) => s.complete desc status [] off
  | none => go s

/-- A shelf of a stage has accepted VERSION_COMMITs that are not yet applied (R216). -/
def State.committing (s : State) (stage : Nat) : Bool :=
  s.shelves.any (fun h => h.state != .free && h.stage == stage && !h.commits.isEmpty)

/-- A descriptor whose checks look at a stage's shelves waits until the VERSION_COMMITs accepted before it have been applied: it sees their
results (R249, R262). -/
def State.afterCommits (s : State) (stage desc : Nat) (run : State → State) : State :=
  if s.committing stage || s.commitWaits.any (fun w => w.1 == stage) then { s with commitWaits := s.commitWaits ++ [(stage, desc)] }
  else run s

/-- A DRAW_START with this id waits for a VERSION_COMMIT: the id counts as taken (R249). -/
def State.drawsLater (s : State) (id : Nat) : Bool :=
  s.commitWaits.any (fun w => (s.desc? w.2).any (fun d => d.opcode == 0x24 && bits (byteAt d.entry 8) 5 0 == id))

/-- NO_RESOURCE where the instance has no shelf table (R19). -/
def State.noShelves (s : State) : Bool × Nat × Nat := (!s.hasShelves, 0x12, 0)

/-- Checks of a base-die range as R204 requires, with their offsets. -/
def rangeChecks (base len baseOff lenOff : Nat) : List (Bool × Nat × Nat) :=
  [(base % 512 != 0 || base ≥ 2 ^ 48, 0x11, baseOff), (len == 0 || len % 512 != 0 || base + len > 2 ^ 48, 0x11, lenOff)]

/-- A key slot that an HMAC names is loaded; without HMAC the slot field is 0 (R219, R235, R250). -/
def State.keyCheck (s : State) (hmac : Bool) (slot off : Nat) : Bool × Nat × Nat :=
  (if hmac then (s.keys.getD slot none).isNone else slot != 0, 0x11, off)

/-! ## Shelves and versions -/

def shelfOpenMask : List Nat := [255, 15] ++ fullMask 22

/-- Formats that a shelf may hold (R207). -/
def shelfFmt (f : Nat) : Bool := f ≤ 2 || (5 ≤ f && f ≤ 10)

/-- SHELF_OPEN (R207, R208), in its turn. -/
def State.shelfOpenStart (s : State) (desc : Nat) (e : List Byte) : State :=
  let i := opShelf e
  let older := match s.currentOf (opStage e) with
    | some j => !newer (opVersion e) (s.shelf j).version
    | none => false
  let checks := [s.noShelves, (i != 0xFF && i ≥ s.shelves.length, 0x11, 8), (i != 0xFF && (s.shelf i).state != .free, 0x32, 0),
    (!shelfFmt (opFmt e), 0x11, 9), (older || (s.shelfOf (opStage e) (opVersion e)).isSome, 0x11, 0xC)]
    ++ rangeChecks (opBase e) (opLen e) 0x10 0x18 ++ [(s.hitsRegion (opBase e) (opLen e), 0x11, 0x10)]
  s.checked desc checks (fun s =>
    let bl := s.openBlockers e
    if bl.isEmpty then s.takeShelf desc e
    else if opWaitMs e = 0 then
      let r := s.openRefusal bl
      s.complete desc r.1 (toLe 1 r.2)
    else { s with shelfWaits := s.shelfWaits ++ [desc] })

/-- WAIT_MS of a waiting SHELF_OPEN expires (R208). -/
def State.shelfOpenTimeout (s : State) (desc : Nat) : State :=
  if !s.shelfWaits.contains desc then s
  else match s.desc? desc with
    | none => s
    | some d =>
      let r := s.openRefusal (s.openBlockers d.entry)
      { s with shelfWaits := s.shelfWaits.filter (· != desc) }.complete desc r.1 (toLe 1 r.2)

def versionCommitMask : List Nat := [255, 255, 255, 255, 1]

/-- VERSION_COMMIT (R216), in its turn: the checks; it then waits for the fill writes. -/
def State.commitStart (s : State) (desc : Nat) (e : List Byte) : State :=
  let stage := field e 8 2
  let version := field e 0xA 2
  let rollback := bit (byteAt e 0xC) 0
  let i := s.shelfOf stage version
  let h := (i.map s.shelf).getD {}
  let newerOk := match s.currentOf stage with
    | some j => newer version (s.shelf j).version
    | none => true
  s.checked desc [s.noShelves, (i.isNone, 0x11, 8), (h.state == .held, 0x30, 0), (h.fillErr, 0x60, 0),
      (!(h.state == .filling || (h.state == .committed && rollback)), 0x11, 0xA), (!(newerOk || rollback), 0x11, 0xA)]
    (fun s => s.modShelf (i.getD 0) (fun h => { h with commits := h.commits ++ [desc] }))

def versionReleaseMask : List Nat := [3, 255, 255, 255, 255, 255]

/-- A restore is under way to this shelf. -/
def State.restoring (s : State) (i : Nat) : Bool := s.restores.any (fun r => r.shelf == some i)

/-- VERSION_RELEASE (R218), in its turn. -/
def State.releaseStart (s : State) (desc : Nat) (e : List Byte) : State :=
  let mode := byteAt e 8
  let i := byteAt e 9
  let stage := field e 0xA 2
  let mb := field e 0xC 2
  let h := s.shelf i
  let refused := i ≥ s.shelves.length || h.current || h.state == .free || h.state == .filling
  let checks := [s.noShelves, (mode == 3, 0x11, 8), (mode != 2 && i != 0, 0x11, 9), (mode == 2 && stage != 0, 0x11, 0xA),
    (mode != 0 && mb != 0, 0x11, 0xC), (mode == 0 && (s.bindingOf stage mb).isNone, 0x11, 0xA), (mode == 2 && refused, 0x11, 9),
    (mode == 2 && (h.state == .drawing || s.refs i != 0 || s.restoring i), 0x32, 0)]
  s.checked desc checks (fun s =>
    if mode = 2 then (s.freeShelf i).complete desc 0
    else if mode = 0 then (s.unbind stage mb).complete desc 0 (toLe 2 1)
    else
      let n := countWhere (fun (b : Binding) => b.stage == stage) s.bindings
      let s1 := { s with bindings := s.bindings.filter (fun (b : Binding) => b.stage != stage) }
      s1.settleShelves.advanceFetches.complete desc 0 (toLe 2 n))

def skewReleaseMask : List Nat := [255, 15, 1]

/-- SKEW_RELEASE (R214). -/
def State.skewRelease (s : State) (desc : Nat) (e : List Byte) : State :=
  let id := bits (field e 8 2) 11 0
  let pass := bit (byteAt e 0xA) 0
  match (s.rxOf id).bind (fun x => (x.2.parcels.find? (fun p => p.hold == 1 && !p.gone)).map (fun p => (x.1, x.2, p))) with
  | none => s.badField desc 8
  | some (key, st, p) =>
    let hdr := p.wire.take 32
    let s1 := if st.cfg.shelfRole = 1 then
        (if pass then s.modParcel key p.uid (fun (q : RxParcel) => { q with hold := 3, fwd := true })
         else s.discardParcel key p.uid)
      else if pass then s.modParcel key p.uid (fun (q : RxParcel) => { q with hold := s.freeHold st, okStatus := 0x31 })
      else
        let t := s.discardParcel key p.uid
        if hBwdDone hdr && hDir hdr == 1 then t.unbind (hStage hdr) (hMb hdr) else t
    (s1.advanceStream key).complete desc 0 (toLe 2 (hMb hdr) ++ toLe 2 (hStage hdr) ++ toLe 2 (hVersion hdr))

/-! ## Draws -/

def drawStartMask : List Nat := [255, 0x3F, 255, 0, 255, 15] ++ fullMask 6 ++ List.replicate 4 0 ++ fullMask 32

/-- DRAW_START (R219, R228, R230), in its turn; KEEPER STREAM toward the peer needs NEG_DONE (R469). -/
def State.drawBegin (s : State) (desc : Nat) (e : List Byte) : State :=
  let id := bits (byteAt e 8) 5 0
  let resume := bit (byteAt e 8) 6
  let hmac := bit (byteAt e 8) 7
  let range := bit (byteAt e 9) 0
  let keeper := bits (byteAt e 9) 2 1
  let slot := bits (byteAt e 9) 5 3
  let i := byteAt e 0xA
  let stream := field e 0xC 2
  let ackMs := field e 0xE 2
  let base := field e 0x18 8
  let len := field e 0x20 8
  let data := field e 0x28 8
  let tab := field e 0x30 8
  let old := s.draw? id
  let h := s.shelf i
  let st := (s.tx? stream).filter (fun t => t.takes && t.cfg.shelfRole == 4)
  let fence := st.bind (·.fence)
  let suspended := match old with
    | some d => d.phase == .suspended
    | none => false
  let resumes := match old, st with
    | some d, some t => (t.looped || d.dieId != 0) && d.dieId == s.keeperDie stream && d.station == t.cfg.remote
    | _, _ => false
  let checks := [(keeper == 0 && !s.negDone && !s.drawLoops stream, 0x12, 0),
    (s.role != .base || ((!range || keeper == 2) && s.build.shelves == 0), 0x12, 0),
    ((if resume then !suspended else old.isSome && !suspended) || s.drawsLater id, 0x11, 8),
    (if range then i != 0 else i ≥ s.shelves.length || h.state == .free || h.state == .filling || h.state == .held, 0x11, 0xA),
    (!range && h.state == .drawing, 0x32, 0)]
    ++ (if range then rangeChecks base len 0x18 0x20 else [(base != 0, 0x11, 0x18), (len != 0, 0x11, 0x20)])
    ++ [(!range && field e 0x10 2 != 0, 0x11, 0x10), (!range && field e 0x12 2 != 0, 0x11, 0x12),
    (keeper == 3 || (keeper == 2 && range), 0x11, 9), (if keeper = 0 then st.isNone else stream != 0, 0x11, 0xC),
    (keeper == 0 && s.draws.any (fun d => d.phase == .running && d.keeper == 0 && d.stream == stream), 0x12, 0),
    (keeper == 0 && fence.isSome, fence.getD 0, 0),
    (if keeper = 1 then data % 64 != 0 else data != 0, 0x11, 0x28), (if keeper = 1 then tab % 64 != 0 else tab != 0, 0x11, 0x30),
    (hmac && keeper == 2, 0x11, 8), s.keyCheck hmac slot 9, (resume && !(keeper == 0 && resumes), 0x11, 8),
    (keeper != 0 && ackMs != 0, 0x11, 0xE)]
  s.checked desc checks (fun s =>
    let gone (d : Draw) : Bool := d.phase == .suspended && (d.id == id || (!range && d.shelf == some i))
    let s1 := forEach (s.draws.filter gone) (fun d s => match d.shelf with
      | some j => s.modShelf j (fun h => { h with drawSusp := false })
      | none => s) { s with draws := s.draws.filter (fun d => !gone d) }
    let kept := if resume then old else none
    let d : Draw := {
      id := id, desc := desc, shelf := if range then none else some i, base := if range then base else h.base,
      len := if range then len else h.len, stage := if range then field e 0x10 2 else h.stage,
      version := if range then field e 0x12 2 else h.version, keeper := keeper, stream := stream, dataAddr := data, tabAddr := tab,
      key := if hmac then some slot else none, ackMs := if ackMs = 0 then 1000 else ackMs,
      next := (kept.map (·.ackNext)).getD 0, ackNext := (kept.map (·.ackNext)).getD 0, running := (kept.map (·.running)).getD 0,
      digests := (kept.map (fun k => k.digests.take k.ackNext)).getD [], badSeen := (kept.map (·.badSeen)).getD [],
      dieId := s.keeperDie stream, station := if keeper = 0 then (st.map (·.cfg.remote)).getD 0 else 0 }
    let s2 := if range then s1 else s1.modShelf i (fun h => { h with state := .drawing })
    State.pumpDraw { s2 with draws := s2.draws ++ [d] } id)

/-- ACK_MS passes without a CHUNK_OK while chunks are unacknowledged (R225): the draw is suspended with ABORTED. -/
def State.drawAckTimeout (s : State) (id : Nat) : State :=
  match s.draw? id with
  | none => s
  | some d =>
    if d.keeper ≠ 0 ∨ d.phase = .suspended ∨ !(d.ackNext < d.next || d.closed) then s
    else (s.raise 0x0607 id).suspendDraw d 0x60

def drawAckMask : List Nat := [3, 255, 0x3F, 7, 255, 0, 0, 0] ++ fullMask 8

/-- DRAW_ACK (R228, R229). The relayed DRAW_START ends as a shelf draw of that level would. -/
def State.drawAck (s : State) (desc : Nat) (e : List Byte) : State :=
  let relay := bit (byteAt e 8) 0
  let fail := bit (byteAt e 8) 1
  let i := byteAt e 9
  let id := byteAt e 0xA
  let level := byteAt e 0xB
  let site := byteAt e 0xC
  let vd := field e 0x10 8
  let h := s.shelf i
  let d := s.draws.find? (fun d => d.id == id && d.keeper == 2 && d.shelf == some i)
  let checks := if relay then
      [s.noShelves, (i ≥ s.shelves.length, 0x11, 9), (d.isNone, 0x11, 0xA), (level > 4, 0x11, 0xB), (site != 0, 0x11, 0xC)]
    else [s.noShelves, (fail, 0x11, 8), (i ≥ s.shelves.length || h.vdigest.isNone, 0x11, 9), (id != 0, 0x11, 0xA),
      (level != 0, 0x11, 0xB), (h.vdigest != some vd, 0x30, 0)]
  s.checked desc checks (fun s =>
    match relay, d with
    | true, some d =>
      if fail then
        let s1 := s.endDraw d 0x60 (drawResult h.level 0 0)
        s1.complete desc 0 (toLe 1 h.level)
      else
        let lv := max h.level level
        let s1 := s.modShelf i (fun h => { h with level := lv, vdigest := some vd, drawSusp := false })
        let ok := lv ≥ s.relMin
        let s2 := if ok then s1 else s1.sticky 0x5808 2
        (s2.endDraw d (if ok then 0 else 0x33) (drawResult lv (chunkCount d.len) vd)).complete desc 0 (toLe 1 lv)
    | _, _ =>
      let lv := max h.level (if site = s.fld 0x5800 15 8 then 3 else 4)
      ((s.modShelf i (fun h => { h with level := lv })).settleShelves).complete desc 0 (toLe 1 lv))

def restoreMask : List Nat := [255, 255, 7, 0, 255, 15, 0, 0] ++ fullMask 44

/-- RESTORE (R235, R236), in its turn. -/
def State.restoreBegin (s : State) (desc : Nat) (e : List Byte) : State :=
  let w := byteAt e 8
  let range := bit w 0
  let host := bit w 1
  let expect := bit w 2
  let hmac := bit w 3
  let commit := bit w 4
  let slot := bits w 7 5
  let i := byteAt e 9
  let level := byteAt e 0xA
  let stream := field e 0xC 2
  let vd := field e 0x10 8
  let base := field e 0x18 8
  let len := field e 0x20 8
  let h := s.shelf i
  let st := (s.rxOf stream).filter (fun x => x.2.cfg.shelfRole == 5 && x.2.closing.isNone)
  let fence := st.bind (·.2.fence)
  let covers := (s.shelvesWhere (fun h => h.state != .free && overlap h.base h.len base len)).length != 0 || s.hitsRegion base len
  let checks := [(s.role != .base || (!range && s.build.shelves == 0), 0x12, 0),
    (if range then i != 0 else i ≥ s.shelves.length || !(h.state == .filling || h.state == .held) || !h.commits.isEmpty || s.restoring i, 0x11, 9)]
    ++ (if range then rangeChecks base len 0x18 0x20 ++ [(covers, 0x11, 0x18)] else [(base != 0, 0x11, 0x18), (len != 0, 0x11, 0x20)])
    ++ [(if host then stream != 0 else st.isNone, 0x11, 0xC), (!host && fence.isSome, fence.getD 0, 0),
    (!host && field e 0x28 8 != 0, 0x11, 0x28), (!host && field e 0x30 8 != 0, 0x11, 0x30), (!expect && vd != 0, 0x11, 0x10),
    s.keyCheck hmac slot 8, (level > 4 || (range && level != 0), 0x11, 0xA), (range && commit, 0x11, 8),
    (!range && field e 0x38 2 != 0, 0x11, 0x38), (!range && field e 0x3A 2 != 0, 0x11, 0x3A)]
  s.checked desc checks (fun s =>
    let r : Restore := {
      desc := desc, shelf := if range then none else some i, base := if range then base else h.base,
      len := if range then len else h.len, stage := if range then field e 0x38 2 else h.stage,
      version := if range then field e 0x3A 2 else h.version, stream := if host then none else st.map (·.1),
      dataAddr := field e 0x28 8, tabAddr := field e 0x30 8, expect := if expect then some vd else none,
      key := if hmac then some slot else none, level := level, commit := commit }
    let s1 := if range then s else s.modShelf i (fun h => { h with state := .held })
    State.pumpRestore { s1 with restores := s1.restores ++ [r] } desc)

/-! ## Turns on a stage -/

/-- A descriptor that names shelf `i`, or none, takes its turn on the shelf's stage. -/
def State.afterShelf (s : State) (i : Option Nat) (desc : Nat) (run : State → State) : State :=
  match i.filter (fun i => (s.shelf i).state != .free) with
  | some i => s.afterCommits (s.shelf i).stage desc run
  | none => run s

/-- SHELF_OPEN takes its turn on the stage that it names. -/
def State.shelfOpen (s : State) (desc : Nat) (e : List Byte) : State :=
  s.afterCommits (opStage e) desc (fun s => s.shelfOpenStart desc e)

/-- VERSION_COMMIT takes its turn on the stage that it names. -/
def State.versionCommit (s : State) (desc : Nat) (e : List Byte) : State :=
  s.afterCommits (field e 8 2) desc (fun s => s.commitStart desc e)

/-- VERSION_RELEASE of a shelf takes its turn on the shelf's stage. -/
def State.versionRelease (s : State) (desc : Nat) (e : List Byte) : State :=
  s.afterShelf (if byteAt e 8 = 2 then some (byteAt e 9) else none) desc (fun s => s.releaseStart desc e)

/-- DRAW_START of a shelf takes its turn on the shelf's stage. -/
def State.drawStart (s : State) (desc : Nat) (e : List Byte) : State :=
  s.afterShelf (if bit (byteAt e 9) 0 then none else some (byteAt e 0xA)) desc (fun s => s.drawBegin desc e)

/-- RESTORE to a shelf takes its turn on the shelf's stage. -/
def State.restoreStart (s : State) (desc : Nat) (e : List Byte) : State :=
  s.afterShelf (if bit (byteAt e 8) 0 then none else some (byteAt e 9)) desc (fun s => s.restoreBegin desc e)

/-- Begins a descriptor that has waited for a VERSION_COMMIT. -/
def State.beginOnStage (s : State) (d : Desc) : State :=
  match d.opcode with
  | 0x20 => s.shelfOpenStart d.id d.entry
  | 0x21 => s.commitStart d.id d.entry
  | 0x22 => s.releaseStart d.id d.entry
  | 0x24 => s.drawBegin d.id d.entry
  | _ => s.restoreBegin d.id d.entry

/-- The next descriptors that wait for a stage begin, up to one that is a VERSION_COMMIT and waits itself. -/
def State.stageNext (stage : Nat) : Nat → State → State
  | 0, s => s
  | n + 1, s =>
    if s.committing stage then s
    else match s.commitWaits.find? (fun w => w.1 == stage) with
    | none => s
    | some w =>
      let s1 := { s with commitWaits := s.commitWaits.erase w }
      State.stageNext stage n (match s1.desc? w.2 with
        | none => s1
        | some d => s1.beginOnStage d)

/-- The fill writes of a shelf with accepted commits are acknowledged (R216): CURRENT moves, and what waited for it begins. -/
def State.versionCommitApply (s : State) (i : Nat) : State :=
  if (s.shelf i).fillOut = 0 && !(s.shelf i).commits.isEmpty then
    State.stageNext (s.shelf i).stage s.commitWaits.length (s.applyCommit i)
  else s

/-! ## Accumulation regions -/

def accumOpenMask : List Nat := [255, 15, 0x1F, 0x7F] ++ fullMask 12

/-- ACCUM_OPEN (R158). -/
def State.accumOpen (s : State) (desc : Nat) (e : List Byte) : State :=
  let r := byteAt e 8
  let f := byteAt e 9
  let n := byteAt e 0xA
  let slots := byteAt e 0xB
  let elems := field e 0xC 4
  let base := field e 0x10 8
  let none_ := (s.role != .base, 0x12, 0)
  if bit f 3 then
    let bound := s.rx.any (fun x => x.2.cfg.accRegion == r)
    s.checked desc [none_, ((s.region? r).isNone || bound, 0x11, 8)] (fun s =>
      let sat := ((s.region? r).map (·.accSat)).getD 0
      { s with regions := eraseKey r s.regions }.complete desc 0 (toLe 4 sat))
  else
    let hits := s.hitsRegion base (4 * elems * slots)
    s.checked desc [none_, (s.regions.length == 64, 0x12, 0), (r == 0 || r > 64 || (s.region? r).isSome, 0x11, 8),
        (n == 0 || n > 16, 0x11, 0xA), (elems < 128 || elems > 2 ^ 28 || elems % 128 != 0, 0x11, 0xC),
        (slots == 0 || slots > 64, 0x11, 0xB),
        (base % 512 != 0 || base + 4 * elems * slots > 2 ^ 48 || hits, 0x11, 0x10)] (fun s =>
      (s.setRegion r {
        ordered := !bit f 0, contribs := n, elems := elems, slots := slots, base := base, addTo := bit f 1,
        strict := bit f 2 }).complete desc 0)

/-! ## Scale images (R153, R154) -/

def scaleMask : List Nat := [1] ++ List.replicate 7 0 ++ fullMask 16

/-- The contexts of class F, O or D that are open, in ascending id, outbound before inbound. -/
def State.saveSides (s : State) : List (Bool × Nat) :=
  let out := (s.tx.filter (fun x => x.2.cfg.cls != 3 && (match x.2.phase with
    | .opening _ => false
    | _ => true))).map (fun x => (2 * x.1, false, x.1))
  let inn := (s.rx.filter (fun x => x.2.cfg.cls != 3)).map (fun x => (2 * x.2.cfg.id + 1, true, x.1))
  (sortBy (fun (a b : Nat × Bool × Nat) => a.1 ≤ b.1) (out ++ inn)).map (·.2)

/-- A parcel of a context is in conversion: its first flit has been sent, or its header has been received, and its last has not. -/
def State.converting (s : State) (x : Bool × Nat) : Bool :=
  if x.1 then ((s.rx? x.2).bind (·.current)).any (fun p => p.checked && !p.gone)
  else (s.tx? x.2).any (fun st => st.queue.any (·.started))

/-- Takes the records of contexts in turn, as far as the first one with a parcel in conversion; one that has closed has no record. -/
def State.saveRecords (s : State) : List (Bool × Nat) → List (List Byte) → List (Bool × Nat) × List (List Byte)
  | [], recs => ([], recs)
  | x :: rest, recs =>
    if s.converting x then (x :: rest, recs) else State.saveRecords s rest (recs ++ (s.saveRecord x).toList)

/-- The whole image (R153). -/
def State.scaleImage (s : State) (v : ScaleSave) : List Byte :=
  toLe 4 0x4C414353 ++ [3] ++ toLe 1 s.straps.slotId ++ toLe 1 s.build.instanceNo ++ [0] ++ toLe 4 v.recs.length
    ++ toLe 8 v.began ++ toLe 4 (crc32c v.recs.flatten) ++ zeros 8 ++ v.recs.flatten

def State.save? (s : State) (desc : Nat) : Option ScaleSave := s.saves.find? (fun v => v.desc == desc)
def State.dropSave (s : State) (desc : Nat) : State := { s with saves := s.saves.filter (fun v => v.desc != desc) }

/-- A SCALE_SAVE goes on: it takes what records it can, and with the last one it writes its image. -/
def State.pumpSave (v0 : ScaleSave) (s : State) : State :=
  if v0.writing then s
  else
    let g := s.saveRecords v0.left v0.recs
    let v : ScaleSave := { v0 with left := g.1, recs := g.2, writing := g.1.isEmpty }
    let s1 := { s with saves := s.saves.map (fun (w : ScaleSave) => if w.desc = v.desc then v else w) }
    if !g.1.isEmpty then s1
    else if v.mem then (s1.memWrites s1.memChannel v.addr (s1.scaleImage v) (fun _ => .image v.desc)).1
    else s1.hmWrites4 v.addr (s1.scaleImage v) (fun _ => .image v.desc)

def State.pumpSaves (s : State) : State := forEach s.saves State.pumpSave s

/-- SCALE_SAVE (R153): the checks, then the image is taken and written. -/
def State.scaleSave (s : State) (desc : Nat) (e : List Byte) : State :=
  let mem := bit (byteAt e 8) 0
  let addr := field e 0x10 8
  let sides := s.saveSides
  let need := 32 + 96 * sides.length
  s.checked desc [(mem && s.role != .base, 0x12, 0), (addr % 64 != 0 || (mem && addr + need > 2 ^ 48), 0x11, 0x10)] (fun s =>
    if need > field e 0x18 8 then s.complete desc 0x12 (toLe 4 0 ++ toLe 4 need)
    else
      let v : ScaleSave := { desc := desc, mem := mem, addr := addr, began := s.now, left := sides }
      State.pumpSave v { s with saves := s.saves ++ [v] })

/-- A write of a scale image is acknowledged. -/
def State.imageAcked (s : State) (desc : Nat) (err : Bool) : State :=
  match s.save? desc with
  | none => s
  | some v =>
    if err then (s.dropSave desc).complete desc 0x60
    else if s.hmWrites.any (fun w => w.2 == .image desc) || s.memOps.any (fun w => w.2.2 == .image desc) then s
    else (s.dropSave desc).complete desc 0 (toLe 4 v.recs.length ++ toLe 4 (32 + 96 * v.recs.length))

/-- Requests the next bytes of a scale image: its header, then its records. -/
def State.scaleMore (s : State) (desc total : Nat) (e : List Byte) : State :=
  let addr := field e 0x10 8
  let got := (s.readSoFar desc).length
  let n := min 4096 (total - got)
  if bit (byteAt e 8) 0 then s.memReadReq s.memChannel (addr + got) n (.scaleLoad desc) else s.hmReadReq (addr + got) n (.scaleLoad desc)

/-- SCALE_LOAD (R154). -/
def State.scaleLoad (s : State) (desc : Nat) (e : List Byte) : State :=
  let mem := bit (byteAt e 8) 0
  let addr := field e 0x10 8
  s.checked desc [(mem && s.role != .base, 0x12, 0),
    (addr % 64 != 0 || (mem && addr + field e 0x18 8 > 2 ^ 48), 0x11, 0x10), (field e 0x18 8 < 32, 0x11, 0xFF)]
    (fun s => s.scaleMore desc 32 e)

/-- A record loaded into one side's numeric state. DESIGN CHOICE: the record has no field that says whether the step that it describes has
converted elements; the step counts as having done so where its maximum or its count of elements that are not zero is not 0. -/
def NumCtx.load (n : NumCtx) (r : List Byte) : NumCtx := { n with
  stepVer := if bit (byteAt r 6) 5 then some (field r 4 2) else none, histValid := min 16 (bits (byteAt r 6) 4 0),
  histNext := bits (byteAt r 7) 3 0, lfsr := field r 8 4, stepMax := field r 0xC 4,
  hist := (List.range 16).map (fun i => field r (0x10 + 4 * i) 4), runFrac := field r 0x50 2, runZero := field r 0x52 2,
  stepNonzero := field r 0x54 4, stepFlushed := field r 0x58 4, zeroSoFar := bit (byteAt r 0x5C) 0, bwdSeen := bit (byteAt r 0x5C) 1,
  stepConv := field r 0xC 4 != 0 || field r 0x54 4 != 0 }

/-- Elements of the parcel in progress on an inbound stream have been converted. -/
def State.delivering (s : State) (key : Nat) : Bool :=
  ((s.rx? key).bind (·.current)).any (fun p => p.checked && hElems p.wire != 0 && 32 < p.avail.length)

/-- Elements of the parcel in progress on an outbound stream have been converted. -/
def TxStream.encoding (st : TxStream) : Bool := st.queue.any (fun p => p.started && hElems p.src != 0 && 32 < p.sent && p.mode != some 3)

/-- Applies one record of a scale image; true where it was applied. -/
def State.loadRecord (s : State) (r : List Byte) : State × Bool :=
  let id := bits (field r 0 2) 11 0
  let stage := field r 2 2
  if bit (field r 0 2) 12 then
    match s.rxOf id with
    | some (key, st) =>
      if !st.num.converted && !s.delivering key && st.cfg.stepStage = stage && st.cfg.cls ≠ 3 then
        -- a parcel in progress has converted nothing: it begins with the rounding state loaded
        let n := st.num.load r
        (s.setRx key { st with num := n, parcels := st.parcels.map (fun (p : RxParcel) => if p.complete then p else { p with lfsr0 := n.lfsr }) }, true)
      else (s, false)
    | none => (s, false)
  else
    match s.tx? id with
    | some st =>
      if !st.num.converted && !st.encoding && st.cfg.stepStage = stage && st.cfg.cls ≠ 3 && st.phase == .live then
        let n := st.num.load r
        let s1 := s.setTx id { st with num := n }
        -- a history that is full no longer enters HISTORY_COLD anew (R150, R151)
        (if n.cold st.cfg && !st.num.cold st.cfg then (s1.enterCold id).seekQueued id else s1, true)
      else (s, false)
    | none => (s, false)

/-- Bytes of a scale image arrive (R154). -/
def State.scaleData (s : State) (desc : Nat) (data : List Byte) (err : Bool) : State :=
  match s.desc? desc with
  | none => s
  | some d =>
    let s1 := s.addRead desc data
    let im := s1.readSoFar desc
    let count := field im 8 4
    let len := field d.entry 0x18 8
    let body := im.drop 32
    if err then (s.endRead desc).complete desc 0x60
    else if field im 0 4 != 0x4C414353 || byteAt im 4 != 3 || len != 32 + 96 * count then (s1.endRead desc).badField desc 0xFF
    else if im.length < len then s1.scaleMore desc len d.entry
    else if crc32c body != field im 0x14 4 then (s1.endRead desc).complete desc 0x30
    else
      let r := (pieces 96 body).foldl (fun (acc : State × Nat) r =>
        let x := acc.1.loadRecord r
        (x.1, acc.2 + b2n x.2)) (s1.endRead desc, 0)
      r.1.complete desc (if r.2 = count then 0 else 1) (toLe 4 r.2 ++ toLe 4 (count - r.2))

/-! ## Dispatch tables (R179 to R182, R198) -/

def dispatchLoadMask : List Nat := [0x1F, 15, 255, 0x1F, 255, 255, 255, 255, 255, 1, 0, 0] ++ fullMask 12

/-- RESULT of DISPATCH_LOAD: the failing entry, or all ones. -/
def entryResult (i : Option Nat) : List Byte := toLe 4 (i.getD 0xFFFFFFFF)

/-- The 128-byte record of a table's counters (R198). -/
def DispTable.record (t : DispTable) : List Byte :=
  padTo 128 (([t.rows, t.slotsSent, t.drops, t.spills, t.holds, t.noRoute, t.unmapped, t.fencedDrop, t.returnLost, t.holdFull,
    t.holdExpired, t.holdDropped, t.returnOrder, t.combineSat, t.held.length].map (toLe 8)).flatten)

/-- An empty setting. -/
def emptySet : DispSet := ⟨0, 0, 0, none, 0, 0, []⟩

/-- DISPATCH_LOAD (R179), in its turn: the checks; then the counters are written, the table is emptied, or its list is read. -/
def State.loadStart (s : State) (desc : Nat) (e : List Byte) : State :=
  let num := byteAt e 8
  let query := bit (byteAt e 9) 0
  let unload := bit (byteAt e 9) 1
  let policy := bits (byteAt e 9) 3 2
  let ne := field e 0xA 2
  let h := field e 0xC 2
  let spill := field e 0x14 4
  let ticks := field e 0xE 2
  let hmax := field e 0x10 2
  let list := field e 0x18 8
  let t := s.table? num
  let src := (t.bind (·.source)).bind s.tx?
  let widest := match src with
    | some st => max (denseSize st.cfg.srcFmt h) (denseSize st.cfg.dlvFmt h)
    | none => 0
  let bound := (t.bind (·.source)).isSome || s.tx.any (fun x => x.2.cfg.dispRole == 2 && x.2.cfg.dispTable == num)
  let first := [(s.build.dispTables == 0, 0x12, 0), (num == 0 || num > s.build.dispTables, 0x11, 8)]
  let rest := if query then
      [(unload || policy != 0, 0x11, 9), (ne != 0, 0x11, 0xA), (h != 0, 0x11, 0xC), (ticks != 0, 0x11, 0xE), (hmax != 0, 0x11, 0x10),
       (spill != 0, 0x11, 0x14), (list % 64 != 0, 0x11, 0x18)]
    else if unload then [(bound, 0x11, 9)]
    else [(ne == 0 || ne > 4096, 0x11, 0xA),
      (h < 32 || h > 16384 || h % 32 != 0 || widest > 65536 || (match t, src with
        | some t, some _ => t.cur.rowElems != h
        | _, _ => false), 0x11, 0xC),
      (policy == 3, 0x11, 9),
      (if policy = 1 then addrBase spill != s.peerBase else spill != 0, 0x11, 0x14),
      (if policy = 2 then ticks == 0 else ticks != 0, 0x11, 0xE),
      (if policy = 2 then hmax == 0 || hmax > 256 else hmax != 0, 0x11, 0x10), (list % 8 != 0, 0x11, 0x18)]
  match firstFail (first ++ rest) with
  | some (status, off) => s.complete desc status (entryResult none) off
  | none =>
    if query then
      let r := match t with
        | some t => t.record
        | none => ((lookupKey num s.emptied).map DispTable.record).getD (zeros 128)
      s.hmWriteReq list r (.record desc)
    else if unload then
      let s1 := match t with
        | some t => { s with tables := eraseKey num s.tables, emptied := insertKey num { t with cur := emptySet, next := none } s.emptied }
        | none => s
      s1.complete desc 0 (entryResult none)
    else s.readMore desc list (8 * ne) (.dispatchLoad desc)

/-- DISPATCH_LOAD takes its turn on the table that it names; reserved bits of SPILL_ADDR end it before that (R9, R50). -/
def State.dispatchLoad (s : State) (desc : Nat) (e : List Byte) : State :=
  if !addrOk (field e 0x14 4) then s.complete desc 0x11 (entryResult none) 0x14
  else s.afterLoads (byteAt e 8) desc (fun s => s.loadStart desc e)

/-- The next descriptors that wait for a table begin, up to one that reads a list of its own. -/
def State.tableNext (num : Nat) : Nat → State → State
  | 0, s => s
  | n + 1, s =>
    if s.loading num then s
    else match s.tableWaits.find? (fun w => w.1 == num) with
    | none => s
    | some w =>
      let s1 := { s with tableWaits := s.tableWaits.erase w }
      State.tableNext num n (match s1.desc? w.2 with
        | none => s1
        | some d => if d.opcode = 0x10 then s1.openStream d.id d.entry else s1.loadStart d.id d.entry)

/-- One table entry (R180), if well formed. -/
def tableEntry (b : List Byte) : Option DispEntry :=
  let w := field b 0 8
  if bits w 63 49 != 0 || !addrOk (bits w 31 0) then none else some { addr := bits w 31 0, cap := bits w 47 32, enabled := bit w 48 }

/-- The list of a DISPATCH_LOAD has been read whole (R179 to R182). -/
def State.loadTable (s : State) (desc : Nat) (e : List Byte) (list : List Byte) : State :=
  let num := byteAt e 8
  let es := (pieces 8 list).map tableEntry
  match es.findIdx? (·.isNone) with
  | some i => s.complete desc 0x11 (entryResult (some i)) 0xFF
  | none =>
    let set : DispSet := {
      rowElems := field e 0xC 2, policy := bits (byteAt e 9) 3 2, spillAddr := field e 0x14 4, holdTicks := field e 0xE 2,
      holdMax := field e 0x10 2, entries := es.filterMap id }
    match s.table? num with
    | some t =>
      let r := s.resolveSet num set
      if t.source.isSome && set.rowElems ≠ t.cur.rowElems then s.complete desc 0x11 (entryResult none) 0xC
      else if t.source.isSome && !r.resolved then
        let bad := r.entries.findIdx? (fun x => x.enabled && x.stream.isNone)
        s.complete desc 0x11 (entryResult bad) (if bad.isSome then 0xFF else 0x14)
      else
        (s.setTable (if t.source.isSome then { t with next := some r } else { t with cur := set })).complete desc 0 (entryResult none)
    | none =>
      { s with emptied := eraseKey num s.emptied }.setTable { num := num, cur := set } |>.complete desc 0 (entryResult none)

/-- Bytes of a dispatch list arrive. -/
def State.dispatchData (s : State) (desc : Nat) (data : List Byte) (err : Bool) : State :=
  match s.desc? desc with
  | none => s
  | some d =>
    let s1 := s.addRead desc data
    let total := 8 * field d.entry 0xA 2
    let num := byteAt d.entry 8
    let next (s : State) : State := State.tableNext num s.tableWaits.length s
    if err then next ((s.endRead desc).complete desc 0x60 (entryResult none))
    else if (s1.readSoFar desc).length < total then s1.readMore desc (field d.entry 0x18 8) total (.dispatchLoad desc)
    else next ((s1.endRead desc).loadTable desc d.entry (s1.readSoFar desc))

/-! ## Kiln log and keys -/

/-- Firmware frees a record (R555); freeing a 0x0906 record lets its domain be requested again (R28). -/
def State.freeRecord (s : State) (i : Nat) : State :=
  match lookupKey i s.kiln.records with
  | none => s
  | some r =>
    let k := s.kiln.free i
    { s with kiln := { k with pdHeld := if r.code = 0x0906 then k.pdHeld.filter (· != r.unit) else k.pdHeld } }

def logDrainMask : List Nat := [1] ++ List.replicate 7 0 ++ fullMask 12

/-- LOG_DRAIN (R257, R555): up to MAX records are written, oldest first. -/
def State.logDrain (s : State) (desc : Nat) (e : List Byte) : State :=
  let addr := field e 0x10 8
  let n := field e 0x18 4
  s.checked desc [(addr % 64 != 0, 0x11, 0x10), (n == 0 || n > 64, 0x11, 0x18)] (fun s =>
    let recs := (sortBy olderRec s.kiln.records).take n
    if recs.isEmpty then s.complete desc 0 [0, 0]
    else
      let s1 := s.addRead desc (toLe 1 recs.length)
      (recs.foldl (fun (acc : State × Nat) r =>
        (acc.1.hmWriteReq (addr + 32 * acc.2) r.2.bytes (.logRecord desc r.1 r.2.seq), acc.2 + 1)) (s1, 0)).1)

/-- A record written by LOG_DRAIN is acknowledged; with CLEAR it is freed. -/
def State.logRecordAcked (s : State) (desc i seq : Nat) (err : Bool) : State :=
  match s.desc? desc with
  | none => s
  | some d =>
    if err then (s.endRead desc).complete desc 0x60
    else
      let same := match lookupKey i s.kiln.records with
        | some r => r.seq == seq
        | none => false
      let s1 := if bit (byteAt d.entry 8) 0 && same then s.freeRecord i else s
      let more := s1.hmWrites.any (fun w => match w.2 with
        | .logRecord k _ _ => k == desc
        | _ => false)
      if more then s1 else (s1.endRead desc).complete desc 0 (s1.readSoFar desc ++ toLe 1 s1.kiln.records.length)

def keyLoadMask : List Nat := [0x87, 255] ++ List.replicate 6 0 ++ fullMask 8

/-- KEY_LOAD (R257). -/
def State.keyLoad (s : State) (desc : Nat) (e : List Byte) : State :=
  let slot := bits (byteAt e 8) 2 0
  let erase := bit (byteAt e 8) 7
  let len := byteAt e 9
  let addr := field e 0x10 8
  s.checked desc [(s.build.keySlots == 0, 0x12, 0), (slot ≥ s.build.keySlots, 0x11, 8),
      (if erase then len != 0 else len == 0 || len > 64, 0x11, 9), (if erase then addr != 0 else addr % 8 != 0, 0x11, 0x10)] (fun s =>
    if erase then { s with keys := modAt (fun _ => none) slot s.keys }.complete desc 0
    else s.hmReadReq addr len (.keyLoad desc))

/-- The bytes of a key arrive; those of a KEY_LOAD that has completed are discarded. -/
def State.keyData (s : State) (desc : Nat) (data : List Byte) (err : Bool) : State :=
  match s.desc? desc with
  | none => s
  | some d =>
    if d.written then s
    else if err then s.complete desc 0x60
    else { s with keys := modAt (fun _ => some (padTo (byteAt d.entry 9) data)) (bits (byteAt d.entry 8) 2 0) s.keys }.complete desc 0

/-- A counter record written for a query is acknowledged (R257). -/
def State.recordAcked (s : State) (desc : Nat) (err : Bool) : State :=
  let r := match s.desc? desc with
    | some d => if d.opcode = 0x30 then entryResult none else []
    | none => []
  s.complete desc (if err then 0x60 else 0) r

/-- FENCE (R259). -/
def State.fence (s : State) (desc : Nat) (e : List Byte) : State :=
  let f := byteAt e 8
  let pair := ((s.desc? desc).map (·.pair)).getD 0
  State.checkFences { s with fences := s.fences ++ [⟨desc, pair, bit f 1, bit f 0⟩] }

end Sys2Proof.Machine
end

