-- ==== Sys2Proof/Machine/Tick.lean ====
section
/-! DEFINITION. The passing of time: one LCLK cycle, five to a tick (R273, R307). -/

namespace Sys2Proof.Machine

/-- One LCLK cycle passes: the phase advances, and after phase 4 the firing count. -/
def State.passLclk (s : State) : State :=
  if s.phase + 1 < 5 then { s with phase := s.phase + 1 } else { s with phase := 0, fcount := s.fcount + 1 }

/-- What a step does on an empty queue (DESIGN CHOICE): one LCLK cycle passes, unless the AON reset holds the firing count. -/
def idle (s : State) : State := if s.resets.aon then s else s.passLclk

end Sys2Proof.Machine
end

