-- ==== Sys2Proof/Machine/LinkTx.lean ====
section
/-! DEFINITION. The sending side of the link layer: slips, credits, flits and trailers, the F schedule of a row, arbitration of a slot,
acknowledgements, and the carrying of a failed strand's flits (R61 to R63, R264 to R290, R292, R318, R328). -/

namespace Sys2Proof.Machine

/-! ## Strands -/

/-- Strand `i`. -/
def State.strand (s : State) (i : Nat) : Strand := s.strands.getD i {}

/-- Changes a strand. -/
def State.modStrand (s : State) (i : Nat) (f : Strand → Strand) : State := { s with strands := modAt f i s.strands }

/-- Changes the link layer of a strand. -/
def State.modLink (s : State) (i : Nat) (f : Link → Link) : State := s.modStrand i (fun x => { x with link := f x.link })

/-- Strands in service, ascending. -/
def State.inService (s : State) : List Nat := (List.range s.build.strands).filter (fun i => (s.strand i).service)

/-- Depth of a replay buffer and of a receive queue (R277, R279). -/
def State.linkDepth (s : State) : Nat := if s.build.pers = .V then 64 else 96

/-- The replay allowance in rows (R281). -/
def State.allowance (s : State) : Nat := if s.build.pers = .V then 16 else 20

/-- ROW of the present row (R273). -/
def State.rowNow (s : State) : Nat := s.lclk % 4096

/-- Flits that a receive queue holds. -/
def Link.filled (l : Link) : Nat := countWhere (fun (f : HeldFlit) => !f.fault) l.queue

/-- Free entries of a strand's receive queue. -/
def State.queueFree (s : State) (i : Nat) : Nat := s.linkDepth - (s.strand i).link.filled

/-- Every flit of a strand has been acknowledged, and it carries none for another. -/
def Link.drained (l : Link) : Bool := l.replay.isEmpty && l.carryOut.isEmpty

/-- The strand whose receive queue takes the flit that strand `i` numbers `seq`: itself, or one whose flits it carries (R288). The first
argument bounds the way. -/
def State.queueOfSeq (s : State) : Nat → Nat → Nat → Nat
  | 0, i, _ => i
  | n + 1, i, seq =>
    match (s.strand i).link.carryIn.find? (fun (c : Carry) => c.next == seq) with
    | some c => s.queueOfSeq n c.failed c.orig
    | none => i

/-- The strand whose receive queue takes the next sequenced flit of strand `i`. -/
def State.nextQueue (s : State) (i : Nat) : Nat := s.queueOfSeq (s.build.strands + 1) i (s.strand i).link.rxSeq

/-! ## Slips (R318) -/

/-- A later slip of a stream within a frame: the record of the first one counts it, whether it has been made or is about to be. -/
def State.slipAgain (s : State) (stream : Nat) : State :=
  let mine (code unit : Nat) : Bool := code == 0x0304 && unit == stream
  if s.raised.any (fun (r : Raised) => mine r.code r.unit) then
    { s with raised := s.raised.map (fun (r : Raised) => if mine r.code r.unit then { r with more := r.more + 1 } else r) }
  else { s with kiln := { s.kiln with records := s.kiln.records.map (fun p =>
      if mine p.2.code p.2.unit then (p.1, { p.2 with count := satAdd 16 p.2.count 1 }) else p) } }

/-- An F flit of a stream has slipped; `out` where it is sent here. Only the first of each stream in a frame is a new occurrence;
later ones raise the record's count. -/
def State.slip (s : State) (out : Bool) (stream cause : Nat) : State :=
  let s1 := ((s.sticky 0x310 0).bumpSat 0x314 31 0 1).setReg 0x318 (BitVec.ofNat 32 (stream + 4096 * cause))
  if s.guard.slips.contains (out, stream) then s1.slipAgain stream
  else { s1 with guard := { s1.guard with slips := s1.guard.slips ++ [(out, stream)] } }.raise 0x0304 stream

/-! ## Flits (R264 to R270) -/

/-- Bytes 0 to 247 of a flit: its header and its padded payload. `cr`: the credit return (stream, cells, pairs). -/
def flitBody (f : FlitOut) (cr : Option (Nat × Nat × Nat)) (row : Nat) : List Byte :=
  let c := cr.getD (0, 0, 0)
  let w := f.type + f.cls * 2 ^ 4 + f.stream * 2 ^ 7 + f.payload.length * 2 ^ 19 + b2n f.first * 2 ^ 27 + b2n f.last * 2 ^ 28
    + b2n f.abort * 2 ^ 29 + b2n cr.isSome * 2 ^ 30 + c.1 * 2 ^ 31 + c.2.1 * 2 ^ 43 + c.2.2 * 2 ^ 50 + row * 2 ^ 52
  toLe 8 w ++ padTo 240 f.payload

/-- A whole flit: body, SEQ, ACK, ACK_TYPE and CRC (R269, R270). -/
def wholeFlit (body : List Byte) (seq ack ackType : Nat) : List Byte :=
  let b := body ++ toLe 4 (seq + ack * 4096 + ackType * 2 ^ 24)
  b ++ toLe 4 (crc32c b)

/-- The acknowledgement that a strand's next trailer carries (R280, R281, R283): ACK and ACK_TYPE. WAIT goes by the queue that takes the
strand's next flit. -/
def State.ackOf (s : State) (i : Nat) : Nat × Nat :=
  let l := (s.strand i).link
  let ack := l.rxLast.getD 0xFFF
  if l.nakDue then (ack, 2)
  else if l.discard.isNone && (s.queueFree (s.nextQueue i) < 16 || l.forceWait) then (ack, 3)
  else if l.rxLast.isNone && l.discard.isNone then (0xFFF, 0) else (ack, 1)

/-- Serialises a flit on a strand with the acknowledgement due: a NAK goes out once, and each run of WAIT is counted (R281, R283). -/
def State.serialise (s : State) (i seq : Nat) (body : List Byte) : State :=
  let l := (s.strand i).link
  let a := s.ackOf i
  let starts := a.2 = 3 && !l.waiting
  let s1 := (s.modLink i (fun (l : Link) => { l with
    nakDue := false, waiting := a.2 == 3, forceWait := l.forceWait && a.2 != 3, waits := satAdd 8 l.waits (b2n starts) })).emit
      (.flit i (wholeFlit body seq a.1 a.2))
  if starts then s1.raise 0x0206 i 0 l.forceWait else s1

/-- An idle flit (R266, R267): its SEQ is that of the strand's next sequenced flit. -/
def State.grog (s : State) (i : Nat) : State :=
  s.serialise i (s.strand i).link.txSeq (flitBody ⟨0, 0, 0, [], false, false, false⟩ none s.rowNow)

/-- Serialises a new sequenced flit and keeps it for replay (R277). -/
def State.sequence (s : State) (i : Nat) (body : List Byte) (owner : Option Nat) : State :=
  let seq := (s.strand i).link.txSeq
  (s.modLink i (fun (l : Link) => { l with
    txSeq := (seq + 1) % 4096, replay := l.replay ++ [⟨seq, body, s.lclk, owner⟩] })).serialise i seq body

/-- The next flit of a go-back (R282). -/
def State.sendAgain (s : State) (i : Nat) : State :=
  let l := (s.strand i).link
  let k := l.replay.length - l.resend
  match l.replay[k]? with
  | none => s.grog i
  | some f =>
    (s.modLink i (fun (l : Link) => { l with
      resend := l.resend - 1, replay := modAt (fun (g : SentFlit) => { g with row := s.lclk }) k l.replay })).serialise i f.seq f.body

/-! ## Credit returns (R292, R293, R482) -/

/-- Cells of a stream that may be returned now, `used` cells of its class being returned with it (R482). -/
def State.cellsDue (s : State) (st : RxStream) (used : Nat) : Nat :=
  match s.sagCells st.cls with
  | some cap => min st.dueCells (cap - used)
  | none => st.dueCells

/-- Inbound streams with credits to return: key, id, cells and pairs; the cells of a class keep to its allowance together (R482). -/
def State.creditsDue (s : State) : List (Nat × Nat × Nat × Nat) :=
  ((s.rx.filter (fun x => !x.2.looped)).foldl (fun (acc : List (Nat × Nat × Nat × Nat) × List (Nat × Nat)) x =>
    let used := (lookupKey x.2.cls acc.2).getD 0
    let c := s.cellsDue x.2 used
    if c = 0 ∧ x.2.duePairs = 0 then acc
    else (acc.1 ++ [(x.1, x.2.cfg.id, c, x.2.duePairs)], insertKey x.2.cls (used + c) acc.2)) ([], [])).1

/-- Credits of a stream leave in a flit. -/
def State.takeCredits (s : State) (key cells pairs : Nat) : State :=
  match s.rx? key with
  | none => s
  | some st => (s.setRx key { st with dueCells := st.dueCells - cells, duePairs := st.duePairs - pairs }).sagReturned st.cls cells

/-- The credit return for the header of a sequenced flit: that of the lowest stream. -/
def State.headerCredit (s : State) : Option (Nat × Nat × Nat) × State :=
  match s.creditsDue with
  | [] => (none, s)
  | (key, id, c, p) :: _ => (some (id, min c 127, min p 3), s.takeCredits key (min c 127) (min p 3))

/-- A CRED flit is wanted: its timer has run out, or a return is too large for a header. -/
def State.credWanted (s : State) : Bool := s.credDue && !s.creditsDue.isEmpty || s.creditsDue.any (fun x => x.2.2.1 > 127 || x.2.2.2 > 3)

/-- Sends a CRED flit with up to 30 entries. -/
def State.sendCred (s : State) (i : Nat) : State :=
  let due := s.creditsDue.take 30
  let entry (x : Nat × Nat × Nat × Nat) : List Byte :=
    toLe 2 x.2.1 ++ toLe 2 (min x.2.2.1 4370) ++ toLe 1 (min x.2.2.2 64) ++ zeros 3
  let body := flitBody ⟨5, 0, 0, (due.map entry).flatten, false, false, false⟩ none s.rowNow
  let s1 := forEach due (fun x s => s.takeCredits x.1 (min x.2.2.1 4370) (min x.2.2.2 64)) s
  { s1 with credDue := false }.sequence i body none

/-- Sends a flit of the stream layer or of management on a strand, with a credit return in its header. -/
def State.sendFlit (s : State) (i : Nat) (f : FlitOut) : State :=
  let r := s.headerCredit
  let s1 := r.2.sequence i (flitBody f r.1 s.rowNow) none
  if s1.creditsDue.isEmpty then { s1 with credDue := false } else s1

/-! ## Management (R295, R296) -/

/-- Link-control message types (R296, R409). -/
def linkControl (type : Nat) : Bool :=
  (1 ≤ type && type ≤ 0x0F) || (0x28 ≤ type && type ≤ 0x2B) || (0x30 ≤ type && type ≤ 0x35) || type == 0x38

/-- The messages at the front of a queue that one MGMT flit may hold: of one kind, at most 240 bytes. -/
def packMsgs (link : Bool) : Nat → List (List Byte) → List (List Byte) × List (List Byte)
  | _, [] => ([], [])
  | room, m :: ms =>
    if linkControl (byteAt m 0) == link && m.length ≤ room then
      let r := packMsgs link (room - m.length) ms
      (m :: r.1, r.2)
    else ([], m :: ms)

/-- Sends the next management messages on a strand. -/
def State.sendMgmt (s : State) (i : Nat) : State :=
  match s.mgmt with
  | [] => s
  | m :: _ =>
    let r := packMsgs (linkControl (byteAt m 0)) 240 s.mgmt
    { s with mgmt := r.2 }.sendFlit i ⟨4, 0, 0, r.1.flatten, false, false, false⟩

/-! ## The F schedule of a row (R328, R332) -/

/-- The stream that takes a set's next reserved slot: in turn, or, where the set cannot hold its reservations, by ascending id. -/
def SetRun.nextOwner (g : SetRun) : Option Nat :=
  let open_ := (g.resv.filter (fun r => (lookupKey r.1 g.had).getD 0 < r.2)).map (·.1)
  if g.broken then open_.head?
  else (open_.find? (· > g.last)).or open_.head?

/-- The owners of a set's reserved slots in the present row: (strand, stream). -/
def SetRun.reserve (rowOfFrame : Nat) (g0 : SetRun) : List (Nat × Nat) × SetRun :=
  let sum := (g0.resv.map (·.2)).foldl (· + ·) 0
  let rset := min sum (5120 * g0.active.length)
  let goal := ceilDiv (rset * (rowOfFrame + 1)) 5120
  g0.active.foldl (fun acc i =>
    let g := acc.2
    if g.taken ≥ goal then acc
    else match g.nextOwner with
      | none => acc
      | some id => (acc.1 ++ [(i, id)], { g with
          taken := g.taken + 1, last := id, had := insertKey id ((lookupKey id g.had).getD 0 + 1) g.had })) ([], g0)

/-- The owners of the reserved slots of the present row over all sets. -/
def State.reserveRow (s : State) : List (Nat × Nat) × State :=
  let row := s.lclk % 5120
  let r := s.guard.sets.foldl (fun (acc : List (Nat × Nat) × List SetRun) g =>
    let x := g.reserve row
    (acc.1 ++ x.1, acc.2 ++ [x.2])) ([], [])
  (sortBy (fun a b => a.1 ≤ b.1) r.1, { s with guard := { s.guard with sets := r.2 } })

/-- LCLK index of the I-channel beat that completed the source bytes of a parcel's next flit (R322): the first beat with which the encoder
holds as many wire bytes as that flit ends at. -/
def TxStream.beatOf (t : TxStream) (p : TxParcel) : Option Nat :=
  let mode := p.mode.getD (t.chooseMode p false).1
  let wire (n : Nat) : Nat := 32 + (t.encoded { p with src := p.src.take n, complete := p.complete && p.src.length ≤ n } mode).length
  let goal := min (wire p.src.length) (p.sent + 240)
  (p.stamps.find? (fun x => goal ≤ wire x.1)).map (·.2)

/-- A slot of the present row is granted at least IN LCLK after the I-channel beat that completed the source bytes of the stream's next
flit, where that latency is fixed (R322). -/
def State.ripe (s : State) (t : TxStream) : Bool :=
  match t.queue with
  | [] => true
  | p :: _ => !s.fixedLat t.cls t.cfg t.looped || (match t.beatOf p with
    | some row => row + 7 + s.grantLead ≤ s.lclk
    | none => true)

/-- The owner of a reserved slot could not be served in it although it had a flit ready: its head flit slips when it leaves (R318). -/
def State.missSlot (s : State) (owner : Option Nat) (cause : Nat) : State :=
  match owner with
  | none => s
  | some id => if (s.nextFlit id).isSome && (s.tx? id).any s.ripe then
      s.modTx id (fun (t : TxStream) => { t with missed := some (t.missed.getD cause) }) else s

/-! ## Demotion on the wire (R333) -/

/-- A demoted stream between parcels becomes class O, after a DEMOTE message for the next parcel; while it is cold, its parcels then wait for
lookahead space (R151). -/
def State.settleDemote (s : State) (id : Nat) : State :=
  match s.tx? id with
  | none => s
  | some st =>
    let midway := match st.queue with
      | p :: _ => p.started
      | [] => false
    if !st.demoting || midway then s
    else ((s.setTx id { st with demoting := false, demoted := true, cls := 2, weight := 1, missed := none }).seekQueued id).pushMsg 0x20
      (toLe 2 id ++ toLe 2 st.pseq)

/-! ## Arbitration (R61 to R63) -/

/-- Ids of outbound streams on the wire that satisfy a test, ascending. -/
def State.wireStreams (s : State) (p : TxStream → Bool) : List Nat := (s.tx.filter (fun x => !x.2.looped && p x.2)).map (·.1)

/-- The first stream of a list with a flit ready. -/
def State.firstReady (s : State) : List Nat → Option (Nat × FlitOut × State)
  | [] => none
  | id :: ids => match s.nextFlit id with
    | some r => some (id, r.1, r.2)
    | none => s.firstReady ids

/-- The WEIGHT of a stream for its next flit: a change that waits for the next parcel or packet counts from that one's first flit (R58). -/
def TxStream.turnWeight (t : TxStream) : Nat :=
  let midway := match t.queue, t.ptQueue with
    | p :: _, _ => p.started
    | [], x :: _ => x.2.1 != 0
    | [], [] => false
  if t.demoting then 1 else if midway then t.weight else t.applyModify.weight

/-- The O or P flit that weighted round robin chooses (R62); the rest of a demoted stream's parcel goes with it (R333), but keeps CLASS F and
so takes no CRAZED strand (R330). -/
def State.pickShared (s : State) (crazed : Bool) : Option (Nat × FlitOut × State) :=
  let ids := s.wireStreams (fun t => t.cls == 2 || t.cls == 3 || (t.demoting && !crazed))
  let g := s.guard
  let turn := match s.tx? g.wrrAt with
    | some t => g.wrrSent < t.turnWeight && ids.contains g.wrrAt
    | none => false
  let order := (if turn then [g.wrrAt] else []) ++ ids.filter (· > g.wrrAt) ++ ids.filter (· ≤ g.wrrAt)
  match s.firstReady order with
  | none => none
  | some (id, f, s1) =>
    some (id, f, { s1 with guard := { s1.guard with
      wrrAt := id, wrrSent := if turn && id == g.wrrAt then g.wrrSent + 1 else 1 } })

/-- Every O and P stream has been visited and none had a flit ready: the round has ended, and the next begins with the lowest id (R62). -/
def State.endRound (s : State) : State := { s with guard := { s.guard with wrrAt := 0, wrrSent := 0 } }

/-- The D flit that round robin chooses (R63). -/
def State.pickDraw (s : State) : Option (Nat × FlitOut × State) :=
  let ids := s.wireStreams (fun t => t.cls == 4)
  match s.firstReady (ids.filter (· > s.guard.dLast) ++ ids.filter (· ≤ s.guard.dLast)) with
  | none => none
  | some (id, f, s1) => some (id, f, { s1 with guard := { s1.guard with dLast := id, dSent := s1.guard.dSent + 1 } })

/-- D is below its floor (R63): fewer D flits than the floor fraction of the slots elapsed in the frame. -/
def State.belowFloor (s : State) : Bool := 100 * s.guard.dSent < s.guard.dfloor * s.guard.slots

/-- The F flit of a slot's owner; it has slipped if it missed an earlier slot. -/
def State.pickFixed (s : State) (owner : Option Nat) : Option (Nat × FlitOut × State) :=
  match owner with
  | none => none
  | some id =>
    match s.tx? id, s.nextFlit id with
    | some t, some r =>
      if t.cls != 1 || t.demoting || !t.joined || !s.ripe t then none
      else
        let s1 := r.2.modTx id (fun (u : TxStream) => { u with missed := none })
        some (id, r.1, match t.missed with
          | some c => s1.slip true id c
          | none => s1)
    | _, _ => none

/-- Fills a slot of a strand that may send new flits, in the order of R61. -/
def State.fillSlot (s : State) (i : Nat) (owner : Option Nat) : State :=
  if !s.mgmt.isEmpty then (s.missSlot owner 2).sendMgmt i
  else if s.credWanted then (s.missSlot owner 2).sendCred i
  else
    let send (r : Nat × FlitOut × State) : State :=
      let s2 := r.2.2.sendFlit i r.2.1
      match s.tx? r.1 with
      | some t => if t.demoting then (s2.slip true r.1 4).settleDemote r.1 else s2
      | none => s2
    match (s.pickFixed owner).or (if s.belowFloor then s.pickDraw else none) with
    | some r => send r
    | none =>
      match s.pickShared ((s.strand i).state == .crazed) with
      | some r => send r
      | none =>
        match s.endRound.pickDraw with
        | some r => send r
        | none => s.endRound.grog i

/-- Sends the XREPLAY, or the next carried flit, of the oldest job of a carrier (R287). -/
def State.carryOn (s : State) (i : Nat) (c : CarryOut) : State :=
  if !c.told then
    let body := toLe 1 c.failed ++ toLe 1 i ++ toLe 2 c.seq ++ toLe 2 (((s.strand i).link.txSeq + 1) % 4096) ++ toLe 2 c.left.length
    let f : FlitOut := ⟨4, 0, 0, toLe 1 1 ++ toLe 1 2 ++ [0, 0] ++ body, false, false, false⟩
    (s.modLink i (fun (l : Link) => { l with
      carryOut := if c.left.isEmpty then l.carryOut.drop 1 else { c with told := true } :: l.carryOut.drop 1 })).sequence i
      (flitBody f none s.rowNow) none
  else
    match c.left with
    | [] => s.modLink i (fun (l : Link) => { l with carryOut := l.carryOut.drop 1 })
    | f :: rest =>
      (s.modLink i (fun (l : Link) => { l with
        carryOut := if rest.isEmpty then l.carryOut.drop 1 else { c with left := rest } :: l.carryOut.drop 1 })).sequence i f.body
        (some (f.owner.getD c.failed))

/-- One flit slot of a strand in service, or of one that leaves it: that one serialises no new flit but those it carries for another
(DEDUCED: R287 has them sent in order, and R291 has the strand leave when nothing of it is unacknowledged) (R274, R277, R282, R283). -/
def State.slot (s : State) (i : Nat) (owner : Option Nat) : State :=
  let x := s.strand i
  let l := x.link
  let full := l.replay.length ≥ s.linkDepth
  if l.resend > 0 then (s.missSlot owner 0).sendAgain i
  else if l.waitMode || full then (s.missSlot owner 2).grog i
  else match l.carryOut with
    | c :: _ => (s.missSlot owner 2).carryOn i c
    | [] => if x.service then s.fillSlot i owner else s.grog i

/-- A strand has a slot in the present row: it is in service, or still empties its replay buffer; a CRAZED strand only in rows with an
even ROW (R274, R291). -/
def State.hasSlot (s : State) (i : Nat) : Bool :=
  let x := s.strand i
  (x.service || x.draining) && (x.state != .crazed || s.lclk % 2 == 0)

/-- What a looped flit hands to the decoder of the same instance (R169). -/
def State.loopFlit (s : State) (id : Nat) : State :=
  match s.nextFlit id with
  | none => s
  | some r => { r.2 with port := r.2.port ++ [.flit 0 (4096 + id) (flitBody r.1 none s.rowNow)] }

/-- The slots of the present row, in ascending strand number, one flit of each looped stream, and the row's end (R274, R61, R169). -/
def State.flitSlot (s : State) : State :=
  let r := s.reserveRow
  let s1 := forRange s.build.strands (fun i s =>
    let owner := lookupKey i r.1
    if s.hasSlot i then
      let s1 := s.slot i owner
      if (s.strand i).service then { s1 with guard := { s1.guard with slots := s1.guard.slots + 1 } } else s1
    else if (s.strand i).state = .crazed then s else s.missSlot owner 3) r.2
  (forEach ((s1.tx.filter (fun x => x.2.looped)).map (·.1)) (fun id s => s.loopFlit id) s1).passLclk

end Sys2Proof.Machine
end

