-- ==== Sys2Proof/Machine/LinkRx.lean ====
section
/-! DEFINITION. The receiving side of the link layer: acknowledgements, exhaustion and XREPLAY, acceptance and its faults, credits,
the merge and the lock-step release (R276 to R300, R316 to R318, R437). -/

namespace Sys2Proof.Machine

/-! ## Leaving service at once (R286, R287, R290, R310) -/

/-- A set member leaves service within a frame: a free standby covers it from the next row (R328). -/
def State.coverMember (s : State) (i : Nat) : State :=
  { s with guard := { s.guard with sets := s.guard.sets.map (fun (g : SetRun) =>
      match g.standby with
      | none => g
      | some b =>
        let x := s.strand b
        if g.members.contains i && g.active.contains i && g.covers.isNone && x.state == .fired && x.service && x.sub == .none then
          { g with covers := some i, active := sortBy (fun a b => a ≤ b) (b :: g.active.filter (· != i)) }
        else g) } }

/-- No strand is left to carry the link (R289): every stream is fenced. -/
def State.noCarrier (s : State) : State :=
  (s.fenceStreams 0x22 true).raise 0x0208 0

/-- The carrier for a failed strand (R287): the lowest in service, not in HOLD, and not the failed one. -/
def State.carrierFor (s : State) (i : Nat) : Option Nat := s.inService.find? (fun c => c != i && (s.strand c).sub != .hold)

/-- Moves the unacknowledged flits of a strand to a carrier (R287). What it was still to carry for others follows them, each strand's
flits under an XREPLAY of their own (R303): none counts more flits than a replay buffer holds (R297). -/
def State.moveReplay (s : State) (i : Nat) : State :=
  let l := (s.strand i).link
  let s1 := s.modLink i (fun (l : Link) => { l with replay := [], resend := 0, carryOut := [], waitMode := false, xsent := true, movedOut := l.movedOut + l.replay.length })
  match s.carrierFor i with
  | none => s1.noCarrier
  | some c =>
    let mine : CarryOut := {
      failed := i, seq := (l.replay.head?.map (·.seq)).getD l.txSeq,
      left := l.replay.map (fun (f : SentFlit) => { f with owner := some (f.owner.getD i) }) }
    let others := l.carryOut.map (fun (j : CarryOut) => { j with told := false, seq := (j.left.head?.map (·.seq)).getD j.seq })
    s1.modLink c (fun (l : Link) => { l with carryOut := l.carryOut ++ mine :: others })

/-- A strand stops sending new flits at the boundary of index `row` and is out of the merge from there; it leaves once its replay buffer
is empty (R291). -/
def State.standDown (s : State) (i row : Nat) : State :=
  if (s.strand i).service then s.modStrand i (fun x => { x with service := false, draining := true, mergeUntil := some row }) else s

/-- A strand enters HOLD within a frame, in both directions: it leaves service at once (R286, R310, R439). A pending departure is moot
(R303); a retirement is then agreed anew, for another boundary (DEDUCED). The repair that follows is begun by the caller. -/
def State.dropToHold (s : State) (i : Nat) : State :=
  let s1 := s.coverMember i
  s1.modStrand i (fun x => { x with
    sub := .hold, service := false, draining := false, leave := none, toRetire := x.toRetire || x.leave.any (fun (v : Svc) => v.reason == 1),
    join := none, step := 0, held := 0,
    rep := some (x.rep.getD { cause := .replay, rx0 := x.rx, tx0 := x.tx, began := s.now }) })

/-- A third NAK, or an acknowledgement timeout (R286, R290). -/
def State.exhaust (s : State) (i : Nat) (inj : Bool) : State :=
  let s1 := (s.modLink i (fun (l : Link) => { l with nakExh := satAdd 8 l.nakExh 1, nakCount := 0 })).raise 0x0202 i 0 inj
  (s1.dropToHold i).moveReplay i

/-! ## Acknowledgements (R278, R280, R282, R283) -/

/-- An invalid acknowledgement (R280). -/
def State.ackInvalid (s : State) (i : Nat) (inj : Bool) : State :=
  (s.modLink i (fun (l : Link) => { l with protoErr := satAdd 8 l.protoErr 1 })).raise 0x0203 i 0 inj

/-- Flits of a replay buffer that an acknowledgement names as accepted; none for one that names no flit it may name. Flits that a carrier has
taken over are still unacknowledged: one that names them is in order and frees nothing here (R280, R287). -/
def Link.ackedBy (l : Link) (ack : Nat) : Option Nat :=
  match l.replay with
  | f :: _ =>
    let n := (ack + 4097 - f.seq) % 4096
    if n ≤ l.replay.length then some n else none
  | [] => if (ack + 4097 + l.movedOut - l.txSeq) % 4096 ≤ l.movedOut then some 0 else none

/-- Applies the acknowledgement of a passing flit to the sending direction of its strand. -/
def State.applyAck (s0 : State) (i ack type : Nat) : State :=
  let (inj, s) := s0.fire 0x0F i
  let l := (s.strand i).link
  match (if inj then none else l.ackedBy ack) with
  | none => s.ackInvalid i inj
  | some n =>
    let kept := l.replay.drop n
    let l1 := { l with
      replay := kept, resend := min l.resend kept.length, nakCount := if n = 0 then l.nakCount else 0 }
    let set (x : Link) : State := s.modLink i (fun _ => x)
    if type = 2 then
      if kept.isEmpty then set { l1 with waitMode := false }
      else
        let first := (ack + 1) % 4096
        let count := if l1.nakCount != 0 && l1.nakSeq == first then l1.nakCount + 1 else 1
        let l2 := { l1 with nakSeq := first, nakCount := count, waitMode := false }
        if count ≥ 3 then (set l2).exhaust i inj
        else set { l2 with resend := kept.length, replays := satAdd 16 l2.replays 1 }
    else if type = 3 then set { l1 with waitMode := true }
    else if l1.waitMode then set { l1 with waitMode := false, resend := kept.length }
    else set l1

/-! ## CRC failures (R281, R437) -/

/-- The threshold trigger of R437 fires once in a window. What it begins is a planned repair (R436). -/
def State.crcThreshold (s : State) (i : Nat) : State :=
  let l := (s.strand i).link
  if l.winCrc ≥ s.fld 0x2800 15 8 && !l.winFired then
    let s1 := ((s.modLink i (fun (l : Link) => { l with winFired := true })).sticky 0x2808 0).raise 0x0120 i
    let up := (s.strand i).state == .fired || (s.strand i).state == .crazed
    if s.flag 0x2800 0 && up then s1.modStrand i (fun x => { x with waits := x.waits ++ [{ cause := .threshold }] }) else s1
  else s

/-- A flit that fails its CRC, or is found lost, is counted (R305, R437). -/
def State.countCrc (s : State) (i : Nat) (inj : Bool) : State :=
  ((s.modLink i (fun (l : Link) => { l with crcErr := satAdd 24 l.crcErr 1, winCrc := satAdd 8 l.winCrc 1 })).raise
    0x0201 i 0 inj).crcThreshold i

/-- A flit failed its CRC, or one was lost (R281): a NAK is due and flits are discarded up to the replay slot. -/
def State.crcFail (s : State) (i : Nat) (inj : Bool) : State :=
  (s.modLink i (fun (l : Link) => { l with nakDue := true, discard := some (s.lclk + s.allowance) })).countCrc i inj

/-! ## Acceptance (R278, R279, R288, R294, R300) -/

/-- The LCLK index that a ROW names, near the row `base`. -/
def rowNear (base row : Nat) : Nat :=
  let d := (row + 4096 - base % 4096) % 4096
  if d ≤ 2047 then base + d else base + d - 4096

/-- The messages of a MGMT payload; none where their lengths break R295. -/
def parseMsgs : Nat → List Byte → Option (List (Nat × List Byte))
  | _, [] => some []
  | 0, _ => none
  | n + 1, b =>
    let len := 4 + 4 * byteAt b 1
    if b.length < 4 ∨ b.length < len then none
    else (parseMsgs n (b.drop len)).map (fun ms => (byteAt b 0, slice b 4 (len - 4)) :: ms)

/-- The messages of a MGMT flit; a flit whose first message is a link-control message holds only such messages (R296). -/
def flitMsgs (b : List Byte) : Option (List (Nat × List Byte)) :=
  match parseMsgs 60 (fPayload b) with
  | none => none
  | some ms =>
    match ms with
    | [] => none
    | m :: _ => if linkControl m.1 && ms.any (fun x => !linkControl x.1) then none else some ms

/-- The header and lengths keep R266, R267 and R295. -/
def layoutOk (b : List Byte) : Bool :=
  let t := fType b
  let c := fClass b
  let v := fValid b
  let cr := fCrStream b + fCrCells b + fCrPairs b
  let crOk := if fCrValid b then fCrCells b + fCrPairs b != 0 else cr == 0
  let bare := fStream b == 0 && !fFirst b && !fLast b && !fAbort b
  if t = 0 then c == 0 && bare && v == 0 && !fCrValid b && cr == 0
  else if t = 1 then (c == 1 || c == 2 || c == 4) && 1 ≤ v && v ≤ 240 && fFirst b && !fAbort b && crOk
  else if t = 2 then
    (c == 1 || c == 2 || c == 4) && v ≤ 240 && !fFirst b && crOk && (if fAbort b then fLast b else 1 ≤ v)
  else if t = 3 then c == 3 && 1 ≤ v && v ≤ 240 && !fAbort b && crOk
  else if t = 4 then c == 0 && bare && 4 ≤ v && v ≤ 240 && crOk && (flitMsgs b).isSome
  else t == 5 && c == 0 && bare && 8 ≤ v && v ≤ 240 && v % 8 == 0 && !fCrValid b && cr == 0

/-- A credit return for an outbound stream (R294). -/
def State.creditReturn (s0 : State) (id cells pairs : Nat) : State :=
  match s0.tx? id with
  | none => s0
  | some st =>
    let opening := match st.phase with
      | .opening _ => true
      | _ => false
    if opening || st.looped then s0
    else
      let (inj, s) := s0.fire 0x11 id
      let above := inj || st.credits + cells > st.capacity || st.pairCred + pairs > 64
      let s1 := s.setTx id { st with
        credits := min st.capacity (st.credits + cells), pairCred := min 64 (st.pairCred + pairs),
        headerErr := if above then satAdd 16 st.headerErr 1 else st.headerErr }
      if above then s1.raise 0x0205 id 0 inj else s1

/-- The credits that an accepted flit carries. -/
def State.flitCredits (s : State) (b : List Byte) : State :=
  if fType b = 5 then
    forEach (pieces 8 (fPayload b)) (fun (e : List Byte) s =>
      s.creditReturn (field e 0 2 % 4096) (field e 2 2 % 8192) (byteAt e 4 % 128)) s
  else if fCrValid b then s.creditReturn (fCrStream b) (fCrCells b) (fCrPairs b)
  else s

/-- A message of a type that the receiver does not know is skipped (R299). -/
def State.unknownMsg (s : State) (type : Nat) (inj : Bool) : State := s.raise 0x0207 type 0 inj

/-- Link-control messages with an effect; TOPO counts against the Saggar's cap (R481). -/
def State.takeLinkMsg (s0 : State) (i type : Nat) (body : List Byte) : State :=
  let (inj, s) := s0.fire 0x13 0
  if inj then s.unknownMsg type true
  else if [1, 2, 0x28, 0x29, 0x2A, 0x2B, 0x30, 0x31, 0x32, 0x33, 0x34, 0x35, 0x38].contains type then
    let (ok, s1) := if type = 0x34 then s.sagMessage 0 else (true, s)
    if ok then { s1 with linkMsgs := s1.linkMsgs ++ [(i, type, body)] } else s1
  else s.unknownMsg type false

/-- The firing counts of the two sides disagree (R317). -/
def State.misaligned (s : State) (inj : Bool) : State :=
  ((({ s with guard := { s.guard with misalign := true } }.sticky 0x310 1).raise 0x0303 0 0 inj).postEvent 0x0022 0 0x0303 [6])

/-- The row check of an accepted F flit (R317): its offset must lie from 7 to 2,047. -/
def State.rowCheck (s0 : State) (i : Nat) (b : List Byte) : State :=
  let (inj, s) := s0.fire 0x09 i
  let d := if inj then s.inj.param else (s.rowNow + 4096 - fRow b) % 4096
  if d < 7 ∨ d > 2047 then s.misaligned inj else s

/-- The watermark of a strand: the ROW of the last flit that it accepted in order (R276). -/
def State.noteRow (s : State) (q row : Nat) : State := s.modLink q (fun (l : Link) => { l with mark := some (max row (l.mark.getD 0)) })

/-- The content of a flit accepted in order goes to the merge or to the link-control messages; `q` is the strand whose queue takes it. -/
def State.takeContent (s : State) (i q : Nat) (b : List Byte) (row : Nat) (carried : Bool) : State :=
  let s1 := s.flitCredits b
  let s2 := if fType b = 5 then s1
    else if fType b = 4 ∧ ((flitMsgs b).getD []).all (fun m => linkControl m.1) then
      forEach ((flitMsgs b).getD []) (fun m s => s.takeLinkMsg i m.1 m.2) s1
    else
      let s1 := if fType b ≤ 2 ∧ fClass b = 1 then s1.rowCheck i b else s1
      s1.modLink q (fun (l : Link) => { l with queue := l.queue ++ [{ row := row, body := b, carried := carried }] })
  s2.noteRow q row

/-- A protocol fault found at acceptance on strand `i` (R300): the flit is acknowledged and its contents are discarded; its ROW is that of
a flit accepted in order on strand `q` (R276). One that belongs to a parcel or packet fails it, in merge order. -/
def State.layoutFault (s : State) (i q : Nat) (b : List Byte) (row : Nat) (inj : Bool) : State :=
  let s1 := (s.modLink i (fun (l : Link) => { l with protoErr := satAdd 8 l.protoErr 1 })).raise 0x0204 i 0 inj
  let s2 := if 1 ≤ fType b ∧ fType b ≤ 3 then
      s1.modLink q (fun (l : Link) => { l with
        queue := l.queue ++ [{ row := max row (l.lastRow.getD 0), body := b, fault := true }] }) else s1
  s2.noteRow q row

/-- A flit accepted in order on its own strand or by way of a carrier is checked, its ROW against the last one's (R275, R300), and its
content is taken; `inj`: an injected fault. -/
def State.acceptBody (s : State) (i : Nat) (b : List Byte) (inj carried : Bool) : State :=
  let l := (s.strand i).link
  let row := rowNear (l.mark.getD s.lclk) (fRow b)
  if inj || !layoutOk b || l.lastRow.any (fun r => row < r) then s.layoutFault i i b row inj
  else (s.modLink i (fun (l : Link) => { l with lastRow := some row })).takeContent i i b row carried

/-- A strand that its carrier has wholly replaced leaves the merge (R288). -/
def State.endCarry (s : State) (failed : Nat) : State :=
  s.modStrand failed (fun x => { x with mergeFrom := none, mergeUntil := none })

/-- A flit that strand `i` numbered `seq` is accepted there, on the strand itself or by way of its carrier (R288): one at or before
the last accepted is discarded; one that `i` carries travels on to the strand it was first assigned to. -/
def State.acceptOn : Nat → Nat → Nat → List Byte → State → State
  | 0, _, _, _, s => s
  | n + 1, i, seq, b, s =>
    let l := (s.strand i).link
    if (l.rxSeq + 4095 - seq) % 4096 < 2048 then s
    else
      let s1 := s.modLink i (fun (l : Link) => { l with rxSeq := (seq + 1) % 4096, rxLast := some seq })
      match l.carryIn.find? (fun c => c.next == seq) with
      | some c =>
        let s2 := s1.modLink i (fun (l : Link) => { l with
          carryIn := (l.carryIn.map (fun (k : Carry) => if k.failed = c.failed then
            { k with next := (k.next + 1) % 4096, orig := (k.orig + 1) % 4096, left := k.left - 1 } else k)).filter
              (fun k => k.left != 0) })
        let s3 := State.acceptOn n c.failed c.orig b (s2.modLink c.failed (fun (l : Link) => { l with carried := true }))
        if c.left = 1 then s3.endCarry c.failed else s3
      | none => s1.acceptBody i b false true

/-- A passing sequenced flit with the expected SEQ is accepted, or meets a full queue (R278, R279): its own strand's, or, for a carried
flit, that of the strand it is routed to (R288). -/
def State.acceptFlit (s0 : State) (i seq : Nat) (b : List Byte) : State :=
  let (full, s) := s0.fire 0x12 i
  let l := (s.strand i).link
  let carry := l.carryIn.find? (fun c => c.next == seq)
  if full ∨ s.queueFree (s.nextQueue i) = 0 then
    if full then s.modLink i (fun (l : Link) => { l with forceWait := true, waiting := false }) else s
  else
    let s1 := s.modLink i (fun (l : Link) => { l with rxSeq := (seq + 1) % 4096, rxLast := some seq })
    if carry.isSome then State.acceptOn (s.build.strands + 1) i seq b s
    else
      let (inj, s2) := s1.fire 0x10 i
      s2.acceptBody i b inj false

/-- SEQ, ACK and ACK_TYPE of a flit. -/
def flitTrailer (b : List Byte) : Nat × Nat × Nat :=
  let w := field b 248 4
  (bits w 11 0, bits w 23 12, bits w 25 24)

/-- A flit passes its CRC (R270). -/
def crcOk (b : List Byte) : Bool := b.length == 256 && crc32c (b.take 252) == field b 252 4

/-- A strand receives flits under the rules of the link layer: it is in service, or flits of it are still due to either side. -/
def State.linkLive (s : State) (i : Nat) : Bool :=
  let x := s.strand i
  x.service || !x.link.replay.isEmpty || x.mergeFrom.isSome

/-- A passing flit outside a replay slot or within one: acknowledgement first, then the sequence check. -/
def State.passingFlit (s0 : State) (i : Nat) (b : List Byte) : State :=
  let t := flitTrailer b
  let s := s0.applyAck i t.2.1 t.2.2
  let l := (s.strand i).link
  if l.discard.isSome then s
  else if fType b = 0 then
    if t.1 = l.rxSeq then
      let row := rowNear (l.mark.getD s.lclk) (fRow b)
      if layoutOk b then s.noteRow i row else s.layoutFault i i b row false
    else s.crcFail i false
  else if t.1 = l.rxSeq then s.acceptFlit i t.1 (b.take 248)
  else s

/-- A flit on the bisque channel: its messages are taken if its layout keeps R264 to R270 (R397); one that fails its CRC is counted in
CRC_ERR and in the window of R437, with no record, for it is never replayed (R305, R306). -/
def State.bisqueFlit (s : State) (i : Nat) (b : List Byte) : State :=
  if !crcOk b then (s.modLink i (fun (l : Link) => { l with crcErr := satAdd 24 l.crcErr 1, winCrc := satAdd 8 l.winCrc 1 })).crcThreshold i
  else if fType b = 4 ∧ layoutOk b then forEach ((flitMsgs b).getD []) (fun m s => s.takeLinkMsg i m.1 m.2) s
  else s

/-! ## XREPLAY (R288) -/

/-- The receiver of an XREPLAY, on the carrier (R288): the named strand goes to HOLD wherever it stands in service, also where this side has
just parked it and its group is still on, and this side sends an XREPLAY of its own for it unless it has sent one. -/
def State.xreplayMsg (s : State) (body : List Byte) : State :=
  let failed := byteAt body 0
  let i := byteAt body 1
  let first := field body 2 2 % 4096
  let at_ := field body 4 2 % 4096
  let n := byteAt body 6 % 128
  if failed ≥ s.build.strands ∨ i ≥ s.build.strands ∨ failed = i then s
  else
    let x := s.strand failed
    let up := x.state == .fired || x.state == .crazed || (x.parked && s.domainOn (failed / 16))
    let s1 := if (up && x.sub != .hold && x.sub != .fill) || x.service || x.draining then s.dropToHold failed else s
    let s2 := if n = 0 then s1.endCarry failed
      else s1.modLink i (fun (l : Link) => { l with carryIn := l.carryIn ++ [⟨failed, at_, first, n⟩] })
    let s3 := s2.modLink failed (fun (l : Link) => { l with discard := none, nakDue := false })
    if (up || x.parked) && !x.link.xsent || !x.link.drained then s3.moveReplay failed else s3

/-- The messages of a kind at the front of the link-control messages. -/
def State.takeLink (s : State) (type : Nat) (run : Nat → List Byte → State → State) : State :=
  match s.linkMsgs with
  | [] => s
  | (i, t, body) :: rest => if t = type then run i body { s with linkMsgs := rest } else s

/-- XREPLAYs that have not yet been acted on are acted on before the next flit. -/
def State.pendingXreplay (s : State) : State :=
  forEach (s.linkMsgs.filter (fun m => m.2.1 == 1)) (fun m s => s.xreplayMsg m.2.2)
    { s with linkMsgs := s.linkMsgs.filter (fun x => x.2.1 != 1) }

/-! ## A flit arrives (R278, R281) -/

/-- A flit arrives on a strand. -/
def State.flitAccept (s0 : State) (i : Nat) (b : List Byte) : State :=
  if s0.linkHeld then s0
  else if (s0.strand i).state = .bisque ∧ (s0.strand i).sub = .none then s0.bisqueFlit i b
  else if !s0.linkLive i then s0
  else
    let s1 := s0.pendingXreplay
    let (inj, s) := s1.fire 0x0E i
    if inj || !crcOk b then (if (s.strand i).link.discard.isSome then s.countCrc i inj else s.crcFail i inj)
    else s.passingFlit i b

/-- The flit that arrives in the replay slot (R281): acceptance resumes, or a new NAK is due. -/
def State.replaySlot (s0 : State) (i : Nat) (b : List Byte) : State :=
  if s0.linkHeld ∨ !s0.linkLive i ∨ (s0.strand i).link.discard.isNone then s0
  else
    let s1 := s0.pendingXreplay
    let (inj, s) := s1.fire 0x0E i
    if inj || !crcOk b then s.crcFail i inj
    else
      let t := flitTrailer b
      if t.1 = (s.strand i).link.rxSeq then (s.modLink i (fun (l : Link) => { l with discard := none })).passingFlit i b
      else (s.applyAck i t.2.1 t.2.2).modLink i (fun (l : Link) => { l with nakDue := true, discard := some (s.lclk + s.allowance) })

/-- The acknowledgement timer of a strand runs out (R290): it has an unacknowledged flit and no WAIT is in force. -/
def State.ackTimeout (s : State) (i : Nat) : State :=
  let l := (s.strand i).link
  if s.linkHeld ∨ l.replay.isEmpty ∨ l.waitMode then s else s.exhaust i false

/-! ## The merge (R276) and the lock-step release (R316 to R318) -/

/-- The merge includes a strand for a row (R291). -/
def Strand.inMerge (x : Strand) (row : Nat) : Bool :=
  match x.mergeFrom with
  | none => false
  | some a => a ≤ row && (match x.mergeUntil with
    | some b => row < b
    | none => true)

/-- The watermark of a strand has reached a row, or the merge does not include the strand for it. -/
def State.reached (s : State) (row i : Nat) : Bool :=
  let x := s.strand i
  !x.inMerge row || (match x.link.mark with
    | some m => row ≤ m
    | none => false)

/-- A held flit of class F whose release is in lock-step (R316): its stream is open and of class F, and the counts agree. One that came on
a strand outside its stream's set is held as the others are (DEDUCED), and so is one whose contents have been discarded: it keeps its place
in the stream. -/
def State.lockStep (s : State) (f : HeldFlit) : Bool :=
  fClass f.body == 1 && fType f.body ≤ 2 && !s.guard.misalign &&
    (match s.rx? (fStream f.body) with
     | some st => st.cls == 1
     | none => false)

/-- Held flits with their strands, in ascending (ROW, strand) order. -/
def State.heldFlits (s : State) : List (Nat × HeldFlit) :=
  let all := ((List.range s.build.strands).map (fun i => (s.strand i).link.queue.map (fun f => (i, f)))).flatten
  sortBy (fun (a b : Nat × HeldFlit) => a.2.row < b.2.row || (a.2.row == b.2.row && a.1 ≤ b.1)) all

/-- A held flit leaves its queue: the first with its row and body. -/
def dropHeld (f : HeldFlit) : List HeldFlit → List HeldFlit
  | [] => []
  | g :: l => if g.row = f.row ∧ g.body = f.body ∧ g.fault = f.fault then l else g :: dropHeld f l

/-- A stream-control message reaches the stream layer, is skipped as unknown, or exceeds the Saggar's cap (R296, R299, R481). -/
def State.takeStreamMsg (s0 : State) (type : Nat) (body : List Byte) : State :=
  let (inj, s) := s0.fire 0x13 0
  if inj || !([0x10, 0x11, 0x12, 0x13, 0x14, 0x18, 0x19, 0x20].contains type) then s.unknownMsg type inj
  else
    let (ok, s1) := s.sagMessage (field body 0 2 % 4096)
    if ok then { s1 with port := s1.port ++ [.message type body] } else s1

/-- A held flit is passed to the stream layer. -/
def State.release (s : State) (i : Nat) (f : HeldFlit) : State :=
  let s1 := s.modLink i (fun (l : Link) => { l with queue := dropHeld f l.queue })
  if f.fault then { s1 with port := s1.port ++ [.fault (fStream f.body) f.body] }
  else if fType f.body = 4 then forEach ((flitMsgs f.body).getD []) (fun m s => s.takeStreamMsg m.1 m.2) s1
  else
    let s2 := if s.guard.misalign && fClass f.body == 1 && fType f.body ≤ 2 then s1.slip false (fStream f.body) 6 else s1
    { s2 with port := s2.port ++ [.flit i (fStream f.body) f.body] }

/-- Releases held flits in merge order, up to the first that waits for a watermark. `held`: streams with an earlier flit in lock-step, whose
later flits of another class keep their place behind it (R318, R332). -/
def State.mergeList : List Nat → List (Nat × HeldFlit) → State → State
  | _, [], s => s
  | held, (i, f) :: l, s =>
    if s.lockStep f then State.mergeList (fStream f.body :: held) l s
    else if held.contains (fStream f.body) ∧ fType f.body ≤ 3 then State.mergeList held l s
    else if (List.range s.build.strands).all (s.reached f.row) then State.mergeList held l (s.release i f)
    else s

/-- The merge passes on what the watermarks allow (R276). -/
def State.mergeRelease (s : State) : State := State.mergeList [] s.heldFlits s

/-- The cause of a late release (R318): XREPLAY for a carried flit, or where the strand last waited for had its flits carried; ORDER where
the watermarks were there in time; else REPLAY. -/
def State.slipCause (s : State) (f : HeldFlit) (due : Nat) : Nat :=
  if f.carried then 1
  else match f.ready with
    | some r => if r ≤ due then 5 else if f.behind.any (fun j => (s.strand j).link.carried) then 1 else 0
    | none => 0

/-- The strands whose watermarks a flit of a stream waits for: its set and standby, without those that have left the set (R316, R330). -/
def State.lockSet (s : State) (id : Nat) : List Nat :=
  match s.rx? id with
  | some st => st.cfg.strandSet.filter (fun j => (s.strand j).state != .crazed && (s.strand j).state != .shard)
  | none => []

/-- Releases F flits in lock-step; `held`: streams whose earlier flit still waits. -/
def State.lockList : List Nat → List (Nat × HeldFlit) → State → State
  | _, [], s => s
  | held, (i, f) :: l, s =>
    let id := fStream f.body
    if !s.lockStep f then State.lockList (if fClass f.body = 1 then id :: held else held) l s
    else
      let behind := (s.lockSet id).filter (fun j => !s.reached f.row j)
      let f1 := if behind.isEmpty then { f with ready := some (f.ready.getD s.lclk) } else { f with behind := behind }
      let s1 := s.modLink i (fun (x : Link) => { x with queue := x.queue.map (fun g => if g = f then f1 else g) })
      let due := f.row + s.releaseK
      if f1.ready.isNone ∨ held.contains id ∨ s.lclk < due then State.lockList (id :: held) l s1
      else
        let s2 := if s.lclk > due ∧ !f.fault then s1.slip false id (s1.slipCause f1 due) else s1
        State.lockList held l (s2.release i f1)

/-- The present row's releases from the lock-step queues (R316). -/
def State.fRelease (s : State) : State := State.lockList [] s.heldFlits s

/-! ## The stream layer takes what the merge has passed on -/

/-- Takes the item at the front of the port if it is a flit of these types. -/
def State.takePort (s : State) (types : List Nat) (run : Nat → Nat → List Byte → State → State) : State :=
  match s.port with
  | .flit strand key body :: rest => if types.contains (fType body) then run strand key body { s with port := rest } else s
  | _ => s

/-- Takes the item at the front of the port if it is a message of this type. -/
def State.takeMsg (s : State) (type : Nat) (run : List Byte → State → State) : State :=
  match s.port with
  | .message t body :: rest => if t = type then run body { s with port := rest } else s
  | _ => s

end Sys2Proof.Machine
end

