-- ==== Sys2Proof/Machine/Guard.lean ====
section
/-! DEFINITION. What a frame boundary does to reservations, striping sets, capacity and the locked ratio (R310, R320, R321, R327 to
R335). -/

namespace Sys2Proof.Machine

/-- Changes the guard record. -/
def State.modGuard (s : State) (f : Guard → Guard) : State := { s with guard := f s.guard }

/-- A GUARANTEE event (R338). -/
def State.guarantee (s : State) (unit code : Nat) (subtype : Nat) (data : List Byte := []) : State :=
  s.postEvent 0x0022 unit code (toLe 1 subtype ++ data)

/-! ## The locked ratio (R320, R321) -/

/-- The frame's CK_CORE count is judged under the request that was in effect, and a changed request takes effect. -/
def State.ratioFrame (s0 : State) (coreCycles : Nat) : State :=
  let s1 := match s0.guard.locked with
    | none => s0
    | some m =>
      let (inj, s) := s0.fire 0x15 0
      if inj || coreCycles != 1024 * m then
        let s1 := (s.modGuard (fun g => { g with lockedOk := false, good := 0 })).sticky 0x310 5
        if s.guard.lockedOk then (s1.raise 0x0307 0 0 inj).guarantee 0 0x0307 7 else s1
      else s.modGuard (fun g => { g with good := g.good + 1, lockedOk := g.lockedOk || g.good + 1 ≥ 16 })
  let want := if s1.flag 0x304 0 then some (s1.fld 0x304 5 1) else none
  s1.modGuard (fun g => { g with locked := want, lockedOk := g.lockedOk && want.isSome, good := if want = g.locked then g.good else 0 })

/-! ## Striping sets (R325, R328, R330) -/

/-- A strand may be an active member of a set: FIRED at full width, in service, in no substate. -/
def State.activeStrand (s : State) (i : Nat) : Bool :=
  let x := s.strand i
  x.state == .fired && x.service && x.sub == .none

/-- Two records are of the set that its streams name alike. -/
def SetRun.sameSet (a b : SetRun) : Bool := a.first == b.first && a.count == b.count && a.asked == b.asked

/-- The sets of the F streams that hold or await a reservation, each as it has become; a new one as its streams name it. -/
def State.gatherSets (s : State) : List SetRun :=
  (s.tx.filter (fun x => x.2.reserves)).foldl (fun (acc : List SetRun) x =>
    let c := x.2.cfg
    let asked := if c.hasStandby then some c.setStandby else none
    let same (g : SetRun) : Bool := g.first == c.setFirst && g.count == c.setCount && g.asked == asked
    if acc.any same then acc
    else match s.guard.sets.find? same with
      | some g => acc ++ [g]
      | none => acc ++ [{
          first := c.setFirst, count := c.setCount, asked := asked,
          members := (List.range (c.setCount + 1)).map (· + c.setFirst), standby := asked }]) []

/-- Members and the standby that have become CRAZED or SHARD leave the set; the standby takes a lost member's place (R330). -/
def State.shrinkSet (s : State) (g : SetRun) : SetRun :=
  let stays (i : Nat) : Bool := (s.strand i).state != .crazed && (s.strand i).state != .shard
  let standby := g.standby.filter stays
  let kept := g.members.filter stays
  match standby with
  | some b => if kept.length < g.members.length then { g with members := kept ++ [b], standby := none, covers := none }
      else { g with members := kept, standby := some b }
  | none => { g with members := kept, standby := none, covers := none }

/-- The member that a set's standby covers from a boundary on: one out of service, while the standby is free to (R328). A HOLD claims it
ahead of a planned removal (R336). -/
def State.coverOf (s : State) (g : SetRun) : Option Nat :=
  let out := g.members.filter (fun i => !s.activeStrand i)
  let claim := (out.find? (fun i => (s.strand i).sub == .hold)).or out.head?
  if !g.standby.any s.activeStrand then none
  else match g.covers with
    | some i => if out.contains i then some i else claim
    | none => claim

/-- Schedules a set for the frame that begins (R328). -/
def State.scheduleSet (s : State) (g0 : SetRun) : SetRun :=
  let g := s.shrinkSet g0
  let live := g.members.filter s.activeStrand
  let covers := s.coverOf g
  let active := match covers, g.standby with
    | some _, some b => b :: live
    | _, _ => live
  let resv := (s.tx.filter (fun x => x.2.reserves && x.2.joined && x.2.cfg.setFirst == g.first && x.2.cfg.setCount == g.count)).map
    (fun x => (x.1, x.2.cfg.resvSlots))
  { g with covers := covers, active := sortBy (fun a b => a ≤ b) active, resv := resv, had := [], taken := 0, last := 0 }

/-! ## Reservations (R327) -/

/-- Reservations join and are withdrawn at a boundary. -/
def State.joinResv (s : State) : State :=
  { s with
    guard := { s.guard with freed := [] }
    tx := s.tx.map (fun x =>
      let t := x.2
      if t.cfg.cls != 1 || t.looped then x
      else
        let done := match t.phase with
          | .closing _ _ => t.withdraw || (t.queue.isEmpty && !s.sends.any (fun y => y.stream == x.1))
          | _ => t.withdraw
        let opening := match t.phase with
          | .opening _ => true
          | _ => false
        if done then (x.1, { t with joined := false, withdrawn := true })
        else if t.reserves && !t.joined && !opening && t.joinRow ≤ s.lclk then (x.1, { t with joined := true })
        else x) }

/-- F_TOTAL (R331). -/
def State.fTotal (s : State) : Nat :=
  ((s.tx.filter (fun x => x.2.reserves && x.2.joined)).map (fun x => x.2.cfg.resvSlots)).foldl (· + ·) 0

/-! ## The order of guarantees (R331 to R333) -/

/-- Sets that cannot hold their reservations are reported once, and once more when they fit again (R332). -/
def State.checkSets (s : State) : State :=
  let judged := s.guard.sets.map (fun (g : SetRun) =>
    (g, decide (((g.resv.map (·.2)).foldl (· + ·) 0) > 5120 * g.active.length)))
  let s1 := s.modGuard (fun u => { u with sets := judged.map (fun p => { p.1 with broken := p.2 }) })
  forEach judged (fun (p : SetRun × Bool) s =>
    if p.2 && !p.1.broken then ((s.sticky 0x310 3).raise 0x0306 p.1.first).guarantee p.1.first 0x0306 4
    else if !p.2 && p.1.broken then s.guarantee p.1.first 0 5 else s) s1

/-- A set that could not hold its reservations and now has none fits again (R332). -/
def State.restoreSets (s : State) : State :=
  let now := s.gatherSets
  forEach (s.guard.sets.filter (fun g => g.broken && !now.any g.sameSet)) (fun g s => s.guarantee g.first 0 5) s

/-- The F reservations and the D floor do not both fit (R331). -/
def State.floorConflict (s : State) : Bool := 100 * s.fTotal + s.guard.dfloor * s.capNow > 100 * s.capNow

/-- Demotes one stream (R333). -/
def State.demote (s : State) (id : Nat) : State :=
  let s1 := (s.modTx id (fun (t : TxStream) => { t with joined := false, demoting := true })).settleDemote id
  (((s1.sticky 0x310 4).bumpSat 0x30C 15 8 1).raise 0x0305 id).guarantee id 0x0305 3

/-- The floor fits again. -/
def State.floorFits (s : State) : State :=
  if s.guard.floorBroken && !s.floorConflict then
    (s.modGuard (fun g => { g with floorBroken := false })).guarantee 0 0 2 (zeros 3 ++ toLe 4 s.capNow ++ toLe 4 s.fTotal)
  else s

/-- The capacity check of a boundary, with the demotion it may cause. -/
def State.checkFloor (s : State) : State :=
  if !s.floorConflict then s.floorFits
  else
    let s1 := if s.guard.floorBroken then s
      else (((s.modGuard (fun g => { g with floorBroken := true })).sticky 0x310 2).raise 0x0302 0).guarantee 0 0x0302 1
        (zeros 3 ++ toLe 4 s.capNow ++ toLe 4 s.fTotal)
    if !s.guard.drawPrec then s1
    else match ((s1.tx.filter (fun x => x.2.reserves && x.2.joined)).map (·.1)).getLast? with
      | none => s1
      | some id =>
        let s2 := s1.demote id
        (s2.modGuard (fun g => { g with sets := g.sets.map s2.scheduleSet })).floorFits

/-- Steps 2 and 3 of a boundary (R310): reservations, schedules, and the checks; no check while no strand is in service (R331). -/
def State.guardFrame (s : State) : State :=
  let s1 := s.modGuard (fun g => { g with
    drawPrec := s.flag 0x308 0, dfloor := s.fld 0x308 14 8, dSent := 0, slots := 0, slips := [] })
  if s1.inService.isEmpty then
    -- a set that cannot hold its reservations stays reported, whatever becomes of its streams (R331)
    let sets := s1.gatherSets ++ s1.guard.sets.filter (fun g => g.broken && !s1.gatherSets.any g.sameSet)
    s1.modGuard (fun g => { g with
      sets := sets.map (fun (x : SetRun) => { s1.shrinkSet x with active := [], covers := none, resv := [] }), suspended := true, freed := [] })
  else
    let s2 := s1.joinResv.restoreSets
    let s3 := s2.modGuard (fun g => { g with suspended := false, sets := s2.gatherSets.map s2.scheduleSet })
    let s4 := s3.checkSets.checkFloor
    s4.modGuard (fun g => { g with cap := s4.capNow, fTotal := s4.fTotal })

/-- The sets of the peer's F streams as this side's inbound contexts name them, each with the reservations of its streams (R539). DEDUCED: an
open context's reservation counts, since this side is not told when it joins. -/
def State.peerNamed (s : State) : List SetRun :=
  let fs := s.rx.filter (fun x => x.2.cls == 1 && !x.2.looped)
  fs.map (fun x => {
    first := x.2.cfg.setFirst, count := x.2.cfg.setCount, asked := none,
    members := (List.range (x.2.cfg.setCount + 1)).map (· + x.2.cfg.setFirst),
    standby := if x.2.cfg.hasStandby then some x.2.cfg.setStandby else none
    resv := (fs.filter (fun y => y.2.cfg.strandSet == x.2.cfg.strandSet)).map (fun y => (y.1, y.2.cfg.resvSlots)) })

/-- These sets as this side's strands' states have left them, with the member that each standby covers (R328 to R330): both sides see the
strands leave and join at the same boundaries. -/
def State.peerSets (s : State) : List SetRun :=
  s.peerNamed.map (fun g0 =>
    let g := s.shrinkSet g0
    { g with covers := s.coverOf g })

/-- The F sets of both directions. -/
def State.allSets (s : State) : List SetRun := s.guard.sets ++ s.peerSets

/-- A strand will be in service at a boundary: it is now, and has not agreed to leave by then. -/
def State.activeAt (s : State) (row i : Nat) : Bool :=
  s.activeStrand i && (match (s.strand i).leave with
    | some v => row < v.row
    | none => true)

/-- A strand's planned removal is allowed at a boundary (R329, R411): it belongs to no set; it is a standby that covers nothing; or its set's
standby is FIRED and covers no other member, nor will be claimed by one that leaves by then (R336). -/
def State.mayTake (s : State) (i row : Nat) : Bool :=
  s.allSets.all (fun (g : SetRun) =>
    if g.members.contains i then
      g.standby.any (s.activeAt row) && (g.members.filter (· != i)).all (s.activeAt row)
    else if g.standby == some i then g.covers.isNone && g.members.all (s.activeAt row) else true)

/-- A strand is a member of an F striping set of either direction. -/
def State.isMember (s : State) (i : Nat) : Bool := s.allSets.any (fun (g : SetRun) => g.members.contains i)

end Sys2Proof.Machine
end

