-- ==== Sys2Proof/Machine/Lanes.lean ====
section
/-! DEFINITION. Lanes and repair groups, the repair state of a direction, NVM records of strands, sideband frames and service messages
(R291, R341, R382 to R386, R405, R406, R418, R419, R427 to R433, R439, R450, R610). -/

namespace Sys2Proof

/-! ## Lane indices (R341) -/

/-- Repair groups of a strand. -/
def Build.groups (b : Build) : Nat := if b.pers = .V then 16 else 8

/-- Lanes of one direction of a strand. -/
def Build.laneCount (b : Build) : Nat := if b.pers = .V then 276 else 140

/-- Strand groups of 16, one to an SG domain (R25). -/
def Build.sgs (b : Build) : Nat := (b.strands + 15) / 16

/-- Lane index of position 0 of a repair group. -/
def Build.baseOf (b : Build) (g : Nat) : Nat := if g < b.groups / 2 then 17 * g else 17 * g + 4

/-- The group and position of a lane index; none for CK, CKB, VLD and TRK. -/
def Build.place (b : Build) (k : Nat) : Option (Nat × Nat) :=
  let half := 17 * (b.groups / 2)
  if k < half then some (k / 17, k % 17)
  else if k < half + 4 then none
  else if k < b.laneCount then some (b.groups / 2 + (k - half - 4) / 17, (k - half - 4) % 17) else none

/-- Lane type and number of a lane index, in the encoding of R544: [8:0] index, [11:9] type. -/
def Build.laneCode (b : Build) (k : Nat) : Nat :=
  match b.place k with
  | some (g, p) => if p = 8 then g + 512 else 16 * g + (if p < 8 then p else p - 1)
  | none => 1024 + 512 * (k - 17 * (b.groups / 2))

/-- PERS as records and frames code it. -/
def Build.persCode (b : Build) : Nat := if b.pers = .V then 0 else 1

end Sys2Proof

namespace Sys2Proof.Machine

/-! ## Repair state (R427 to R430, R442) -/

/-- Bit `g` of a mask set. -/
def setBit (m g : Nat) : Nat := m ||| 2 ^ g

/-- MAP of a group. -/
def RepDir.mapOf (r : RepDir) (g : Nat) : Nat := bits r.map (4 * g + 3) (4 * g)

/-- The data lane at a position of a group; none for an unused spare and for the position that a used spare has left free (R427). -/
def RepDir.laneAt (r : RepDir) (g p : Nat) : Option Nat :=
  let plain := if p < 8 then some p else if p = 8 then none else some (p - 1)
  if !bit r.used g then plain
  else
    let f := r.mapOf g
    if f < 8 then (if p = f then none else if f < p ∧ p ≤ 8 then some (p - 1) else plain)
    else if p = f + 1 then none else if 8 ≤ p ∧ p ≤ f then some p else plain

/-- The group of its pair that carries flit bits in one direction of a CRAZED strand (R428). -/
def RepDir.usedGroup (r : RepDir) (half g : Nat) : Nat := if bit r.lost (g % half) then g % half + half else g % half

/-- A spare of a group takes over data lane `f`. -/
def RepDir.useSpare (r : RepDir) (g f : Nat) : RepDir := { r with used := setBit r.used g, map := setBits r.map (4 * g + 3) (4 * g) f }

/-- A group is lost. -/
def RepDir.lose (r : RepDir) (g : Nat) : RepDir := { r with lost := setBit r.lost g }

/-- One failed lane of a sweep applied to a direction (R442): the state, and the groups to fill. `spares`: groups whose spare failed in
this sweep. -/
def failLane (b : Build) (spares : List Nat) (acc : RepDir × List Nat) (k : Nat) : RepDir × List Nat :=
  let r := acc.1
  match b.place k with
  | none => ({ r with shard := true }, acc.2)
  | some (g, p) =>
    if p = 8 ∧ !bit r.used g then ({ r with bad := setBit r.bad g }, acc.2)
    else if bit r.lost g then acc
    else match r.laneAt g p with
      | none => acc
      | some f =>
        if !bit r.used g && !bit r.bad g && !spares.contains g then (r.useSpare g f, acc.2 ++ [g])
        else (r.lose g, acc.2.filter (· != g))

/-- The failed lanes of a sweep, in ascending lane index (R442). -/
def failLanes (b : Build) (r : RepDir) (fills lanes : List Nat) : RepDir × List Nat :=
  let ks := sortBy (fun a c => a ≤ c) lanes
  let spares := ks.filterMap (fun k => match b.place k with
    | some (g, 8) => some g
    | _ => none)
  ks.foldl (failLane b spares) (r, fills)

/-- A strand's state from the repair state of both directions (R429). -/
def repState (b : Build) (rx tx : RepDir) : StrandState :=
  let half := b.groups / 2
  let gone (r : RepDir) : Bool :=
    r.shard || (List.range half).any (fun g => bit r.lost g && bit r.lost (g + half))
  if gone rx || gone tx then .shard else if rx.lost != 0 || tx.lost != 0 then .crazed else .fired

/-- Two records of one direction combined (R435). -/
def combineDir (b : Build) (a c : RepDir) : RepDir :=
  let r0 : RepDir := { bad := a.bad ||| c.bad, lost := a.lost ||| c.lost, shard := a.shard || c.shard }
  (List.range b.groups).foldl (fun (r : RepDir) g =>
    let ua := bit a.used g
    let uc := bit c.used g
    if ua && uc then
      (if a.mapOf g = c.mapOf g then r.useSpare g (a.mapOf g) else r.lose g)
    else if ua then r.useSpare g (a.mapOf g) else if uc then r.useSpare g (c.mapOf g) else r) r0

/-- A group whose spare is used and bad is lost (R430). -/
def RepDir.settle (r : RepDir) : RepDir := { r with lost := r.lost ||| (r.used &&& r.bad) }

/-- A direction's state as a record or frame holds it, with no bit of a group that the build lacks, and MAP 0 where USED is clear (R430). -/
def RepDir.fitted (r : RepDir) (b : Build) : RepDir :=
  let m := 2 ^ b.groups
  { used := r.used % m, bad := r.bad % m, lost := r.lost % m, shard := r.shard
    map := (List.range b.groups).foldl (fun n g => if bit r.used g then setBits n (4 * g + 3) (4 * g) (r.mapOf g) else n) 0 }

/-- What a later record says of a direction is added to it: every mask only gains bits (R430). -/
def RepDir.gain (old new : RepDir) (b : Build) : RepDir :=
  RepDir.settle ((List.range b.groups).foldl (fun (r : RepDir) g =>
    if bit new.used g && !bit old.used g then r.useSpare g (new.mapOf g) else r)
    { old with bad := old.bad ||| new.bad, lost := old.lost ||| new.lost, shard := old.shard || new.shard })

/-! ## NVM records of a strand (R418, R419, R431, R432) -/

/-- The 16 bytes of one direction. -/
def RepDir.bytes (r : RepDir) : List Byte := toLe 2 r.used ++ toLe 2 r.bad ++ toLe 2 r.lost ++ zeros 2 ++ toLe 8 r.map

/-- A repair record. -/
def State.repairImage (s : State) (i gen : Nat) : List Byte :=
  let x := s.strand i
  let b := toLe 4 0x50524C43 ++ toLe 1 3 ++ toLe 1 s.build.persCode ++ toLe 2 i ++ toLe 4 gen ++ toLe 8 s.now
    ++ toLe 1 (b2n (x.rx.shard || x.tx.shard)) ++ zeros 3 ++ x.rx.bytes ++ x.tx.bytes
  b ++ toLe 4 (crc32c b) ++ zeros 4

/-- The two-copy rule (R419): GEN and copy of the next record. With no valid copy, copy A takes GEN 1. -/
def nextCopy (newest : Option (Nat × Nat)) : Nat × Nat :=
  match newest with
  | some (gen, copy) => ((gen + 1) % 2 ^ 32, 1 - copy)
  | none => (1, 0)

/-- Writes a strand's repair record (R432); while a write of it is in progress, the next waits for its end, so that the newest valid copy
is never the one overwritten (R419, DEDUCED). -/
def State.writeRepair (s : State) (i : Nat) : State :=
  if s.nvOps.any (fun u => match u with
      | .repairWrite k _ => k == i
      | _ => false) then s.modStrand i (fun x => { x with repOwed := true, repNext := true })
  else
    let n := nextCopy (s.strand i).repRec
    (s.modStrand i (fun x => { x with repRec := some n, repOwed := true, repNext := false, repErr := false })).nvWriteBytes
      (0x080000 + 0x80 * i + 0x40 * n.2) (s.repairImage i n.1) (fun l => .repairWrite i l)

/-- A reading as 16 bits two's complement. -/
def int16 (t : Int) : Nat := (t % 65536).toNat

/-- A 16-bit reading as a signed number. -/
def ofInt16 (n : Nat) : Int := if n % 65536 < 32768 then (n % 65536 : Nat) else (n % 65536 : Nat) - 65536

/-- The reading of a strand's group cone, in units of 1/16 °C (R526). -/
def State.groupTemp (s : State) (i : Nat) : Int := ofInt16 ((s.cones.getD (4 + i / 16) {}).value)

/-- Settings of a lane, with the reset values where none have been trained (R351). -/
def State.laneSet (s : State) (i k : Nat) : LaneSet := ((s.strand i).lanes[k]?).getD { drive := s.fld 0x27C0 3 1 }

/-- Settings of all lanes of a strand. -/
def State.allLanes (s : State) (i : Nat) : List LaneSet := (List.range s.build.laneCount).map (s.laneSet i)

/-- A calibration record (R418): CK and CKB carry no receiver settings. -/
def State.calImage (s : State) (i gen : Nat) (temp : Int) : List Byte :=
  let n := s.build.laneCount
  let ck := 17 * (s.build.groups / 2)
  let entry (k : Nat) : List Byte :=
    let l := s.laneSet i k
    toLe 2 (if k = ck ∨ k = ck + 1 then l.drive * 4096
      else l.phase + l.vref * 64 + l.drive * 4096 + b2n l.trained * 32768)
  let head := toLe 4 0x41434C43 ++ toLe 1 3 ++ toLe 1 s.build.persCode ++ toLe 2 i ++ toLe 4 gen ++ toLe 8 s.now
    ++ toLe 2 (int16 temp) ++ toLe 1 (s.strand i).duty ++ toLe 1 0 ++ toLe 2 n ++ zeros 2
  let body := ((List.range n).map entry).flatten
  head ++ toLe 4 (crc32c (head ++ body)) ++ body

/-- GEN and copy of a strand's newest valid calibration record, free where its copies have not been read. -/
def State.calNewest (s : State) (i : Nat) : Option (Nat × Nat) :=
  let x := s.strand i
  if x.calRead then x.calRec else some (x.calRec.getD (Config.nvmCalRecord i))

/-- Writes a strand's calibration record (R419), after the write of it that is in progress. -/
def State.writeCal (s : State) (i : Nat) (temp : Int) : State :=
  if s.nvOps.any (fun u => match u with
      | .calWrite k _ => k == i
      | _ => false) then s.modStrand i (fun x => { x with calNext := some temp, unsaved := some (x.unsaved.getD s.now) })
  else
    let n := nextCopy (s.calNewest i)
    (s.modStrand i (fun x => { x with
      calRec := some n, unsaved := some (x.unsaved.getD s.now), calAt := s.now, calErr := false, calNext := none })).nvWriteBytes
      (0x800 * i + 0x400 * n.2) (s.calImage i n.1 temp) (fun l => .calWrite i l)

/-- The newest valid record before `n` writes that left no valid copy. -/
def earlierCopy (n : Nat) (r : Option (Nat × Nat)) : Option (Nat × Nat) :=
  r.map (fun p => ((p.1 + n * (2 ^ 32 - 1)) % 2 ^ 32, (p.2 + n) % 2))

/-! ## Sideband frames (R382, R385, R386) -/

/-- Sends a sideband frame: TYPE and payload. -/
def State.sendFrame (s : State) (type : Nat) (payload : List Byte) : State := s.emit (.sideband type payload)

/-- RX_SG of this side: groups that are powered and whose receivers are ready (R386, R510). -/
def State.rxSg (s : State) : Nat :=
  (List.range s.build.sgs).foldl (fun m g => if s.domainOn g && bit s.phyReady g then setBit m g else m) 0

/-- Sends LINK_READY (R386). -/
def State.sendReady (s : State) : State :=
  s.sendFrame 0x10 (toLe 2 s.rxSg ++ toLe 2 (b2n (s.flag 0x2080 0) + 2 * b2n s.trusted + 4 * b2n (s.role == .hub)))

/-- Sends a REPAIR_REC frame (R433). DIR 0: the sender's RX direction. -/
def State.sendRec (s : State) (i dir phase : Nat) : State :=
  let x := s.strand i
  let r := if dir = 0 then x.rx else x.tx
  s.sendFrame 0x21 (toLe 2 (i + 256 * b2n r.shard + 512 * dir + 1024 * phase) ++ toLe 2 r.used ++ toLe 2 r.bad ++ toLe 2 r.lost
    ++ toLe 8 r.map)

/-! ## Service messages (R291, R405, R406, R439, R610) -/

/-- The first frame boundary at or after an LCLK index. -/
def boundaryFrom (row : Nat) : Nat := ceilDiv row 5120 * 5120

/-- The bisque channel is open: the bisque strand is in BISQUE (R395). -/
def State.bisqueOpen (s : State) : Bool :=
  match s.bisque.strand with
  | some i => (s.strand i).state == .bisque && (s.strand i).sub == .none
  | none => false

/-- A message about a strand cannot travel in band or on the bisque channel (R439). -/
def State.needsSideband (s : State) (i : Nat) : Bool := !s.inService.any (· != i) && !s.bisqueOpen

/-- The boundary that this side names for a change of a strand's service: 64 rows ahead, or 15,360 by the sideband route. -/
def State.changeRow (s : State) (i : Nat) : Nat := boundaryFrom (s.lclk + (if s.needsSideband i then 15360 else 64))

/-- Sends a SERVICE message, or a REPAIR_SVC frame where no strand can carry it. -/
def State.sendSvc (s : State) (i : Nat) (join : Bool) (v : Svc) : State :=
  if s.needsSideband i then
    (s.sendFrame 0x22 (toLe 2 (i + 256 * b2n join + 512 * v.reason) ++ toLe 2 (v.row % 4096))).modStrand i (fun x =>
      if join then { x with join := x.join.map (fun (w : Svc) => { w with side := true }) }
      else { x with leave := x.leave.map (fun (w : Svc) => { w with side := true }) })
  else s.pushMsg 2 (toLe 1 i ++ toLe 1 (b2n join + 2 * v.reason) ++ toLe 2 (v.row % 4096))

/-- This side begins a change of a strand's service. -/
def State.beginSvc (s : State) (i : Nat) (join : Bool) (reason : Nat) : State :=
  let v : Svc := { row := s.changeRow i, reason := reason, mine := true }
  (s.modStrand i (fun x => if join then { x with join := some v } else { x with leave := some v })).sendSvc i join v

/-- The boundary that a ROW in a message names: the first, from now on, whose ROW equals it (R291). -/
def State.rowBoundary (s : State) (row : Nat) : Option Nat :=
  let b := boundaryFrom s.lclk
  ([0, 5120, 10240, 15360].map (b + ·)).find? (fun x => x % 4096 == row)

/-- Which REASON of two crossing leaves prevails (R610): RETIRE over PARK over REPAIR. -/
def mergeReason (a b : Nat) : Nat := if a = 1 ∨ b = 1 then 1 else if a = 2 ∨ b = 2 then 2 else 0

/-- The peer's message meets what this side holds for the same change: the agreed change, and whether this side answers. A leave that crosses
this side's own takes the later boundary and the prevailing REASON; one that comes when the two sides have already agreed, for another
boundary or with another REASON, is answered as the first one was (R610). Where joins or parks of both sides cross, the side with the
earlier boundary sends a further message (R406). -/
def meetSvc (own : Option Svc) (row reason : Nat) (join : Bool) : Svc × Bool :=
  match own with
  | none => ({ row := row, reason := reason, mine := true, theirs := true }, true)
  | some v =>
    -- a ROW that names this side's own boundary names that boundary, however late the message comes (R291)
    let later := if v.row % 4096 = row % 4096 then v.row else max v.row row
    if v.theirs ∧ v.row % 4096 = row % 4096 ∧ v.reason = reason then (v, false)
    else if v.theirs ∧ !join then ({ v with row := row, reason := reason, mine := true }, true)
    else ({ v with row := later, reason := if join then 0 else mergeReason v.reason reason, theirs := true },
      (join || (v.reason == 2 && reason == 2)) && v.row < later && !v.theirs)

/-- A leave of another kind than a retirement can act on the strand: it is in service, on its way out, or in CAL or TEST. In HOLD and FILL it
is moot (R303). -/
def Strand.mayLeave (x : Strand) : Bool := x.service || x.draining || x.sub == .cal || x.sub == .test

/-- A SERVICE message, or a REPAIR_SVC frame, is received. -/
def State.serviceMsg (s : State) (i : Nat) (join : Bool) (reason0 row : Nat) : State :=
  let reason := if join ∨ reason0 = 3 then 0 else reason0
  match s.rowBoundary row with
  | none => s
  | some b =>
    let x := s.strand i
    if i ≥ s.build.strands ∨ x.state = .shard then s
    else if join then
      if x.service then s
      else
        let r := meetSvc x.join b reason true
        let s1 := s.modStrand i (fun y => { y with join := some r.1 })
        if r.2 then s1.sendSvc i true r.1 else s1
    else if reason ≠ 1 ∧ !x.mayLeave then s
    else
      let r := meetSvc x.leave b reason false
      let s1 := s.modStrand i (fun y => { y with leave := some r.1 })
      if r.2 then s1.sendSvc i false r.1 else s1

/-- This side initiates the handshakes of R406: by SLOT_ID, then DIE_ID, else both do. -/
def State.initiates (s : State) : Bool :=
  match s.early with
  | none => true
  | some e =>
    let slot := bits (field e 4 2) 4 0
    let die := field e 8 8
    if s.straps.slotId != slot then s.straps.slotId < slot
    else if s.dieId != die then s.dieId < die else true

/-- A strand is retired by this side (R450): a SERVICE leave with REASON RETIRE, unless one is under way. -/
def State.retire (s : State) (i : Nat) : State :=
  let x := s.strand i
  let already := match x.leave with
    | some v => v.reason == 1 && v.mine
    | none => false
  if x.state == .shard || already then s
  else match x.leave with
    | some v =>
      let w := { v with reason := 1, mine := true, theirs := false, row := max v.row (s.changeRow i) }
      (s.modStrand i (fun y => { y with leave := some w })).sendSvc i false w
    | none => s.beginSvc i false 1

end Sys2Proof.Machine
end

