-- ==== Sys2Proof/Machine/Repair.lean ====
section
/-! DEFINITION. Lane repair and degradation: triggers, HOLD, sweeps, fills, the end of a repair, retirement, the record exchange and
REPAIR_CMD (R430 to R452). -/

namespace Sys2Proof.Machine

/-- Code of a strand state (R378). -/
def StrandState.code : StrandState → Nat
  | .greenware => 0
  | .bisque => 1
  | .fired => 2
  | .crazed => 3
  | .shard => 4

/-- Code of a substate (R378). -/
def Sub.code : Sub → Nat
  | .none => 0
  | .hold => 1
  | .fill => 2
  | .cal => 3
  | .test => 4

/-- Changes the repair of a strand. -/
def State.modRep (s : State) (i : Nat) (f : Repair → Repair) : State := s.modStrand i (fun x => { x with rep := x.rep.map f })

/-- The result of a REPAIR_CMD (R451): state, spares used and groups lost in either direction, and the lane localised. -/
def State.repairResult (s : State) (i : Nat) (lane : Option Nat) : List Byte :=
  let x := s.strand i
  toLe 1 x.state.code ++ [0] ++ toLe 2 (x.rx.used ||| x.tx.used) ++ toLe 2 (x.rx.lost ||| x.tx.lost) ++ toLe 2 (lane.getD 0xFFFF)

/-- Completes the REPAIR_CMD of a repair that has ended. -/
def State.endRepairCmd (s : State) (i : Nat) : State :=
  match (s.strand i).rep.bind (fun r => r.desc.map (fun d => (d, r.failed))) with
  | some (d, lane) =>
    let st := (s.strand i).state
    s.complete d (if st = .crazed ∨ st = .shard then 0x01 else 0) (s.repairResult i lane)
  | none => s

/-- Every waiting REPAIR_CMD of a strand completes. -/
def State.endWaits (s : State) (i status : Nat) : State :=
  let s1 := forEach (s.strand i).waits (fun w s => match w.desc with
    | some d => s.complete d status (s.repairResult i none)
    | none => s) s
  s1.modStrand i (fun x => { x with waits := [] })

/-! ## Retirement (R450) -/

/-- A strand has become SHARD: with the last one every stream is fenced (R450). -/
def State.lastShard (s : State) : State :=
  if (List.range s.linkStrands).all (fun k => (s.strand k).state == .shard) then (s.fenceStreams 0x22 true).raise 0x012B 0 else s

/-- A strand becomes SHARD in both directions (R450). What it has accepted stays in the merge. Under STRAP_ERR it stays in GREENWARE (R20),
and its repair record says SHARD. -/
def State.becomeShard (s : State) (i : Nat) : State :=
  let s1 := s.modStrand i (fun x =>
    { x with
      state := if s.straps.err then x.state else .shard, sub := .none, service := false, draining := false,
      link := { x.link with replay := [], resend := 0, carryOut := [], discard := none, nakDue := false },
      leave := none, toRetire := false, join := none, step := 0, wedging := false, serial := false, was := none,
      dueAt := none, armed := false, rx := { x.rx with shard := true }, tx := { x.tx with shard := true } })
  let s2 := (((s1.writeRepair i).sticky 0x2808 3).raise 0x0123 i).postEvent 0x0023 i 0x0123 [4]
  (((s2.endRepairCmd i).modStrand i (fun x => { x with rep := none })).endWaits i 0x01).lastShard

/-! ## Entering HOLD (R439) -/

/-- The groups that a new RX state has lost. -/
def lostNow (b : Build) (old new : RepDir) : List Nat := (List.range b.groups).filter (fun g => bit new.lost g && !bit old.lost g)

/-- The RX state of a strand in repair becomes `new`, with these groups to fill: lost groups are reported, each with a record (R442, R445), and
on a CRAZED strand a group that is to be used in place of a lost one is filled too (R443). A firing made the change of the groups `inj` (R559). -/
def State.changeRx (s : State) (i : Nat) (new : RepDir) (fills inj : List Nat) : State :=
  let x := s.strand i
  let gone := lostNow s.build x.rx new
  let half := s.build.groups / 2
  let turns := if x.state = .crazed then
      (gone.filter (fun g => g < half && !bit new.lost (g + half) && !fills.contains (g + half))).map (· + half)
    else []
  let s1 := s.modStrand i (fun y => { y with
    rx := new, rep := y.rep.map (fun r => { r with fills := fills.filter (fun g => !gone.contains g) ++ turns, injs := r.injs ++ inj }) })
  forEach gone (fun g s => (s.sticky 0x2808 2).raise 0x0122 i 0 (inj.contains g)) s1

/-- The spare of a group can still replace a lane (R451). -/
def RepDir.spareFree (r : RepDir) (g : Nat) : Bool := !bit r.used g && !bit r.bad g && !bit r.lost g

/-- A strand enters HOLD: its repair takes the first waiting trigger, and REPAIR_REC with PHASE HOLD is sent. Other triggers but those
of REPAIR_CMD join it, then and later; a REPAIR_CMD SPARE waits for a repair that sweeps whatever it is (R436, R451): one begun by a replay, or by
a second failure of the check after calibration. -/
def State.announceHold (s : State) (i : Nat) : State :=
  let x := s.strand i
  match x.rep with
  | none => s
  | some r =>
    if r.mine != 0 then (if x.waits.all (fun v => v.desc.isSome) then s
      else s.modStrand i (fun y => { y with waits := y.waits.filter (fun v => v.desc.isSome) }))
    else
      let w := x.waits.head?.filter (fun v => !((r.cause == .replay || r.cause == .verify) && v.cause == .spare))
      let s1 := s.modStrand i (fun y => { y with
        waits := match w with
          | some w0 => (if w0.desc.isSome then y.waits.drop 1 else y.waits).filter (fun v => v.desc.isSome)
          | none => y.waits.filter (fun v => v.desc.isSome),
        rep := some { r with
          mine := 1, cause := if r.cause = .replay then .replay else (w.map (·.cause)).getD r.cause, desc := w.bind (·.desc) } })
      let s2 := s1.sendRec i 0 1
      let rx := (s2.strand i).rx
      match w with
      | some v => if v.cause = .spare then
          let s3 := s2.modRep i (fun q => { q with skip := true, swept := true })
          if rx.spareFree v.group then s3.changeRx i (rx.useSpare v.group v.lane) [v.group] []
          else match v.desc with
            | some d => (s3.modRep i (fun q => { q with desc := none })).complete d 0x12
            | none => s3
        else if v.lanes.isEmpty then s2
        else
          let f := failLanes s.build rx [] v.lanes
          (s2.modRep i (fun q => { q with
            skip := true, swept := true, failed := (v.lanes.map s.build.laneCode).foldl (fun a b => some (min b (a.getD b))) none })).changeRx i
            f.1 f.2 []
      | none => s2

/-- A strand enters HOLD without an XREPLAY. A retirement stays agreed. -/
def State.enterHold (s : State) (i : Nat) (cause : RepCause) : State :=
  s.modStrand i (fun x => { x with
    sub := .hold, service := false, draining := false, leave := x.leave.filter (fun (v : Svc) => v.reason == 1), join := none, step := 0, held := 0,
    rep := some { cause := cause, rx0 := x.rx, tx0 := x.tx, began := s.now } })

/-- A clock, VLD or TRK lane of the received direction has failed (R358, R361, R436): HOLD at once, with the direction's SHARD set. -/
def State.laneLost (s : State) (i : Nat) : State :=
  let x := s.strand i
  if x.state = .shard then s
  else
    let up := x.state == .fired || x.state == .crazed
    let s1 := if (up && x.sub != .hold && x.sub != .fill) || x.draining then (s.dropToHold i).moveReplay i
      else if x.rep.isSome then s
      else s.enterHold i .handed
    s1.modStrand i (fun y => { y with
      rx := { y.rx with shard := true }, rep := y.rep.map (fun r => { r with skip := true, swept := true, fills := [], stale := r.mine ≥ 2 }) })

/-! ## Triggers (R436, R438) -/

/-- Waiting planned triggers begin as soon as they may: not on the only strand in service (R438), nor on one that is leaving or in a
substate, nor on a set member without a free standby (R329). -/
def State.planRepair (s : State) (i : Nat) : State :=
  let x := s.strand i
  match x.waits with
  | [] => s
  | w :: _ =>
    if w.cause == .spare && x.rep.isNone && !x.rx.spareFree w.group then
      match w.desc with
      | some d => (s.modStrand i (fun y => { y with waits := y.waits.drop 1 })).complete d 0x12
      | none => s
    else if !x.service || x.sub != .none || x.leave.isSome || s.cal.any (fun (c : CalRun) => c.strand == i) ||
        s.bist.slice.any (fun (c : Slice) => c.strand == i) then s
    else if s.inService.length ≤ 1 then
      if w.deferred then s
      else ((s.modStrand i (fun y => { y with waits := modAt (fun (v : RepWait) => { v with deferred := true }) 0 y.waits })).sticky
        0x2808 10).raise 0x012A i
    else if s.isMember i && !s.mayTake i (s.changeRow i) then s
    else s.beginSvc i false 0

/-! ## Sweeps and fills (R441 to R445) -/

/-- H_min and the least eye width of R364. -/
def State.minHeight (s : State) : Nat := if s.build.pers = .V then 16 else 12
def State.minWidth (s : State) : Nat := if s.build.pers = .V then 24 else 16

/-- A lane falls short of R364; one with an empty region too. -/
def State.short (s : State) (m : LaneMeas) : Bool := m.width < s.minWidth || m.height < s.minHeight

/-- Failures change the RX state of a strand in repair (R442); a firing made those of the lanes `inj`. -/
def State.applyFailures (s : State) (i : Nat) (lanes : List Nat) (inj : List Nat := []) : State :=
  match (s.strand i).rep with
  | none => s
  | some r =>
    let f := failLanes s.build (s.strand i).rx r.fills lanes
    s.changeRx i f.1 f.2 (inj.filterMap (fun k => (s.build.place k).map (·.1)))

/-- The repair state of a strand in repair is written (R432, R442). -/
def State.writeSwept (s : State) (i : Nat) : State :=
  let x := s.strand i
  (s.modRep i (fun q => { q with wrote := some (x.rx, x.tx) })).writeRepair i

/-- This side reports PHASE FILLED once none of its fills is pending and both SWEPT records are held; a fill puts the strand in FILL. -/
def State.checkFilled (s : State) (i : Nat) : State :=
  match (s.strand i).rep with
  | none => s
  | some r =>
    if r.mine != 2 || r.peer < 2 then s
    else if r.fills.isEmpty then
      (s.modStrand i (fun x => { x with sub := .hold, rep := some { r with mine := 3 } })).sendRec i 0 3
    else s.modStrand i (fun x => { x with sub := .fill })

/-- SWEPT is sent: this side's part of the sweep has ended, or its SWEPT state has changed (R442, R444). With both records held the state is
written. -/
def State.finishSweep (s : State) (i : Nat) : State :=
  match (s.strand i).rep with
  | none => s
  | some r =>
    let s1 := (s.modRep i (fun q => { q with mine := 2, ending := false, stale := false })).sendRec i 0 2
    (if r.peer ≥ 2 then s1.writeSwept i else s1).checkFilled i

/-- A failure found elsewhere has changed what SWEPT said (R444). -/
def State.resendSwept (s : State) (i : Nat) : State := if (s.strand i).rep.any (fun r => r.stale) then s.finishSweep i else s

/-- The sweep ends with what it has found on the lanes (R441, R442). -/
def State.sweepDone (s0 : State) (i : Nat) (ms : List LaneMeas) : State :=
  match (s0.strand i).rep with
  | none => s0
  | some r =>
    if r.mine != 1 || !r.swept || r.skip then s0
    else
      let (inj, s) := s0.fire 0x0A i
      let lanes := (ms.filter s.short).map (·.lane)
      let named := if inj ∧ !lanes.contains s.inj.param then lanes ++ [s.inj.param] else lanes
      -- the sweep covers the D and SP lanes outside lost groups (R441)
      let all := named.filter (fun k => (s.build.place k).any (fun q => !bit (s.strand i).rx.lost q.1))
      let low := (all.map s.build.laneCode).foldl (fun a b => some (min b (a.getD b))) none
      let s1 := ((s.bumpSat 0x280C 31 16 1).modRep i (fun q => { q with failed := low })).applyFailures i all
        (if inj then [s.inj.param] else [])
      s1.finishSweep i

/-- A boundary lets the sweep of a strand in HOLD start; a repair without one goes straight to SWEPT (R441). -/
def State.startSweep (s : State) (i : Nat) : State :=
  match (s.strand i).rep with
  | none => s
  | some r =>
    if r.mine != 1 then s
    else if r.skip then s.finishSweep i
    else s.modRep i (fun q => { q with swept := true })

/-- The lanes that a fill of group `g` covers: its spare, and every lane in use of a group that is to be used in place of a lost one (R443). -/
def Strand.fillCovers (x : Strand) (b : Build) (g k : Nat) : Bool :=
  let half := b.groups / 2
  let turned := x.state == .crazed && x.rep.any (fun r => r.rx0.usedGroup half g != g)
  match b.place k with
  | some (h, p) => h == g && ((p == 8 && bit x.rx.used g) || (turned && (x.rx.laneAt g p).isSome))
  | none => false

/-- What a fill has found enters the settings of the lanes that it covers (R443). -/
def State.takeFill (s : State) (i : Nat) (ms : List LaneMeas) : State :=
  let ls := (List.range s.build.laneCount).map (fun k =>
    let l := s.laneSet i k
    match ms.find? (fun m => m.lane == k) with
    | some m => { l with phase := m.phase, vref := m.vref, read := m.read, trained := true }
    | none => l)
  if ms.isEmpty then s else s.modStrand i (fun x => { x with lanes := ls })

/-- A fill ends with what it has found (R443): a spare that falls short of R364 loses its group, another lane fails under R442. -/
def State.fillDone (s0 : State) (i g : Nat) (all : List LaneMeas) (timeout : Bool) : State :=
  match (s0.strand i).rep with
  | none => s0
  | some r =>
    if !r.fills.contains g || (s0.strand i).sub != .fill then s0
    else
      let (hit, s) := if s0.inj.armed && s0.inj.param == g then s0.fire 0x0B i else (false, s0)
      let x := s.strand i
      let ms := all.filter (fun m => x.fillCovers s.build g m.lane)
      let lanes := (ms.filter s.short).map (·.lane)
      let spare := lanes.any (fun k => s.build.place k == some (g, 8)) && !bit r.rx0.used g
      let left := r.fills.filter (· != g)
      let s1 := s.modRep i (fun q => { q with fills := left })
      if hit || timeout || spare then
        (((s1.changeRx i (x.rx.lose g) left (if hit then [g] else [])).sticky 0x2808 5).raise 0x0125 i 0 hit).finishSweep i
      else if lanes.isEmpty then (s1.takeFill i ms).checkFilled i
      else (s1.applyFailures i lanes).finishSweep i

/-- Lanes in use that counted too many mismatches in a frame of HOLD or FILL (R444): what SWEPT has said is said anew. -/
def State.holdFailures (s : State) (i : Nat) (lanes : List Nat) : State :=
  match (s.strand i).rep with
  | none => s
  | some r =>
    if lanes.isEmpty || r.mine = 0 then s
    else
      let before := (s.strand i).rx
      let s1 := s.applyFailures i lanes
      if r.mine < 2 || (s1.strand i).rx = before then s1 else s1.finishSweep i

/-! ## The end of a repair (R445 to R447) -/

/-- Groups whose spares a repair switches in, in one direction, but those counted already. -/
def switchedIn (b : Build) (old new : RepDir) (counted : Nat) : List Nat :=
  (List.range b.groups).filter (fun g => bit new.used g && !bit old.used g && !bit new.lost g && !bit counted g)

/-- The spares of a repair are switched in, each with a record (R445). -/
def State.switchIn (s : State) (i : Nat) : State :=
  let x := s.strand i
  match x.rep with
  | none => s
  | some r =>
    let rx := switchedIn s.build r.rx0 x.rx r.rxDone
    let tx := switchedIn s.build r.tx0 x.tx r.txDone
    if rx.isEmpty && tx.isEmpty then s
    else
      let s1 := s.modStrand i (fun y => { y with
        cleanRun := 0, rep := y.rep.map (fun q => { q with rxDone := rx.foldl setBit q.rxDone, txDone := tx.foldl setBit q.txDone }) })
      let one (inj : Bool) (s : State) : State := ((s.bumpSat 0x280C 15 0 1).sticky 0x2808 1).raise 0x0121 i 0 inj
      forEach tx (fun _ s => one false s) (forEach rx (fun g s => one (r.injs.contains g) s) s1)

/-- A sweep found both directions clean (R447); the third in a row within 4,096 frames of the first retires the strand. -/
def State.cleanSweep (s : State) (i : Nat) (cause : RepCause) : State :=
  let x := s.strand i
  let counts := cause == .threshold || cause == .replay
  let list := if counts then x.cleans ++ [s.now] else x.cleans
  let last3 := list.drop (list.length - 3)
  let s1 := ((s.modStrand i (fun y => { y with cleanRun := satAdd 8 y.cleanRun 1, cleans := last3 })).sticky 0x2808 6).raise 0x0126 i
  match last3 with
  | [a, _, c] => if counts && c - a ≤ 4096 * 1024 then ((s1.sticky 0x2808 9).raise 0x0129 i).retire i else s1
  | _ => s1

/-- Both FILLED records are held: the new state applies as R445 states, and the initiating side asks for the join. -/
def State.checkRepaired (s : State) (i : Nat) : State :=
  let x := s.strand i
  match x.rep with
  | none => s
  | some r =>
    if r.mine != 3 || r.peer != 3 || r.ending then s
    else
      let s1 := s.modRep i (fun q => { q with ending := true })
      let same := x.rx == r.rx0 && x.tx == r.tx0
      let s2 := if same && !r.skip then s1.cleanSweep i r.cause
        else if same then s1
        else
          -- a sweep that was not clean ends a run of clean ones (R447)
          let s2 := s1.modStrand i (fun y => { y with cleans := [] })
          let s3 := if r.wrote = some (x.rx, x.tx) then s2 else s2.writeSwept i
          if !isLarge s.build && repState s.build x.rx x.tx == x.state then s3.switchIn i else s3
      let retiring := match (s2.strand i).leave with
        | some v => v.reason == 1
        | none => false
      if s2.initiates && !retiring then s2.beginSvc i true 0 else s2

/-- A strand in repair reaches its joining boundary: it rejoins, or becomes SHARD (R445). The caller puts it in service. -/
def State.settleRepair (s : State) (i : Nat) : State :=
  let x := s.strand i
  match x.rep with
  | none => s
  | some r =>
    let new := repState s.build x.rx x.tx
    if new = .shard then s.becomeShard i
    else
      let s1 := if isLarge s.build || new != x.state then s.switchIn i else s
      let s2 := s1.modStrand i (fun y => { y with state := new })
      let s3 := if new = .crazed ∧ r.tx0.lost = 0 ∧ r.rx0.lost = 0 then s2.postEvent 0x0023 i 0x0122 [3] else s2
      (s3.endRepairCmd i).modStrand i (fun y => { y with rep := none })

/-- The peer has been silent in a repair (R446). -/
def State.repairTimeout (s : State) (i : Nat) : State :=
  match (s.strand i).rep with
  | none => s
  | some _ => ((s.sticky 0x2808 4).raise 0x0124 i s.inj.fired (s.inj.point == 0x0C && s.inj.unit == i && s.inj.fired != 0)).retire i

/-! ## Records (R433 to R435), and W2 entered anew (R448) -/

/-- A strand leaves wedging without having joined: its results are discarded (R423), and its latest STEP is repeated on (R409). -/
def State.endWedge (s : State) (i : Nat) : State :=
  s.modStrand i (fun x => { x with
    sub := .none, wedging := false, step := 0, own := 0, peer := 0, quick := false, armed := false, serial := false
    lanes := (x.was.map (·.1)).getD x.lanes, duty := (x.was.map (·.2)).getD x.duty, was := none })

/-- The strand re-enters W2, or is retired where its repair state allows no more. -/
def State.reenter (s : State) (i : Nat) : State :=
  let x := s.strand i
  if repState s.build x.rx x.tx = .shard then (s.endWedge i).retire i
  else s.modStrand i (fun y => { y with step := 2, own := 1, peer := min y.peer 1, again := false, meas := [], peerEye := [] })

/-- The record of one direction in a REPAIR_REC payload. -/
def recDir (b : Build) (p : List Byte) : RepDir :=
  RepDir.fitted { used := field p 2 2, bad := field p 4 2, lost := field p 6 2, map := field p 8 8, shard := bit (field p 0 2) 8 } b

/-- Neither direction of a strand's record holds anything. -/
def Strand.clean (x : Strand) : Bool := x.rx == {} && x.tx == {}

/-- Sends the record set (R434). -/
def State.sendRecords (s : State) : State :=
  let dirty := (List.range s.build.strands).filter (fun i => !(s.strand i).clean)
  let s1 := s.sendFrame 0x20 (toLe 2 (2 * dirty.length + 32768 * b2n s.exch.got))
  forEach dirty (fun i s => (s.sendRec i 0 0).sendRec i 1 0) s1

/-- The repair records are still being read. -/
def State.recordsUnread (s : State) : Bool := s.nvOps.any (fun u => match u with
  | .repairRead _ _ _ => true
  | _ => false)

/-- The exchange starts; while this side's records are being read, its set waits for them. -/
def State.startExchange (s : State) : State :=
  let s1 := { s with exch := {} }
  if s1.recordsUnread then s1 else s1.sendRecords

/-- The peer's record of a strand and direction. -/
def State.peerRec (s : State) (i dir : Nat) : RepDir :=
  ((s.exch.recs.find? (fun r => r.1 == i && r.2.1 == dir)).map (·.2.2)).getD {}

/-- Combines one strand's records (R435). An injected mismatch takes the peer's record as differing in a group. -/
def State.combineStrand (s0 : State) (i : Nat) : State :=
  let (inj, s) := s0.fire 0x0D i
  let x := s.strand i
  let g := s.inj.param
  let p := s.peerRec i 1
  let p := if inj then (if bit p.used g then p.useSpare g ((p.mapOf g + 1) % 16) else p.useSpare g 0) else p
  let rx := (combineDir s.build x.rx p).settle
  let tx := (combineDir s.build x.tx (s.peerRec i 0)).settle
  let gone := repState s.build rx tx == .shard
  let s1 := s.modStrand i (fun y => { y with
    rx := rx, tx := tx, state := if gone && y.state == .greenware && !s.straps.err then .shard else y.state })
  let s2 := if rx == x.rx && tx == x.tx then s1 else (((s1.writeRepair i).sticky 0x2808 7).raise 0x0127 i 0 inj)
  if (s2.strand i).state = .shard ∧ x.state ≠ .shard then s2.lastShard else s2

/-- Both sides hold all records: each sends one more REPAIR_SUM, and the records are combined. -/
def State.checkExchange (s : State) : State :=
  if s.exch.got && s.exch.peerGot && !s.exch.done then
    let s1 := { s with exch := { s.exch with done := true } }.sendFrame 0x20 (toLe 2 32768)
    forRange s.linkStrands (fun i s => s.combineStrand i) s1
  else s

/-- REPAIR_SUM is received (R434). -/
def State.repairSum (s : State) (p : List Byte) : State :=
  let w := field p 0 2
  let n := bits w 9 0
  let e := s.exch
  let e1 := if e.got then { e with peerGot := e.peerGot || bit w 15 }
    else { e with peerGot := bit w 15, sum := true, left := n, recs := [], got := n == 0 }
  { s with exch := e1 }.checkExchange

/-- REPAIR_REC is received (R434, R445). -/
def State.repairRec (s0 : State) (p : List Byte) : State :=
  let w := field p 0 2
  let i := bits w 7 0
  let dir := bits w 9 9
  let phase := bits w 12 10
  let (silent, s) := s0.fire 0x0C i
  if silent ∨ phase > 3 then s
  else if phase = 0 then
    let e := s.exch
    if e.got ∨ !e.sum ∨ e.left = 0 then s
    else { s with exch := { e with recs := e.recs ++ [(i, dir, recDir s.build p)], left := e.left - 1, got := e.left == 1 } }.checkExchange
  else if i ≥ s.build.strands then s
  else
    let x := s.strand i
    let tx := x.tx.gain (recDir s.build p) s.build
    match x.rep with
    | none =>
      if x.wedging ∧ phase = 2 then
        -- failures that the peer has found in wedging: both sides re-enter W2 (R448)
        let s1 := (s.modStrand i (fun y => { y with tx := tx })).writeRepair i
        if tx = x.tx then s else if 2 ≤ x.own then s1.reenter i else s1
      else if phase = 1 ∧ x.sub = .cal ∧ !x.wedging ∧ x.state ≠ .greenware then
        -- the peer's strand has passed from CAL to HOLD, with no sweep unless the check of R416 failed twice (R448)
        let skip := !s.cal.any (fun (c : CalRun) => c.strand == i && c.second)
        (s.enterHold i .handed).modStrand i (fun y => { y with
          tx := tx, rep := y.rep.map (fun r => { r with peer := 1, skip := skip, swept := skip }) })
      else s
    | some r =>
      let s1 := s.modStrand i (fun y => { y with tx := tx, rep := some { r with peer := phase, ending := r.ending && phase == 3 } })
      let s2 := if phase = 2 ∧ r.mine ≥ 2 ∧ (r.peer < 2 ∨ tx ≠ x.tx) then s1.writeSwept i else s1
      (s2.checkFilled i).checkRepaired i

/-- A retirement that an XREPLAY has made moot is agreed anew (R303, R450). -/
def State.retireAnew (s : State) (i : Nat) : State :=
  if (s.strand i).toRetire then (s.modStrand i (fun x => { x with toRetire := false })).retire i else s

/-- What every step settles for repairs: HOLD entries are announced, waiting triggers begin, ended repairs move on. -/
def State.settleRepairs (s : State) : State :=
  forRange s.build.strands (fun i s => ((((s.announceHold i).retireAnew i).resendSwept i).planRepair i).checkRepaired i) s

/-! ## REPAIR_CMD (R451) -/

/-- Mask of REPAIR_CMD. -/
def repairMask : List Nat := [255, 255, 255, 0, 255, 255]

/-- REPAIR_CMD. -/
def State.repairCmd (s : State) (desc : Nat) (e : List Byte) : State :=
  let i := byteAt e 8
  let action := byteAt e 9
  let g := byteAt e 10
  let lane := field e 0x0C 2
  let x := s.strand i
  let up := x.state == .fired || x.state == .crazed
  let lost := s.partnerStatus
  s.checked desc
    [(i ≥ s.linkStrands, 0x11, 0x08), (action > 3, 0x11, 0x09), (action != 1 && g != 0, 0x11, 0x0A), (action != 1 && lane != 0, 0x11, 0x0C),
     (action ≤ 1 && lost.isSome, lost.getD 0, 0), (action ≤ 1 && !up, 0x11, 0x08),
     (action == 1 && g ≥ s.build.groups, 0x11, 0x0A),
     (action == 1 && (lane < 16 * g || lane ≥ 16 * g + 16), 0x11, 0x0C), (action == 1 && !x.rx.spareFree g, 0x12, 0),
     (action == 3 && x.state != .shard && x.service && s.inService.length ≤ 1, 0x11, 0x08)]
    (fun s =>
      if action = 2 then s.complete desc 0 (s.repairResult i none)
      else if action = 3 then
        if x.state = .shard then s.complete desc 0 (s.repairResult i none)
        else (s.modStrand i (fun y => { y with waits := { cause := .command, desc := some desc } :: y.waits })).retire i
      else s.modStrand i (fun y => { y with waits := y.waits ++ [{
          cause := if action = 1 then .spare else .command, group := g, lane := lane % 16, desc := some desc }] }))

end Sys2Proof.Machine
end

