-- ==== Sys2Proof/Machine/Calib.lean ====
section
/-! DEFINITION. Calibration in service: due strands, CAL messages, runs and their judgement, application, the check after it, and
CAL_REQUEST (R392, R404, R410 to R417). -/

namespace Sys2Proof.Machine

/-- A drive step after an adjustment by the peer's eye height (R392). -/
def State.driveStep (s : State) (step height : Nat) : Nat :=
  if height < s.minHeight + 4 ∧ step < 7 then step + 1
  else if height > s.minHeight + 24 ∧ step > (if s.build.pers = .V then 1 else 5) then step - 1 else step

/-- The drive steps of a strand's settings follow the peer's eye heights (R392): D and SP lanes outside lost groups, and TRK; a step moves
once in a wedging or a calibration. Height 0 stands for a lane that the peer has not measured: no measured lane passes with it (DEDUCED). -/
def State.adjustDrive (s : State) (i : Nat) (eyes : List (Nat × Nat)) (ls : List LaneSet) : List LaneSet :=
  let x := s.strand i
  (List.range ls.length).map (fun k =>
    let l := ls.getD k {}
    let takes := !x.moved.contains k && (match s.build.place k with
      | some (g, _) => !bit x.tx.lost g
      | none => k == 17 * (s.build.groups / 2) + 3)
    match lookupKey k eyes with
    | some h => if takes && h != 0 then { l with drive := s.driveStep l.drive h } else l
    | none => l)

/-- The lanes whose drive steps differ between two lists of settings. -/
def drivesMoved (old new : List LaneSet) : List Nat :=
  (List.range new.length).filter (fun k => (old.getD k {}).drive != (new.getD k {}).drive)

/-- Adjusted settings enter a strand, with the lanes whose drive steps have moved (R392). -/
def State.setDrives (s : State) (i : Nat) (ls : List LaneSet) : State :=
  s.modStrand i (fun x => { x with lanes := ls, moved := x.moved ++ drivesMoved (s.allLanes i) ls })

/-- The median of some codes, rounded down (R389): of an even number of them, the mean of the middle two. -/
def median (l : List Nat) : Nat :=
  let s := sortBy (fun a b => a ≤ b) l
  (s.getD ((s.length - 1) / 2) 0 + s.getD (s.length / 2) 0) / 2

/-- VLD's receiver takes the medians of what the data lanes among `ks` have been given (R389): read points, or phase and Vref codes. -/
def vldSettings (b : Build) (ks : List Nat) (reads : Bool) (ls : List LaneSet) : List LaneSet :=
  let given := (ks.filter (fun k => match b.place k with
    | some (_, p) => p != 8
    | none => false)).map (fun k => ls.getD k {})
  if given.isEmpty then ls
  else modAt (fun (l : LaneSet) =>
    if reads then { l with read := median (given.map (·.read)) }
    else { l with phase := median (given.map (·.phase)), vref := median (given.map (·.vref)), trained := true })
    (17 * (b.groups / 2) + 2) ls

/-- A strand's transmitter corrects the duty cycle of its forwarded clock: what its detector finds is a FREE VALUE (R393). -/
def State.correctDuty (s : State) (i : Nat) : State :=
  s.modStrand i (fun x => { x with duty := (Config.duty i x.duties).toNat, duties := x.duties + 1 })

/-- Sends the eye heights that this side has measured (R404, R409): 128 lanes to a message. -/
def State.sendEyes (s : State) (i : Nat) (ms : List LaneMeas) : State :=
  let n := s.build.laneCount
  let height (k : Nat) : Nat := ((ms.find? (fun m => m.lane == k)).map (·.height)).getD 0
  forRange (ceilDiv n 128) (fun j s =>
    let ks := (List.range 128).map (· + 128 * j) |>.filter (· < n)
    s.pushMsg 0x2B (toLe 1 i ++ toLe 1 j ++ [0, 0] ++ ks.map (fun k => BitVec.ofNat 8 (height k)))) s

/-- Sends a STEP message (R409), and keeps it for repetition. -/
def State.sendStep (s : State) (i step : Nat) (ok : Bool) : State :=
  let body := toLe 1 i ++ toLe 1 (step + (if ok then 16 else 32)) ++ [0, 0]
  (s.modStrand i (fun x => { x with said := some body })).pushMsg 0x29 body

/-! ## Due strands (R410, R411) -/

/-- A strand becomes due for calibration. -/
def State.makeDue (s : State) (i : Nat) : State :=
  let x := s.strand i
  if (x.state = .fired ∨ x.state = .crazed) ∧ x.dueAt.isNone then s.modStrand i (fun y => { y with dueAt := some s.now, waited := 0 })
  else s

/-- The temperature trigger, on a strand's group cone (R410). -/
def State.tempDue (s : State) (i : Nat) : State :=
  match (s.strand i).calTemp with
  | none => s
  | some t =>
    let d := s.groupTemp i - t
    if s.flag 0x2000 9 && s.coneValid (4 + i / 16) && (d.natAbs > 16 * s.fld 0x2000 4 0) then s.makeDue i else s

/-- The queue of due strands, by tick and number; those in HOLD, FILL or TEST keep their place but wait (R411). -/
def State.calQueue (s : State) : List Nat :=
  let l := (List.range s.build.strands).filter (fun i => (s.strand i).dueAt.isSome && (s.strand i).sub == .none && (s.strand i).service)
  sortBy (fun a b => (s.strand a).dueAt.getD 0 < (s.strand b).dueAt.getD 0 ||
    ((s.strand a).dueAt == (s.strand b).dueAt && a ≤ b)) l

/-- Sends a CAL message (R409). -/
def State.sendCal (s : State) (i row : Nat) (withdraw : Bool) : State :=
  s.pushMsg 0x2A (toLe 2 i ++ toLe 2 (row % 4096) ++ toLe 1 (b2n withdraw) ++ zeros 3)

/-- The queue head is scheduled if it is eligible and no calibration of the link is in progress (R411, R329). -/
def State.calSchedule (s : State) : State :=
  match s.cal, s.calQueue with
  | none, i :: _ =>
    let x := s.strand i
    let row := boundaryFrom (s.lclk + 64)
    let ok := s.mayTake i row
    if x.leave.isSome || !(ok || (s.isMember i && x.waited ≥ 64)) then s
    else
      { s with cal := some { strand := i, row := row, mine := true, forced := !ok } }.sendCal i row false
  | _, _ => s

/-- A CAL message is received (R411). -/
def State.calMsg (s : State) (body : List Byte) : State :=
  let i := byteAt body 0
  let withdraw := bit (byteAt body 4) 0
  match s.rowBoundary (field body 2 2 % 4096) with
  | none => s
  | some row =>
    let theirs : CalRun := { strand := i, row := row, mine := false }
    if i ≥ s.build.strands then s
    else match s.cal with
      | none => if withdraw then s else { s with cal := some theirs }
      | some c =>
        if withdraw then (if c.phase = .agreed ∧ !c.mine ∧ c.strand = i ∧ !(s.strand i).draining then { s with cal := none } else s)
        else if c.phase ≠ .agreed ∨ !c.mine then s
        else if c.strand = i then { s with cal := some { c with row := min c.row row } }
        else if c.row < row ∨ (c.row = row ∧ c.strand < i) then s
        else { s with cal := some theirs }.sendCal c.strand c.row true

/-! ## The calibration itself (R412 to R416) -/

/-- The calibration that a strand is in: one in service, or the check after a slice. -/
def State.runOf (s : State) (i : Nat) : Option CalRun :=
  (s.cal.filter (fun c => c.strand == i && c.phase != .agreed)).or (s.sliceRun.filter (fun c => c.strand == i))

/-- Replaces it. -/
def State.setRun (s : State) (c : CalRun) : State :=
  if s.cal.any (fun d => d.strand == c.strand && d.phase != .agreed) then { s with cal := some c } else { s with sliceRun := some c }

/-- Ends it. -/
def State.dropRun (s : State) (i : Nat) : State :=
  if s.cal.any (fun d => d.strand == i && d.phase != .agreed) then { s with cal := none }
  else { s with sliceRun := s.sliceRun.filter (fun c => c.strand != i) }

/-- A strand that has emptied its replay buffer past its boundary enters CAL or TEST (R412, R537). What has been agreed for a later boundary
stays agreed (R610). -/
def State.leaveFor (s : State) (i : Nat) (sub : Sub) : State :=
  s.modStrand i (fun x => { x with sub := sub, draining := false, join := none, held := 0 })

/-- A planned calibration that has not begun waits when its standby is no longer free: this side's CAL is withdrawn (R329, R336). -/
def State.calWaits (s : State) : State :=
  match s.cal with
  | some c =>
    if c.phase = .agreed ∧ c.mine ∧ !c.forced ∧ !(s.strand c.strand).draining ∧ !s.mayTake c.strand c.row then
      { s with cal := none }.sendCal c.strand c.row true
    else s
  | none => s

/-- The calibration agreed for this boundary begins (R412): the strand leaves service, and once its replay buffer is empty it enters CAL
(R291). One that takes a set member without a free standby is reported (R329). -/
def State.startCal (s0 : State) : State :=
  match s0.calWaits.cal with
  | none => s0.calWaits
  | some c =>
    let s := s0.calWaits
    let x := s.strand c.strand
    if c.phase ≠ .agreed ∨ c.row > s.lclk then s
    else if !(x.service || x.draining) || x.sub != .none then { s with cal := none }
    else
      let forced := if x.service then c.forced || !s.mayTake c.strand c.row else c.forced
      -- the temperature recorded is the reading at r (R412)
      let temp := if x.service then s.groupTemp c.strand else c.temp
      let s1 := { s with cal := some { c with forced := forced, temp := temp } }.standDown c.strand c.row
      if !(s1.strand c.strand).link.drained then s1
      else
      let s1 := { s1 with cal := some { c with
        forced := forced, phase := .running, temp := temp, former := s.allLanes c.strand
        formerDuty := (s.strand c.strand).duty, saved := (s.strand c.strand).unsaved } }
      let s2 := (s1.leaveFor c.strand .cal).modStrand c.strand (fun y => { y with moved := [], peerEye := [] })
      if forced then ((s2.sticky 0x310 6).raise 0x0308 c.strand).guarantee c.strand 0x0308 8 else s2

/-- The strands of CAL_REQUESTs that have ended with nothing left complete (R417). -/
def State.finishCalReqs (s : State) : State :=
  forEach s.calReqs (fun r s =>
    if !r.left.isEmpty || !r.saving.isEmpty then s
    else
      let low := r.failed.foldl (fun (acc : Option (Nat × Nat)) (f : Nat × Nat) => match acc with
        | none => some f
        | some o => if f.1 < o.1 then some f else some o) none
      let status := match low with
        | some f => f.2
        | none => if r.degraded then 0x01 else 0
      let stamp : Nat := s.regN 0x2010 + s.regN 0x2014 * 2 ^ 32
      State.complete { s with calReqs := s.calReqs.filter (fun q => q.desc != r.desc) } r.desc status
        (toLe 2 r.ok ++ toLe 2 r.failed.length ++ toLe 8 stamp ++ toLe 2 ((low.map (fun (f : Nat × Nat) => f.1)).getD 0xFFFF))) s

/-- A strand's calibration has ended, with the strand's rejoin or without: 0 with success, 0x50 or 0x51 as it failed, and 1 where it ended
without a result (R417). Drift is reported once more (R361). Only lanes that disagree in the next calibration too disagree in two in a row
(R414). -/
def State.calEnded (s : State) (i result : Nat) : State :=
  let saves := result = 0 && s.calReqs.any (fun r => r.save && r.left.contains i)
  let s0 := s.modStrand i (fun x => { x with trkSeen := false, disLanes := if result = 0x50 then x.disLanes else [] })
  let s1 := if saves then s0.writeCal i ((s.strand i).calTemp.getD 0) else s0
  { s1 with calReqs := s1.calReqs.map (fun r =>
      if !r.left.contains i then r
      else { r with
        left := r.left.filter (· != i), ok := r.ok + b2n (result == 0), saving := if r.save && result == 0 then r.saving ++ [i] else r.saving,
        failed := if result > 1 then r.failed ++ [(i, result)] else r.failed, degraded := r.degraded || result == 1 }) }

/-- The runs have been judged, or there is nothing to apply: the settings wait for application, or the check is made at once. -/
def State.applyCal (s : State) (c : CalRun) : State :=
  let eyes := (s.strand c.strand).peerEye
  let s1 := (s.setRun { c with phase := .verify, applied := true, stamp := s.now }).modStrand c.strand (fun x => { x with
    lanes := c.target, duty := c.duty, peerEye := [], unsaved := some s.now })
  s1.setDrives c.strand (s.adjustDrive c.strand eyes c.target)

/-- Settings that wait are applied: at a boundary with APPLY 1 or 2, in an idle window with APPLY 2 (R415). -/
def State.applyPending (s : State) (idle : Bool) : State :=
  match s.cal with
  | none => s
  | some c =>
    let how := s.fld 0x2000 8 7
    if c.phase = .pend ∧ (if idle then how = 2 else how = 1 ∨ how = 2) then s.applyCal c else s

/-- Settings that wait are applied at once under APPLY 0, whenever that was written (R415). -/
def State.applyAtOnce (s : State) : State :=
  match s.cal with
  | none => s
  | some c => if c.phase = .pend ∧ s.fld 0x2000 8 7 = 0 then s.applyCal c else s

/-- The former settings of a strand in CAL return, once (R416, R423). -/
def State.restoreRun (s : State) (i : Nat) : State :=
  match s.runOf i with
  | none => s
  | some c =>
    if !c.applied || c.restored then s
    else (s.setRun { c with restored := true }).modStrand i (fun x => { x with lanes := c.former, duty := c.formerDuty, unsaved := c.saved })

/-- A calibration fails (R414): settings stay, and the strand rejoins by the check of R416. `code`: 0x0A01 or 0x0A02. -/
def State.calFails (s : State) (c : CalRun) (code : Nat) (inj : Bool) : State :=
  let dis := code = 0x0A01
  let s1 := (if dis then (s.bumpSat 0x2018 15 0 1).sticky 0x201C 0 else (s.bumpSat 0x2018 31 16 1).sticky 0x201C 1).modStrand c.strand
    (fun x => { x with
      calDis := satAdd 8 x.calDis (b2n dis), calTo := satAdd 8 x.calTo (b2n !dis), disLanes := if dis then x.disLanes else [] })
  (s1.setRun { c with phase := .verify, failed := true, result := if dis then 0x50 else 0x51 }).raise code c.strand 0 inj

/-- A strand passes from CAL, or from the check after a slice, to HOLD (R448). -/
def State.calToHold (s0 : State) (i : Nat) (lanes : List Nat) (cause : RepCause) : State :=
  let s := s0.restoreRun i
  let inCal := s.cal.any (fun d => d.strand == i && d.phase != .agreed)
  let result := ((s.cal.map (·.result)).getD 1)
  let s1 := (if inCal then s.calEnded i result else s).dropRun i
  let s2 := s1.modStrand i (fun x => { x with
    dueAt := if inCal then none else x.dueAt, waits := if lanes.isEmpty then x.waits else { cause := cause, lanes := lanes } :: x.waits })
  s2.enterHold i cause

/-- The mean of two phase codes, rounded down, on the circle; of two Vref codes. -/
def meanPhase (a b : Nat) : Nat := if a + 32 < b ∨ b + 32 < a then ((a + b + 64) / 2) % 64 else (a + b) / 2

/-- The distance of two phase codes on the circle. -/
def phaseDist (a b : Nat) : Nat := min ((a + 64 - b) % 64) ((b + 64 - a) % 64)

/-- A lane of the received direction that a strand is to use (R427, R428); TRK is in use. -/
def State.rxInUse (s : State) (i k : Nat) : Bool :=
  let x := s.strand i
  match s.build.place k with
  | none => true
  | some (g, p) => !bit x.rx.lost g && (x.rx.laneAt g p).isSome &&
      (repState s.build x.rx x.tx != .crazed || x.rx.usedGroup (s.build.groups / 2) g == g)

/-- The runs of a calibration have ended (R413, R414): it covers the lanes in use, those of a CRAZED strand's used groups (R412, R449), and TRK. -/
def State.calRunDone (s0 : State) (first0 second0 : List LaneMeas) : State :=
  match s0.cal with
  | none => s0
  | some c =>
    let first := first0.filter (fun m => s0.rxInUse c.strand m.lane)
    let second := second0.filter (fun m => s0.rxInUse c.strand m.lane)
    if c.phase ≠ .running then s0
    else
      let i := c.strand
      let check := s0.fld 0x2000 6 5
      let two := check != 1
      let (inj, s) := if s0.inj.param ≤ 1 then s0.fire 0x34 i else (false, s0)
      let other (m : LaneMeas) : LaneMeas := ((second.find? (fun n => n.lane == m.lane))).getD m
      let bad := (first ++ (if two then second else [])).filter s.short |>.map (·.lane)
      let dis := if two then first.filter (fun m =>
          phaseDist m.phase (other m).phase > 2 || max m.vref (other m).vref - min m.vref (other m).vref > 3) |>.map (·.lane) else []
      let timeout := inj && s.inj.param = 1
      let s1 := s.sendEyes i first
      if !bad.isEmpty then s1.calToHold i bad .handed
      else if timeout then s1.calFails c 0x0A02 true
      else if !dis.isEmpty || inj then
        let again := dis.filter (fun k => (s.strand i).disLanes.contains k)
        let s2 := (s1.calFails c 0x0A01 inj).modStrand i (fun x => { x with disLanes := dis })
        if again.isEmpty then s2 else s2.calToHold i again .handed
      else
        let ls := (List.range s.build.laneCount).map (fun k =>
          let l := s.laneSet i k
          match first.find? (fun m => m.lane == k) with
          | some m => if two then
              { l with
                phase := meanPhase m.phase (other m).phase, vref := (m.vref + (other m).vref) / 2
                read := (m.read + (other m).read) / 2, trained := true }
            else { l with phase := m.phase, vref := m.vref, read := m.read, trained := true }
          | none => l)
        let ls := vldSettings s.build (first.map (·.lane)) true (vldSettings s.build (first.map (·.lane)) false ls)
        let c1 := { c with target := ls, phase := .pend, duty := (Config.duty i (s.strand i).duties).toNat }
        let s2 := (s1.setRun c1).modStrand i (fun x => { x with disLanes := [], duties := x.duties + 1 })
        if s.fld 0x2000 8 7 = 0 then s2.applyCal c1 else s2

/-- The run exceeds BUDGET (R413). -/
def State.calTimeout (s : State) : State :=
  match s.cal with
  | none => s
  | some c => if c.phase = .running ∧ s.fld 0x2000 6 5 ≠ 0 then s.calFails c 0x0A02 false else s

/-- A side reports that the check of R416 failed: the former settings return at once; a second failed check leads to HOLD (R448). -/
def State.failCheck (s : State) (i : Nat) (inj : Bool) : State :=
  let s1 := ((s.restoreRun i).sticky 0x201C 5).raise 0x0A03 i 0 inj
  if (s.runOf i).any (fun c => c.second) then s1.calToHold i [] .verify else s1

/-- Both sides have reported the check of R416: the side that began asks for the join, or the check is repeated. -/
def State.checkVerify (s : State) (i : Nat) : State :=
  match s.runOf i with
  | none => s
  | some c =>
    if c.phase ≠ .verify ∨ c.own = 0 ∨ c.peer = 0 then s
    else if c.own = 1 ∧ c.peer = 1 then
      let slice := !s.cal.any (fun d => d.strand == i && d.phase != .agreed)
      let good := !slice && !c.failed && c.applied && !c.second
      let s1 := s.setRun { c with phase := .rejoin, result := if good then 0 else c.result }
      let s2 := if good then
          let t := (((s1.bumpWrap 0x200C 31 0 1).setReg 0x2010 (BitVec.ofNat 32 c.stamp)).setReg 0x2014 (BitVec.ofNat 32 (c.stamp / 2 ^ 32)))
          t.modStrand i (fun x => { x with calCount := wrapAdd 16 x.calCount 1, calLast := c.stamp, calTemp := some c.temp })
        else s1
      if c.mine then s2.beginSvc i true 0 else s2
    else s.setRun { c with own := 0, peer := 0, second := true }

/-- This side's receiver has checked 1,024 UI (R416). -/
def State.verifyDone (s0 : State) (i : Nat) (ok0 : Bool) : State :=
  match s0.runOf i with
  | none => s0
  | some c =>
    if c.phase ≠ .verify ∨ c.own ≠ 0 then s0
    else
      let (inj, s) := if s0.inj.param = 2 then s0.fire 0x34 i else (false, s0)
      let ok := ok0 && !inj
      let s1 := (s.setRun { c with own := if ok then 1 else 2 }).sendStep i 8 ok
      (if ok ∨ c.peer = 2 then s1 else s1.failCheck i inj).checkVerify i

/-- The peer reports its check. A report that comes before this side's own check begins is taken from a later copy (R409, DEDUCED); so is one
that comes before the repeated check ends, which may be a copy of the first check's. Copies of an earlier calibration's report cannot be told
from this one's (DESIGN CHOICE). -/
def State.peerVerify (s : State) (i : Nat) (ok : Bool) : State :=
  match s.runOf i with
  | none => s
  | some c =>
    if c.phase ≠ .verify ∨ (c.second ∧ c.own = 0) then s
    else
      let s1 := s.setRun { c with peer := if ok then 1 else 2 }
      (if ok ∨ c.own = 2 ∨ c.peer = 2 then s1 else s1.failCheck i false).checkVerify i

/-- A calibrated or tested strand rejoins at its boundary (R416). -/
def State.settleCal (s : State) (i : Nat) : State :=
  let inCal := s.cal.any (fun c => c.strand == i && c.phase != .agreed)
  let s1 := s.modStrand i (fun x => { x with dueAt := if inCal then none else x.dueAt, waited := 0 })
  (if inCal then s1.calEnded i ((s.cal.map (·.result)).getD 1) else s1).dropRun i

/-- A calibration that ends without the strand's rejoin: its settings are discarded (R423). -/
def State.abandonCal (s : State) : State :=
  match s.cal with
  | some c => if c.phase ≠ .agreed then { (s.restoreRun c.strand).calEnded c.strand 1 with cal := none } else { s with cal := none }
  | none => s

/-- A calibration whose strand has gone to HOLD or left its state otherwise has ended (R423). -/
def State.reapCal (s : State) : State :=
  if s.cal.any (fun (c : CalRun) => c.phase != .agreed && (s.strand c.strand).sub != .cal) then s.abandonCal else s

/-! ## CAL_REQUEST (R417) -/

/-- Mask of CAL_REQUEST. -/
def calMask : List Nat := [255, 255, 1]

/-- CAL_REQUEST. -/
def State.calRequest (s : State) (desc : Nat) (e : List Byte) : State :=
  let first := byteAt e 8
  let last := first + byteAt e 9
  let n := s.linkStrands
  s.checked desc [(first ≥ n, 0x11, 0x08), (last ≥ n, 0x11, 0x09), (s.partnerStatus.isSome, s.partnerStatus.getD 0, 0)] (fun s =>
    let named := (List.range (last + 1)).filter (first ≤ ·)
    let ok (i : Nat) : Bool := (s.strand i).state == .fired || (s.strand i).state == .crazed
    let s1 := forEach (named.filter ok) (fun i s => s.makeDue i) s
    State.finishCalReqs { s1 with calReqs := s1.calReqs ++ [{
        desc := desc, save := bit (byteAt e 10) 0, left := named.filter ok, degraded := named.any (fun i => !ok i) }] })

end Sys2Proof.Machine
end

