-- ==== Sys2Proof/Machine/Wedge.lean ====
section
/-! DEFINITION. Bring-up: the bisque strand, time alignment, full-rate wedging and its failures (R380, R386, R394 to R407, R418, R421,
R448). -/

namespace Sys2Proof.Machine

/-- ALIGNED (R308, R399). -/
def State.aligned (s : State) : Bool := s.trusted && !s.linkHeld

/-- A strand in GREENWARE (R303, R380): its link state is emptied, and what was under way is discarded. A repair state that the two
sides had not agreed is dropped (R452). A full BIST goes on. -/
def Strand.green (x : Strand) : Strand :=
  let keep := match x.rep with
    | some r => r.mine ≥ 2 && r.peer ≥ 2
    | none => true
  { x with
    state := if x.state == .shard then .shard else .greenware,
    sub := if (x.state == .shard || x.state == .greenware) && x.sub == .test then .test else .none, service := false, draining := false, link := {
      crcErr := x.link.crcErr, nakExh := x.link.nakExh, replays := x.link.replays, waits := x.link.waits,
      protoErr := x.link.protoErr },
    mergeFrom := none, mergeUntil := none, leave := none, join := none, step := 0, own := 0, peer := 0, fails := 0,
    wedging := false, reentry := false, again := false, waking := false, quick := false, said := none, meas := [], peerEye := [],
    lanes := (x.was.map (·.1)).getD x.lanes, duty := (x.was.map (·.2)).getD x.duty, was := none, moved := [], failSeen := false, serial := false,
    trkSeen := false, armed := false, clkFault := false, dueAt := none, waited := 0, held := 0,
    rx := if keep then x.rx else (x.rep.map (·.rx0)).getD x.rx, tx := if keep then x.tx else (x.rep.map (·.tx0)).getD x.tx,
    rep := none }

/-- A strand returns to GREENWARE. -/
def State.toGreenware (s : State) (i : Nat) : State := s.modStrand i Strand.green

/-! ## Bisque (R394 to R397) -/

/-- The bisque strand: the lowest that no repair record marks SHARD (R394, R458). -/
def State.bisqueChoice (s : State) : Option Nat :=
  (List.range s.linkStrands).find? (fun i =>
    let x := s.strand i
    x.state != .shard && repState s.build x.rx x.tx != .shard && x.leave.isNone)

/-- The group of a strand is powered here and its receivers are ready at the peer (R368, R394). -/
def State.groupReady (s : State) (i : Nat) : Bool :=
  bit s.rxSg (i / 16) && (match s.ready with
    | some r => bit r.sg (i / 16)
    | none => false)

/-- The link may be brought up: no link reset, DOWN clear (R502), the peer present, straps and build consistent (R20). -/
def State.linkUp (s : State) : Bool := !s.linkHeld && !s.flag 0x6010 0 && s.presence.on && !s.straps.err && s.partnerStatus.isNone

/-- The bisque preconditions hold for a strand (R394). -/
def State.bisqueReady (s : State) (i : Nat) : Bool :=
  let x := s.strand i
  s.linkUp && s.flag 0x2080 0 && (match s.ready with
    | some r => r.go
    | none => false) && s.groupReady i && s.exch.done && x.state == .greenware && x.sub == .none && !x.parked

/-- Training of the bisque strand begins at B1 (R394, R396). -/
def State.bisqueStart (s : State) (restart : Bool) : State :=
  match s.bisqueChoice with
  | none => s
  | some i =>
    if !s.bisqueReady i || !s.inService.isEmpty || s.bisque.quiet != restart then s
    else
      { s.modStrand i (fun x => { x with
          sub := .cal, step := 0, armed := false, clkFault := false, was := some (x.was.getD (x.lanes, x.duty)) }) with
        bisque := { s.bisque with
          strand := some i, own := 0, peer := 0, quiet := false, said := none,
          fails := if s.bisque.strand = some i then s.bisque.fails else 0 } }

/-- The bisque strand is in training. -/
def State.bisqueTraining (s : State) : Option Nat :=
  s.bisque.strand.filter (fun i => (s.strand i).sub == .cal && (s.strand i).state == .greenware && !(s.strand i).wedging)

/-- Sends BQ_STEP and keeps it for repetition (R386). -/
def State.sendBq (s : State) (i step : Nat) (ok : Bool) : State :=
  let w := step + (if ok then 16 else 32) + 256 * i
  { s with bisque := { s.bisque with said := some w } }.sendFrame 0x11 (toLe 2 w)

/-- The peer holds the same SLOT_ID: reported once in a bring-up (R406). -/
def State.slotTie (s : State) : State :=
  match s.early with
  | none => s
  | some e =>
    if s.straps.slotId = bits (field e 4 2) 4 0 ∧ !s.bisque.tieSeen then
      ({ s with bisque := { s.bisque with tieSeen := true } }.sticky 0x2088 7).raise 0x0116 0
    else s

/-- Both sides have ended B4: the strand is in BISQUE (R395). -/
def State.checkBisque (s : State) : State :=
  match s.bisqueTraining with
  | none => s
  | some i =>
    if s.bisque.own < 4 ∨ s.bisque.peer < 4 then s
    else
      State.slotTie { s.modStrand i (fun x => { x with state := .bisque, sub := .none }) with
        bisque := { s.bisque with fails := 0, flits := 0, waitSeen := false }, peerTime := none }

/-- A bisque attempt has failed: the strand is quiet, and after the third failure in a row it is handed over and retired (R396, R448). -/
def State.bisqueFail (s : State) (i : Nat) : State :=
  let fails := s.bisque.fails + 1
  let s1 := s.modStrand i (fun x => { x with sub := .none, armed := false })
  if fails < 3 then { s1 with bisque := { s1.bisque with own := 0, peer := 0, fails := fails, quiet := true } }
  else
    State.retire { s1 with bisque := { s1.bisque with strand := none, own := 0, peer := 0, fails := 0, quiet := true } } i

/-- The bisque strand misses BISQUE within 50 µs (R396). -/
def State.bisqueTimeout (s : State) (inj : Bool) : State :=
  match s.bisqueTraining with
  | none => s
  | some i => (((s.sendBq i (min 4 (s.bisque.own + 1)) false).sticky 0x2088 0).raise 0x0110 i 0 inj).bisqueFail i

/-- A lane of the received direction is trained: CK, CKB, VLD and TRK aside, those outside lost groups (R435). -/
def State.rxTrained (s : State) (i k : Nat) : Bool := (s.build.place k).all (fun q => !bit (s.strand i).rx.lost q.1)

/-- What a bisque step has found enters the settings of the strand (R389, R395): B2 the phase codes, at Vref 32, and B3 the alignment. -/
def State.bisqueMeas (s : State) (i step : Nat) (ms : List LaneMeas) : State :=
  if step ≠ 2 ∧ step ≠ 3 then s
  else
    let found := ms.filter (fun m => s.rxTrained i m.lane && (step == 3 || m.width != 0))
    let ls := (List.range s.build.laneCount).map (fun k =>
      let l := s.laneSet i k
      match found.find? (fun m => m.lane == k) with
      | some m => if step = 2 then { l with phase := m.phase, vref := 32 } else { l with read := m.read }
      | none => l)
    s.modStrand i (fun x => { x with lanes := vldSettings s.build (found.map (·.lane)) (step == 3) ls })

/-- This side's receiver ends a bisque step (R395), with what it has found on the lanes. -/
def State.bisqueStepDone (s0 : State) (ms : List LaneMeas) : State :=
  match s0.bisqueTraining with
  | none => s0
  | some i =>
    let (inj, s) := s0.fire 0x06 0
    if inj then s.bisqueTimeout true
    else if s.bisque.own ≥ 4 then s
    else
      let n := s.bisque.own + 1
      let s1 := { s with bisque := { s.bisque with own := n } }.modStrand i (fun x => { x with armed := true, clkFault := false })
      ((s1.bisqueMeas i n ms).sendBq i n true).checkBisque

/-- A BQ_STEP frame (R386, R396). -/
def State.bqStep (s : State) (p : List Byte) : State :=
  let w := field p 0 2
  match s.bisqueTraining with
  | none => s
  | some i =>
    if bits w 15 8 ≠ i then s
    else if bit w 5 then s.bisqueFail i
    else if bit w 4 then { s with bisque := { s.bisque with peer := max s.bisque.peer (min 4 (bits w 3 0)) } }.checkBisque
    else s

/-! ## Time alignment (R398 to R401) -/

/-- This side becomes TRUSTED. -/
def State.becomeTrusted (s : State) : State := { s with trusted := true }

/-- A signed 64-bit register pair. -/
def State.signedPair (s : State) (lo : Nat) : Int :=
  let v : Nat := s.regN lo + s.regN (lo + 4) * 2 ^ 32
  if v < 2 ^ 63 then v else (v : Int) - 2 ^ 64

/-- Stores a signed 64-bit value in a pair. -/
def State.setPair (s : State) (lo : Nat) (v : Int) : State :=
  let n := (v % (2 ^ 64 : Int)).toNat
  (s.setReg lo (BitVec.ofNat 32 n)).setReg (lo + 4) (BitVec.ofNat 32 (n / 2 ^ 32))

/-- TIME_AUTO arms the adjustment as OFF_VALID rises (R401). -/
def State.autoArm (s : State) (delta : Int) : State :=
  if s.flag 0x2080 2 then
    (((s.setPair 0x2098 delta).setReg 0x20A0 (BitVec.ofNat 32 (ceilDiv (s.now + 1024) 1024 * 1024))).setFlag 0x2080 3 true)
  else s

/-- A TIME message (R400): `registered` is the LCLK index of the row in which UI 0 of its flit was registered. -/
def State.timeMsg (s0 : State) (body : List Byte) (registered : Nat) : State :=
  let (inj, s) := s0.fire 0x08 0
  let itx : Int := 5 * (field body 0 8 : Int) + bits (byteAt body 8) 2 0
  let d : Int := if inj then ofInt16 s.inj.param else (registered : Int) - itx - 1
  let theirs := bit (byteAt body 8) 3
  let say (ok : Bool) (s : State) : State := { s with peerTime := some (theirs, ok) }
  if d % 5 ≠ 0 then say false ((s.sticky 0x2088 4).raise 0x0114 0 0 inj)
  else
    let delta := d / 5
    let s1 := say (delta == 0) s
    if !theirs then s1
    else if s1.trusted then
      if delta = 0 then { s1 with guard := { s1.guard with misalign := s1.guard.misalign && !s1.aligned } }
      else (({ s1 with bisque := { s1.bisque with conflict := true } }.sticky 0x2088 3).raise 0x0113 0 0 inj)
    else if delta = 0 then
      let s2 := s1.becomeTrusted
      { s2 with guard := { s2.guard with misalign := s2.guard.misalign && !s2.aligned } }
    else
      let s2 := { s1.setPair 0x2090 delta with offValid := true }
      if s1.offValid then s2 else s2.autoArm delta

/-- 1 ms in BISQUE without both sides ALIGNED (R400). -/
def State.timeWait (s : State) : State :=
  let both := s.aligned && (match s.peerTime with
    | some (t, _) => t
    | none => false)
  if s.bisqueOpen && !both && !s.bisque.waitSeen then
    ({ s with bisque := { s.bisque with waitSeen := true } }.sticky 0x2088 2).raise 0x0112 0
  else s

/-- The armed edge comes (R401): the count takes count + 1 − ADJ in place of count + 1. -/
def State.timeAdjust (s : State) : State :=
  if !s.flag 0x2080 3 || s.aonHeld then s
  else
    let ahead := (s.regN 0x20A0 + 2 ^ 32 - s.now % 2 ^ 32) % 2 ^ 32
    let new := (((s.now + ahead + 1 : Nat) : Int) - s.signedPair 0x2098) % (2 ^ 64 : Int)
    State.becomeTrusted { s.setFlag 0x2080 3 false with
      fcount := BitVec.ofNat 64 new.toNat, phase := 0, guard := { s.guard with lastFrame := some ((new.toNat + (2 ^ 64 - 1)) % 2 ^ 64 / 1024 * 1024) } }

/-! ## Full-rate wedging (R402 to R407) -/

/-- Full-rate wedging may start on the link (R402); after a failed negotiation it stays in BISQUE (R468). -/
def State.wedgeReady (s : State) : Bool :=
  s.linkUp && s.flag 0x2080 0 && (s.bisqueOpen || !s.inService.isEmpty) && s.negDone && !s.disc.negFail && s.aligned && s.peerTime == some (true, true) &&
    !s.bisque.conflict

/-- The next strand of a group engine: ascending, the bisque strand last and only with another strand in service. -/
def State.wedgeNext (s : State) (g : Nat) : Option Nat :=
  let ids := (List.range s.linkStrands).filter (fun i => i / 16 == g)
  let busy := ids.any (fun i => (s.strand i).wedging)
  let open_ (i : Nat) : Bool :=
    let x := s.strand i
    x.sub == .none && !x.parked && x.leave.isNone && s.groupReady i
  if busy then none
  else match ids.find? (fun i => (s.strand i).state == .greenware && open_ i && s.bisque.strand != some i) with
    | some i => some i
    | none => ids.find? (fun i => (s.strand i).state == .bisque && open_ i && !s.inService.isEmpty)

/-- Words of a calibration record (R418). -/
def State.calWords (s : State) : Nat := (32 + 2 * s.build.laneCount) / 8

/-- Reads both copies of a strand's calibration record (R421). -/
def State.readCal (s : State) (i : Nat) : State :=
  let s1 := s.modStrand i (fun x => { x with calBuf := [], calRead := false })
  forRange 2 (fun c s => forRange s.calWords (fun w s => s.nvReadReq (0x800 * i + 0x400 * c + 8 * w) (.calRead i c w)) s) s1

/-- Strands whose lanes went in or out of use within the last 1 µs, which is 500 LCLK. -/
def State.wireMoved (s : State) : Nat := ((s.power.moved.filter (fun p => s.lclk < p.1 + 500)).map (·.2)).foldl (· + ·) 0

/-- `n` strands may go in or out of use now: the wire power changes by at most one group's share, 16 strands, in any 1 µs (R591). Its
exceptions, and what a failure takes out of use, do not wait. -/
def State.wireRoom (s : State) (n : Nat) : Bool := s.wireMoved + n ≤ 16

/-- `n` strands go in or out of use. -/
def State.wireMove (s : State) (n : Nat) : State :=
  { s with power := { s.power with moved := s.power.moved.filter (fun p => s.lclk < p.1 + 500) ++ [(s.lclk, n)] } }

/-- A group engine takes its next strand (R402): its records are read first. It waits for R591. -/
def State.wedgeStart (s : State) (g : Nat) : State :=
  match s.wedgeNext g with
  | none => s
  | some i =>
    if !s.wedgeReady || !s.wireRoom 1 then s
    else ((s.wireMove 1).modStrand i (fun x => { x with
      sub := .cal, wedging := true, step := 0, own := 0, peer := 0, fails := 0, reentry := false, again := false, quick := false,
      waking := false, armed := false, clkFault := false, moved := [], failSeen := false, serial := false })).readCal i

/-- A copy of a calibration record is valid for a strand (R418). -/
def State.calValid (s : State) (i : Nat) (b : List Byte) : Bool :=
  field b 0 4 == 0x41434C43 && byteAt b 4 == 3 && byteAt b 5 == s.build.persCode && field b 6 2 == i &&
    field b 0x18 2 == s.build.laneCount && crc32c (b.take 0x1C ++ b.drop 0x20) == field b 0x1C 4

/-- Settings that a record holds. -/
def recordLanes (n : Nat) (b : List Byte) : List LaneSet :=
  (List.range n).map (fun k =>
    let w := field b (0x20 + 2 * k) 2
    { phase := bits w 5 0, vref := bits w 11 6, drive := bits w 14 12, trained := bit w 15 })

/-- The newer of the valid copies: its number and bytes (R418: GEN by serial-number arithmetic). -/
def newerCopy (ok : List Byte → Bool) (a b : List Byte) : Option (Nat × List Byte) :=
  if ok a && ok b then
    (if (field b 8 4 + 2 ^ 32 - field a 8 4) % 2 ^ 32 < 2 ^ 31 && field b 8 4 != field a 8 4 then some (1, b) else some (0, a))
  else if ok a then some (0, a) else if ok b then some (1, b) else none

/-- Step W1 of a strand begins. -/
def State.wedgeFromW1 (s : State) (i : Nat) : State :=
  s.modStrand i (fun x => { x with step := 1, own := 0, peer := 0, again := false, meas := [], peerEye := [] })

/-- Both copies have been read: the seed is chosen (R421), or a woken strand's settings (R513). -/
def State.seedStrand (s0 : State) (i : Nat) : State :=
  let (inj, s) := if s0.inj.param = 3 ∨ s0.inj.param = 4 then s0.fire 0x34 i else (false, s0)
  let x := s.strand i
  let len := 8 * s.calWords
  let best := if inj && s.inj.param == 3 then none else newerCopy (s.calValid i) (x.calBuf.take len) (x.calBuf.drop len)
  let plain : List LaneSet := List.replicate s.build.laneCount { drive := s.fld 0x27C0 3 1 }
  let note (seed : Nat) (ls : List LaneSet) (duty : Nat) (quick : Bool) (rec : Option (Nat × Nat)) (s : State) : State :=
    s.modStrand i (fun y => { y with
      seed := seed, lanes := ls, duty := duty, quick := quick, calRead := true, calRec := rec, calBuf := []
      was := some (y.was.getD (y.lanes, y.duty)) })
  let s1 := match best with
    | none => note 0 plain 16 false none ((s.sticky 0x201C 2).raise 0x0A04 i 0 inj)
    | some (copy, b) =>
      let t := ofInt16 (field b 0x14 2)
      let off := (s.groupTemp i - t).natAbs
      let rec_ := some (field b 8 4, copy)
      let ls := recordLanes s.build.laneCount b
      let duty := bits (byteAt b 0x16) 4 0
      let src := if byteAt b 0x17 = 1 then 2 else 1
      if x.waking && off ≤ 16 * s.fld 0x2000 4 0 && !inj then note src ls duty true rec_ s
      else if inj || off > 320 then note 0 plain 16 false rec_ ((s.sticky 0x201C 3).raise 0x0A05 i 0 inj)
      else if s.flag 0x2080 1 then note src ls duty false rec_ s
      else note 0 plain 16 false rec_ s
  if x.waking then s1 else s1.wedgeFromW1 i

/-- Failing lanes found in wedging change the repair state at once, without fills, and the peer is told (R442, R448); the strand
re-enters W2 unless it can no longer run. -/
def State.wedgeLanes (s : State) (i : Nat) (lanes : List Nat) : State :=
  let x := s.strand i
  let rx := (failLanes s.build x.rx [] lanes).1
  if rx = x.rx then s
  else
    let s1 := ((s.modStrand i (fun y => { y with rx := rx })).writeRepair i).sendRec i 0 2
    let s2 := forEach (switchedIn s.build x.rx rx 0) (fun _ s => ((s.bumpSat 0x280C 15 0 1).sticky 0x2808 1).raise 0x0121 i) s1
    forEach (lostNow s.build x.rx rx) (fun _ s => (s.sticky 0x2808 2).raise 0x0122 i) s2

/-- An attempt has failed at a step (R407, R448). -/
def State.wedgeFail (s0 : State) (i at_ : Nat) (lanes : List Nat) (inj : Bool) : State :=
  let s := s0.modStrand i (fun y => { y with failSeen := true })
  let x := s.strand i
  if x.reentry then (s.endWedge i).retire i
  else if x.fails = 0 then (s.modStrand i (fun y => { y with fails := 1, quick := false })).wedgeFromW1 i
  else
    let s1 := (s.sticky 0x2088 1).raise 0x0111 i 0 inj
    if at_ = 2 ∨ at_ = 3 then
      ((s1.modStrand i (fun y => { y with fails := 2, reentry := true })).wedgeLanes i lanes).reenter i
    else (s1.endWedge i).retire i

/-- Both sides have signed off: the initiating side asks for the join (R405). -/
def State.checkSignoff (s : State) (i : Nat) : State :=
  let x := s.strand i
  if x.wedging && x.own == 6 && x.peer == 6 && x.join.isNone && s.initiates then s.beginSvc i true 0 else s

/-- What a sweep has found enters the settings of a strand. -/
def State.takeMeas (s : State) (i : Nat) (ms : List LaneMeas) (reads : Bool) : State :=
  let ls := (List.range s.build.laneCount).map (fun k =>
    let l := s.laneSet i k
    match ms.find? (fun m => m.lane == k) with
    | some m => if reads then { l with read := m.read } else { l with phase := m.phase, vref := m.vref, trained := true }
    | none => l)
  let ls := vldSettings s.build (ms.map (·.lane)) reads ls
  s.modStrand i (fun x => { x with lanes := ls, meas := if reads then x.meas else ms })

/-- A woken strand's turn to pass W2 and W3 has come: no lower strand of its group has them before it (R513). -/
def State.sweepTurn (s : State) (i : Nat) : Bool :=
  !(s.strand i).serial || (List.range i).all (fun j =>
    let y := s.strand j
    j / 16 != i / 16 || !y.serial || !y.wedging || y.quick || 3 ≤ y.own)

/-- A trained lane that can still serve: a replaced lane and a spare known to be bad cannot, and fail no step. -/
def State.rxServes (s : State) (i k : Nat) : Bool :=
  let x := s.strand i
  match s.build.place k with
  | none => true
  | some (g, p) => (x.rx.laneAt g p).isSome || (p == 8 && !bit x.rx.bad g)

/-- A wedging step ends at this side's receiver (R403, R407). -/
def State.wedgeStepDone (s0 : State) (i : Nat) (fail : Bool) (all : List LaneMeas) : State :=
  let x := s0.strand i
  let ms := all.filter (fun m => s0.rxTrained i m.lane)
  if !x.wedging || x.step == 0 || x.own ≥ x.step || ((x.step == 2 || x.step == 3) && !s0.sweepTurn i) then s0
  else
    let step := x.step
    let (inj, s1) := s0.fire 0x07 i
    let (row, s) := if step = 5 then s1.fire 0x09 i else (false, s1)
    let empty := if step = 2 ∨ step = 3 then (ms.filter (fun m => m.width == 0 && s.rxServes i m.lane)).map (·.lane) else []
    let badRow := step = 5 ∧ (fail ∨ (row ∧ s.inj.param ≠ 7))
    if fail || inj || !empty.isEmpty || decide badRow then
      let s2 := s.sendStep i step false
      let s3 := if badRow then (s2.sticky 0x2088 5).raise 0x0115 i 0 row else s2
      s3.wedgeFail i step empty (inj || row)
    else
      let s2 := if step = 1 then (s.modStrand i (fun y => { y with armed := true, clkFault := false })).correctDuty i
        else if step = 2 ∨ step = 3 then s.takeMeas i ms false
        else if step = 4 then s.takeMeas i ms true else s
      let shorts := if step = 6 then (x.meas.filter (fun m => s.short m && s.rxInUse i m.lane)).map (·.lane) else []
      if !shorts.isEmpty then (s2.wedgeLanes i shorts).reenter i
      else
        let next := if step = 1 ∧ x.quick then 4 else step + 1
        let s3 := s2.modStrand i (fun y => { y with own := next - 1, step := min 6 next })
        let s4 := s3.sendStep i step true
        (if step = 3 then s4.sendEyes i ms else s4).checkSignoff i

/-- The strand does not sign off in time (R407). -/
def State.wedgeTimeout (s : State) (i : Nat) : State :=
  let x := s.strand i
  if !x.wedging || x.step == 0 || (x.own == 6 && x.peer == 6) then s
  else (s.sendStep i x.step false).wedgeFail i 0 [] false

/-- A STEP message (R409) in wedging. A FAIL is taken as a repetition, or as crossing this side's own, until the peer has reported a step
done since the last failure (DEDUCED); a repeated W3 may fail too (R403). -/
def State.peerStep (s : State) (i step : Nat) (ok : Bool) : State :=
  let x := s.strand i
  if !x.wedging || x.step == 0 then s
  else if ok then (s.modStrand i (fun y => { y with peer := max y.peer step, failSeen := false })).checkSignoff i
  else if x.failSeen then s
  else s.wedgeFail i step [] false

/-- VREF_EYE (R404): in wedging the drive steps follow at once, and a change repeats W3 once; in a calibration they wait for the
application, and follow at once after it. -/
def State.vrefEye (s : State) (body : List Byte) : State :=
  let i := byteAt body 0
  let k0 := 128 * byteAt body 1
  let eyes := (List.range (min 128 (body.length - 4))).map (fun j => (k0 + j, byteAt body (4 + j))) |>.filter (fun p => p.1 < s.build.laneCount)
  let x := s.strand i
  if i ≥ s.build.strands then s
  else if x.wedging && x.step != 0 then
    let ls := s.adjustDrive i eyes (s.allLanes i)
    let changed := ls != s.allLanes i
    let repeats := changed && !x.again && 2 ≤ x.own && 3 ≤ x.step
    (s.setDrives i ls).modStrand i (fun y => { y with
      again := y.again || changed, own := if repeats then 2 else y.own, step := if repeats then 3 else y.step })
  else match s.cal.filter (fun (c : CalRun) => c.strand == i && c.phase != .agreed) with
    | none => s
    | some c =>
      if c.restored ∨ c.failed then s
      else if c.applied then s.setDrives i (s.adjustDrive i eyes (s.allLanes i))
      else s.modStrand i (fun y => { y with peerEye := y.peerEye ++ eyes })

/-! ## Clock, VLD and TRK (R358, R361) -/

/-- A lane failure of a strand's received direction: code, sticky bit of CL_PHY_STICKY, then the hand-over. -/
def State.phyFail (s : State) (i code bitNo : Nat) (inj : Bool) : State := (((s.sticky 0x27C8 bitNo).raise code i 0 inj).laneLost i)

/-- The clock detector of a strand is armed (R358): in BISQUE, FIRED, CRAZED, HOLD, FILL, CAL and TEST; while the strand trains or wedges,
once its receiver has first locked. -/
def Strand.watched (x : Strand) : Bool :=
  match x.sub with
  | .hold | .fill | .test => true
  | .cal => x.armed || !(x.wedging || x.state == .greenware)
  | .none => x.state == .bisque || x.state == .fired || x.state == .crazed

/-- VLD and TRK are checked: the detector is armed and reports neither STOP nor LANE (R361, R375). -/
def Strand.tracked (x : Strand) : Bool := x.watched && !x.clkFault

/-- Strands whose clock detector is armed. -/
def State.armedStrands (s : State) : List Nat := (List.range s.build.strands).filter (fun i => (s.strand i).watched)

/-- The clock detector of a strand reports STOP or LANE. -/
def State.clkReport (s : State) (i : Nat) : State := s.modStrand i (fun x => { x with clkFault := true })

/-- One lane of the clock pair stops (R358). -/
def State.fwdClkLane (s : State) (i : Nat) : State :=
  if (s.strand i).watched then (s.clkReport i).phyFail i 0x0102 2 false else s

/-- The VLD pattern is wrong for 16 LCLK (R361), on the bisque channel too (R397). -/
def State.vldFail (s : State) (i : Nat) (inj : Bool) : State :=
  let x := s.strand i
  if x.tracked && (x.state == .fired || x.state == .crazed || (x.state == .bisque && x.sub == .none)) then s.phyFail i 0x0103 3 inj else s

/-- TRK errors exceed 64 in a frame (R361). -/
def State.trkFail (s : State) (i : Nat) (inj : Bool) : State := if (s.strand i).tracked then s.phyFail i 0x0104 4 inj else s

/-- TRK's tracked centre has drifted by TRK_THR (R361, R375). -/
def State.trkDrift (s : State) (i : Nat) (inj : Bool) : State :=
  let x := s.strand i
  if !x.tracked || (x.state != .fired && x.state != .crazed) then s
  else
    let s1 := if x.trkSeen || x.dueAt.isSome || x.sub == .cal then s
      else ((s.sticky 0x27C8 5).raise 0x0105 i 0 inj).modStrand i (fun y => { y with trkSeen := true })
    if x.sub = .cal then s1 else s1.makeDue i

end Sys2Proof.Machine
end

