-- ==== Sys2Proof/Machine/Bist.lean ====
section
/-! DEFINITION. Self-test: segments and their signatures, slices in service, sweeps and coverage, full BIST, and the cones' reference
checks (R526, R530 to R544, R561). -/

namespace Sys2Proof.Machine

/-! ## Segments (R530, R533) -/

/-- Changes the self-test record. -/
def State.modBist (s : State) (f : Bist → Bist) : State := { s with bist := f s.bist }

/-- The TST domain is on and out of reset. -/
def State.tstOn (s : State) : Bool := s.domainOn 22 && !s.cfgHeld

/-- Duration of a segment in ns: LOOP, VREF_p, DUTY. -/
def segmentNs (seg : Nat) : Nat := if seg = 1 then 1024 else if seg = 18 then 400 else 200

/-- Lanes that a segment compares, ascending: D, SP, VLD and TRK outside lost groups for LOOP; for VREF those of the RX direction (CK
and CKB have no receiver settings, R418); CK for DUTY. -/
def State.testLanes (s : State) (i seg : Nat) : List Nat :=
  let x := s.strand i
  let ck := 17 * (s.build.groups / 2)
  let lost := if seg = 1 then x.rx.lost ||| x.tx.lost else x.rx.lost
  if seg = 18 then [ck]
  else (List.range s.build.laneCount).filter (fun k =>
    match s.build.place k with
    | some (g, _) => !bit lost g
    | none => k ≥ ck + 2)

/-- Units of a segment: one to a lane, but one to a lane and UI for LOOP. -/
def State.testUnits (s : State) (i seg : Nat) : Nat :=
  (s.testLanes i seg).length * (if seg = 1 then (if s.build.pers = .V then 4096 else 8192) else 1)

/-- The signature of unit results in the order of comparison, with their count folded in (R533). -/
def signature (units : List Bool) : Nat :=
  crcBytes 0x82F63B78 (units.foldl (crcBit 0x82F63B78) 0xFFFFFFFF) (toLe 4 units.length)

/-- The PAT_TRAIN bit predicted for UI `u` of a segment, from the 15 bits received before it (R387): a lane's bits as received, of which the
first 15 came before the segment's first UI. -/
def predictedBit (bits u : Nat) : Bool := bit bits u != bit bits (u + 1)

/-- A unit passes its criterion (R532). LOOP: the bit received in the UI is the predicted one. VREF_p: the level of code 4p, in quarters of a
step of VDDQ / 126 above 0 V, is within 1.5 steps of 0.25 VDDQ + 4p steps, and above that of VREF_(p - 1) where this run has measured it. DUTY:
the duty cycle, in 1/100 %, is within 50 % ± 2 %. -/
def unitPasses (seg : Nat) (value : Nat) (before : Option Nat) (u : Nat) : Bool :=
  if seg = 1 then bit value (u + 15) == predictedBit value u
  else if seg = 18 then 4800 ≤ value && value ≤ 5200
  else
    let want := 126 + 16 * (seg - 2)
    want ≤ value + 6 && value ≤ want + 6 && before.all (· < value)

/-- What unit `u` of a segment names of a failure (R544): its lane, UI index and pattern bit. -/
def State.unitFail (s : State) (lanes : List Nat) (seg : Nat) (measured : List Nat) (u : Nat) : BistFail :=
  let k := u % lanes.length
  { lane := s.build.laneCode (lanes.getD k 0)
    ui := if seg = 1 then u / lanes.length else if seg = 18 then 0xFFFFFFFF else 0xFFFFFF00 + 4 * (seg - 2)
    pattern := if seg = 1 then b2n (predictedBit (measured.getD k 0) (u / lanes.length)) else 0xFF
    segment := seg }

/-- How a segment was judged: passed, cut short, and its failing units in the order of comparison. -/
structure Judged where
  pass  : Bool
  short : Bool
  fails : List BistFail
  /-- A firing made it fail, or cut it short (R559). -/
  inj   : Bool

/-- Judges a segment (R532 to R534) of which `count` units were compared: `measured` is what each lane received or measured, and `before` the
levels of the run's VREF segment before it. An injected signature difference names the first unit; an injected short end leaves out the last
unit and takes the signature as equal. -/
def State.judge (s0 : State) (i seg : Nat) (measured before : List Nat) (count0 : Nat) (complete0 : Bool) : Judged × State :=
  let (differ, s1) := s0.fire 0x30 i
  let (early, s) := s1.fire 0x31 i
  let lanes := s.testLanes i seg
  let n := s.testUnits i seg
  let count := count0 - b2n early
  let complete := complete0 && !early
  let passes (u : Nat) : Bool := unitPasses seg (measured.getD (u % lanes.length) 0) before[u % lanes.length]? (u / lanes.length)
  let units := (List.range count).map passes
  let ok := complete && count == n && (early || signature units == signature (List.replicate n true)) && !differ
  let bad := if early then [] else ((List.range count).filter (fun u => !passes u)).map (s.unitFail lanes seg measured)
  let named := if bad.isEmpty && complete && !ok then [s.unitFail lanes seg measured 0] else bad
  let fails := named.map (fun (f : BistFail) => { f with inj := differ })
  (⟨ok, !complete, fails, if complete then differ else early⟩, s)

/-- The levels that stand for the next VREF segment of the run (R532). -/
def levelsAfter (seg : Nat) (measured : List Nat) : List Nat := if 2 ≤ seg ∧ seg ≤ 17 then measured else []

/-! ## Sweeps (R540) -/

/-- Test points of a sweep. -/
def State.testPoints (s : State) : Nat :=
  18 * countWhere (fun i => (s.strand i).state != .shard) (List.range s.linkStrands) + 10 + s.build.sgs

/-- Points exercised in the sweep. -/
def State.exercised (s : State) : Nat :=
  ((s.strands.map (fun (x : Strand) => x.seen.length)).foldl (· + ·) 0) + s.bist.conesSeen.length

/-- A sweep ends once both rotations have wrapped: coverage and duration are latched. -/
def State.checkSweep (s : State) : State :=
  match s.bist.from_ with
  | none => s
  | some t =>
    if !(s.bist.strandEnd && s.bist.coneEnd) then s
    else
      let cover := min 65535 (65536 * s.exercised / s.testPoints)
      let s1 := (s.setFld 0x340C 15 0 cover).setReg 0x3410 (BitVec.ofNat 32 ((s.now - t) / 100))
      let s2 := if s.bist.skipped then s1.sticky 0x3408 4 else s1
      { s2 with
        bist := { s2.bist with from_ := none, strandEnd := false, coneEnd := false, skipped := false, conesSeen := [] },
        strands := s2.strands.map (fun (x : Strand) => { x with seen := [], passed := false, segment := 1 }) }

/-- A sweep begins: nothing has been exercised in it (R540). -/
def State.beginSweep (s : State) : State :=
  { s with
    bist := { s.bist with from_ := some s.now, strandEnd := false, coneEnd := false, skipped := false, conesSeen := [] }
    strands := s.strands.map (fun (x : Strand) => { x with seen := [], passed := false }) }

/-- The rotation moves past a strand. -/
def State.rotate (s : State) (skip : Bool) : State :=
  let n := s.bist.cand + 1
  let wrap := decide (n ≥ s.linkStrands)
  s.modBist (fun (b : Bist) => { b with
    cand := if wrap then 0 else n, strandEnd := b.strandEnd || (wrap && b.from_.isSome), skipped := b.skipped || skip })

/-! ## Slices (R535 to R537) -/

/-- A strand may be taken for a slice (R535). -/
def State.testable (s : State) (i : Nat) : Bool :=
  let x := s.strand i
  (x.state == .fired || x.state == .crazed) && x.sub == .none && x.service && x.dueAt.isNone && x.leave.isNone && !s.isMember i &&
    s.allSets.all (fun (g : SetRun) => g.standby != some i || g.covers.isNone) && s.inService.length ≥ 2 &&
    !s.strands.any (fun (y : Strand) => y.sub == .test)

/-- Sends a TEST message (R536). -/
def State.sendTest (s : State) (i row : Nat) (withdraw : Bool) : State :=
  s.pushMsg 0x38 (toLe 1 i ++ toLe 1 (b2n withdraw) ++ toLe 2 (row % 4096))

/-- A slice on a strand is proposed for the first boundary at least 64 rows ahead. -/
def State.proposeSlice (s : State) (i budget : Nat) (desc : Option Nat) : State :=
  let row := boundaryFrom (s.lclk + 64)
  (s.modBist (fun (b : Bist) => { b with slice := some { strand := i, row := row, mine := true, desc := desc, budget := budget } })).sendTest i row false

/-- The rotation looks for the first eligible strand from its candidate, over at most `n` strands: one that is not is passed over for the rest
of the sweep. -/
def State.rotateTo : Nat → State → State
  | 0, s => s
  | n + 1, s =>
    let i := s.bist.cand
    if (s.strand i).passed then (s.rotate false).rotateTo n
    else if s.testable i then s.proposeSlice i (1000 * s.fld 0x3400 22 16) none
    else ((s.modStrand i (fun x => { x with passed := true })).rotate true).rotateTo n

/-- The cones that the instance has, ascending. -/
def State.coneList (s : State) : List Nat := (List.range 26).filter (fun i => coneExists s.build i)

/-- The instance's last cone. -/
def State.lastCone (s : State) (i : Nat) : Bool := s.coneList.all (fun k => k ≤ i)

/-- The next cone of the cone rotation is checked against its reference (R538). -/
def State.checkCone (s : State) : State :=
  match s.coneList.find? (fun i => i ≥ s.bist.cone) with
  | none => s
  | some i => { s with
      cones := modAt (fun (c : Cone) => { c with check := true }) i s.cones,
      bist := { s.bist with cone := if s.lastCone i then 0 else i + 1 } }

/-- A strand that was to be tested, or already is, does not leave service after all (R536). -/
def State.unslice (s : State) (i : Nat) : State :=
  s.modStrand i (fun x =>
    if x.draining || (x.sub == .test && x.mergeFrom.isSome) then
      { x with service := true, draining := false, sub := .none, mergeUntil := none } else x)

/-- A slice is given up: its strand stays in service, and a BIST_SLICE that asked for it goes on waiting, as long as it has left (R536,
R542). -/
def State.giveUp (s : State) (c : Slice) : State :=
  let back := match c.desc with
    | some d => [{ desc := d, strand := c.strand, budget := c.budget, frames := c.frames : SliceWait }]
    | none => []
  s.modBist (fun (b : Bist) => { b with slice := none, waits := back ++ b.waits })

/-- The side that asked for a slice finds that it cannot run it: the strand does not leave service, or returns to it (R536). -/
def State.withdrawSlice (s : State) (c : Slice) : State := ((s.giveUp c).unslice c.strand).sendTest c.strand c.row true

/-- BIST_SLICEs that wait: the first whose strand is eligible is proposed; one that has waited 64 frames ends (R542). -/
def State.serveSlices (s : State) : State :=
  let aged := s.bist.waits.map (fun (w : SliceWait) => { w with frames := w.frames + 1 })
  let later := s.bist.slice.map (fun (c : Slice) => if c.phase = .agreed then { c with frames := c.frames + 1 } else c)
  let s1 : State := match s.bist.slice, aged.find? (fun w => w.frames < 64 && s.testable w.strand && s.tstOn) with
    | none, some w =>
      ((s.modBist (fun (b : Bist) => { b with waits := aged.filter (fun v => v.desc != w.desc) })).proposeSlice w.strand w.budget
        (some w.desc)).modBist (fun (b : Bist) => { b with slice := b.slice.map (fun (c : Slice) => { c with frames := w.frames }) })
    | _, _ => s.modBist (fun (b : Bist) => { b with waits := aged, slice := later })
  let old := s1.bist.waits.filter (fun w => w.frames ≥ 64)
  let result := toLe 4 0 ++ toLe 4 0 ++ toLe 2 (s1.fld 0x340C 15 0) ++ [0, 0] ++ toLe 4 (s1.regN 0x3410)
  forEach old (fun (w : SliceWait) s => s.complete w.desc 0x60 result)
    (s1.modBist (fun (b : Bist) => { b with waits := b.waits.filter (fun w => w.frames < 64) }))

/-- A slice agreed for a boundary that has come starts (R536, R537): the strand leaves service, and once its replay buffer is empty it
enters TEST (R291). -/
def State.startSlice (s : State) : State :=
    match s.bist.slice with
    | none => s
    | some c =>
      if c.phase ≠ .agreed ∨ c.row > s.lclk then s
      else if c.mine && (!s.tstOn || (!(s.strand c.strand).draining && !s.testable c.strand)) then s.withdrawSlice c
      else if !((s.strand c.strand).service || (s.strand c.strand).draining) || (s.strand c.strand).sub != .none then
        s.modBist (fun (b : Bist) => { b with slice := none })
      else if !((s.standDown c.strand c.row).strand c.strand).link.drained then
        -- The peer may still withdraw the slice that it asked for: the strand stays in the merge until it enters TEST.
        (s.standDown c.strand c.row).modStrand c.strand (fun x => if c.mine then x else { x with mergeUntil := none })
      else
        let s1 := ((s.standDown c.strand c.row).leaveFor c.strand .test).modStrand c.strand (fun x => { x with
          mergeUntil := some (x.mergeUntil.getD c.row) })
        if c.mine then s1.modBist (fun (b : Bist) => { b with slice := some { c with phase := .segments, used := 400, start := s.now } })
        else (s1.modBist (fun (b : Bist) => { b with slice := some { c with phase := .done, start := s.now } })).sendStep c.strand 7 true

/-- Step 5 of a boundary: a slice agreed for it starts, and slices are attempted (R310, R535, R536). -/
def State.bistFrame (s : State) (frame : Nat) : State :=
  let s2 := s.startSlice.serveSlices
  if !(s2.flag 0x3400 0 && s2.tstOn) || frame % (max 1 (s2.fld 0x3400 15 8)) != 0 then s2
  else
    let s3 := if s2.bist.from_.isSome then s2 else s2.beginSweep
    let s4 := s3.checkCone
    (if s4.bist.slice.isSome then s4 else s4.rotateTo s4.linkStrands).checkSweep

/-- A TEST message is received (R536): crossing messages are resolved as crossing CAL messages are (R411). -/
def State.testMsg (s : State) (body : List Byte) : State :=
  let i := byteAt body 0
  let withdraw := bit (byteAt body 1) 0
  match s.rowBoundary (field body 2 2 % 4096) with
  | none => s
  | some row =>
    let theirs : Slice := { strand := i, row := row, mine := false }
    let set (c : Option Slice) (s : State) : State := s.modBist (fun (b : Bist) => { b with slice := c })
    if i ≥ s.build.strands then s
    else match s.bist.slice with
      | none => if withdraw then s else set (some theirs) s
      | some c =>
        if withdraw then (if c.strand = i ∧ (c.phase = .agreed ∨ c.row % 4096 = field body 2 2 % 4096) then (s.giveUp c).unslice i else s)
        else if c.phase ≠ .agreed ∨ !c.mine then s
        else if c.strand = i then set (some { c with row := min c.row row }) s
        else if c.row < row ∨ (c.row = row ∧ c.strand < i) then s
        else (set (some theirs) (s.giveUp c)).sendTest c.strand c.row true

/-- RESULT and status of a BIST_SLICE (R542). -/
def State.sliceDone (s : State) (c : Slice) : State :=
  match c.desc with
  | none => s
  | some d =>
    let status := match s.partnerStatus with
      | some st => if c.short then st else 0
      | none => 0
    let status := if status ≠ 0 then status else if c.aborted then 0x60 else if c.failed then 0x53 else if c.short then 0x52 else 0
    let pass := !c.failed && !c.short && !c.aborted
    s.complete d status (toLe 4 (b2n pass + 2 * b2n c.short) ++ toLe 4 (s.now - c.start) ++ toLe 2 (s.fld 0x340C 15 0) ++ [0, 0]
      ++ toLe 4 (s.regN 0x3410))

/-- The counts and records of a slice of this side that ends (R541). -/
def State.countSlice (s : State) (c : Slice) : State :=
  let s1 := s.bumpWrap 0x3414 31 0 1
  let s2 := if c.failed then s1.bumpSat 0x3418 15 0 1 else s1
  let s3 := if c.short then ((s2.bumpSat 0x3418 31 16 1).sticky 0x3408 1).raise 0x0A21 c.strand c.cutSeg c.inj else s2
  s3.sliceDone c

/-- Both sides have reported RUN: the check of R416 follows, or, where a planned repair waits, the leave that takes the strand to HOLD at
the boundary at which it would have joined (R541). -/
def State.checkRun (s : State) : State :=
  match s.bist.slice with
  | none => s
  | some c =>
    if c.phase ≠ .done ∨ !c.peer then s
    else
      let s1 := s.modBist (fun (b : Bist) => { b with slice := none })
      if !(s.strand c.strand).waits.isEmpty then s1.beginSvc c.strand false 0
      else { s1 with sliceRun := some {
          strand := c.strand, row := c.row, mine := c.mine, phase := .verify, former := s.allLanes c.strand } }

/-- The peer reports RUN (R537). -/
def State.peerRun (s : State) (i : Nat) : State :=
  match s.bist.slice with
  | none => s
  | some c => if c.strand = i then (s.modBist (fun (b : Bist) => { b with slice := some { c with peer := true } })).checkRun else s

/-- Segment `seg` of a strand has completed: it counts as exercised in the sweep that is under way (R540). -/
def State.markSegment (s : State) (i seg : Nat) : State :=
  s.modStrand i (fun x => { x with
    seen := if x.seen.contains seg || s.bist.from_.isNone then x.seen else x.seen ++ [seg], segment := if seg = 18 then 1 else seg + 1 })

/-- A segment of a slice ends. The slice's first failing unit is recorded, and is a planned trigger where BIST_ACT is set (R541). RESTORE follows
a cut of R539 in the same cycle all the same (R561). -/
def State.sliceSegment (s0 : State) (c : Slice) (measured : List Nat) (count : Nat) (complete : Bool) : State :=
  let i := c.strand
  let seg := (s0.strand i).segment
  let (j, s1) := s0.judge i seg measured c.levels count complete
  let failed := !j.pass && !j.short
  let code := (j.fails.head?.map (·.lane)).getD 0
  let s2 := if !failed || c.failed then s1
    else
      let t := (s1.sticky 0x3408 0).setReg 0x341C (BitVec.ofNat 32 (i + 512 * code + 2097152 * seg + 2147483648))
      let t := t.raise 0x0A20 i (code + 4096 * seg) j.inj
      if t.flag 0x2800 0 && t.flag 0x2800 1 then t.modStrand i (fun x => { x with waits := x.waits ++ [{ cause := .bist }] }) else t
  let s3 := if j.short then s2 else s2.markSegment i seg
  let used := c.used + segmentNs seg
  let c1 := { c with
    used := used, levels := levelsAfter seg measured, failed := c.failed || failed,
    short := c.short || j.short, cutSeg := if j.short && !c.short then seg else c.cutSeg
    inj := c.inj || (j.short && j.inj), endedAt := s0.lclk }
  let next := (s3.strand i).segment
  let more := !j.short && !c.aborted && seg != 18 && used + segmentNs next + 400 ≤ c.budget
  let s4 := s3.modBist (fun (b : Bist) => { b with slice := some { c1 with phase := if more then .segments else .restore } })
  if !j.short && seg = 18 && s4.bist.cand = i && c.desc.isNone then (s4.rotate false).checkSweep else s4

/-- RESTORE ends (R537). -/
def State.sliceEnd (s : State) : State :=
  match s.bist.slice with
  | none => s
  | some c =>
    if c.phase ≠ .restore then s
    else
      let c1 := { c with phase := .done }
      (((s.modBist (fun (b : Bist) => { b with slice := some c1 })).countSlice c1).sendStep c.strand 7 true).checkRun

/-- A set of either direction whose standby is in a slice lacks capacity: its reservations exceed what its active members hold (R539). -/
def State.starves (s : State) (i : Nat) : Bool :=
  (s.guard.sets ++ s.peerNamed).any (fun (g : SetRun) =>
    let live := g.members.filter s.activeStrand
    g.standby == some i && live.length < g.members.length && ((g.resv.map (·.2)).foldl (· + ·) 0) > 5120 * live.length)

/-- A standby in TEST whose set now lacks capacity ends its slice (R539). One whose last segment has ended in this cycle keeps that segment,
and reports ABORTED too (R561). -/
def State.checkAbort (s : State) : State :=
  match s.bist.slice with
  | none => s
  | some c =>
    let ended := c.phase = .restore ∧ c.aborted = false ∧ c.endedAt = s.lclk
    if (c.phase = .segments ∨ ended) ∧ s.starves c.strand then
      let cut : Slice := { c with
        phase := .restore, aborted := true, short := true, cutSeg := (s.strand c.strand).segment, endedAt := s.lclk }
      ((s.modBist (fun (b : Bist) => { b with slice := some (if c.phase = .segments then cut else { c with aborted := true }) })).sticky
        0x3408 2).raise 0x0A22 c.strand
    else s

/-- A slice whose strand has left TEST otherwise was cut short (R561). -/
def State.reapSlice (s : State) : State :=
  let s1 : State := match s.bist.slice with
    | none => s
    | some c =>
      if c.phase = .agreed ∨ (s.strand c.strand).sub = .test then s
      else
        let t := s.modBist (fun (b : Bist) => { b with slice := none })
        if c.phase = .segments ∨ c.phase = .restore then
          t.countSlice { c with short := true, cutSeg := (s.strand c.strand).segment }
        else t
  { s1 with sliceRun := s1.sliceRun.filter (fun c => (s1.strand c.strand).sub == .test) }

/-! ## BIST_SLICE and BIST_FULL (R542 to R544) -/

/-- Masks of BIST_SLICE and BIST_FULL. -/
def bistSliceMask : List Nat := [255, 0, 255, 255]
def bistFullMask : List Nat := [255, 255]

/-- BIST_SLICE. -/
def State.bistSliceCmd (s : State) (desc : Nat) (e : List Byte) : State :=
  let i := byteAt e 8
  let budget := field e 10 2
  let x := s.strand i
  s.checked desc [(i ≥ s.linkStrands, 0x11, 0x08), (budget > 64, 0x11, 0x0A), (x.state != .fired && x.state != .crazed, 0x11, 0x08),
    (s.isMember i, 0x11, 0x08), (!s.tstOn, 0x12, 0)] (fun s =>
      s.modBist (fun (b : Bist) => { b with waits := b.waits ++ [{
        desc := desc, strand := i, budget := if budget = 0 then 8000 else 1000 * budget }] }))

/-- The TX lanes of a strand may drive (R368, R500): its SG domain is on, the peer is present and has reported that its own is powered, and
the partner is neither QUIET nor LOST. -/
def State.mayDrive (s : State) (i : Nat) : Bool :=
  s.domainOn (i / 16) && s.presence.on && s.ready.any (fun r => bit r.sg (i / 16)) && s.partnerStatus.isNone

/-- The strands that run now in a full BIST: the lowest left of each group. -/
def FullRun.running (f : FullRun) : List Nat := (f.left.filter (fun p => !f.left.any (fun q => q.1 / 16 == p.1 / 16 && q.1 < p.1))).map (·.1)

/-- SETUP of strands that begin: the mode of each is chosen for its whole run (R531, R543). -/
def State.fullSetup (s : State) (ids : List Nat) : State :=
  let inner := ids.filter (fun i => !s.mayDrive i)
  s.modBist (fun (b : Bist) => { b with
    inner := b.inner || !inner.isEmpty, full := b.full.map (fun (f : FullRun) => { f with inner := f.inner ++ inner }) })

/-- The strand runs in INNER mode: its pads are isolated (R531). -/
def State.isInner (s : State) (i : Nat) : Bool :=
  s.bist.full.any (fun (f : FullRun) => f.inner.contains i && f.left.any (fun p => p.1 == i))

/-- BIST_FULL. -/
def State.bistFullCmd (s : State) (desc : Nat) (e : List Byte) : State :=
  let first := byteAt e 8
  let last := first + byteAt e 9
  let named := (List.range (last + 1)).filter (first ≤ ·)
  let ready (i : Nat) : Bool :=
    let x := s.strand i
    (x.state == .greenware || x.state == .shard) && x.sub == .none && s.domainOn (i / 16)
  s.checked desc [(first ≥ s.linkStrands, 0x11, 0x08), (last ≥ s.linkStrands, 0x11, 0x09), (!s.tstOn, 0x12, 0),
    (!named.all ready || s.bist.full.isSome, 0x11, 0x08)] (fun s =>
      let f : FullRun := { desc := desc, left := named.map (fun i => (i, 1)), cones := s.coneList }
      let s1 := forEach named (fun i s => s.modStrand i (fun x => { x with sub := .test })) s
      State.fullSetup { s1 with
        cones := s1.cones.mapIdx (fun k (c : Cone) => { c with check := c.check || coneExists s.build k }),
        bist := { s1.bist with full := some f, inner := false } } f.running)

/-- What a full BIST keeps of a strand's failures: the lowest lane in order of type and index, with its first failure. -/
def lowerFail (a : Option BistFail) (b : BistFail) : BistFail :=
  match a with
  | none => b
  | some x => if b.lane < x.lane then b else x

/-- A strand's full run ends: it returns to its former state. -/
def State.fullStrandEnd (s : State) (i : Nat) : State :=
  match s.bist.full with
  | none => s
  | some f =>
    let left := f.left.filter (fun p => p.1 != i)
    let s1 := s.modStrand i (fun x => { x with sub := if x.sub = .test then .none else x.sub })
    let s2 := match lookupKey i f.fails with
      | some b => s1.raise 0x0A20 i (b.lane + 4096 * b.segment) b.inj
      | none => s1
    let f1 := { f with left := left }
    (s2.modBist (fun (b : Bist) => { b with full := some f1 })).fullSetup (f1.running.filter (fun k => !f.running.contains k))

/-- A segment of a strand in a full BIST ends; all 18 are run, also after one that was cut short (R534, R543, R544). -/
def State.fullSegment (s0 : State) (f : FullRun) (i seg : Nat) (measured : List Nat) (count : Nat) (complete : Bool) : State :=
  let (j, s) := s0.judge i seg measured ((lookupKey i f.levels).getD []) count complete
  let failed := !j.pass && !j.short
  let fails := if failed then j.fails else []
  let low := fails.foldl (fun (acc : Option BistFail) u => some (lowerFail acc u)) none
  let found := if !failed then 0 else if seg = 1 then (fails.map (·.lane)).eraseDups.length else 1
  let f1 := { f with
    fails := match low with
      | some u => insertKey i (lowerFail (lookupKey i f.fails) u) f.fails
      | none => f.fails
    firsts := f.firsts ++ (fails.take 1).map (fun u => (i, u))
    found := f.found + found, short := f.short || j.short, levels := insertKey i (levelsAfter seg measured) f.levels
    left := f.left.map (fun p => if p.1 = i then (i, seg + 1) else p) }
  let s1 := s.modBist (fun (b : Bist) => { b with full := some f1 })
  let s2 := if j.short then s1.sticky 0x3408 1 else s1
  if seg = 18 then s2.fullStrandEnd i else s2

/-- A segment ends (R533): of a slice, or of a strand in a full BIST. One that ends in the cycle of R539's cut counts as complete (R561). -/
def State.segmentDone (s : State) (i : Nat) (measured : List Nat) (count : Nat) (complete : Bool) : State :=
  let cutNow (c : Slice) : Bool := c.phase == .restore && c.aborted && c.short && c.endedAt == s.lclk && complete
  match s.bist.slice.filter (fun c => c.strand == i && (c.phase == .segments || cutNow c)) with
  | some c => s.sliceSegment { c with short := c.short && c.phase == .segments } measured count complete
  | none =>
    match s.bist.full with
    | none => s
    | some f =>
      match lookupKey i f.left with
      | some seg => if f.running.contains i then s.fullSegment f i seg measured count complete else s
      | none => s

/-- Strands of a full BIST that have left TEST otherwise were cut short. -/
def State.reapFull (s : State) : State :=
  match s.bist.full with
  | none => s
  | some f =>
    let gone := f.left.filter (fun p => (s.strand p.1).sub != .test)
    if gone.isEmpty then s
    else forEach gone (fun p s => s.fullStrandEnd p.1)
      ((s.modBist (fun (b : Bist) => { b with full := some { f with short := true } })).sticky 0x3408 1)

/-- The full BIST has ended on every strand and cone (R544). -/
def State.fullDone (s : State) : State :=
  match s.bist.full with
  | none => s
  | some f =>
    if !f.left.isEmpty || !f.cones.isEmpty then s
    else
      let status := if f.found ≠ 0 then 0x53 else if f.short then 0x52 else 0
      let low := f.fails.head?
      let b : BistFail := (low.map (·.2)).getD { lane := 0, ui := 0, pattern := 0, segment := 0 }
      (s.modBist (fun (b : Bist) => { b with full := none })).complete f.desc status
        (toLe 2 ((low.map (·.1)).getD 0xFFFF) ++ toLe 2 b.lane ++ toLe 4 b.ui ++ toLe 1 b.pattern ++ zeros 3 ++ toLe 4 f.found)

/-- A cone's results keep its criterion (R538): a temperature cone's for its references of -40 °C and 125 °C, in units of 1/16 °C; a voltage
cone's for the bandgap voltage, in units of 0.5 mV; and a process cone's count, which lies within its LO and HI. -/
def State.conePasses (s : State) (i : Nat) (results : List Nat) : Bool :=
  let near (k : Nat) (want : Int) : Bool := (ofInt16 (results.getD k 0) - want).natAbs ≤ 24
  let r := results.getD 0 0
  if i < 20 then near 0 (-640) && near 1 2000
  else if i < 23 then r ≤ Config.bandgap + 10 && Config.bandgap ≤ r + 10
  else s.fld (0x3008 + 16 * i) 15 0 ≤ min r 65535 && min r 65535 ≤ s.fld (0x3008 + 16 * i) 31 16

/-- A cone's reference check ends with these results (R538). The last cone's check of a sweep ends the cone rotation (R540). -/
def State.coneRefDone (s0 : State) (i : Nat) (results : List Nat) : State :=
  if !(s0.cones.getD i {}).check then s0
  else
    let (inj, s) := s0.fire 0x2F i
    let ok := s.conePasses i results && !inj
    let inFull := (s.bist.full.map (fun f => f.cones.contains i)).getD false
    let s1 : State := { s with
      cones := modAt (fun (c : Cone) => { c with check := false }) i s.cones
      bist := { s.bist with
        conesSeen := if inFull || s.bist.from_.isNone || s.bist.conesSeen.contains i then s.bist.conesSeen else s.bist.conesSeen ++ [i],
        coneEnd := s.bist.coneEnd || (s.bist.from_.isSome && s.lastCone i && !inFull),
        full := s.bist.full.map (fun f => if inFull then { f with cones := f.cones.filter (· != i), found := f.found + b2n (!ok) } else f) } }
    let s2 := if ok then s1 else ((s1.sticky 0x3408 3).sticky (0x300C + 16 * i) 6).raise 0x0A12 i 0 inj
    s2.checkSweep

end Sys2Proof.Machine
end

