-- ==== Sys2Proof/Machine/Partner.lean ====
section
/-! DEFINITION. The partner: its states and causes, what its loss does, recovery, PULSEs, presence, heat and throttle (R303, R373,
R456, R491 to R502, R517 to R523). -/

namespace Sys2Proof.Machine

/-- PKG_ROLE code (R18). -/
def roleCode : Role → Nat
  | .compute => 0
  | .base => 1
  | .hub => 2
  | .third => 3

/-- State code of the partner (R494). -/
def PartnerState.code : PartnerState → Nat
  | .unknown => 0
  | .absent => 1
  | .present => 2
  | .active => 3
  | .quiet => 4
  | .lost => 5

/-- Instance state (R381). -/
def State.instState (s : State) : Nat :=
  let xs := (List.range s.linkStrands).map s.strand
  if s.kiln.instF || xs.all (fun (x : Strand) => x.state == .shard) then 4
  else if !s.inService.isEmpty then (if xs.any (fun (x : Strand) => x.state == .crazed || x.state == .shard) then 3 else 2)
  else if s.bisque.strand.any (fun i => (s.strand i).state == .bisque) then 1 else 0

/-- Every strand is GREENWARE, or also SHARD, whatever its substate. -/
def State.allGreen (s : State) (shardToo : Bool) : Bool :=
  s.strands.all (fun (x : Strand) => x.state == .greenware || (shardToo && x.state == .shard))

/-! ## EARLY_ID (R456, R457) -/

/-- Payload of EARLY_ID. -/
def State.earlyBody (s : State) : List Byte :=
  toLe 2 0x5E0D ++ toLe 1 3 ++ toLe 1 (s.fld 0x6400 7 0)
    ++ toLe 2 (s.straps.slotId + 32 * s.build.instanceNo + 256 * roleCode s.role + 1024 * s.build.persCode + 2048 * b2n s.build.saggar
      + 4096 * b2n s.straps.err + 8192 * b2n (s.instState == 4))
    ++ toLe 1 (s.build.strands - 1) ++ toLe 1 s.straps.feedTag ++ toLe 8 s.dieId

/-- Sends EARLY_ID. -/
def State.sendEarly (s : State) : State := s.sendFrame 0x30 s.earlyBody

/-- EARLY_ID is received: stored, and its three checks (R457). While the set-up domain is down its registers take nothing (R592). -/
def State.earlyId (s : State) (p : List Byte) : State :=
  let bad := bit (field p 4 2) 10 != (s.build.pers == .L) || byteAt p 2 < 2
  let s1 := { s with early := if s.cfgUp then some (padTo 16 p) else s.early }
  let s2 := if bad then (s1.sticky 0x6408 0).raise 0x0801 0 else s1
  if byteAt p 6 + 1 ≠ s.build.strands then (s2.sticky 0x6408 1).raise 0x0803 0 else s2

/-! ## Partner loss (R303, R498, R499) -/

/-- The peer's block, the record and the attestation are discarded (R468, R487, R498). -/
def State.discardNeg (s : State) : State :=
  { s with
    peerBlock := none, record := none, negDone := false, disc := { s.disc with negFail := false, peerCrc := none, link := none },
    sag := { s.sag with attPass := false, attFail := false, nonce := none } }

/-- The link is emptied: every strand returns to GREENWARE, and what travelled between the sides is dropped. Flits and messages of looped
streams stay. -/
def State.emptyLink (s : State) : State :=
  let s1 := forRange s.strands.length (fun i s => s.calEnded i 1) s.abandonCal
  State.discardNeg { s1 with
    strands := s1.strands.map Strand.green, bisque := {}, linkMsgs := [], mgmt := [], credDue := false,
    ghosts := s1.ghosts.filter (· ≥ 4096), cal := none, peerTime := none,
    port := s1.port.filter (fun x => match x with
      | .flit _ key _ | .fault key _ => key ≥ 4096
      | .message _ _ => false),
    sag := { s1.sag with fenced := false } }

/-- Descriptors that wait on the peer's strands complete with the status (R417, R451). -/
def State.endStrandCmds (s : State) (status : Nat) : State :=
  let s1 := forRange s.strands.length (fun i s =>
    let s1 := match (s.strand i).rep.bind (fun r => r.desc) with
      | some d => (s.complete d status (s.repairResult i none)).modRep i (fun r => { r with desc := none })
      | none => s
    s1.endWaits i status) s
  forEach s1.calReqs (fun r s => s.complete r.desc status
    (toLe 2 r.ok ++ toLe 2 r.failed.length ++ toLe 4 (s.regN 0x2010) ++ toLe 4 (s.regN 0x2014)
      ++ toLe 2 (((r.failed.map (·.1)).head?).getD 0xFFFF))) { s1 with calReqs := [] }

/-- Outbound streams toward the peer (R54, R59, R90): an open or a forced close that waits ends and leaves no context. -/
def State.loseTx (s : State) (status id : Nat) : State :=
  match s.tx? id with
  | none => s
  | some st =>
    if st.looped then s
    else match st.phase with
      | .opening d => ({ s with tx := eraseKey id s.tx }).complete d status
      | .closing d sent =>
        let forced := sent && st.fence == some 0x60
        let s1 := if forced then s.freeTx id
          else (s.interruptTx id status).modTx id (fun (t : TxStream) => { t with phase := .closing none true })
        match d with
        | some d => s1.complete d status
        | none => s1
      | .live => s.interruptTx id status

/-- Inbound streams from the peer (R90, R92). -/
def State.loseRx (s : State) (status key : Nat) : State :=
  match s.rx? key with
  | none => s
  | some st =>
    if st.looped then s
    else match st.closing with
      | some d => ({ s with rx := eraseKey key s.rx }).complete d status
      | none =>
        (s.interruptRx key status).modRx key (fun (t : RxStream) => { t with partnerLost := true, closeSeen := false })

/-- Packets that left whole and are not acknowledged are answered (R499). -/
def State.losePackets (s : State) (status id : Nat) : State :=
  match s.tx? id with
  | none => s
  | some st =>
    if st.cls ≠ 3 ∨ st.looped then s
    else
      let gone := st.ptSent.drop (st.ptSent.length - s.passUnacked id)
      forEach gone (fun p s => s.ptRespond st.cfg.vc p status) (s.setTx id { st with ptSent := [] })

/-- The work of entering QUIET or LOST (R498). -/
def State.lossWork (s : State) (status : Nat) : State :=
  let ids := s.tx.map (·.1)
  let s1 := forEach ids (fun id s => s.losePackets status id) (s.endStrandCmds status)
  let s2 := forEach ids (fun id s => s.loseTx status id) s1
  let s3 := forEach (s2.rx.map (·.1)) (fun key s => s.loseRx status key) s2
  let looped (id : Nat) : Bool := (s3.tx? id).any (fun (t : TxStream) => t.looped)
  let s4 := forEach s3.draws (fun d s => if d.keeper = 0 ∧ d.phase = .running ∧ !looped d.stream then s.suspendDraw d status else s) s3
  let s5 := forEach s4.restores (fun r s => match r.stream with
    | some key => if key ≥ 4096 then s else s.endRestore r status (restoreResult r.next r.running)
    | none => s) s4
  let s6 := s5.emptyLink
  { s6 with exch := {} }

/-- What entering QUIET or LOST does (R498). What it does not concern is as `s` has it, by construction. -/
def State.lossActions (s : State) (status : Nat) : State :=
  { s.lossWork status with
    build := s.build, straps := s.straps, resets := s.resets, lclkLock := s.lclkLock, lclkHold := s.lclkHold, pdReq := s.pdReq
    pdAck := s.pdAck, stations := s.stations, ptIn := s.ptIn, keepers := s.keepers, keys := s.keys, partner := s.partner
    cones := s.cones, dieId := s.dieId, dieIdOk := s.dieIdOk, ready := s.ready, presence := s.presence, trusted := s.trusted
    power := s.power, test := s.test, pending := s.pending, nextDesc := s.nextDesc, accNext := s.accNext }

/-- The partner state moves: a PARTNER_STATE event (R494, R495). -/
def State.movePartner (s : State) (p : PartnerState) : State :=
  ({ s with partner := p }).postEvent 0x0020 0 0 (toLe 1 p.code ++ toLe 1 s.pulse.cause)

/-- A cause of loss arises (R494, R495, R498): LOCAL 1, ANNOUNCED 2, PRESENCE 3, CLOCK 4, HEARTBEAT 5, IDENT 6. Only PRESENT and ACTIVE
take it. Without `event` no PARTNER_STATE event is posted (R303, RST_LINK_N). -/
def State.lose (s : State) (cause : Nat) (inj : Bool := false) (event : Bool := true) : State :=
  if s.partner ≠ .present ∧ s.partner ≠ .active then s
  else
    let lost := cause = 6 || (cause = 5 && s.partner == .active)
    let next := if lost then .lost else .quiet
    let pulse := { s.pulse with cause := cause }
    let s0 := { s with pulse := pulse }
    let s1 := (if event then s0.movePartner next else { s0 with partner := next }).lossActions (if lost then 0x20 else 0x21)
    let code := if lost then 0x0904 else if cause ≤ 2 then 0x0902 else 0x0903
    (({ s1 with partner := next, pulse := pulse }.bumpSat 0x6024 31 16 1).sticky 0x6028 (if lost then 2 else 1)).raise code 0 0 inj

/-- This side holds its link down (R494 LOCAL, R505): DOWN, or a reset of CFG, LINK or CORE. -/
def State.localDown (s : State) : Bool := s.flag 0x6010 0 || s.cfgHeld || s.linkHeld || s.coreHeld

/-- LOCAL is a condition that holds (DEDUCED): a side that is down leaves PRESENT at once. -/
def State.checkLocal (s : State) : State := if s.localDown && s.power.flush.isNone then s.lose 1 else s

/-- A partner that has recovered (R501). -/
def State.checkRecovery (s : State) : State :=
  if (s.partner = .quiet ∨ s.partner = .lost) ∧ !s.localDown ∧ s.presence.on ∧ s.pulse.greens ≥ 4 then
    (((s.movePartner .present).sticky 0x6028 3).raise 0x0905 0).startExchange
  else s

/-- A strand has entered service: PRESENT becomes ACTIVE (R495). -/
def State.checkActive (s : State) : State :=
  if s.partner = .present ∧ !s.inService.isEmpty then s.movePartner .active else s

/-! ## Presence (R373) -/

/-- PRESENCE rises: the record exchange starts, and EARLY_ID and LINK_READY are sent (R434, R456, R386). -/
def State.presenceRises (s : State) : State :=
  let s1 := (({ s with presence := { s.presence with on := true } }.startExchange).sendEarly).sendReady
  if s1.partner = .unknown ∨ s1.partner = .absent then (s1.movePartner .present).checkLocal else s1.checkRecovery

/-- PRESENCE falls: every strand is quieted (R368, R380), and the exchange starts again when it rises. -/
def State.presenceFalls (s : State) (inj : Bool) : State :=
  let s1 := { s with presence := { s.presence with on := false, good := 0 } }.sticky 0x27C8 0
  if s1.partner = .present ∨ s1.partner = .active then s1.lose 3 inj else { s1.emptyLink with exch := {} }

/-- A window of 16 CK_AON cycles ends with a number of sideband clock edges. -/
def State.presenceWindow (s0 : State) (edges0 : Nat) : State :=
  let (inj, s) := s0.fire 0x2A 0
  let edges := if inj then 0 else edges0
  let ok := decide (48 ≤ edges ∧ edges ≤ 80)
  let p := s.presence
  let s1 := { s with presence := { p with edges := min 255 edges, good := if ok then min 4 (p.good + 1) else 0 } }
  if p.on && !ok then s1.presenceFalls inj
  else if !p.on && s1.presence.good == 4 then s1.presenceRises else s1

/-! ## Heat and throttle (R517 to R522) -/

/-- The highest VALID reading of the temperature cones, in units of 1/16 °C (R517, R527). -/
def State.coneHeat (s : State) : Int :=
  let cs := (List.range 20).filter (fun i => coneExists s.build i && s.coneValid i)
  let vs := cs.map (fun i => ofInt16 (s.cones.getD i {}).value)
  match vs with
  | [] => ofInt16 (s.cones.getD 0 {}).value
  | v :: l => l.foldl max v

/-- This side's heat value and HEAT_VALID (R517). -/
def State.heatNow (s : State) : Int × Bool :=
  let own := s.coneHeat
  let given := ofInt16 s.pulse.heatIn
  match s.fld 0x6030 1 0 with
  | 0 => (own, true)
  | 1 => if s.pulse.inStale then (0, false) else (given, true)
  | _ => (if s.pulse.inStale then own else max own given, true)

/-- CRC-8 of a HEAT frame: polynomial 0x07, initial value 0, most significant bit first (R518). -/
def crc8 (bs : List Byte) : Nat := crcMsbBytes 8 0x07 0 bs

/-- The 34 bits of a HEAT frame, first bit in bit 0 (R518). -/
def heatFrame (temp : Nat) (valid : Bool) : Nat :=
  let bs := toLe 2 temp ++ toLe 1 (b2n valid)
  leNat (bs ++ toLe 1 (crc8 bs)) * 2 + 2 ^ 33

/-- THROTTLE is driven with a value in the COMPUTE role (R19, R521). -/
def State.drive (s : State) (v : Nat) : State :=
  if s.role ≠ .compute ∨ v = s.fld 0x6044 2 0 then s
  else ((s.setFld 0x6044 2 0 v).bumpWrap 0x6044 31 16 1).emit (.throttle v)

/-- Threshold k, from 1 to 4, as a signed number. -/
def State.heatT (s : State) (k : Nat) : Int :=
  ofInt16 (if k = 1 then s.fld 0x6038 15 0 else if k = 2 then s.fld 0x6038 31 16 else if k = 3 then s.fld 0x603C 15 0 else s.fld 0x603C 31 16)

/-- Lowers a level while the heat lies below its threshold by more than HYST (R521). -/
def State.lowerLevel (s : State) (h : Int) : Nat → Nat
  | 0 => 0
  | k + 1 => if h < s.heatT (k + 1) - (s.fld 0x6040 7 0 : Nat) then s.lowerLevel h k else k + 1

/-- A PULSE with HEAT_VALID sets the throttle level (R521). -/
def State.throttle (s : State) (heat : Nat) (wasStale : Bool) : State :=
  if s.role ≠ .compute then s
  else
    let h := ofInt16 heat
    let new := countWhere (fun k => decide (h ≥ s.heatT k)) [1, 2, 3, 4]
    let old := s.pulse.level
    let level := if wasStale ∨ new > old then new else s.lowerLevel h old
    let s1 := { s with pulse := { s.pulse with level := level } }
    let s2 := if level = 4 ∧ (wasStale ∨ old ≠ 4) then (s1.sticky 0x6048 2).raise 0x0911 0 else s1
    s2.drive level

/-- The peer's heat becomes stale (R522). -/
def State.heatStale (s : State) : State :=
  ((({ s with pulse := { s.pulse with stale := true } }.setFlag 0x6044 3 true).sticky 0x6048 0).raise 0x0910 0).drive (s.fld 0x6040 10 8)

/-- A frame is sent on HEAT_OUT, if enabled (R520). -/
def State.heatOut (s : State) (temp : Nat) (valid : Bool) : State := if s.flag 0x6030 2 then s.emit (.heatOut (heatFrame temp valid)) else s

/-- A HEAT_IN frame (R518, R519): its 34 bits. -/
def State.heatInFrame (s0 : State) (frame : Nat) : State :=
  if s0.aonHeld then s0
  else
    let (inj, s) := s0.fire 0x2D 0
    let w := frame / 2
    let good := !bit frame 0 && bit frame 33 && bits w 31 24 == crc8 (toLe 3 w) && !inj
    if good then
      if bit w 16 then { s with pulse := { s.pulse with heatIn := bits w 15 0, inStale := false } } else s
    else
      let s1 := (s.bumpSat 0x604C 15 0 1).sticky 0x6048 1
      if s.pulse.errFrame = some (s.now / 1024) then s1
      else { s1 with pulse := { s1.pulse with errFrame := some (s.now / 1024) } }.raise 0x0912 0 0 inj

/-! ## PULSEs (R491 to R493) -/

/-- A PULSE is started (R491, R492). -/
def State.pulseStart (s : State) : State :=
  if s.aonHeld then s
  else
    let (h, valid) := s.heatNow
    let heat := if valid then int16 h else 0
    let body := toLe 2 s.pulse.seq ++ toLe 2 heat
      ++ toLe 2 (b2n valid + 2 * b2n (s.allGreen true) + 4 * b2n s.localDown + 8 * b2n s.power.warn) ++ toLe 2 (s.fld 0x600C 15 0)
    { s with pulse := { s.pulse with seq := wrapAdd 16 s.pulse.seq 1, sent := heat } }.sendFrame 1 body

/-- A PULSE passes (R493, R494, R520, R521). -/
def State.pulseMsg (s : State) (p : List Byte) : State :=
  let w := field p 4 2
  let wasStale := s.pulse.stale
  let heat := field p 2 2
  let valid := bit w 0
  let good := bit w 1 && !bit w 2
  let q := { s.pulse with
    peerSeq := field p 0 2, heat := heat, heatValid := valid, green := bit w 1, down := bit w 2, warn := bit w 3, park := field p 6 2,
    winPulse := true, winHeat := s.pulse.winHeat || valid, winBad := s.pulse.winBad || !good }
  let s1 := { s with pulse := q }
  let s2 := if valid then (({ s1 with pulse := { q with stale := false } }.setFlag 0x6044 3 false).throttle heat wasStale) else s1
  let s3 := if s2.pulse.stale then s2 else s2.heatOut heat valid
  if bit w 2 then s3.lose 2 else s3

/-- A window of 50 CK_AON cycles ends (R493, R501, R520, R522). -/
def State.pulseWindow (s : State) : State :=
  if s.aonHeld then s
  else
    let q := s.pulse
    let misses := if q.winPulse then 0 else satAdd 8 q.misses 1
    let heatMiss := if q.winHeat then 0 else satAdd 8 q.heatMiss 1
    let s1 := { s with pulse := { q with
      misses := misses, heatMiss := heatMiss, greens := if q.winPulse && !q.winBad then min 4 (q.greens + 1) else 0,
      winPulse := false, winHeat := false, winBad := false } }
    let s2 := if heatMiss ≥ 8 ∧ !q.stale then s1.heatStale else s1
    let s3 := if s2.pulse.stale then s2.heatOut 0 false else s2
    (if misses ≥ 8 then s3.lose 5 (s3.inj.point == 0x29 && s3.inj.fired != 0) else s3).checkRecovery

/-- ABSENT_MS has passed since the release of RST_AON_N with PRESENCE 0 (R495). -/
def State.partnerAbsent (s : State) : State :=
  if s.partner = .unknown ∧ !s.presence.on ∧ !s.aonHeld then ((s.movePartner .absent).sticky 0x6028 0).raise 0x0901 0 else s

/-! ## Clock loss (R358, R496) -/

/-- The clock detectors of these strands see no toggle for 16 LCLK: all of the armed ones, or PRESENCE low, is a loss of the partner;
otherwise each is a clock lane failure. -/
def State.clockStop (s : State) (named : List Nat) (inj : Bool) : State :=
  let armed := s.armedStrands
  let hit := armed.filter named.contains
  let s1 := forEach hit (fun i s => s.clkReport i) s
  if hit.isEmpty then s
  else if hit.length = armed.length then s1.lose 4 inj
  else if !s.presence.on then s1
  else forEach hit (fun i s => s.phyFail i 0x0101 1 inj) s1

end Sys2Proof.Machine
end

