-- ==== Sys2Proof/Machine/Discovery.lean ====
section
/-! DEFINITION. Discovery: the identity block, the negotiated record, agreement, attestation, topology and package id (R459 to R477,
R484, R487). -/

namespace Sys2Proof.Machine

/-! ## The identity block and the record (R459, R463, R464, R467) -/

/-- Capability words that this instance sends (R463). -/
def State.ownCaps (s : State) : List Nat :=
  [0x00073FFF, 0x3F, 0x1F, 1, b2n (s.build.keySlots != 0) + 6 * b2n s.build.saggar, 0, 0, 0]

/-- "CLEDON3" in ASCII, padded. -/
def modelName : List Byte := padTo 16 [0x43, 0x4C, 0x45, 0x44, 0x4F, 0x4E, 0x33]

/-- This side's identity block (R459). -/
def State.ownBlock (s : State) : List Byte :=
  let b := s.build
  toLe 2 0x5E0D ++ toLe 1 3 ++ toLe 1 (s.fld 0x6400 7 0) ++ toLe 1 (s.straps.slotId + 32 * b.instanceNo) ++ toLe 1 s.straps.feedTag
    ++ toLe 1 (roleCode s.role + 4 * b.persCode + 8 * b2n b.saggar + 16 * b2n s.dieIdOk) ++ toLe 1 (b.strands - 1) ++ toLe 8 s.dieId
    ++ (s.ownCaps.map (toLe 4)).flatten ++ toLe 4 s.atomicMax ++ toLe 2 b.stagingMiB ++ toLe 1 b.ports ++ toLe 1 64 ++ toLe 2 4096
    ++ toLe 2 b.shelves ++ toLe 1 b.dispTables ++ toLe 1 b.keySlots ++ zeros 2 ++ modelName ++ toLe 4 (s.fld 0x6400 31 16) ++ zeros 44

/-- Capability word i of a block, with the bits cleared that a level 2 block loses (R464). -/
def blockCaps (b : List Byte) (i : Nat) : Nat :=
  let w := field b (16 + 4 * i) 4
  let keep (m : Nat) : Nat := w &&& (0xFFFFFFFF - m)
  if byteAt b 2 ≠ 2 then w
  else if i = 0 then keep 0x380 else if i = 2 then keep 6 else if i = 3 then keep 1 else w

/-- The negotiated record of two blocks (R467). -/
def recordOf (a b : List Byte) : List Byte :=
  let low (off len : Nat) : List Byte := toLe len (min (field a off len) (field b off len))
  toLe 1 (min 3 (min (byteAt a 2) (byteAt b 2))) ++ low 7 1 ++ toLe 1 (b2n (bit (byteAt a 6) 2)) ++ zeros 1
    ++ ((List.range 8).map (fun i => toLe 4 (blockCaps a i &&& blockCaps b i))).flatten
    ++ low 0x30 4 ++ low 0x34 2 ++ low 0x38 2 ++ low 0x37 1 ++ zeros 3
    ++ low 8 8 ++ toLe 8 (max (field a 8 8) (field b 8 8))

/-- A link record (R475). -/
def State.linkRecordNow (s : State) : List Byte :=
  let b := s.peerBlock.getD []
  let own := s.ownBlock
  let r := s.record.getD []
  slice own 8 8 ++ slice b 8 8 ++ slice own 4 1 ++ slice b 4 1 ++ slice own 3 1 ++ slice b 3 1 ++ slice own 5 1 ++ slice b 5 1
    ++ slice r 0 2 ++ toLe 1 (s.build.persCode + 2 * b2n (bit (byteAt b 6) 3) + 4 * b2n s.sag.attPass) ++ zeros 3 ++ toLe 4 s.now

/-! ## Agreement (R466, R468) -/

/-- This side must attest its peer before it agrees (R484). -/
def State.attRequired (s : State) : Bool := s.sagOn && s.flag 0x4000 2

/-- Both sides hold the same record: negotiation is complete (R466). -/
def State.checkAgree (s : State) : State :=
  match s.record with
  | none => s
  | some r =>
    if s.negDone || s.disc.negFail || s.disc.peerCrc != some (crc32c r) then s
    else { s with negDone := true, disc := { s.disc with link := some s.linkRecordNow } }

/-- The record is computed once the peer's block is held and any attestation has passed (R466). -/
def State.tryRecord (s : State) : State :=
  match s.peerBlock, s.record with
  | some b, none =>
    if s.disc.negFail || (s.attRequired && !s.sag.attPass) then s
    else State.checkAgree { s with record := some (recordOf s.ownBlock b) }
  | _, _ => s

/-- Negotiation fails (R468). -/
def State.failNeg (s : State) (code stickyBit : Nat) (inj : Bool) : State :=
  (({ s with disc := { s.disc with negFail := true } }).sticky 0x6408 stickyBit).raise code 0 0 inj

/-! ## Attestation (R484) -/

/-- Attestation fails: a violation, always followed by the fence. -/
def State.attFails (s : State) (inj : Bool) : State :=
  let s1 := ((s.bumpSat 0x4014 31 0 1).sticky 0x4010 5).raise 0x0815 0 0 inj
  { s1 with sag := { s1.sag with attFail := true, attPass := false, nonce := none, fenceDue := true }, disc := { s1.disc with negFail := true } }

/-- A new attestation begins with a fresh nonce; a peer without ATT_RESP fails at once. -/
def State.startAtt (s : State) : State :=
  if !s.attRequired || s.peerBlock.isNone || s.sag.nonce.isSome || s.sag.attPass || s.sag.attFail then s
  else if !bit (s.peerField 0x20 4) 0 then s.attFails false
  else { s with sag := { s.sag with
    nonce := some (toLe 16 (Config.entropy s.sag.nonces).toNat), nonces := s.sag.nonces + 1 } }

/-- The MAC that the holder of a key slot computes for a nonce, a block and a challenger's DIE_ID. -/
def State.attMac (s : State) (slot : Nat) (nonce block : List Byte) (dieId : Nat) : Option (List Byte) :=
  (s.keys.getD slot none).map (fun k => hmacSha256 k (nonce ++ block ++ toLe 8 dieId))

/-- ATT_CHAL is answered; a slot without a key sends 32 zero bytes. -/
def State.attChal (s : State) (body : List Byte) : State :=
  match s.peerBlock with
  | none => s
  | some _ =>
    let nonce := body.take 16
    let mac := (s.attMac (bits (byteAt body 16) 2 0) nonce s.ownBlock (s.peerField 8 8)).getD (zeros 32)
    s.pushMsg 0x33 (nonce ++ mac)

/-- ATT_RESP is checked. -/
def State.attResp (s : State) (body : List Byte) : State :=
  if s.sag.nonce != some (body.take 16) then s
  else
    let own := s.attMac (s.fld 0x4000 5 3) (body.take 16) (s.peerBlock.getD []) s.dieId
    let (inj, s1) := if s.inj.param = 5 then s.fire 0x27 0 else (false, s)
    if own == some (slice body 16 32) && !inj then
      State.tryRecord { s1 with sag := { s1.sag with attPass := true, nonce := none } }
    else s1.attFails inj

/-- 100 µs have passed without a matching response. -/
def State.attTimeout (s : State) : State := if s.sag.nonce.isSome then s.attFails false else s

/-- ATT_RETRY: a new attestation, while the link is in BISQUE. -/
def State.attRetry (s : State) : State :=
  if !s.bisqueOpen then s
  else State.startAtt { s with sag := { s.sag with attPass := false, attFail := false, nonce := none } }

/-! ## IDENT and AGREE (R466, R468, R487) -/

/-- The link has left GREENWARE. -/
def State.linkLit (s : State) : Bool := s.bisqueOpen || !s.inService.isEmpty

/-- The peer's block is held and checked. -/
def State.takeIdent (s : State) (b : List Byte) (injA injC : Bool) : State :=
  let s1 := { s with peerBlock := some b, record := none, negDone := false }
  let bad := injA || bit (byteAt b 6) 2 != (s.build.pers == .L) || byteAt b 2 < 2
  let s2 := if injC then (s1.sticky 0x6408 1).raise 0x0803 0 0 true else s1
  if bad then s2.failNeg 0x0801 0 injA else (s2.startAtt).tryRecord

/-- IDENT is received. -/
def State.identMsg (s0 : State) (b : List Byte) : State :=
  let (injA, s1) := if s0.inj.param = 0 then s0.fire 0x26 0 else (false, s0)
  let (injC, s) := if s1.inj.param = 2 then s1.fire 0x26 0 else (false, s1)
  match s.peerBlock with
  | some old =>
    if old ≠ b ∧ s.negDone ∧ s.linkLit then ((s.sticky 0x6408 2).raise 0x0802 0).lose 6
    else if old = b ∧ !injA ∧ !injC then s
    else s.takeIdent b injA injC
  | none => s.takeIdent b injA injC

/-- AGREE is received. -/
def State.agreeMsg (s0 : State) (body : List Byte) : State :=
  let (inj, s) := if s0.inj.param = 1 then s0.fire 0x26 0 else (false, s0)
  let crc := if inj then (field body 0 4) ^^^ 1 else field body 0 4
  State.checkAgree { s with disc := { s.disc with peerCrc := some crc } }

/-- The peer's AGREE has differed for 1 ms (R468). -/
def State.agreeTimeout (s : State) : State :=
  match s.record, s.disc.peerCrc with
  | some r, some c => if c ≠ crc32c r ∧ !s.negDone ∧ !s.disc.negFail then s.failNeg 0x0802 2 (s.inj.point == 0x26 && s.inj.fired != 0) else s
  | _, _ => s

/-! ## Topology and package id (R476, R477) -/

/-- A posted TOPO message has not been acknowledged (R476). -/
def State.postBusy (s : State) : Bool :=
  s.mgmt.any (fun m => byteAt m 0 == 0x34) || s.strands.any (fun (x : Strand) =>
    (x.link.replay ++ (x.link.carryOut.map (fun c => c.left)).flatten).any (fun (f : SentFlit) =>
      fType f.body == 4 && ((flitMsgs f.body).getD []).any (fun m => m.1 == 0x34)))

/-- The record in CL_DISC_POST0 to 7. -/
def State.postRecord (s : State) : List Byte := ((List.range 8).map (fun i => toLe 4 (s.regN (0x6430 + 4 * i)))).flatten

/-- A write of POST (R476). -/
def State.post (s : State) : State := if s.postBusy || !s.negDone then s.sticky 0x6408 5 else s.pushMsg 0x34 s.postRecord

/-- Key of a link record: NEAR_ID, near SLOT and INSTANCE. -/
def topoKey (r : List Byte) : List Byte := slice r 0 8 ++ slice r 16 1

/-- A TOPO record is received. -/
def State.topoMsg (s : State) (r : List Byte) : State :=
  let t := s.disc.topo
  let at_ := ((t.find? (fun p => topoKey p.2 == topoKey r)).map (·.1)).or ((List.range 64).find? (fun i => (lookupKey i t).isNone))
  match at_ with
  | some i => { s with disc := { s.disc with topo := insertKey i r t } }
  | none => (s.sticky 0x6408 6).raise 0x0806 0

/-- A change of this side's package id: ignored while a stream of the instance is open. -/
def State.setPkg (s : State) (w : Nat) : State :=
  if w = s.regN 0x640C then s
  else if !s.tx.isEmpty || !s.rx.isEmpty then s.sticky 0x6408 8 else s.setReg 0x640C (BitVec.ofNat 32 w)

/-- A PKG message is received. -/
def State.pkgMsg (s0 : State) (body : List Byte) : State :=
  let (inj, s) := s0.fire 0x28 0
  let w := field body 0 2
  let id := if inj then (s.fld 0x640C 10 0) ^^^ 1 else bits w 10 0
  let valid := bit w 15 || inj
  let word := id + 2147483648 * b2n valid
  let s1 := s.setReg 0x6410 (BitVec.ofNat 32 word)
  if !valid then s1
  else if s1.flag 0x640C 31 then
    (if s1.fld 0x640C 10 0 ≠ id then (s1.sticky 0x6408 7).raise 0x0805 0 0 inj else s1)
  else if s1.flag 0x6400 8 then s1.setPkg word else s1

/-- Sends PKG while an id is held. -/
def State.sendPkg (s : State) : State :=
  if s.flag 0x640C 31 then s.pushMsg 0x35 (toLe 2 (s.fld 0x640C 10 0 + 32768) ++ zeros 2) else s

/-- RENEG (R468): the exchange starts again. -/
def State.reneg (s : State) : State := s.discardNeg

/-! ## The bisque channel (R397, R400, R466, R477, R484) -/

/-- A message header and body. -/
def msg (type : Nat) (body : List Byte) : List Byte := toLe 1 type ++ toLe 1 (body.length / 4) ++ [0, 0] ++ body

/-- The messages that bisque flit number n of this BISQUE is to carry, by the repetition rules. -/
def State.bisqueMsgs (s : State) (n : Nat) : List (List Byte) :=
  let matched := match s.record, s.disc.peerCrc with
    | some r, some c => c == crc32c r
    | _, _ => false
  let time := if n % 256 = 0 then
      [msg 0x28 (toLe 8 s.now ++ toLe 1 (s.phase + 8 * b2n s.trusted + 16 * b2n (s.role == .hub)) ++ zeros 3)] else []
  let ident := if n % 64 = 0 ∧ !matched then [msg 0x30 s.ownBlock] else []
  let agree := match s.record with
    | some r => if n % 64 = 0 ∧ !s.disc.negFail then [msg 0x31 (toLe 4 (crc32c r) ++ zeros 4)] else []
    | none => []
  let pkg := if n % 256 = 0 ∧ s.flag 0x640C 31 then [msg 0x35 (toLe 2 (s.fld 0x640C 10 0 + 32768) ++ zeros 2)] else []
  let chal := match s.sag.nonce with
    | some nonce => if n % 64 = 0 then [msg 0x32 (nonce ++ toLe 1 (s.fld 0x4000 5 3) ++ zeros 3)] else []
    | none => []
  time ++ ident ++ agree ++ pkg ++ chal

/-- A bisque flit: MGMT with these messages, or GROG; trailer SEQ 0, ACK 0, NONE. -/
def State.bisqueBytes (s : State) (ms : List (List Byte)) : List Byte :=
  let f : FlitOut := if ms.isEmpty then ⟨0, 0, 0, [], false, false, false⟩ else ⟨4, 0, 0, ms.flatten, false, false, false⟩
  wholeFlit (flitBody f none s.rowNow) 0 0 0

/-- A slot of the bisque channel (R397); in training, a GROG flit once the peer has reported B3 (R395). Repetitions due share the flit
with queued link-control messages as far as 240 bytes allow;
what does not fit waits for the next slot. -/
def State.bisqueSlot (s : State) : State :=
  if !s.bisqueOpen then
    (if s.bisqueTraining.isSome && 3 ≤ s.bisque.peer then s.emit (.bisqueFlit (s.bisqueBytes [])) else s)
  else
    let n := s.bisque.flits
    let due := s.bisqueMsgs n
    let mine (m : List Byte) : Bool := s.inService.isEmpty && linkControl (byteAt m 0)
    let r := packMsgs true 240 (due ++ s.mgmt.filter mine)
    let s1 := { s with mgmt := r.2 ++ s.mgmt.filter (fun m => !mine m) }
    { s1 with bisque := { s1.bisque with flits := n + 1 } }.emit (.bisqueFlit (s.bisqueBytes r.1))

end Sys2Proof.Machine
end

