-- ==== Sys2Proof/Machine/Resets.lean ====
section
/-! DEFINITION. What the resets clear (R40, R303, R503, R505, R508): the station ports, slices and numeric units, the link layer, and the
set-up domain. -/

namespace Sys2Proof.Machine

/-! ## Slices and numeric units (RST_CORE_N, SL and NUM) -/

/-- What waits for memory of the slices ends with ABORTED; writes of a fill are lost. A fetch and an accumulation end with their streams. -/
def State.dropMemUse (s : State) (u : MemUse) : State :=
  match u with
  | .image d => (s.dropSave d).complete d 0x60
  | .scaleLoad d => (s.endRead d).complete d 0x60
  | .fill shelf _ _ => forEach shelf.toList (fun i s => s.modShelf i (fun h => { h with fillOut := h.fillOut - 1, fillErr := true })) s
  | .drawRead draw => match s.draw? draw with
    | some d => if d.phase = .running then s.cutDraw d else s
    | none => s
  | .restoreWrite desc _ => match s.restore? desc with
    | some r => s.endRestore r 0x60 (restoreResult r.next r.running)
    | none => s
  | .fetch _ | .accRead _ _ | .accWrite _ _ => s

/-- Draws and restores under way lose the digest and HMAC engines and end with ABORTED (R24, R238). -/
def State.endNumWork (s : State) : State :=
  let s1 := forEach s.draws (fun d s => if d.phase = .running then s.cutDraw d else s) s
  forEach s1.restores (fun r s => s.endRestore r 0x60 (restoreResult r.next r.running)) s1

/-- Requests on the MEM channels of some slices are forgotten: a response to one is discarded (R505, R508). -/
def State.dropMemOf (s : State) (gone : Nat → Bool) : State :=
  let ops := (s.memOps.filter (fun o => gone o.2.1)).map (·.2.2)
  forEach ops (fun u s => s.dropMemUse u) { s with
    memOps := s.memOps.filter (fun o => !gone o.2.1), memHeld := s.memHeld.filter (fun r => !gone r.2.1) }

/-- Requests on MEM are forgotten, and what the numeric units had under way ends. -/
def State.dropMem (s : State) : State :=
  let s1 := s.dropMemOf (fun _ => true)
  let s2 := forEach (s1.saves.filter (fun (v : ScaleSave) => !v.writing)) (fun v s => (s.dropSave v.desc).complete v.desc 0x60) s1
  s2.endNumWork

/-- Streams of some slices are gone: outbound ones of their ports, and inbound ones with their buffers (R22, R52). Their contexts are freed
and what waits on them ends with ABORTED. -/
def State.dropStreams (s : State) (gone : Nat → Bool) : State :=
  let s1 := forEach s.tx (fun (p : Nat × TxStream) s =>
    if !gone (s.sliceOf p.2.cfg.localStn) then s
    else
      let s1 := s.freeTx p.1
      match p.2.phase with
      | .opening d => s1.complete d 0x60
      | .closing (some d) _ => s1.complete d 0x60
      | _ => s1) s
  forEach s1.rx (fun (p : Nat × RxStream) s =>
    if !gone (s.sliceOf p.2.cfg.station) then s
    else
      let s1 := s.freeRx p.1
      match p.2.closing with
      | some d => s1.complete d 0x60
      | none => s1) s1

/-- The station ports of some slices return to their reset contents. -/
def State.dropPorts (s : State) (gone : Nat → Bool) : State :=
  { s with ports := (List.range s.ports.length).map (fun n => if gone (n % 4) then {} else s.ports.getD n {}) }

/-- A slice loses its contents (R508), the pass-through port with slice 0. -/
def State.dropSlice (s : State) (k : Nat) : State :=
  let s1 := ((s.dropStreams (fun j => j == k)).dropPorts (fun j => j == k)).dropMemOf (fun j => j == k)
  if k = 0 then { s1 with ptIn := List.replicate 16 none, ptErr := List.replicate 16 [] } else s1

/-- RST_CORE_N is asserted: the link goes down first. The pass-through port goes on operating (R499, R505). -/
def State.coreReset (s : State) : State :=
  let s1 := ((s.lose 1).dropStreams (fun _ => true)).dropMem
  let s2 := forEach (s1.sends.filter (fun (x : Send) => !x.entered)) (fun x s => s.complete x.desc 0x60) { s1 with sends := [] }
  { s2.dropPorts (fun _ => true) with sends := [], regions := [], fetches := [], port := [], arrivals := 0 }

/-! ## The link layer (RST_LINK_N) -/

/-- A strand with its link-layer counters cleared and out of every substate. -/
def Strand.cold (x : Strand) : Strand := { x with link := {}, sub := .none }

/-- RST_LINK_N is asserted, or LCLK loses lock (R303, R606). -/
def State.linkReset (s : State) : State :=
  let s1 := (s.lose 1 false false).emptyLink
  { s1.clearRegs .link with
    strands := s1.strands.map Strand.cold,
    guard := { s1.guard with
      misalign := false, floorBroken := false, slips := [], sets := s1.guard.sets.map (fun (g : SetRun) => { g with broken := false }) } }

/-! ## The set-up domain (RST_CFG_N) -/

/-- What of a strand outlives RST_CFG_N: repair and calibration state (R576), without the counters and status fields that the window shows
(R425, R454). -/
def Strand.kept (x : Strand) : Strand where
  state := if x.state = .shard then .shard else .greenware
  lanes := x.lanes
  duty := x.duty
  duties := x.duties
  unsaved := x.unsaved
  calRec := x.calRec
  calAt := x.calAt
  calErr := x.calErr
  calNext := x.calNext
  calBuf := x.calBuf
  calRead := x.calRead
  repRec := x.repRec
  repBuf := x.repBuf
  repOwed := x.repOwed
  repNext := x.repNext
  repErr := x.repErr
  rx := x.rx
  tx := x.tx
  parked := x.parked

/-- An output of a port that RST_CFG_N holds at 0: HM, MEM, the station ports and PT (R505). -/
def Out.heldByCfg : Out → Bool
  | .hmRead .. | .hmWrite .. | .doorbellRead .. | .submissionFetch .. | .memRead .. | .memWrite .. | .oBeat .. | .ptBeat .. => true
  | .nvRead .. | .nvWrite .. | .cfgData .. | .flit .. | .bisqueFlit .. | .sideband .. | .heatOut .. | .throttle .. | .tapIr .. | .tapCapture ..
  | .tapCells .. | .extest .. | .training .. => false

/-- RST_CFG_N is asserted, or the set-up domain loses its contents: everything outside the AON domain returns to its reset contents, and
descriptors are dropped without completions (R262): nothing leaves on the ports that the reset holds. A wash is abandoned (R584). -/
def State.cfgReset (s0 : State) : State :=
  let s1 := (s0.lose 1).emptyLink
  let s := (s1.setFlag 0x7004 0 false).setFlag 0x7004 1 (s1.flag 0x7004 2)
  { State.resetOf s.build with
    straps := s.straps, resets := s.resets, lclkLock := s.lclkLock, lclkHold := s.lclkHold, fcount := s.fcount, phase := s.phase
    regs := s.regs.filter (fun p => regClear p.1 == .aon)
    pdReq := s.pdReq, pdAck := s.pdAck, irqN := s.irqN
    kiln := { image := s.kiln.image, imageErr := s.kiln.imageErr }
    nvOps := s.nvOps, reqSeq := s.reqSeq, nextDesc := s.nextDesc
    sag := { nonces := s.sag.nonces }
    partner := s.partner
    guard := { lastFrame := s.guard.lastFrame }
    strands := s.strands.map Strand.kept
    cones := s.cones.map (fun (c : Cone) => { c with check := false })
    dieId := s.dieId, dieIdOk := s.dieIdOk, ready := s.ready, phyReady := s.phyReady, presence := s.presence, trusted := s.trusted
    pulse := s.pulse, power := s.power, test := { s.test with wash := none, cells := [] }
    shadows := s.shadows.filter (fun p => regClear p.1 == .aon)
    out := s.out.filter (fun o => !o.heldByCfg), raised := s.raised, pending := s.pending }

end Sys2Proof.Machine
end

