-- ==== Sys2Proof/Machine/Power.lean ====
section
/-! DEFINITION. Power domains, parking and waking, brownout, and the release of the resets (R17, R20, R24 to R28, R503 to R516). -/

namespace Sys2Proof.Machine

/-! ## Requests (R26, R506, R507) -/

/-- The order in which domains are raised (R506). -/
def State.powerOrder (s : State) : List Nat := [21, 22, 16, 17, 18, 19, 20] ++ List.range s.build.sgs

/-- PD_REQ of a domain. -/
def State.setReq (s : State) (d : Nat) (on : Bool) : State := { s with pdReq := setBits s.pdReq d d (b2n on) }

/-- Every domain that `d` requires is on (R24). -/
def State.requiredOn (s : State) (d : Nat) : Bool :=
  if d = 21 then true else if d = 20 then [16, 17, 18, 19].any s.domainOn else s.domainOn 21

/-- A domain is requested on for its own sake: neither OFF, nor parked, nor held by R28. A wash requests all (R578). -/
def State.asksFor (s : State) (d : Nat) : Bool :=
  !s.kiln.pdHeld.contains d && (s.test.wash.isSome || (!s.flag 0x6000 d && !s.power.parked.contains d))

/-- A domain is requested on, for its own sake or for one that requires it (R507). -/
def State.wantsOn (s : State) (d : Nat) : Bool :=
  let slice := [16, 17, 18, 19].any s.asksFor
  s.asksFor d || (!s.kiln.pdHeld.contains d &&
    ((d == 21 && (s.powerOrder.filter (· != 21)).any s.asksFor) || (d == 16 && s.asksFor 20 && !slice)))

/-- Strands of a group. -/
def State.groupStrands (s : State) (g : Nat) : List Nat := (List.range s.build.strands).filter (fun i => i / 16 == g)

/-- Opcodes whose work the numeric units do: draws, restores, accumulation and dispatch tables (R24). -/
def numOpcodes : List Nat := [0x24, 0x26, 0x27, 0x30]

/-- A domain may be off (R507). -/
def State.mayBeOff (s : State) (d : Nat) : Bool :=
  let streams (p : StreamCfg → Bool) : Bool := s.tx.any (fun x => p x.2.cfg) || s.rx.any (fun x => p x.2.cfg)
  if d < 16 then
    s.power.parked.contains d || (s.groupStrands d).all (fun i =>
      let x := s.strand i
      x.state == .greenware || x.state == .shard)
  else if d < 20 then
    !s.stations.any (fun (t : Station) => t.exists_ && t.port % 4 == d - 16) &&
      !s.rx.any (fun x => x.2.cfg.bufPages != 0 && s.sliceOf x.2.cfg.station == d - 16) && (d != 16 || !streams (fun c => c.cls == 3))
  else if d = 20 then
    !streams (fun c => c.cls != 3) && s.regions.isEmpty &&
      !s.descs.any (fun d => numOpcodes.contains d.opcode)
  else if d = 21 then
    ([22, 16, 17, 18, 19, 20] ++ List.range s.build.sgs).all (fun k => !s.pdReq.testBit k && !s.pdAck.testBit k) &&
      !(List.range 64).any s.ringActive
  else if d = 22 then s.bist.slice.isNone && s.bist.full.isNone && !s.inj.armed
  else false

/-- No domain that requires `d` is on or being raised. -/
def State.notRequired (s : State) (d : Nat) : Bool :=
  let up (k : Nat) : Bool := s.pdReq.testBit k || s.pdAck.testBit k
  if d = 21 then !(s.powerOrder.filter (· != 21)).any up
  else if 16 ≤ d ∧ d < 20 then !up 20 || ([16, 17, 18, 19].filter (· != d)).any s.domainOn
  else true

/-- The handshake of a domain is at rest (R26). -/
def State.atRest (s : State) (d : Nat) : Bool := s.pdReq.testBit d == s.pdAck.testBit d

/-- Lowers PD_REQ of a domain; before that of a group, LINK_READY is sent twice with its bit cleared (R386). -/
def State.lower (s : State) (d : Nat) : State :=
  if d < 16 then
    ((State.sendReady { s with phyReady := setBits s.phyReady d d 0 }).sendReady).setReq d false
  else s.setReq d false

/-- Raises the next domain that is requested on, one at a time, and lowers those that are requested off and may be (R26, R506, R507). -/
def State.pumpPower (s : State) : State :=
  if s.aonHeld then s
  else
    let rising := s.powerOrder.any (fun d => s.pdReq.testBit d && !s.pdAck.testBit d)
    let s1 := if rising then s
      else match s.powerOrder.find? (fun d => s.wantsOn d && !s.pdReq.testBit d && s.atRest d && s.requiredOn d) with
        | some d => s.setReq d true
        | none => s
    let low := (s1.powerOrder.reverse).filter (fun d =>
      s1.pdReq.testBit d && s1.atRest d && !s1.wantsOn d && s1.mayBeOff d && s1.notRequired d)
    forEach low (fun d s => if s.notRequired d then s.lower d else s) s1

/-- CL_PD_BLOCKED (R507). -/
def State.pdBlocked (s : State) : Nat :=
  (List.range 23).foldl (fun m d => if s.flag 0x6000 d && s.pdReq.testBit d && !s.mayBeOff d then setBit m d else m) 0

/-! ## Contents of a domain (R28, R508) -/

/-- A domain has lost its power: its contents become those that its reset leaves (R28). DESIGN CHOICE: with NUM lost, every F, O and D stream
is fenced with FENCED (0x22), and the accumulation regions are gone; R28 names no status. -/
def State.domainLost (s : State) (d : Nat) : State :=
  if d < 16 then
    let s1 := forEach (s.groupStrands d) (fun i s => s.calEnded i 1) s
    { s1 with
      strands := s1.strands.mapIdx (fun i (x : Strand) => if i / 16 = d then x.green.cold else x), phyReady := setBits s1.phyReady d d 0 }
  else if d < 20 then s.dropSlice (d - 16)
  else if d = 20 then
    let s1 := forEach s.tx (fun (p : Nat × TxStream) s => if p.2.cls ≠ 3 then s.interruptTx p.1 0x22 else s) s
    let s2 := forEach s1.rx (fun (p : Nat × RxStream) s => if p.2.cls ≠ 3 then s.interruptRx p.1 0x22 else s) s1
    { s2.endNumWork with regions := [] }
  else if d = 21 then s.cfgReset
  else if d = 22 then
    let s1 := { s with inj := {}, regs := s.regs.filter (fun p => regDomain p.1 != RegDomain.tst) }
    let s2 : State := match s1.bist.slice with
      | some c =>
        let cut : Slice := { c with phase := .restore, short := true, cutSeg := (s1.strand c.strand).segment }
        if c.phase = .agreed ∧ c.mine then s1.withdrawSlice c
        else s1.modBist (fun (b : Bist) => { b with slice := some (if c.phase = SlicePhase.segments then cut else c) })
      | none => s1
    let s3 : State := match s2.bist.full with
      | some f => forEach f.left (fun p s => s.fullStrandEnd p.1)
          (s2.modBist (fun (b : Bist) => { b with full := some { f with short := true, cones := [] } }))
      | none => s2
    { s3 with
      bist := { slice := s3.bist.slice, waits := s3.bist.waits, full := s3.bist.full }
      cones := s3.cones.map (fun (c : Cone) => { c with check := false })
      test := { s3.test with cells := [] }
      strands := s3.strands.map (fun (x : Strand) => { x with segment := 1, seen := [] }) }
  else s

/-- PD_ACK of a domain rises (R26). The boundary cells start cleared (R508, R574). -/
def State.ackRise (s : State) (d : Nat) : State :=
  if d < 23 then { s with pdAck := setBits s.pdAck d d 1, test := { s.test with cells := if d = 22 then [] else s.test.cells } } else s

/-- PD_ACK falls while PD_REQ is 1 (R28). An injected fall leaves the handshake to complete. A wash goes on to its end and fails (R579): the
loss of the set-up domain drops its descriptors only. -/
def State.ackLost (s : State) (d : Nat) (inj : Bool) : State :=
  let ack := if inj then s.pdAck else setBits s.pdAck d d 0
  let s1 : State := { s with pdAck := ack, pdReq := setBits s.pdReq d d 0 }
  let s2 := s1.domainLost d
  let s3 : State := { s2 with
    pdAck := ack, pdReq := s1.pdReq
    kiln := { s2.kiln with pdHeld := s2.kiln.pdHeld ++ [d] }
    test := { s2.test with wash := s.test.wash.map (fun (w : Wash) => { w with
      lost := true, descs := if d = 21 then [] else w.descs, owed := if d = 21 then [] else w.owed }) } }
  ((s3.setFlag 0x7004 0 (s.flag 0x7004 0)).sticky 0x6018 0).raise 0x0906 d 0 inj

/-- PD_ACK of a domain falls: after PD_REQ was lowered the domain is off; before, it is lost. RST_AON_N has lowered PD_REQ and cleared
the contents, so that a fall under it only ends the handshake (R26, R505). PD_ACK of an SG domain at or above G is shown by CL_PD_STATUS
and has no other effect (R25): its PD_REQ is always 0 and it holds no strand. -/
def State.ackFall (s : State) (d : Nat) : State :=
  if 23 ≤ d ∨ !s.pdAck.testBit d then s
  else if s.aonHeld then { s with pdAck := setBits s.pdAck d d 0 }
  else if s.pdReq.testBit d then s.ackLost d false
  else { (State.domainLost { s with pdAck := setBits s.pdAck d d 0 } d) with pdAck := setBits s.pdAck d d 0 }

/-- An SG domain's PHY PLL locks (R510). -/
def State.pllLock (s : State) (g : Nat) : State := if s.domainOn g then { s with phyReady := setBit s.phyReady g } else s

/-! ## Parking and waking (R511 to R513) -/

/-- The effective park set (R511). -/
def State.parkSet (s : State) : Nat :=
  let m := s.fld 0x600C 15 0
  (if s.partner = .active then m ||| s.pulse.park else m) % 2 ^ s.build.sgs

/-- Strands of a group that are in service. -/
def State.groupService (s : State) (g : Nat) : List Nat := s.inService.filter (fun i => i / 16 == g)

/-- The conditions under which a group is parked (R512). A strand outside it stays when nothing is agreed that takes it out of service. -/
def State.mayPark (s : State) (g : Nat) : Bool :=
  (s.groupStrands g).all (fun i =>
    (s.strand i).sub == .none && !s.isMember i && !s.allSets.any (fun (q : SetRun) => q.standby == some i)) &&
    s.inService.any (fun i => i / 16 != g && (s.strand i).leave.isNone &&
      !s.cal.any (fun (c : CalRun) => c.strand == i) && !s.bist.slice.any (fun (c : Slice) => c.strand == i))

/-- A group of the set has strands in service and has not begun to leave. -/
def State.parkDue (s : State) (g : Nat) : Bool :=
  bit s.parkSet g && (s.groupService g).any (fun i => (s.strand i).leave.isNone)

/-- A park waits on its conditions: reported once per entry into the set (R512). -/
def State.parkBlocked (s : State) (g : Nat) : State :=
  let s1 := s.sticky 0x6018 3
  if s1.power.blocked.contains g then s1
  else { s1 with power := { s1.power with blocked := s1.power.blocked ++ [g] } }.raise 0x0909 g

/-- The initiating side parks a group at a boundary: SERVICE leaves with REASON PARK for its strands. -/
def State.parkStart (s : State) (g : Nat) : State :=
  if !s.initiates || !s.parkDue g then s
  else if !s.mayPark g then s.parkBlocked g
  else forEach ((s.groupService g).filter (fun i => (s.strand i).leave.isNone)) (fun i s => s.beginSvc i false 2) s

/-- Groups that have left the park set may be reported again when they enter it (R512). -/
def State.unblock (s : State) : State :=
  { s with power := { s.power with blocked := s.power.blocked.filter (fun g => bit s.parkSet g) } }

/-- At a boundary, parks that wait are reported. -/
def State.parkFrame (s : State) : State :=
  forRange s.build.sgs (fun g s => if s.initiates && s.parkDue g && !s.mayPark g then s.parkBlocked g else s) s

/-- A strand goes to GREENWARE for parking: its record is written (R512). What it has accepted stays in the merge. -/
def State.parkStrand (s : State) (i : Nat) : State :=
  let x := s.strand i
  let s1 := (((s.wireMove 1).restoreRun i).writeCal i (s.groupTemp i)).toGreenware i
  s1.modStrand i (fun y => { y with parked := true, link := x.link, mergeFrom := x.mergeFrom, mergeUntil := x.mergeUntil })

/-- A group of the park set none of whose strands is in service or on its way there: it is parked without SERVICE messages (R523). The rule
says so of a partner that is QUIET or LOST; DEDUCED: also of a group whose strands have not been wedged yet. -/
def State.parkIdle (s : State) (g : Nat) : Bool :=
  bit s.parkSet g && (s.groupStrands g).all (fun i =>
    let x := s.strand i
    (x.state == .greenware || x.state == .shard) && x.sub == .none && !x.draining)

/-- Groups whose strands have left for parking, or were not in service: LINK_READY with the bit cleared, twice, before PD_REQ is lowered
(R386, R512, R523). -/
def State.parkGroups (s : State) : State :=
  let left (g : Nat) : Bool := (s.groupStrands g).any (fun i => (s.strand i).parked) && (s.groupService g).isEmpty &&
    !(s.groupStrands g).any (fun i => (s.strand i).draining)
  let done := (List.range s.build.sgs).filter (fun g => !s.power.parked.contains g && (left g || s.parkIdle g))
  { s with
    power := { s.power with parked := s.power.parked ++ done }
    strands := s.strands.mapIdx (fun i (x : Strand) => if done.contains (i / 16) then { x with parked := true, waking := false } else x) }

/-- A group that has left the park set is woken (R513): its power is requested and its calibration records are read. -/
def State.groupWake (s : State) (g : Nat) : State :=
  if !s.power.parked.contains g || bit s.parkSet g || !s.atRest g || s.pdReq.testBit g || s.flag 0x6000 g ||
    s.kiln.pdHeld.contains g || !s.requiredOn g then s
  else
    let s1 := { s with power := { s.power with parked := s.power.parked.filter (· != g) } }.setReq g true
    forEach (s1.groupStrands g) (fun i s =>
      if (s.strand i).state = .shard ∨ s.linkStrands ≤ i then s.modStrand i (fun x => { x with parked := false })
      else (s.modStrand i (fun x => { x with parked := false, waking := true, quick := false })).readCal i) s1

/-- The strands of a woken group are wedged together, once their records are read and the peer's receivers are ready; those that need them
pass W2 and W3 one at a time (R513). Their lanes come into use here, so this is where R591 makes one group wait for another. -/
def State.wakeWedge (s : State) (g : Nat) : State :=
  let ids := (s.groupStrands g).filter (fun i => (s.strand i).waking)
  if !s.wedgeReady || !ids.all (fun i => (s.strand i).calRead && s.groupReady i) || !s.wireRoom ids.length then s
  else forEach ids (fun i s => (s.modStrand i (fun x => { x with
    sub := .cal, wedging := true, fails := 0, reentry := false, waking := false, armed := false, clkFault := false
    moved := [], failSeen := false, serial := true })).wedgeFromW1 i) (s.wireMove ids.length)

/-- A group engine acts (R402, R513). While EXTEST is the instruction it takes no strand (R575). -/
def State.groupEngine (s : State) (g : Nat) : State :=
  if s.test.ir = 0 ∨ s.build.sgs ≤ g then s
  else if (s.groupStrands g).any (fun i => (s.strand i).waking) then s.wakeWedge g
  else s.wedgeStart g

/-! ## Brownout (R423, R515) -/

/-- NVM writes in progress are abandoned: the other copy remains the newest valid one. -/
def State.dropWrites (s : State) : State :=
  let count (u : NvUse) : Nat := countWhere (· == u) s.nvOps
  let drop (u : NvUse) : NvUse := match u with
    | .repairWrite _ _ => .dropped
    | .calWrite _ _ => .dropped
    | .logWrite _ => .dropped
    | u => u
  { s with
    nvOps := s.nvOps.map drop
    kiln := { s.kiln with image := earlierCopy (count (.logWrite true)) s.kiln.image, imageErr := false, imageNext := false }
    strands := (List.range s.strands.length).map (fun i =>
      let x := s.strand i
      { x with
        repRec := earlierCopy (count (.repairWrite i true)) x.repRec, repNext := false
        calRec := earlierCopy (count (.calWrite i true)) x.calRec, calNext := none })
    calReqs := s.calReqs.map (fun (r : CalReq) => { r with degraded := r.degraded || !r.saving.isEmpty, saving := [] }) }

/-- PWR_WARN rises, or a firing takes it as risen: DOWN, WARN and the record (R515, step 1). -/
def State.warnRise (s : State) (inj : Bool) : State :=
  ((((({ s with power := { s.power with warn := true, flush := some 0, inj := inj } }).setFlag 0x6010 0 true).setFlag 0x6014 0 true).setFld 0x6014 31 16 0).sticky
    0x6018 1).raise
    0x0907 0

/-- The writes of a brownout, in their order (R515, step 2). -/
def State.flushStart (s : State) : State :=
  let ids := List.range s.strands.length
  let owed := ids.filter (fun i => (s.strand i).repOwed)
  let cals := sortBy (fun (a b : Nat × Nat) => b.1 ≤ a.1) (ids.filterMap (fun i => (s.strand i).unsaved.map (fun t => (t, i))))
  let s1 := s.dropWrites.writeLogImage
  let s2 := forEach owed (fun i s => s.writeRepair i) s1
  let s3 := forEach cals (fun p s => s.writeCal p.2 ((s.strand p.2).calTemp.getD (s.groupTemp p.2))) s2
  let n := countWhere (fun (u : NvUse) => match u with
    | .repairWrite _ _ => true
    | .calWrite _ _ => true
    | .logWrite _ => true
    | _ => false) s3.nvOps
  { s3 with power := { s3.power with flush := some n } }

/-- A write of the flush is answered; after the last one the partner becomes QUIET (R515, step 3). -/
def State.flushAck (s : State) (err : Bool) : State :=
  match s.power.flush with
  | none => s
  | some n =>
    let s1 := if err then s else s.bumpSat 0x6014 31 16 1
    if n ≤ 1 then { s1 with power := { s1.power with flush := none } }.lose 1
    else { s1 with power := { s1.power with flush := some (n - 1) } }

/-- 19 µs have passed since PWR_WARN rose (R515). -/
def State.flushTimeout (s : State) : State :=
  match s.power.flush with
  | none => s
  | some _ =>
    let power := { s.power with flush := none }
    let s1 := State.lose { s.dropWrites with power := power } 1
    ({ s1 with power := power }.sticky 0x6018 2).raise 0x0908 0 0 s.power.inj

/-! ## Release of the resets (R17, R20, R461, R506) -/

/-- The role that PKG_ROLE names (R18). -/
def roleOf (c : Nat) : Role := if c = 0 then .compute else if c = 1 then .base else if c = 2 then .hub else .third

/-- The build and the straps do not fit together (R20). -/
def strapErr (b : Build) (role : Role) : Bool :=
  (b.saggar && role != Role.hub) || (b.shelves != 0 && role != Role.base) || (b.pers == Pers.V && role == Role.hub)

/-- The reads that follow the release of RST_AON_N: the die id and every repair record (R461, R506). -/
def State.readNvm (s : State) : State :=
  let s1 := forRange 2 (fun w s => s.nvReadReq (0x0FFF00 + 8 * w) (.dieId w)) s
  forRange s.build.strands (fun i s => forRange 2 (fun c s => forRange 8 (fun w s =>
    s.nvReadReq (0x080000 + 0x80 * i + 0x40 * c + 8 * w) (.repairRead i c w)) s) s) s1

/-- RST_AON_N is released (R506). The peer's heat is stale from then on (R522). -/
def State.aonRelease (s : State) (slot tag role : Nat) : State :=
  if !s.resets.aon then s
  else
    let r := roleOf role
    let s1 := { s with
      resets := { s.resets with aon := false }
      straps := { slotId := slot, feedTag := tag, role := r, err := strapErr s.build r }
      pdReq := setBits s.pdReq 23 23 1
      trusted := r == Role.hub }
    (((s1.setFlag 0x6044 3 true).drive (s1.fld 0x6040 10 8)).readNvm).pumpPower

/-- RST_AON_N is asserted: everything is reset but what the pins and the power controller hold, the nonces drawn, and which log image in NVM is
the newest valid one (R40, R505, R556). -/
def State.aonReset (s : State) : State :=
  { State.resetOf s.build with
    pdAck := s.pdAck, lclkLock := s.lclkLock, lclkHold := s.lclkHold, resets := { s.resets with aon := true }, reqSeq := s.reqSeq
    sag := { nonces := s.sag.nonces }, kiln := { image := earlierCopy (b2n s.logWriting) s.kiln.image }, out := s.out, pending := s.pending }

/-- What the release of an enclosed reset permits. -/
def State.afterRelease (s : State) : State := s.checkRecovery.pumpPower

end Sys2Proof.Machine
end

