-- ==== Sys2Proof/Machine/Store.lean ====
section
/-! DEFINITION. NVM responses, cones and internal memory errors (R419, R431, R434, R461, R515, R526 to R529, R557). -/

namespace Sys2Proof.Machine

/-! ## NVM responses -/

/-- The die id record has been read (R461). -/
def State.takeDieId (s : State) (check : Nat) (err inj : Bool) : State :=
  let v := s.idBuf.getD 0
  let ok := !err && s.idBuf.isSome && v != 0 && crc32c (toLe 8 v) == check % 2 ^ 32
  let s1 := { s with dieId := if ok then v else 0, dieIdOk := ok, idBuf := none }
  if ok then s1 else (s1.sticky 0x6408 4).raise 0x0807 0 0 inj

/-- A copy of a repair record is valid for a strand (R418, R431). -/
def State.repValid (s : State) (i : Nat) (b : List Byte) : Bool :=
  field b 0 4 == 0x50524C43 && byteAt b 4 == 3 && byteAt b 5 == s.build.persCode && field b 6 2 == i &&
    crc32c (b.take 0x38) == field b 0x38 4

/-- One direction of a repair record. -/
def repDirOf (b : List Byte) (off : Nat) (shard : Bool) : RepDir where
  used := field b off 2
  map := field b (off + 8) 8
  bad := field b (off + 2) 2
  lost := field b (off + 4) 2
  shard := shard

/-- Both copies of a strand's repair record have been read: the newer valid one is its repair state (R431, R434). -/
def State.takeRepair (s : State) (i : Nat) : State :=
  let buf := (s.strand i).repBuf
  match newerCopy (s.repValid i) (buf.take 64) (buf.drop 64) with
  | none => s.modStrand i (fun x => { x with repBuf := [], repRec := none })
  | some (copy, b) =>
    let shard := bit (byteAt b 0x14) 0
    let rx := (repDirOf b 0x18 shard).fitted s.build
    let tx := (repDirOf b 0x28 shard).fitted s.build
    let gone := repState s.build rx tx = .shard && !s.straps.err
    let s1 := s.modStrand i (fun x => { x with
      repBuf := [], repRec := some (field b 8 4, copy), rx := rx, tx := tx, state := if gone then .shard else x.state })
    if gone && (s.strand i).state != .shard then s1.lastShard else s1

/-- A word of a record enters the buffer at its place: the first word begins it. -/
def bufferWord (first : Bool) (buf : List Byte) (rdata : Nat) : List Byte := (if first then [] else buf) ++ toLe 8 rdata

/-- No further word of a strand's calibration record is to come. -/
def State.calReadDone (s : State) (i : Nat) : Bool := !s.nvOps.any (fun u => match u with
  | .calRead k _ _ => k == i
  | _ => false)

/-- A read returns (R421, R434, R461). A word that returns an error is taken as zeros, so that the record's check fails. -/
def State.nvRead (s : State) (u : NvUse) (rdata : Nat) (err inj : Bool) : State :=
  let data := if err then 0 else rdata
  match u with
  | .dieId w => if w = 0 then { s with idBuf := if err then none else some rdata } else s.takeDieId rdata err inj
  | .repairRead i c w =>
    let s1 := s.modStrand i (fun x => { x with repBuf := bufferWord (c == 0 && w == 0) x.repBuf data })
    if c = 1 ∧ w = 7 then
      let s2 := s1.takeRepair i
      if s2.presence.on && !s2.exch.done && !s2.recordsUnread then s2.sendRecords else s2
    else s1
  | .calRead i c w =>
    let s1 := s.modStrand i (fun x => { x with calBuf := bufferWord (c == 0 && w == 0) x.calBuf data })
    let x := s1.strand i
    if s1.calReadDone i && (x.waking || (x.wedging && x.step == 0)) then s1.seedStrand i else s1
  | _ => s

/-- The last word of a repair record is answered (R432): a record with a failed word is not valid, and a write that waited follows. -/
def State.repairWritten (s : State) (i : Nat) : State :=
  let x := s.strand i
  let s1 := s.modStrand i (fun y => { y with
    repRec := if y.repErr then earlierCopy 1 y.repRec else y.repRec, repOwed := y.repErr || y.repNext, repErr := false })
  if x.repNext then s1.writeRepair i else s1

/-- The last word of a calibration record is answered (R419): settings applied before its issue are saved, and a write that waited follows. -/
def State.calWritten (s : State) (i : Nat) : State :=
  let x := s.strand i
  let s1 := s.modStrand i (fun y => { y with
    calRec := if y.calErr then earlierCopy 1 y.calRec else y.calRec, calErr := false
    unsaved := if y.calErr then y.unsaved else y.unsaved.filter (fun t => y.calAt < t) })
  match x.calNext with
  | some temp => s1.writeCal i temp
  | none => { s1 with calReqs := s1.calReqs.map (fun (r : CalReq) =>
      { r with degraded := r.degraded || (x.calErr && r.saving.contains i), saving := r.saving.filter (· != i) }) }

/-- The last word of a log summary image is answered (R556): an image with a failed word is not valid, and one that waited follows. -/
def State.logWritten (s : State) : State :=
  let k := s.kiln
  let s1 := { s with kiln := { k with image := if k.imageErr then earlierCopy 1 k.image else k.image, imageErr := false } }
  if k.imageNext then s1.writeLogImage else s1

/-- A write is answered (R419, R432, R515). -/
def State.nvWritten (s : State) (u : NvUse) (err inj : Bool) : State :=
  match u with
  | .repairWrite i last =>
    let s1 := if err then ((s.sticky 0x2808 8).raise 0x0128 i 0 inj).modStrand i (fun x => { x with repErr := true }) else s
    (if last then s1.repairWritten i else s1).flushAck err
  | .calWrite i last =>
    let s1 := if err then ((s.sticky 0x201C 4).raise 0x0A06 i 0 inj).modStrand i (fun x => { x with calErr := true }) else s
    (if last then s1.calWritten i else s1).flushAck err
  | .logWrite last =>
    let s1 := if err then { s with kiln := { s.kiln with imageErr := true } } else s
    (if last then s1.logWritten else s1).flushAck err
  | _ => s

/-- The NV port answers its oldest request. -/
def State.nvResponse (s0 : State) (rdata : Nat) (err0 : Bool) : State :=
  match s0.nvOps with
  | [] => s0
  | u :: rest =>
    let (inj, s) := State.fire { s0 with nvOps := rest } 0x24 0
    (s.nvRead u rdata (err0 || inj) inj).nvWritten u (err0 || inj) inj

/-! ## Cones (R526 to R529) -/

/-- A cone that reads temperature, as a signed number of 1/16 °C. -/
def coneSigned (i v : Nat) : Int := if i < 20 then ofInt16 v else (v % 65536 : Nat)

/-- The hysteresis of a cone (R529). -/
def State.coneHyst (s : State) (i : Nat) : Int :=
  if i < 20 then (s.fld 0x3200 15 8 : Nat) else if i < 23 then (s.fld 0x3200 23 16 : Nat) else 0

/-- An alarm of a cone is raised: code 0x0A10 with HI in bit 5, 0x0A11 with LO in bit 4. -/
def State.coneAlarm (s : State) (i code bitNo : Nat) (inj : Bool) : State :=
  ((s.sticky (0x300C + 16 * i) bitNo).bumpSat (0x300C + 16 * i) 31 16 1).raise code i 0 inj

/-- A cone takes its sample: the reading, MIN and MAX, and the alarms. -/
def State.sampleCone (s0 : State) (i v0 : Nat) : State :=
  if !coneExists s0.build i then s0
  else
    let (inj, s) := s0.fire 0x2E i
    let c := s.cones.getD i {}
    if c.check || (i == 21 && !s.domainOn 0) then s
    else
      let v := (if inj then s.inj.data else if 23 ≤ i then min v0 65535 else v0) % 65536
      let x := coneSigned i v
      let better (old : Option Nat) (lower : Bool) : Option Nat := match old with
        | none => some v
        | some o => some (if lower then (if x < coneSigned i o then v else o) else (if coneSigned i o < x then v else o))
      let lo := coneSigned i (s.fld (0x3008 + 16 * i) 15 0)
      let hi := coneSigned i (s.fld (0x3008 + 16 * i) 31 16)
      let h := s.coneHyst i
      let high := decide (hi < x) && s.flag (0x300C + 16 * i) 1 && !c.isHi
      let low := decide (x < lo) && s.flag (0x300C + 16 * i) 0 && !c.isLo
      let c1 := { c with
        value := v, taken := true, low := better c.low true, high := better c.high false
        isHi := high || (c.isHi && !decide (x ≤ hi - h)), isLo := low || (c.isLo && !decide (lo + h ≤ x)) }
      let s1 := { s with cones := modAt (fun _ => c1) i s.cones }
      let s2 := if high then s1.coneAlarm i 0x0A10 5 inj else s1
      if low then s2.coneAlarm i 0x0A11 4 inj else s2

/-- Every cone takes its sample; a group cone may make its strands due (R410, R527). -/
def State.sampleCones (s : State) (readings : List Nat) : State :=
  if s.aonHeld then s
  else
    let s1 := forRange 26 (fun i s => s.sampleCone i (readings.getD i 0)) s
    forRange s1.strands.length (fun i s => s.tempDue i) s1

/-- MIN and MAX are cleared (R528). -/
def State.clearMinMax (s : State) : State := { s with cones := s.cones.map (fun (c : Cone) => { c with low := none, high := none }) }

/-! ## Internal memory errors (R302, R557) -/

/-- An inbound parcel holds an uncorrectable word: it ends as R90 says, whole or still arriving. -/
def State.eccRx (s : State) (key uid : Nat) : State :=
  match (s.rx? key).bind (fun st => (st.parcel? uid).map (fun p => (st, p))) with
  | none => s
  | some (st, p) =>
    if p.lost then s
    else if !p.complete && (p.atomic || !p.checked) then s.abandonParcel key uid
    else
      let s1 := (if p.complete then s else s.commitRx key uid).raise 0x0405 st.cfg.id
      if p.hold = 2 ∨ p.hold = 5 then s1.discardParcel key uid
      else (s1.endParcel key uid 0x60 true).modParcel key uid (fun (q : RxParcel) => { q with complete := p.complete })

/-- An uncorrectable word of staging: the parcel that holds it ends with ABORTED (R90, R302). -/
def State.eccParcel (s : State) (o : EccObject) : State :=
  match o with
  | .txParcel id index =>
    match s.tx? id with
    | none => s
    | some st =>
      match st.queue[index]? with
      | none => s
      | some p =>
        if p.started then s.setTx id { st with queue := st.queue.set index { p with abort := true } }
        else (s.setTx id { st with queue := st.queue.eraseIdx index }).dropTxParcel id 0x60 p
  | .srcParcel id index => s.endKept id index 0x60
  | .rxParcel key uid => s.eccRx key uid
  | _ => s

/-- An uncorrectable word of context SRAM (R557). -/
def State.eccContext (s : State) (o : EccObject) : State :=
  match o with
  | .history id =>
    match s.tx? id with
    | none => s
    | some st =>
      let s1 := s.setTx id { st with num := { st.num with hist := List.replicate 16 0, histNext := 0, histValid := 0 } }
      if st.cfg.histScaled then (s1.seekQueued id).enterCold id else s1
  | .txStream id => s.fenceOut id 0x22
  | .rxStream key => s.fenceIn key 0x22
  | .shelf i => State.settleShelves { s.modShelf i (fun h => { h with state := if h.state = .free then .free else .held }) with
      bindings := s.bindings.filter (fun b => b.shelf != i) }
  | .table t =>
    match s.table? t with
    | none => s
    | some x =>
      let s1 := match x.source with
        | some id => s.fenceOut id 0x22
        | none => s
      { s1 with tables := eraseKey t s1.tables, emptied := insertKey t { x with cur := emptySet, next := none, source := none } s1.emptied }
  | .ring pair =>
    let s1 := s.modRing pair (fun r => { r with fault := true })
    if pair = 0 then s1 else s1.postEvent 0x0030 pair 0x0B03 []
  | .descriptor id => s.complete id 0x7F
  | o => s.eccParcel o

/-- A word of memory `memory` is read with `wrong` bits in error, 0 to 2; points 0x32 and 0x33 make one or two of them (R557, R560). -/
def State.eccRead (s0 : State) (memory word wrong0 : Nat) (o : EccObject) : State :=
  let named := s0.inj.data == word
  let (one, s1) := if named then s0.fire 0x32 memory else (false, s0)
  let (two, s) := if named then s1.fire 0x33 memory else (false, s1)
  let wrong := if two then 2 else if one then max wrong0 1 else wrong0
  if wrong = 0 then s
  else if wrong = 1 then s.raise 0x0B01 memory word one
  else if memory < 4 then s.marked two ((s.raise 0x0B02 memory word).eccParcel o)
  else s.marked two ((s.raise 0x0B03 memory word).eccContext o)

end Sys2Proof.Machine
end

