-- ==== Sys2Proof/Machine/Tap.lean ====
section
/-! DEFINITION. The test access port's controller: its states under TAP_TMS, the instruction register, PASS and the retiming bit (R567 to
R571). TAP_TCK runs only within a command of the port; between commands the controller rests in Test-Logic-Reset or in the Update state that
the last command ended in. -/

namespace Sys2Proof.Machine

/-- The state after a rising edge of TAP_TCK that finds TAP_TMS at `tms` (R567). PRESUMED: the spec names an IEEE 1149.1 controller; this is
that standard's state graph. -/
def TapCtl.next (c : TapCtl) (tms : Bool) : TapCtl :=
  match c, tms with
  | .testLogicReset, true => .testLogicReset
  | .testLogicReset, false | .runTestIdle, false | .updateDr, false | .updateIr, false => .runTestIdle
  | .runTestIdle, true | .updateDr, true | .updateIr, true => .selectDr
  | .selectDr, true => .selectIr
  | .selectDr, false => .captureDr
  | .captureDr, false | .shiftDr, false | .exit2Dr, false => .shiftDr
  | .captureDr, true | .shiftDr, true => .exit1Dr
  | .exit1Dr, false | .pauseDr, false => .pauseDr
  | .exit1Dr, true | .exit2Dr, true => .updateDr
  | .pauseDr, true => .exit2Dr
  | .selectIr, true => .testLogicReset
  | .selectIr, false => .captureIr
  | .captureIr, false | .shiftIr, false | .exit2Ir, false => .shiftIr
  | .captureIr, true | .shiftIr, true => .exit1Ir
  | .exit1Ir, false | .pauseIr, false => .pauseIr
  | .exit1Ir, true | .exit2Ir, true => .updateIr
  | .pauseIr, true => .exit2Ir

/-- TAP_TMS values that bring the controller to Run-Test/Idle. -/
def TapCtl.toIdle : TapCtl → List Bool
  | .testLogicReset | .runTestIdle | .updateDr | .updateIr => [false]
  | .selectIr | .exit1Dr | .exit2Dr | .exit1Ir | .exit2Ir => [true, false]
  | .selectDr | .captureDr | .shiftDr | .pauseDr | .captureIr | .shiftIr | .pauseIr => [true, true, false]

/-- One rising edge of TAP_TCK, with TAP_TMS and TAP_TDI. Capture-IR loads `captured` and Shift-IR takes TAP_TDI, least significant bit
first (R567). A PASS that was written takes effect as the controller enters Run-Test/Idle; with PASS 1 on a TOWARD build the retiming bit
takes TST_TDI, which the model leaves free (R571). -/
def Test.edge (toward : Bool) (captured : Nat) (t : Test) (b : Bool × Bool) : Test :=
  { t with
    ctl := t.ctl.next b.1
    shift := match t.ctl with
      | .captureIr => captured
      | .shiftIr => t.shift / 2 + 128 * b2n b.2
      | _ => t.shift
    pass := if t.ctl.next b.1 = .runTestIdle then t.passSet else t.pass
    retimed := if toward && t.pass then Config.tstTdi t.tcks else t.retimed
    tcks := t.tcks + 1 }

/-- A scan of the instruction register from where the controller rests: through Run-Test/Idle to Shift-IR, the eight bits of `code`, and
Update-IR. -/
def TapCtl.irPath (c : TapCtl) (code : Nat) : List (Bool × Bool) :=
  (c.toIdle ++ [true, true, false, false]).map (fun m => (m, true)) ++
    (List.range 8).map (fun i => (i == 7, code.testBit i)) ++ [(true, true)]

/-- A scan of a data register of `n` bits from Update-IR to Update-DR: `n + 4` edges. -/
def Test.drScan (toward : Bool) (n : Nat) (t : Test) : Test :=
  { t with
    ctl := .updateDr
    retimed := if toward && t.pass then Config.tstTdi (t.tcks + n + 3) else t.retimed
    tcks := t.tcks + n + 4 }

/-- The test port leads on to a far die (R570). -/
def State.toward (s : State) : Bool := s.build.testSide == .toward

/-- What Capture-IR loads (R567). -/
def State.irCapture (s : State) : Nat := 1 + 4 * b2n (s.flag 0x7004 1) + 8 * b2n (s.flag 0x7004 0)

/-- An instruction takes effect: scan enable falls (R582), and the cells stop driving. -/
def State.setIr (s : State) (code : Nat) : State :=
  { s.setFlag 0x7004 3 false with test := { s.test with ir := code, drives := false } }

/-- An instruction is scanned in and updated (R567, R568): the captured word leaves as the code enters. -/
def State.tapIr (s : State) (code : Nat) : State :=
  let t := (s.test.ctl.irPath code).foldl (Test.edge s.toward s.irCapture) s.test
  ({ s with test := t }.emit (.tapIr s.irCapture)).setIr t.shift

/-- The data register of `n` bits that the instruction selects is scanned. -/
def State.tapDr (s : State) (n : Nat) : State := { s with test := s.test.drScan s.toward n }

/-- TAP_TRST_N is asserted: the controller, the instruction register and PASS are reset (R569). -/
def State.tapReset (s : State) : State :=
  let s1 := s.setIr 0x01
  { s1 with test := { s1.test with ctl := .testLogicReset, pass := false, passSet := false } }

/-- Five edges of TAP_TCK with TAP_TMS 1 bring the controller to Test-Logic-Reset, and the instruction to IDCODE (R568). PASS stays (R569). -/
def State.tapLogicReset (s : State) : State :=
  { s with test := (List.replicate 5 (true, true)).foldl (Test.edge s.toward s.irCapture) s.test }.setIr 0x01

end Sys2Proof.Machine
end

