-- ==== Sys2Proof/Machine/TestWash.lean ====
section
/-! DEFINITION. The test access port, boundary cells, key wash and scan (R567 to R584). -/

namespace Sys2Proof.Machine

/-! ## Key wash (R576 to R581) -/

/-- An entry fetched and not yet accepted takes an in-flight slot and completes with ABORTED (R578, step 2). -/
def State.abortEntry (s : State) (pair : Nat) (e : List Byte) : State :=
  let d : Desc := { id := s.nextDesc, pair := pair, entry := e }
  State.complete { s with nextDesc := s.nextDesc + 1, descs := s.descs ++ [d] } d.id 0x60

/-- The entries of a pair that a wash aborts; WASH entries stay. -/
def State.abortFetched (s : State) (pair : Nat) : State :=
  let es := (s.ring pair).fetched
  forEach (es.filter (fun e => byteAt e 0 != 0x61)) (fun e s => s.abortEntry pair e)
    (s.modRing pair (fun r => { r with fetched := r.fetched.filter (fun e => byteAt e 0 == 0x61) }))

/-- A strand forgets the descriptors that wait on it. -/
def Strand.dropDescs (x : Strand) : Strand :=
  { x with
    rep := x.rep.map (fun (r : Repair) => { r with desc := none })
    waits := x.waits.map (fun (w : RepWait) => { w with desc := none })
    sub := if (x.state == .greenware || x.state == .shard) && x.sub == .test then .none else x.sub }

/-- What waits on descriptors is dropped, and every descriptor but the named ones completes with ABORTED. -/
def State.abortDescs (s : State) (keep : List Nat) : State :=
  let s1 := s.dropMem
  let s2 := { s1 with
    sends := [], shelfWaits := [], fences := [], calReqs := [], reads := [], tableWaits := [], commitWaits := [], queries := []
    shelves := s1.shelves.map (fun (h : Shelf) => { h with commits := [] })
    strands := s1.strands.map Strand.dropDescs
    bist := { s1.bist with
      waits := [], full := none, slice := s1.bist.slice.map (fun (c : Slice) => { c with desc := none }) } }
  forEach (s2.descs.filter (fun d => !d.written && !keep.contains d.id)) (fun d s => s.complete d.id 0x60) s2

/-- The status with which a wash interrupts a stream: ABORTED (R90), and for PT the partner's QUIET, which answers packets by R499. -/
def washStatus (cls : Nat) : Nat := if cls = 3 then 0x21 else 0x60

/-- Every stream is interrupted (R578, step 2). -/
def State.abortStreams (s : State) : State :=
  let s1 := forEach s.tx (fun (p : Nat × TxStream) s => s.interruptTx p.1 (washStatus p.2.cls)) s
  forEach s1.rx (fun (p : Nat × RxStream) s => s.interruptRx p.1 (washStatus p.2.cls)) s1

/-- The descriptors that `after` has completed and `before` had not: their ids. -/
def newlyWritten (before after : State) : List Nat :=
  (after.descs.filter (fun d => d.written && !before.descs.any (fun x => x.id == d.id && x.written))).map (·.id)

/-- A key wash is started, or joined (R577, R578, steps 1 and 2). -/
def State.startWash (s : State) (desc : Option Nat) : State :=
  if s.cfgHeld then { s with test := { s.test with held := true } }
  else match s.test.wash with
  | some w => { s with test := { s.test with wash := some { w with descs := w.descs ++ desc.toList } } }
  | none =>
    let s1 := (s.setFlag 0x7004 0 true).setFlag 0x6010 0 true
    let s2 := (forRange 64 (fun p s => s.abortFetched p) s1.abortStreams).abortDescs desc.toList
    let w : Wash := { began := s.now, descs := desc.toList, owed := newlyWritten s s2 }
    { s2.lose 1 with test := { s.test with held := false, wash := some w } }

/-- Completions that the wash still waits for: those that its own step 2 wrote and that are not acknowledged (R578). -/
def State.washOwed (s : State) : List Desc :=
  match s.test.wash with
  | none => []
  | some w => s.descs.filter (fun d => d.written && w.owed.contains d.id)

/-- The wash waits for completions. -/
def State.washWaits (s : State) : Bool := !s.washOwed.isEmpty

/-- The domains that a wash raises: SG, SL, NUM and TST (R578, step 3). -/
def State.washDomains (s : State) : List Nat := [22, 16, 17, 18, 19, 20] ++ List.range s.build.sgs

/-- They are all on, or one has been lost, after which the wash goes on to its end (R579). DEDUCED: a domain that R28 keeps off until its
record is freed holds the wash in step 3. -/
def State.washUp (s : State) (w : Wash) : Bool := w.lost || s.washDomains.all s.domainOn

/-- 20 µs have passed since the completions: a pair without its acknowledgements takes FAULT (R578, step 2). -/
def State.washAckEnd (s : State) : State :=
  match s.test.wash with
  | none => s
  | some w =>
    if !w.waiting then s
    else
      let late := (List.range 64).filter (fun p => s.washOwed.any (fun d => d.pair == p))
      { forEach late (fun p s => s.ringFault p 0x0703 false) s with test := { s.test with wash := some { w with waiting := false } } }

/-- What a wash leaves: the memories of R576 zero. -/
def State.washed (s : State) : State :=
  let e := State.resetOf s.build
  { s with
    tx := [], rx := [], tables := [], emptied := [], regions := [], shelves := e.shelves, bindings := [], shelfWaits := [], draws := []
    restores := [], fetches := [], sends := [], keepers := [], keys := e.keys, port := [], ports := e.ports, ptIn := e.ptIn
    memOps := [], memHeld := [], reads := [], ghosts := [], saves := []
    sag := { s.sag with nonce := none, chunks := [] } }

/-- The zero writes and the read-back have ended (R578, R579). `fail`: a word did not read zero, in memory `memory` at `word`. DEDUCED: a
failing wash after a clean one leaves WASHED 0 too, unless SCANNED holds it (R583). -/
def State.washDone (s : State) (fail : Bool) (memory word : Nat) : State :=
  match s.test.wash with
  | none => s
  | some w =>
    if (w.waiting && s.washWaits) || !s.washUp w then s
    else
      let bad := fail || w.lost
      let mem := if w.lost then 15 else memory
      let at_ := if w.lost then 0 else word
      let took := (s.now - w.began) % 2 ^ 32
      let done := forEach w.descs (fun d s =>
        if bad then s.complete d 0x7F (zeros 4 ++ toLe 4 mem ++ toLe 4 at_) else s.complete d 0 (toLe 4 took)) s
      let s1 := { done.washed with test := { s.test with wash := none } }
      let s2 := ((s1.setFlag 0x7004 0 false).bumpSat 0x7004 31 16 1).setReg 0x7008 (BitVec.ofNat 32 took)
      if bad then
        (((s2.setFlag 0x7004 1 (s2.flag 0x7004 2)).setReg 0x700C (BitVec.ofNat 32 (mem % 16 + 16 * (at_ % 2 ^ 27) + 2 ^ 31))).sticky
          0x7014 3).raise 0x0A41 mem at_
      else (s2.setFlag 0x7004 1 true).raise 0x0A40 0

/-- RELEASE: WASHED clears while SCANNED is 0 (R580). -/
def State.washRelease (s : State) : State := if s.flag 0x7004 2 then s else s.setFlag 0x7004 1 false

/-- A write of CL_WASH_CTL: START governs (R584). -/
def State.washCtl (s : State) (data : Nat) : State :=
  if bit data 0 then s.startWash none else if bit data 1 then s.washRelease else s

/-! ## The TAP (R567 to R575, R582, R583) -/

/-- Boundary cells per strand and direction (R574). -/
def State.cellsPerSide (s : State) : Nat := s.build.laneCount

/-- A boundary cell lies on a TX lane. -/
def State.txCell (s : State) (k : Nat) : Bool :=
  k < 2 * s.cellsPerSide * s.build.strands && k % (2 * s.cellsPerSide) < s.cellsPerSide

/-- A boundary cell can capture: TST is on, and the SG domain of its strand (R574). -/
def State.cellLive (s : State) (k : Nat) : Bool :=
  s.tstOn && k < 2 * s.cellsPerSide * s.build.strands + 4 &&
    (2 * s.cellsPerSide * s.build.strands ≤ k || s.domainOn (k / (2 * s.cellsPerSide) / 16))

/-- What Capture-DR takes: a TX cell its update value, the others their pad levels (R575). `pads`: the cells whose pads are 1. -/
def State.captureCells (s : State) (pads : List Nat) : List Nat :=
  (s.test.cells.filter (fun k => s.txCell k && s.cellLive k)) ++ pads.filter (fun k => !s.txCell k && s.cellLive k)

/-- Cells of the boundary register (R574). -/
def State.boundaryLen (s : State) : Nat := 2 * s.cellsPerSide * s.build.strands + 4

/-- A scan of the boundary register: the captured cells leave, and `cells` become the update values. The cells lie in the TST domain: while
it is off they hold nothing (R509, R574). -/
def State.scanCells (s : State) (pads cells : List Nat) : State :=
  let s1 := (s.tapDr s.boundaryLen).emit (.tapCells (s.captureCells pads))
  { s1 with test := { s1.test with cells := if s.tstOn then cells.filter (fun k => k < s.boundaryLen) else [] } }

/-- EXTEST is in effect and the conditions of R368 and R500, or the TST domain's power, hold some TX cell's lane low (R575). -/
def State.extestLimited (s : State) : Bool :=
  s.test.drives && (!s.tstOn || (List.range s.build.strands).any (fun i => !s.mayDrive i))

/-- EXTEST (R575): refused while some strand is neither GREENWARE nor SHARD; it then acts as SAMPLE. -/
def State.extest (s : State) (pads cells : List Nat) : State :=
  let s1 := (s.tapIr 0x00).scanCells pads cells
  if !s.allGreen true then s1.sticky 0x7014 1
  else
    let s2 := { s1 with test := { s1.test with drives := true } }
    let driven := s2.test.cells.filter (fun k => s2.txCell k && s2.cellLive k && s2.mayDrive (k / (2 * s2.cellsPerSide)))
    (if s2.extestLimited then s2.sticky 0x7014 2 else s2).emit (.extest driven)

/-- PCFG (R571): PASS is captured, and written at Update-DR on a TOWARD instance only. It takes effect when the controller next enters
Run-Test/Idle, which the next scan does first. -/
def State.pcfg (s : State) (v : Bool) : State :=
  let s1 := s.tapIr 0x04
  let s2 := (s1.tapDr 1).emit (.tapCapture (b2n s1.test.pass))
  { s2 with test := { s2.test with passSet := s.toward && v } }

/-- Update-IR to WASH (R568, R577), then its data register. -/
def State.tapWash (s : State) : State := (((s.tapIr 0x08).startWash none).tapDr 1).emit (.tapCapture (b2n (s.flag 0x7004 1)))

/-- Update-IR to SCAN (R582). The value of WASHED at that edge decides; refused, the instruction acts as BYPASS, whose register captures 0. -/
def State.scan (s : State) : State :=
  let s1 := s.tapIr 0x10
  if s.flag 0x7004 1 && !s.flag 0x7004 0 then (s1.setFlag 0x7004 2 true).setFlag 0x7004 3 true
  else ((((s1.sticky 0x7014 0).raise 0x0A42 0)).tapDr 1).emit (.tapCapture 0)

end Sys2Proof.Machine
end

