-- ==== Sys2Proof/Machine/Frame.lean ====
section
/-! DEFINITION. A frame boundary (R310), with everything that other chapters fix at one (R329, R331, R361, R437, R441, R444, R549,
R605), and the injection points whose opportunity recurs in every frame (R560). -/

namespace Sys2Proof.Machine

/-! ## Time -/

/-- The boundary that a FRAME_BOUNDARY stands for: the latest one, if it has not been processed, else the next. -/
def State.nextBoundary (s : State) : Nat :=
  let b := s.now / 1024 * 1024
  if s.guard.lastFrame = some b then b + 1024 else b

/-- Time moves to a boundary that lies ahead; the boundary is marked as processed. -/
def State.toBoundary (s : State) : State :=
  let b := s.nextBoundary
  let s1 := s.modGuard (fun g => { g with lastFrame := some (b % 2 ^ 64) })
  if s.now < b then { s1 with fcount := BitVec.ofNat 64 b, phase := 0 } else s1

/-- The clock counts of the past frame are latched (R605): none before the first complete frame, so that they stay as `s0` has them. -/
def State.latchClocks (s s0 : State) (core fab cfg aon : Nat) : State :=
  let put (off n : Nat) (s : State) : State :=
    s.setFld off 23 0 (if s0.guard.lastFrame.isNone then s0.fld off 23 0 else min n (2 ^ 24 - 1))
  put 0x214 aon (put 0x210 cfg (put 0x20C fab (put 0x208 core s)))

/-- `s`, as the work of a boundary has made it of `u`, with the time and the boundary last passed as `u` has them: that work takes no time.
Said here once, by construction. -/
def State.timeOf (s u : State) : State :=
  { s with fcount := u.fcount, phase := u.phase, guard := { s.guard with lastFrame := u.guard.lastFrame } }

/-! ## Brownout (R515) -/

/-- PWR_WARN rises: the record is logged before the summary is written. -/
def State.brownout (s : State) (inj : Bool) : State :=
  let s1 := (logAll false [] (s.marked inj (s.warnRise inj))).state.flushStart
  { s1 with power := { s.power with warn := true, flush := s1.power.flush, inj := inj } }

/-! ## Injection points that act at a boundary (R560) -/

/-- The point 0x01 to 0x05 that is armed for strand `i`, and the fault that it makes the strand's detectors report. -/
def State.injectPhy (s : State) (i : Nat) : State :=
  if !(s.strand i).watched then s
  else
    let try_ (point : Nat) (f : State → State) (s : State) : State :=
      let (hit, t) := s.fire point i
      if hit then f t else s
    try_ 5 (·.trkDrift i true) (try_ 4 (·.trkFail i true) (try_ 3 (·.vldFail i true)
      (try_ 2 (·.phyFail i 0x0102 2 true) (try_ 1 (·.clockStop [i] true) s))))

/-- Points 0x2B and 0x2C: an acknowledgement is taken as fallen (not that of AON, whose PD_REQ stays 1: R27, DEDUCED); PWR_WARN is taken as
risen for one cycle. -/
def State.injectPower (s : State) : State :=
  let d := s.inj.unit
  let s1 : State :=
    if s.inj.point = 0x2B ∧ d ≠ 23 ∧ s.pdReq.testBit d ∧ s.pdAck.testBit d then
      let (hit, t) := s.fire 0x2B d
      if hit then t.ackLost d true else s
    else s
  let (hit, t) := s1.fire 0x2C 0
  if hit && !s1.power.warn then
    let u := t.brownout true
    { u with power := { u.power with warn := false } }.setFlag 0x6014 0 false
  else s1

/-! ## Service changes: step 1 of R310 -/

/-- A leave whose boundary has come: into HOLD, SHARD or a parked group (R439, R450, R512), once the strand's replay buffer is empty
(R291). Those of groups that are parked together go as R591 lets them. -/
def State.leaveAt (s0 : State) (i : Nat) : State :=
  match (s0.strand i).leave with
  | none => s0
  | some v =>
    if s0.lclk < v.row then s0
    else
      let s := s0.standDown i v.row
      let x := s.strand i
      if x.draining && !x.link.drained then s
      else if v.reason = 2 && x.mayLeave && !s.wireRoom 1 then s
      else
        let s1 := s.modStrand i (fun y => { y with leave := none, draining := false })
        if v.reason = 1 then s1.becomeShard i
        else if !x.mayLeave then s1
        else if v.reason = 2 then s1.parkStrand i
        else s1.enterHold i .handed

/-- Strands past their boundary that have emptied their replay buffers enter HOLD or CAL, or are parked (R291). A strand becomes SHARD, and
a slice starts, at a boundary only (R310). -/
def State.settleLeaves (s : State) : State :=
  let ready (i : Nat) (s : State) : Bool := (s.strand i).draining && (s.strand i).link.drained
  let retires (i : Nat) (s : State) : Bool := (s.strand i).leave.any (fun (v : Svc) => v.reason == 1)
  let s1 := forRange s.build.strands (fun i s => if ready i s && !retires i s then s.leaveAt i else s) s.calWaits
  if s1.cal.any (fun (c : CalRun) => ready c.strand s1) then s1.startCal else s1

/-- What a strand that reaches its joining boundary joins from. -/
inductive JoinFrom where
  | repair | wedge | check | nothing
  deriving DecidableEq, Repr

/-- Whether a strand is ready to join, and from where. -/
def State.joinFrom (s : State) (i : Nat) : JoinFrom :=
  let x := s.strand i
  match x.rep with
  | some r => if r.mine = 3 ∧ r.peer = 3 then .repair else .nothing
  | none =>
    if x.wedging then (if x.own = 6 ∧ x.peer = 6 then .wedge else .nothing)
    else match s.runOf i with
      | some c => if c.phase = .rejoin then .check else .nothing
      | none => .nothing

/-- A signed-off strand becomes FIRED, or CRAZED as its repair record has it; its calibration record is written (R405, R419, R448). -/
def State.fireStrand (s : State) (i : Nat) : State :=
  let x := s.strand i
  let new := repState s.build x.rx x.tx
  let t := s.groupTemp i
  let s1 := (s.modStrand i (fun y => { y with state := new, calTemp := some t })).writeCal i t
  if new = .crazed then s1.postEvent 0x0023 i 0 [3] else s1

/-- The strand enters service from row `row` on: SEQ starts at 0 in both directions, with empty buffers (R291). -/
def State.enterService (s : State) (i row : Nat) : State :=
  s.modStrand i (fun x => { x with
    sub := .none, service := true, draining := false, join := none, wedging := false, step := 0, own := 0, peer := 0, fails := 0,
    serial := false, was := none, moved := [], failSeen := false,
    reentry := false, again := false, quick := false, parked := false, held := 0, waited := 0,
    clkFault := false, mergeFrom := some row, mergeUntil := none, link := {
      crcErr := x.link.crcErr, nakExh := x.link.nakExh, replays := x.link.replays, waits := x.link.waits,
      protoErr := x.link.protoErr, winCrc := x.link.winCrc, winFired := x.link.winFired } })

/-- A join whose boundary has come. One that the other side has not answered is asked for again, for a later boundary. -/
def State.joinAt (s : State) (i : Nat) : State :=
  let x := s.strand i
  match x.join with
  | none => s
  | some v =>
    if s.lclk < v.row then s
    else
      let s1 := s.modStrand i (fun y => { y with join := none })
      if !v.theirs then (if v.mine && s.joinFrom i != .nothing then s1.beginSvc i true 0 else s1)
      else match s.joinFrom i with
        | .repair =>
          let s2 := s1.settleRepair i
          if (s2.strand i).state = .shard then s2 else s2.enterService i v.row
        | .wedge => (s1.fireStrand i).enterService i v.row
        | .check => (s1.settleCal i).enterService i v.row
        | .nothing => s1

/-! ## Counts of a frame -/

/-- What the boundary counts for one strand: frames in HOLD (R331), frames that a due member waits (R329), and the window of R437. -/
def State.countStrand (s : State) (i : Nat) : State :=
  let window := s.now / 1024 % 2 ^ s.fld 0x2800 19 16 == 0
  s.modStrand i (fun x => { x with
    held := if x.sub = .hold then x.held + 1 else 0
    waited := if x.dueAt.isSome ∧ x.sub = .none then x.waited + 1 else x.waited
    link := if window then { x.link with winCrc := 0, winFired := false } else x.link })

/-- Step 1 of R310, after the lanes that failed in the frame that ends (R444), and with the sweeps that start at the boundary (R441). -/
def State.serviceFrame (s : State) (lanes : List (Nat × Nat)) : State :=
  let n := s.build.strands
  let s0 := forRange n (fun i s => s.holdFailures i ((lanes.filter (fun p => p.1 == i)).map (·.2))) s
  let s1 := forRange n (fun i s => s.leaveAt i) s0
  let s2 := forRange n (fun i s => s.joinAt i) s1.startCal
  forRange n (fun i s => (s.announceHold i).startSweep i) s2

/-- What a frame boundary makes the block do (R310). `trk`: strands whose TRK counted more than 64 errors in the frame (R361). `lanes`: lanes in use of strands in HOLD
or FILL that counted 4 or more mismatches in it (R444). -/
def State.boundaryWork (s : State) (core : Nat) (trk : List Nat) (lanes : List (Nat × Nat)) : State :=
  let s1 := s.injectPower
  if !s1.cfgUp then s1.windowTick
  else
    let s2 := forEach trk (fun i s => s.trkFail i false) (s1.ratioFrame core)
    let s3 := s2.injectPhy s2.inj.unit
    let s4 := (forRange s.build.strands (fun i s => s.countStrand i) s3).serviceFrame lanes
    let s5 := s4.guardFrame.applyPending false
    let s6 := (s5.bistFrame (s5.now / 1024)).parkFrame.sagFrame
    let s7 := { s6 with rx := s6.rx.map (fun (p : Nat × RxStream) => (p.1, { p.2 with laxSeen := false })) }
    (if s7.inService.isEmpty then s7 else s7.sendPkg).windowTick

/-- A frame boundary: time moves to it, its work is done, and the clock counts of the past frame are latched. -/
def State.frameBoundary (s : State) (core fab cfg aon : Nat) (trk : List Nat) (lanes : List (Nat × Nat)) : State :=
  if s.aonHeld then s
  else
    let s1 := s.toBoundary
    ((s1.boundaryWork core trk lanes).timeOf s1).latchClocks s core fab cfg aon

end Sys2Proof.Machine
end

