-- ==== Sys2Proof/Machine/Regs.lean ====
section
/-! DEFINITION. The CFG window: what every register reads as (R592 to R607), the writes with behaviour of their own, and accesses to a
domain that is down (R37, R602). -/

namespace Sys2Proof.Machine

/-! ## Which offsets hold a register (R607) -/

/-- Offsets of single read-only registers whose value is computed. -/
def computedOffsets : List Nat :=
  [0x0000, 0x0004, 0x0008, 0x000C, 0x0010, 0x0014, 0x0018, 0x0020, 0x0024, 0x0028, 0x002C, 0x0030, 0x0034, 0x0038, 0x003C, 0x0040,
   0x0044, 0x0104, 0x0200, 0x0204, 0x0218, 0x0300, 0x2008, 0x2024, 0x2028, 0x202C, 0x2030, 0x2084, 0x27C4, 0x2804]
  ++ [0x2814, 0x2818, 0x281C, 0x2820, 0x2824, 0x3204, 0x3404, 0x380C, 0x3814, 0x3818, 0x381C, 0x3820, 0x3824, 0x3828, 0x382C,
   0x3830, 0x3834, 0x3838, 0x383C, 0x3C00, 0x3C10, 0x4804, 0x4820, 0x4824, 0x5000, 0x500C, 0x5010, 0x5804]
  ++ [0x5810, 0x5814, 0x5818, 0x581C, 0x5820, 0x6004, 0x6008, 0x6404, 0x6418, 0x7000, 0x7010]

/-- A register occupies the offset. -/
def regExists (b : Build) (off : Nat) : Bool :=
  (regRow b .compute off).isSome || computedOffsets.contains off
    || (0x0400 ≤ off && off < 0x1000 && off % 4 == 0)
    || (0x1000 ≤ off && off < 0x1000 + 16 * b.strands && off % 4 == 0)
    || (0x3000 ≤ off && off < 0x31A0 && off % 4 == 0 && coneExists b ((off - 0x3000) / 16))
    || (b.saggar && off == 0x400C) || off == 0x6024 || off == 0x602C || off == 0x6034

/-! ## Identity and global registers (R598, R599, R603) -/

/-- Code of TEST_SIDE (R585). -/
def TestSide.code : TestSide → Nat
  | .none => 0
  | .toward => 1
  | .from => 2

/-- CL_BUILD0. -/
def buildWord0 (b : Build) : Nat :=
  b.persCode + b.strands <<< 1 + b.ports <<< 10 + b.instanceNo <<< 17 + b2n b.saggar <<< 20 + TestSide.code b.testSide <<< 21
    + (if b.ptBits = 512 then 0 else if b.ptBits = 1024 then 1 else 2) <<< 23

/-- CL_BUILD1. -/
def buildWord1 (b : Build) : Nat := b.stagingMiB + b.shelves <<< 7 + b.dispTables <<< 16 + b.keySlots <<< 21

/-- CL_STRAP. -/
def State.strapWord (s : State) : Nat :=
  s.straps.slotId + roleCode s.role <<< 5 + s.straps.feedTag <<< 8 + b2n s.dieIdOk <<< 16

/-- FETCH_IDLE (R600). -/
def State.fetchIdle (s : State) : Bool := s.flag 0x100 0 && s.rings.all (fun (r : Ring) => !r.reading && r.fetching == 0)

/-- I_HELD (R601): every port and every virtual channel is held. -/
def State.iHeld (s : State) : Bool :=
  s.flag 0x100 1 && s.ports.all (fun (p : Port) => !p.inOpen) && s.ptIn.all (fun q => q.isNone)

/-- CL_STATUS. -/
def State.statusWord (s : State) : Nat :=
  b2n s.straps.err + b2n s.cfgUp <<< 1 + s.instState <<< 2 + s.partner.code <<< 5 + b2n s.negDone <<< 8 + b2n s.aligned <<< 9
    + b2n (s.flag 0x7004 1) <<< 10 + b2n s.kiln.instF <<< 11 + b2n (!s.irqN) <<< 12 + b2n s.fetchIdle <<< 13 + b2n s.iHeld <<< 14

/-! ## The computed registers -/

/-- CL_LAT_FIXED (R314, R337). -/
def State.latFixed (s : State) : Nat :=
  let nominal := if s.build.pers = .V then 12 else 16
  nominal + (s.releaseK + s.grantLead) <<< 8 + (if s.guard.lockedOk then 0x07070000 else 0)

/-- CL_LAT_STATUS (R337); DEMOTIONS is stored. -/
def State.latStatus (s : State) : Nat :=
  let g := s.guard
  b2n s.aligned + b2n g.lockedOk <<< 1 + b2n g.misalign <<< 2 + b2n g.floorBroken <<< 3
    + b2n (g.sets.any (fun (x : SetRun) => x.broken)) <<< 4 + s.fld 0x30C 15 8 <<< 8

/-- CL_RING{r}_STATUS (R244). -/
def State.ringStatus (s : State) (p : Nat) : Nat :=
  let r := s.ring p
  r.sqCi + (if p = 0 then 0 else b2n r.sqGen) <<< 12 + b2n (s.ringActive p) <<< 13 + b2n r.fault <<< 14 + b2n r.cfgErr <<< 15
    + r.cqPi <<< 16 + b2n r.cqPhase <<< 28

/-- The bisque strand as registers show it (R394). -/
def State.bisqueNamed (s : State) : Option Nat := s.bisque.strand.or s.bisqueChoice

/-- STEP of a strand (R424): the wedging step; VERIFY in the check of R416, and RUN in a slice. -/
def State.stepCode (s : State) (i : Nat) : Nat :=
  match s.runOf i with
  | some c => if c.phase = .verify then 8 else 0
  | none => if (s.strand i).sub = .test ∧ s.bist.slice.any (fun (c : Slice) => c.strand == i && c.phase != .agreed) then 7 else (s.strand i).step

/-- Words 0 to 3 of a strand status block (R305, R424, R453). -/
def State.strandWord (s : State) (i w : Nat) : Nat :=
  let x := s.strand i
  if w = 0 then
    x.state.code + x.sub.code <<< 3 + s.stepCode i <<< 6 + b2n x.service <<< 10 + b2n (s.bisqueNamed == some i) <<< 11
      + b2n x.dueAt.isSome <<< 12
  else if w = 1 then (x.rx.used ||| x.tx.used) + (x.rx.lost ||| x.tx.lost) <<< 16
  else if w = 2 then x.link.crcErr + x.link.nakExh <<< 24
  else x.link.replays + x.link.waits <<< 16 + x.link.protoErr <<< 24

/-- CL_CAL_STATUS (R425). -/
def State.calStatus (s : State) : Nat :=
  let c := s.cal.filter (fun (c : CalRun) => c.phase != .agreed)
  (c.map (·.strand)).getD 0x1FF + b2n (c.any (fun (c : CalRun) => c.phase == .pend)) <<< 9
    + countWhere (fun (x : Strand) => x.dueAt.isSome) s.strands <<< 10

/-- CL_CAL_SINFO0 to 3 of the strand that CL_CAL_IDX names, SINFO0 as the whole 64-bit count (R425, R597). -/
def State.calInfo (s : State) (k : Nat) : Nat :=
  let i := s.fld 0x2020 7 0
  let x := s.strand i
  if i ≥ s.build.strands then 0
  else if k = 0 then x.calLast
  else if k = 2 then x.calCount + (int16 ((x.calTemp.getD 0) / 2) % 4096) <<< 16 + x.seed <<< 28
  else min x.calDis 255 + min x.calTo 255 <<< 8

/-- CL_WEDGE_STATUS (R425). -/
def State.wedgeStatus (s : State) : Nat :=
  let done := (List.range s.linkStrands).all (fun i =>
    let x := s.strand i
    x.state == .fired || x.state == .crazed || x.state == .shard)
  s.instState + b2n done <<< 3 + b2n s.trusted <<< 4 + b2n s.offValid <<< 5 + b2n ((s.ready.map (·.go)).getD false) <<< 6
    + b2n s.bisqueNamed.isSome <<< 7 + s.bisqueNamed.getD 0 <<< 8 + s.inService.length <<< 16

/-- CL_PHY_STATUS (R376, R368). -/
def State.phyStatus (s : State) : Nat :=
  b2n s.presence.on + b2n ((List.range s.build.strands).all (fun i => !s.mayDrive i)) <<< 1 + b2n (s.flag 0x27C0 0) <<< 2
    + min s.presence.edges 255 <<< 8

/-- CL_REPAIR_STATUS (R454). -/
def State.repairStatus (s : State) : Nat :=
  countWhere (fun (x : Strand) => x.sub == .hold || x.sub == .fill) s.strands
    + countWhere (fun (x : Strand) => x.state == .crazed) s.strands <<< 9
    + countWhere (fun (x : Strand) => x.state == .shard) s.strands <<< 18 + b2n s.exch.done <<< 27

/-- CL_REPAIR_INFO0 to 4 of the strand and direction that CL_REPAIR_IDX names (R454, R597). -/
def State.repairInfo (s : State) (k : Nat) : Nat :=
  let i := s.fld 0x2810 7 0
  let x := s.strand i
  let r := if s.flag 0x2810 8 then x.tx else x.rx
  if i ≥ s.build.strands then 0
  else if k = 0 then r.used + r.bad <<< 16
  else if k = 1 then r.lost + b2n r.shard <<< 16
  else if k = 2 then r.map % 2 ^ 32
  else if k = 3 then r.map / 2 ^ 32
  else min x.link.winCrc 255 + min x.cleanRun 255 <<< 8

/-- CL_CONE{i}_VAL and _MM (R527, R528, R562). -/
def State.coneWord (s : State) (i w : Nat) : Nat :=
  let c := s.cones.getD i {}
  let temp := i < 20
  if w = 0 then c.value + b2n (s.coneValid i) <<< 16
  else c.low.getD (if temp then 0x7FFF else 0xFFFF) + c.high.getD (if temp then 0x8000 else 0) <<< 16

/-- CL_CONE_ALARMS (R562). -/
def State.coneAlarms (s : State) : Nat :=
  (List.range 26).foldl (fun m i => if coneExists s.build i && s.fld (0x300C + 16 * i) 6 4 != 0 then setBit m i else m) 0

/-- CL_BIST_STATUS (R563). -/
def State.bistStatus (s : State) : Nat :=
  let c := s.bist.slice.filter (fun (c : Slice) => c.phase != SlicePhase.agreed)
  (c.map (·.strand)).getD 0x1FF + b2n s.bist.full.isSome <<< 9 + b2n s.bist.inner <<< 10 + s.bist.cand <<< 11
    + (s.strand s.bist.cand).segment <<< 20

/-- Bits of CL_LOG_OPEN (R564), of records from index `lo`. -/
def State.logOpen (s : State) (lo : Nat) : Nat :=
  (List.range 32).foldl (fun m k => if (lookupKey (lo + k) s.kiln.records).any (fun (r : KilnRecord) => r.isOpen) then setBit m k else m) 0

/-- CL_LOG_REC0 to 7 (R564). -/
def State.logWord (s : State) (k : Nat) : Nat :=
  match lookupKey (s.fld 0x3810 5 0) s.kiln.records with
  | some r => field r.bytes (4 * k) 4
  | none => 0

/-- CL_INJ_STATUS (R565). -/
def State.injStatus (s : State) : Nat :=
  (if s.inj.armed then s.inj.remain else 0) + b2n s.inj.armed <<< 16 + b2n s.inj.unlocked <<< 17 + s.inj.fired <<< 24

/-- CL_NUM_STATUS (R172). A stream whose OPEN is unanswered counts in COLD_STREAMS (DESIGN CHOICE). -/
def State.numStatus (s : State) : Nat :=
  countWhere (fun (p : Nat × TxStream) => p.2.num.cold p.2.cfg) s.tx
    + (countWhere (fun (p : Nat × TxStream) => p.2.num.flushAlarm) s.tx + countWhere (fun (p : Nat × RxStream) => p.2.num.flushAlarm) s.rx) <<< 16

/-- CL_DISP_LOADED (R199). -/
def State.dispLoaded (s : State) : Nat :=
  s.tables.foldl (fun m (p : Nat × DispTable) =>
    setBit (if p.2.source.isSome then setBit m (15 + p.1) else m) (p.1 - 1)) 0

/-- CL_DISP_SENT and CL_DISP_DROP (R199, R597). -/
def State.dispCount (s : State) (dropped : Bool) : Nat :=
  match s.table? (s.fld 0x5008 15 12 + 1) with
  | none => 0
  | some t =>
    let e := s.fld 0x5008 11 0
    if e ≥ t.cur.entries.length then 0 else (lookupKey e (if dropped then t.dropped else t.sent)).getD 0

/-- CL_SHELF_STATUS (R238). -/
def State.shelfStatus (s : State) : Nat :=
  countWhere (fun (h : Shelf) => h.state == .free) s.shelves + countWhere (fun (d : Draw) => d.phase == DrawPhase.running) s.draws <<< 9
    + s.bindings.length <<< 16

/-- Code of a shelf state (R238). -/
def ShelfState.code : ShelfState → Nat
  | .free => 0
  | .filling => 1
  | .committed => 2
  | .drawing => 3
  | .held => 4

/-- CL_SHELF_INFO0 to 4 (R238, R597). -/
def State.shelfInfo (s : State) (k : Nat) : Nat :=
  let i := s.fld 0x580C 7 0
  let h := s.shelf i
  if i ≥ s.build.shelves then 0
  else if k = 0 then h.stage + h.version <<< 16
  else if k = 1 then
    h.state.code + b2n h.current <<< 3 + h.level <<< 4 + b2n h.copyUnsafe <<< 7 + b2n h.fillErr <<< 8 + b2n h.drawSusp <<< 9
      + b2n h.vdigest.isSome <<< 10 + h.fmt <<< 11 + s.refs i <<< 16
  else if k = 2 then h.base / 512 % 2 ^ 32
  else if k = 3 then h.base / 2 ^ 41
  else h.len / 512

/-- PARKED (R524): groups parked and powered off. -/
def State.parkedOff (s : State) : Nat :=
  s.power.parked.foldl (fun m g => if s.pdAck.testBit g then m else setBit m g) 0

/-- CL_DISC_STATUS (R488). -/
def State.discStatus (s : State) : Nat :=
  let r := s.record.getD []
  b2n s.early.isSome + b2n s.peerBlock.isSome <<< 1 + b2n s.negDone <<< 2 + b2n s.disc.negFail <<< 3 + b2n s.postBusy <<< 4
    + s.disc.topo.length <<< 8 + byteAt r 0 <<< 16 + byteAt r 1 <<< 24

/-- CL_DISC_DATA (R488, R597). -/
def State.discWord (s : State) : Nat :=
  let block := s.fld 0x6414 2 0
  let bs : List Byte := if block = 0 then s.ownBlock else if block = 1 then s.peerBlock.getD [] else if block = 2 then s.record.getD []
    else if block = 3 then s.disc.link.getD [] else if block = 4 then (lookupKey (s.fld 0x6414 13 8) s.disc.topo).getD [] else []
  field bs (4 * s.fld 0x6414 7 3) 4

/-- What a 64-bit pair holds, by the offset of its low word (R596). -/
def State.pairValue (s : State) (low : Nat) : Option Nat :=
  if low = 0x40 then some (if s.dieIdOk then s.dieId else 0)
  else if low = 0x200 then some s.now
  else if low = 0x2010 ∨ low = 0x2090 then some (s.regN low + s.regN (low + 4) * 2 ^ 32)
  else if low = 0x2024 then some (s.calInfo 0)
  else none

/-- The value that a register reads as. -/
def State.readReg (s : State) (off : Nat) : Nat :=
  let shadow := (s.pairValue (off - 4)).map (fun _ => (lookupKey (off - 4) s.shadows).getD 0)
  if (s.pairValue off).isSome then ((s.pairValue off).getD 0) % 2 ^ 32
  else if 4 ≤ off ∧ shadow.isSome then shadow.getD 0
  else if off < 0x100 then
    (if off = 0 then 0x5E0DC1ED else if off = 4 then 3 else if off = 8 then buildWord0 s.build else if off = 0xC then buildWord1 s.build
     else if off = 0x10 then s.build.ctxKiB else if off = 0x14 then s.atomicMax else if off = 0x18 then s.strapWord
     else if 0x20 ≤ off then s.ownCaps.getD ((off - 0x20) / 4) 0 else 0)
  else if off = 0x104 then s.statusWord
  else if off = 0x218 then b2n (s.lclkLock || (s.lclkHold && Config.lclkRelocked s.now)) + 2 * b2n s.lclkHold
  else if off = 0x300 then s.latFixed
  else if off = 0x30C then s.latStatus
  else if off = 0x31C then s.guard.cap
  else if off = 0x320 then s.guard.fTotal
  else if 0x400 ≤ off ∧ off < 0xC00 ∧ off % 32 = 28 then s.ringStatus ((off - 0x400) / 32)
  else if 0xC00 ≤ off ∧ off < 0x1000 then field (s.stations.getD ((off - 0xC00) / 16) {}).name ((off - 0xC00) % 16) 4
  else if 0x1000 ≤ off ∧ off < 0x2000 then s.strandWord ((off - 0x1000) / 16) (off % 16 / 4)
  else if 0x2000 ≤ off ∧ off < 0x2800 then
    (if off = 0x2008 then s.calStatus else if off = 0x202C then s.calInfo 2 else if off = 0x2030 then s.calInfo 3
     else if off = 0x2084 then s.wedgeStatus else if off = 0x27C4 then s.phyStatus else s.regN off)
  else if 0x2800 ≤ off ∧ off < 0x3000 then
    (if off = 0x2804 then s.repairStatus else if 0x2814 ≤ off then s.repairInfo ((off - 0x2814) / 4) else s.regN off)
  else if 0x3000 ≤ off ∧ off < 0x3200 then
    (if off % 16 < 8 then s.coneWord ((off - 0x3000) / 16) (off % 16 / 4) else s.regN off)
  else if off = 0x3204 then s.coneAlarms
  else if off = 0x3404 then s.bistStatus
  else if 0x3800 ≤ off ∧ off < 0x4000 then
    (if off = 0x380C then s.kiln.statusWord else if off = 0x3818 then s.logOpen 0 else if off = 0x381C then s.logOpen 32
     else if 0x3820 ≤ off ∧ off < 0x3840 then s.logWord ((off - 0x3820) / 4) else if off = 0x3C10 then s.injStatus else s.regN off)
  else if off = 0x400C then b2n s.sag.attPass + 2 * b2n s.sag.attFail + 4 * b2n s.sag.fenced
  else if off = 0x4804 then s.numStatus
  else if off = 0x4820 then 0x103
  else if off = 0x4824 then s.regions.length
  else if off = 0x5000 then s.dispLoaded
  else if off = 0x500C then s.dispCount false
  else if off = 0x5010 then s.dispCount true
  else if off = 0x5804 then s.shelfStatus
  else if 0x5810 ≤ off ∧ off < 0x5824 then s.shelfInfo ((off - 0x5810) / 4)
  else if 0x6000 ≤ off ∧ off < 0x6400 then
    (if off = 0x6004 then s.pdAck else if off = 0x6008 then s.pdBlocked else if off = 0x600C then s.regN off + s.parkedOff <<< 16
     else if off = 0x6014 then s.regN off + 2 * b2n s.power.flush.isSome
     else if off = 0x6024 then s.regN off + s.partner.code + s.pulse.cause <<< 4
     else if off = 0x602C then s.pulse.peerSeq + min s.pulse.misses 255 <<< 16
     else if off = 0x6034 then s.pulse.sent % 65536 + (s.pulse.heat % 65536) <<< 16 else s.regN off)
  else if off = 0x6404 then s.discStatus
  else if off = 0x6418 then s.discWord
  else if 0x641C ≤ off ∧ off < 0x642C then field (s.early.getD []) (off - 0x641C) 4
  else if off = 0x7010 then TestSide.code s.build.testSide + b2n s.test.pass <<< 2 + s.test.ir <<< 3
  else s.regN off

/-! ## Accesses that reach no register (R37, R602) -/

/-- An access is answered for a domain that is off, or while the reset that clears the register is asserted. -/
def State.noteAccess (s : State) (off : Nat) (write : Bool) : State :=
  if !regExists s.build off then s
  else if s.flag 0x10C 31 then s.sticky 0x10C 30
  else s.setReg 0x10C (BitVec.ofNat 32 (off / 4 + b2n write <<< 14 + b2n (s.flag 0x10C 30) <<< 30 + 2 ^ 31))

/-- A CFG read: the data leave, and the low word of a pair captures the high one (R596). -/
def State.cfgRead (s : State) (off : Nat) : State :=
  if s.aonHeld then s.emit (.cfgData 0)
  else if !s.regReachable off then (s.noteAccess off false).emit (.cfgData 0)
  else
    let s1 := match s.pairValue off with
      | some v => { s with shadows := insertKey off (v / 2 ^ 32) s.shadows }
      | none => s
    s1.emit (.cfgData (if regExists s.build off then s.readReg off else 0))

/-! ## Writes with behaviour of their own -/

/-- CL_CTL (R600, R601): clearing STOP_FETCH polls every enabled pair. -/
def State.writeCtl (s : State) (data : Word) : State :=
  let s1 := s.plainWrite 0x100 data
  if s.flag 0x100 0 && !s1.flag 0x100 0 then
    forRange 64 (fun p s => (s.modRing p (fun r => { r with pollExp := 0 })).readDoorbell p) s1
  else s1

/-- A write of 1 to ENABLE of a pair that is at rest (R245). Pair 0 has no SQ_CI: EVENTS_LOST, in its place, keeps its count, and is reported
now that the event ring has room (R254). -/
def State.enableRing (s : State) (p : Nat) : State :=
  let ok (n : Nat) : Bool := 6 ≤ n && n ≤ 12
  if (p == 0 || ok (s.fld (ringReg p 0) 3 0)) && ok (s.fld (ringReg p 8) 3 0) then
    let s1 := (s.modRing p (fun r => {
      sqCi := if p = 0 then r.sqCi else 0, cqPhase := true, reading := r.reading, oldRead := r.reading, fetching := r.fetching
      stale := r.fetching != 0, unacked := r.unacked })).setFlag (ringReg p 0x18) 0 true
    if p = 0 then s1.flushLost else s1
  else s.modRing p (fun r => { r with cfgErr := true })

/-- CL_RING{r}_CTL (R244, R245): a fetch in flight is not taken in once ENABLE falls. -/
def State.writeRingCtl (s : State) (p : Nat) (data : Word) : State :=
  let on := s.ringOn p
  let s1 := s.plainWrite (ringReg p 0x18) (BitVec.ofNat 32 (setBits data.toNat 0 0 (b2n on)))
  if data.getLsbD 0 then (if s.ringActive p then s1 else s1.enableRing p)
  else if on then (s1.setFlag (ringReg p 0x18) 0 false).modRing p (fun r => { r with stale := r.fetching != 0 })
  else s1

/-- The other registers of a pair: ignored while it is enabled or active; pair 0 has no submission ring (R244). -/
def State.writeRing (s : State) (off : Nat) (data : Word) : State :=
  let p := (off - 0x400) / 32
  if off % 32 = 24 then s.writeRingCtl p data
  else if off % 32 = 28 ∨ s.ringActive p then s
  else s.plainWrite off data

/-- CL_PHY_CTL (R375): TERM_EN changes only while every strand is GREENWARE or SHARD. -/
def State.writePhy (s : State) (data : Word) : State :=
  let old := b2n (s.flag 0x27C0 0)
  let want := if s.build.pers = .V then old else bits data.toNat 0 0
  if want ≠ old ∧ !s.allGreen true then (s.plainWrite 0x27C0 (BitVec.ofNat 32 (setBits data.toNat 0 0 old))).sticky 0x27C8 6
  else s.plainWrite 0x27C0 data

/-- CL_CONE_CTL (R528). -/
def State.writeConeCtl (s : State) (data : Word) : State :=
  let s1 := s.plainWrite 0x3200 data
  if data.getLsbD 0 then s1.clearMinMax else s1

/-- CL_LOG_FREE (R555, R594). -/
def State.writeLogFree (s : State) (data : Word) : State :=
  if data.getLsbD 31 then { s with kiln := { s.kiln with records := [], pdHeld := [] } }
  else s.freeRecord (bits data.toNat 5 0)

/-- CL_INJ_UNLOCK (R558). -/
def State.writeUnlock (s : State) (data : Word) : State :=
  if data.toNat = 0x5A3C then { s with inj := { s.inj with unlocked := true } } else s

/-- CL_INJ_CTL (R558, R559): a write with ARM arms a point or is refused, and consumes the unlock; one without it disarms. -/
def State.writeInjCtl (s : State) (data : Word) : State :=
  let point := bits data.toNat 5 0
  let armed := s.inj.armed
  let s1 := s.plainWrite 0x3C04 (BitVec.ofNat 32 (setBits data.toNat 8 8 (b2n armed)))
  if !data.getLsbD 8 then { s1.setFlag 0x3C04 8 false with inj := { s1.inj with armed := false, remain := 0 } }
  else
    let s2 := { s1 with inj := { s1.inj with unlocked := false } }
    if !s.inj.unlocked || armed || point = 0 || point > 0x34 then s2.sticky 0x3C14 0
    else
      let j : Inject := {
        unlocked := false, armed := true, point := point, unit := s.fld 0x3C08 15 0, param := s.fld 0x3C08 31 16,
        data := s.regN 0x3C0C, safe := data.getLsbD 7, remain := if data.getLsbD 6 then s1.fld 0x3C04 31 16 else 1,
        fired := s.inj.fired }
      { s2.setFlag 0x3C04 8 true with inj := j }

/-- A Saggar register (R486): while LOCK is set only the sticky bits take a write. ATT_RETRY starts an attestation (R484). -/
def State.writeSag (s : State) (off : Nat) (data : Word) : State :=
  if s.flag 0x4000 31 ∧ off ≠ 0x4010 then s
  else
    let s1 := s.plainWrite off data
    if off = 0x4000 ∧ data.getLsbD 11 ∧ s.build.saggar then s1.attRetry else s1

/-- CL_NUM_CTL (R170): CAP_EN rising clears the capture pointer. -/
def State.writeNumCtl (s : State) (data : Word) : State :=
  let s1 := s.plainWrite 0x4800 data
  if !s.flag 0x4800 1 && s1.flag 0x4800 1 then s1.setFld 0x481C 27 0 0 else s1

/-- CL_SHELF_CTL (R233): a change of REL_MIN takes effect at once. -/
def State.writeShelfCtl (s : State) (data : Word) : State :=
  let s1 := s.plainWrite 0x5800 data
  if s1.relMin = s.relMin then s1 else s1.settleShelves.serveShelfWaits

/-- CL_PWR_CTL (R502, R580): DOWN stays set while WASHED is 1; DEDUCED: also while a wash runs, since it is set as WASHED becomes 1. A
cleared DOWN permits recovery. -/
def State.writePwr (s : State) (data : Word) : State :=
  if (s.flag 0x7004 1 || s.flag 0x7004 0) && s.flag 0x6010 0 then s else (s.plainWrite 0x6010 data).checkRecovery

/-- CL_THR_CTL (R522): a new STALE_LVL is driven at once while the heat is stale. -/
def State.writeThr (s : State) (data : Word) : State :=
  let s1 := s.plainWrite 0x6040 data
  if s1.flag 0x6044 3 then s1.drive (s1.fld 0x6040 10 8) else s1

/-- CL_DISC_CTL (R460, R468, R476): DIE_KIND changes only while every strand is in GREENWARE. -/
def State.writeDisc (s : State) (data : Word) : State :=
  let old := s.fld 0x6400 7 0
  let s1 := if bits data.toNat 7 0 ≠ old ∧ !s.allGreen false then
      (s.plainWrite 0x6400 (BitVec.ofNat 32 (setBits data.toNat 7 0 old))).sticky 0x6408 3
    else s.plainWrite 0x6400 data
  let s2 := if data.getLsbD 9 then s1.post else s1
  let s3 := if data.getLsbD 10 then { s2 with disc := { s2.disc with topo := [] } } else s2
  if data.getLsbD 11 then s3.reneg else s3

/-- A write that reaches its register. -/
def State.writeReg (s : State) (off : Nat) (data : Word) : State :=
  if off = 0x100 then s.writeCtl data
  else if 0x400 ≤ off ∧ off < 0xC00 then s.writeRing off data
  else if off = 0x27C0 then s.writePhy data
  else if off = 0x3200 then s.writeConeCtl data
  else if off = 0x3814 then s.writeLogFree data
  else if off = 0x3C00 then s.writeUnlock data
  else if off = 0x3C04 then s.writeInjCtl data
  else if 0x4000 ≤ off ∧ off < 0x4800 then s.writeSag off data
  else if off = 0x4800 then s.writeNumCtl data
  else if off = 0x5800 then s.writeShelfCtl data
  else if off = 0x6010 then s.writePwr data
  else if off = 0x6040 then s.writeThr data
  else if off = 0x6400 then s.writeDisc data
  else if off = 0x640C then s.setPkg (data.toNat &&& 0x800007FF)
  else if off = 0x7000 then s.washCtl data.toNat
  else s.plainWrite off data

/-- A CFG write (R37, R593, R602). -/
def State.cfgWrite (s : State) (off : Nat) (data : Word) : State :=
  if s.aonHeld then s
  else if s.regReachable off then s.writeReg off data
  else s.noteAccess off true

end Sys2Proof.Machine
end

