-- ==== Sys2Proof/Machine/Settle.lean ====
section
/-! DEFINITION. What every command shares: its start, what the block settles by itself once the command's own effect is made, the
kiln log and its escalations (R547 to R552), and the two wrappers through which every meaning runs. -/

namespace Sys2Proof.Machine

/-- A command begins: the outputs and codes of the last one are gone. -/
def State.start (s : State) : State := { s with out := [], raised := [], events := [] }

/-! ## What settles by itself -/

/-- The fence that a violation or a failed attestation asks for (R484, R485). -/
def State.sagFence (s : State) : State :=
  if !s.sag.fenceDue then s
  else if s.sag.fenced then { s with sag := { s.sag with fenceDue := false } }
  else { s with sag := { s.sag with fenceDue := false, fenced := true } }.fenceStreams 0x40 false

/-- Strands: repairs, calibrations, slices, full BIST and parks move on (R439 to R445, R416, R423, R539, R544, R512). -/
def State.settleStrands (s : State) : State :=
  s.settleLeaves.settleRepairs.applyAtOnce.reapCal.checkAbort.reapSlice.reapFull.finishCalReqs.unblock.parkGroups

/-- Streams, draws, saves, captures, shelves, FENCEs and closes move on (R59, R153, R170, R206, R220, R259, R260, R298). -/
def State.settleWork (s : State) : State :=
  let s0 := (State.portFaults s.port.length s).memRelease
  let s1 := s0.pumpSends.pumpDraws.pumpSaves.pumpQueries.pumpCaptures.settleShelves.advanceFetches
  let s2 := forEach (s1.tx.map (·.1)) (fun id s => s.checkCloseTx id) s1
  let s3 := forEach (s2.rx.map (·.1)) (fun key s => s.checkCloseRx key) s2
  s3.checkFences

/-- What LINK_READY says (R386). -/
def State.readyWords (s : State) : Nat × Bool × Bool := (s.rxSg, s.flag 0x2080 0, s.trusted)

/-- LINK_READY and EARLY_ID are sent when their content has changed in the step (R386, R456). -/
def State.announce (s0 s : State) : State :=
  if s0.aonHeld || s.aonHeld then s
  else
    let s1 := if s.readyWords = s0.readyWords then s else s.sendReady
    if s.earlyBody = s0.earlyBody then s1 else s1.sendEarly

/-- Everything that settles by itself. -/
def State.settleAll (s : State) : State := s.settleStrands.checkActive.checkLocal.sagFence.settleWork.pumpPower

/-! ## Escalation (R551, R552) -/

/-- The escalation of a unit. -/
def State.escalate (s : State) (kind : UnitKind) (unit : Nat) : State :=
  match kind with
  | .strand => s.retire unit
  | .stream => (s.fenceOut unit 0x22).fenceIn unit 0x22 |>.fenceIn (4096 + unit) 0x22
  | .pair => if (s.ring unit).fault then s else s.ringFault unit 0x0702 false
  | .draw =>
    match s.draw? unit with
    | some d => s.cutDraw d
    | none => s
  | _ => s

/-- The escalation of the instance, at the third one within a frame: INST_SHARD changes, and EARLY_ID says so (R456). -/
def State.escalateInst (s : State) : State :=
  let s1 := { s with kiln := { s.kiln with instF := true } }.raise 0x0A30 0 s.kiln.escalations
  let s2 := ((s1.fenceStreams 0x22 true).setFlag 0x6010 0 true).lose 1
  if s2.aonHeld || s2.earlyBody = s.earlyBody then s2 else s2.sendEarly

/-- The codes of the step are logged and the events after them posted, and the escalations act; their own codes are nested and do not escalate
again. -/
def State.settleLog (s : State) : State :=
  let before := s.kiln.frameEsc
  let g := logAll false [] s
  let s1 := forEach g.esc (fun e s => s.escalate e.1 e.2) g.state.flushEvents
  let s2 := if before < 3 ∧ 3 ≤ s1.kiln.frameEsc then s1.escalateInst else s1
  (logAll true g.fresh s2).state.flushEvents

/-! ## The wrappers -/

/-- A frame placed before those of higher TYPE. -/
def placeFrame (f : Nat × List Byte) : List (Nat × List Byte) → List (Nat × List Byte)
  | [] => [f]
  | g :: l => if f.1 < g.1 then f :: g :: l else g :: placeFrame f l

/-- Outputs with their sideband frames, in order, replaced by others. -/
def refillFrames : List Out → List (Nat × List Byte) → List Out
  | .sideband _ _ :: l, f :: fs => .sideband f.1 f.2 :: refillFrames l fs
  | o :: l, fs => o :: refillFrames l fs
  | [], _ => []

/-- The frames that are ready in one step leave by their TYPE, the lowest first (R385); those of one TYPE in the order made. -/
def State.orderFrames (s : State) : State :=
  let frames := s.out.filterMap (fun o => match o with
    | .sideband k p => some (k, p)
    | _ => none)
  { s with out := refillFrames s.out (frames.foldl (fun l f => placeFrame f l) []) }

/-- `x`, as settling and logging have made it of `u`, with what neither of them touches as `u` has it. Said here once, by
construction. -/
def State.unsettled (u x : State) : State :=
  { x with
    straps := u.straps, resets := u.resets, lclkLock := u.lclkLock, lclkHold := u.lclkHold, fcount := u.fcount, phase := u.phase
    pdAck := u.pdAck, accNext := u.accNext, nextDesc := u.nextDesc, stations := u.stations, ptIn := u.ptIn, emptied := u.emptied
    keepers := u.keepers, keys := u.keys, reads := u.reads, cones := u.cones, dieId := u.dieId, dieIdOk := u.dieIdOk
    idBuf := u.idBuf, early := u.early, ready := u.ready, presence := u.presence, trusted := u.trusted, offValid := u.offValid
    test := u.test, shadows := u.shadows }

/-- A condition of R368 or R500 that falls away from an EXTEST in effect sets EXTEST_LIMITED, as does one that a new EXTEST finds (R575,
R584). -/
def State.noteLimited (s0 x : State) : State := if x.extestLimited && !s0.extestLimited then x.sticky 0x7014 2 else x

/-- The queue of commands and the build are not a command's to change. -/
def State.queueOf (s0 x : State) : State := { x with build := s0.build, pending := s0.pending }

/-- What a register keeps while the set-up domain is held in reset or off: those that RST_CFG_N clears stay at their reset values (R503,
R592). ID_BAD alone is kept, which the release of RST_AON_N sets before that domain is up (R461, DEDUCED). -/
def heldWord (p : Nat × Word) : Option (Nat × Word) :=
  if regClear p.1 == .aon then some p else if p.1 = 0x6408 then some (p.1, p.2 &&& 0x10) else none

/-- The register file as every command leaves it: in its canonical form, and with nothing in it that a reset or an off domain holds. -/
def State.heldRegs (s : State) : State :=
  { s with regs := canonRegs s.build s.role (if s.cfgUp then s.regs else s.regs.filterMap heldWord) }

/-- The state that a command ends in: `s0` is where it began, `u` what its own effect made of that. What may now move on by itself
does, the codes raised are logged, the O channels offer their next beats (R30), and IRQ_N is driven. -/
def State.finish (s0 u : State) : State := (s0.queueOf (u.unsettled (s0.noteLimited (s0.announce u.settleAll)).settleLog.offerBeats.orderFrames)).heldRegs.driveIrq

/-- The same for a command that lets nothing else move on. -/
def State.finishLight (s0 u : State) : State := (s0.queueOf (u.unsettled u.settleLog.offerBeats.orderFrames)).heldRegs.driveIrq

/-- A command that lets nothing else move on: its effect, then the log. -/
def runLight (f : State → State) (s : State) : Host.Outcome State Fault Refusal := .next (s.start.finishLight (f s.start))

/-- A command whose effect may let other work move on. -/
def run (f : State → State) (s : State) : Host.Outcome State Fault Refusal := .next (s.start.finish (f s.start))

/-- A command of the AON domain: nothing happens while RST_AON_N is asserted (R505). -/
def runAon (f : State → State) (s : State) : Host.Outcome State Fault Refusal := run (fun s => if s.aonHeld then s else f s) s

/-- Such a command that lets nothing else move on. -/
def runAonLight (f : State → State) (s : State) : Host.Outcome State Fault Refusal :=
  runLight (fun s => if s.aonHeld then s else f s) s

/-- A command of the set-up domain: nothing happens while that domain is down (R37, R505). -/
def runUp (f : State → State) (s : State) : Host.Outcome State Fault Refusal := run (fun s => if s.cfgUp then f s else s) s

/-- Such a command that lets nothing else move on. -/
def runUpLight (f : State → State) (s : State) : Host.Outcome State Fault Refusal :=
  runLight (fun s => if s.cfgUp then f s else s) s

/-- A command that names unit `i` of `n`: there is no such event for a unit that the build lacks (R21). -/
def named (n i : Nat) (r : Host.Outcome State Fault Refusal) : Host.Outcome State Fault Refusal :=
  if i < n then r else .fault .absentUnit

end Sys2Proof.Machine
end

