-- ==== Sys2Proof/Machine/Mem.lean ====
section
/-! DEFINITION. Responses of the MEM and HM ports, handed to what each request serves (R35, R247 to R261, R560). -/

namespace Sys2Proof.Machine

/-! ## MEM -/

/-- The oldest fetch answer of a WEIGHT stream that is still being read takes `f`. -/
def modAnswer (f : TxParcel → TxParcel) : List TxParcel → List TxParcel
  | [] => []
  | p :: ps => if p.source = .fetchAnswer ∧ !p.complete then f p :: ps else p :: modAnswer f ps

/-- The fetch answers without the oldest one of a stream. -/
def dropFetch (weight : Nat) : List Fetch → List Fetch
  | [] => []
  | g :: gs => if g.weight = weight then gs else g :: dropFetch weight gs

/-- The oldest fetch answer of a stream goes on after `n` bytes. -/
def stepFetch (weight n : Nat) : List Fetch → List Fetch
  | [] => []
  | g :: gs => if g.weight = weight then { g with addr := g.addr + n, left := g.left - n, reading := none } :: gs
    else g :: stepFetch weight n gs

/-- The read of a fetch answer is over: the next one of the stream begins. -/
def State.endFetch (s : State) (weight : Nat) : State :=
  ({ s with fetches := dropFetch weight s.fetches }).pumpFetch weight

/-- Read data of a fetch answer arrive (R211). An error ends the answer as R302 ends a parcel. -/
def State.fetchData (s : State) (weight request : Nat) (data : List Byte) (err : Bool) : State :=
  match s.fetches.find? (fun (f : Fetch) => f.weight == weight && f.reading == some request) with
  | none => s
  | some f =>
    let n := min f.left 4096
    if err then
      let s1 := (s.sticky 0x5808 7).raise 0x0606 weight
      let s2 := s1.modTx weight (fun (t : TxStream) => { t with
        queue := (modAnswer (fun p => { p with abort := true, complete := true }) t.queue).filter (fun (p : TxParcel) =>
          p.started || !p.abort) })
      s2.endFetch weight
    else
      let whole := f.left ≤ n
      let s1 := s.modTx weight (fun (t : TxStream) => { t with
        queue := modAnswer (fun p =>
          let src := p.src ++ padTo n data
          { p with src := if whole then src ++ zeros (padLen src.length) else src, complete := whole }) t.queue })
      if whole then s1.endFetch weight
      else ({ s1 with fetches := stepFetch weight n s1.fetches }).pumpFetch weight

/-- An outstanding MEM request that has been issued on a channel that operates: its channel and use. Input to any other is ignored (R505,
R509). -/
def State.memUse (s : State) (request : Nat) : Option (Nat × MemUse) :=
  if s.memHeld.any (fun r => r.1 == request) then none else (lookupKey request s.memOps).filter (fun u => s.memUp u.1)

/-- Read data return on a MEM channel; point 0x20 makes the read fail. -/
def State.memData (s : State) (request : Nat) (data : List Byte) (err0 : Bool) : State :=
  match s.memUse request with
  | none => s
  | some (ch, u) =>
    let (inj, s1) := ({ s with memOps := eraseKey request s.memOps }).fire 0x20 ch
    let err := err0 || inj
    s1.marked inj (match u with
      | .fetch w => s1.fetchData w request data err
      | .drawRead d => s1.drawData d request data err
      | .accRead r key => s1.accData r key request data err
      | .scaleLoad d => s1.scaleData d data err
      | .accWrite _ _ => s1
      | .fill _ _ _ => s1
      | .restoreWrite _ _ => s1
      | .image _ => s1)

/-- A write is acknowledged on a MEM channel; point 0x21 makes it fail. -/
def State.memAck (s : State) (request : Nat) (err0 : Bool) : State :=
  match s.memUse request with
  | none => s
  | some (ch, u) =>
    let (inj, s1) := ({ s with memOps := eraseKey request s.memOps }).fire 0x21 ch
    let err := err0 || inj
    s1.marked inj (match u with
      | .accWrite r key => s1.accAdvance r key request err
      | .fill shelf stream piece => s1.fillAcked shelf stream piece err
      | .restoreWrite d piece => s1.restoreAcked d piece err
      | .image d => s1.imageAcked d err
      | .fetch _ => s1
      | .drawRead _ => s1
      | .accRead _ _ => s1
      | .scaleLoad _ => s1)

/-! ## Doorbells and submission fetches -/

/-- The faults of an index and generation field of a doorbell block (R241, R243): reserved bits, or an index beyond the ring. -/
def indexBad (v size : Nat) : Bool := bits v 63 13 != 0 || size ≤ bits v 11 0

/-- A doorbell block is faulty (R243). -/
def State.doorbellBad (s : State) (pair : Nat) (b : List Byte) : Bool :=
  let sq := field b 0 8
  let cq := field b 8 8
  let r := s.ring pair
  let sqBad := if pair = 0 then sq != 0 else indexBad sq (s.sqSize pair) ||
    (ringCount (s.sqSize pair) (bits sq 11 0) r.sqCi (bit sq 12 == r.sqGen)).isNone
  let cqBad := indexBad cq (s.cqSize pair) || (ringCount (s.cqSize pair) r.cqPi (bits cq 11 0) (bit cq 12 == !r.cqPhase)).isNone
  sqBad || cqBad || field b 0x1C 4 != 0

/-- A good doorbell block is used (R243, R246): its indices and message; the poll interval doubles up to POLL_MAX where a poll shows no
new entry, and returns to 100 ns where a block does. -/
def State.useDoorbell (s : State) (pair : Nat) (b : List Byte) : State :=
  let sq := field b 0 8
  let cq := field b 8 8
  let r := s.ring pair
  let fresh := bits sq 11 0 != r.sqPi || bit sq 12 != r.sqPiGen
  let exp := if fresh then 0 else if r.poll then min (r.pollExp + 1) (s.fld (ringReg pair 0x18) 7 4) else r.pollExp
  let s1 := s.modRing pair (fun r => { r with
    sqPi := bits sq 11 0, sqPiGen := bit sq 12, cqCi := bits cq 11 0, cqCiGen := bit cq 12, msiAddr := field b 0x10 8
    msiData := field b 0x18 4, pollExp := exp })
  (if pair = 0 then s1.flushLost else s1).tryFetch pair

/-- A doorbell block has been read (R243, R261). Points 0x22 and 0x25 make the read fail or the block faulty. A notification that came
meanwhile has the block read once more (R36), and the data of a read that began before the pair was enabled anew are not used. -/
def State.doorbellDone (s : State) (pair : Nat) (data : List Byte) (err0 : Bool) : State :=
  let r := s.ring pair
  if !r.reading then s
  else
    let (injR, s1) := (s.modRing pair (fun r => { r with reading := false, again := false, oldRead := false })).fire 0x22 0
    let (injD, s2) := s1.fire 0x25 pair
    let b := padTo 32 data
    if !s2.ringOn pair then s2
    else if r.oldRead then s2.readDoorbell pair
    else if err0 || injR || injD || s2.doorbellBad pair b then s2.ringFault pair 0x0702 (injR || injD)
    else
      let s3 := s2.useDoorbell pair b
      if r.again then s3.readDoorbell pair false else s3

/-- `n` entries of a submission fetch have been read: SQ_CI moves past them (R247). -/
def Ring.took (r : Ring) (size n : Nat) (data : List Byte) : Ring :=
  let wrap := size ≤ r.sqCi + n
  { r with
    fetched := r.fetched ++ pieces 64 (padTo (64 * n) (data.take (64 * n)))
    sqCi := if wrap then r.sqCi + n - size else r.sqCi + n, sqGen := if wrap then !r.sqGen else r.sqGen }

/-- A submission fetch returns (R247, R261): the entries before one whose read fails have been read, and `data` holds them. One that
ENABLE 0 has overtaken is discarded (R245). -/
def State.submissionDone (s : State) (pair : Nat) (data : List Byte) (err0 : Bool) : State :=
  let r := s.ring pair
  if r.fetching = 0 then s
  else
    let (inj, s1) := (s.modRing pair (fun r => { r with fetching := 0, stale := false })).fire 0x22 0
    if r.stale then s1.tryFetch pair
    else if err0 || inj then
      let n := if err0 then min (data.length / 64) (r.fetching - 1) else 0
      (s1.modRing pair (fun r => r.took (s1.sqSize pair) n data)).ringFault pair 0x0701 inj
    else (s1.modRing pair (fun r0 => r0.took (s1.sqSize pair) r.fetching data)).tryFetch pair

/-! ## Other host memory traffic -/

/-- Data of a descriptor's HM read; point 0x22 makes the read fail. -/
def State.hostData (s0 : State) (request : Nat) (data : List Byte) (err0 : Bool) : State :=
  match (s0.takeRead request).1 with
  | none => s0
  | some u =>
    let (inj, s) := (s0.takeRead request).2.fire 0x22 0
    let err := err0 || inj
    s.marked inj (match u with
      | .parcelSend d => s.sendData d data err
      | .keyLoad d => s.keyData d data err
      | .scaleLoad d => s.scaleData d data err
      | .dispatchLoad d => s.dispatchData d data err
      | .restoreTable d => s.restoreData d true data err
      | .restoreChunk d => s.restoreData d false data err)

/-- What the acknowledgement of an HM write does; `err` is HM_WACK_ERR (R248, R254, R256, R261). DESIGN CHOICE: the spec states no response
to an error of a capture write (R170); it is taken as an acknowledgement, without a record. -/
def State.hostAcked (s : State) (request : Nat) (u : HmWriteUse) (err : Bool) : State :=
  match u with
  | .completion pair d =>
    let s1 := { s with descs := s.descs.filter (fun (x : Desc) => x.id != d) }.entryAcked pair request
    if err then s1.ringFault pair 0x0703 false else s1
  | .event =>
    let s1 := s.entryAcked 0 request
    if err then s1.eventLost.raise 0x0704 0 else s1
  | .message pair => if err then s.raise 0x0705 pair else s
  | .capture piece => match piece with
    | some (key, uid, off) => s.pieceAcked key uid off
    | none => s
  | .drawChunk d => s.drawWriteAcked d err
  | .drawTable d => s.drawWriteAcked d err
  | .image d => s.imageAcked d err
  | .record d => s.recordAcked d err
  | .logRecord d i seq => s.logRecordAcked d i seq err

/-- The write is a completion entry. -/
def HmWriteUse.isCompletion : HmWriteUse → Bool
  | .completion _ _ => true
  | .event => false
  | .message _ => false
  | .capture _ => false
  | .drawChunk _ => false
  | .drawTable _ => false
  | .image _ => false
  | .record _ => false
  | .logRecord _ _ _ => false

/-- An HM write is acknowledged: a completion entry, or another write. Point 0x23 makes it fail. A freed slot may let a pair fetch
(R248). -/
def State.hostAck (s0 : State) (completion : Bool) (request : Nat) (err0 : Bool) : State :=
  match (s0.takeWrite request).1 with
  | none => s0
  | some u =>
    if u.isCompletion != completion then s0
    else
      let (inj, s) := (s0.takeWrite request).2.fire 0x23 0
      (s.marked inj (s.hostAcked request u (err0 || inj))).tryFetchAll

end Sys2Proof.Machine
end

