-- ==== Sys2Proof/Machine/CmdIo.lean ====
section
/-! DEFINITION. Commands of the station and pass-through ports, of the MEM, HM and NV ports, of HEAT_IN and of the CFG window
(chapters 1, 2, 7, 14 and 18). -/

namespace Sys2Proof.Machine

/-! ## Station ports (R30 to R33, R77, R83) -/

/-- ST_I_BEAT (R32). -/
def execStIBeat (port : Nat) (side : BitVec 128) (data : List Byte) (s : State) : Host.Outcome State Fault Refusal :=
  named s.build.ports port (runUp (fun s => s.intake port side.toNat data) s)

/-- ST_O_BEAT (R77, R85). -/
def execStOBeat (port : Nat) (s : State) : Host.Outcome State Fault Refusal :=
  named s.build.ports port (runUp (fun s => s.drain port) s)

/-- POP_REQUEST (R33, R83). -/
def execPopRequest (port stream mb dir : Nat) (s : State) : Host.Outcome State Fault Refusal :=
  named s.build.ports port (runUp (fun s => s.pop port stream mb dir) s)

/-! ## Pass-through (R34, R88) -/

/-- PT_I_BEAT (R34). -/
def execPtIBeat (vc : Nat) (sop eop : Bool) (data : List Byte) (s : State) : Host.Outcome State Fault Refusal :=
  named 16 vc (runUp (fun s => s.ptIntake vc sop eop data) s)

/-- PT_O_BEAT (R88). -/
def execPtOBeat (vc : Nat) (s : State) : Host.Outcome State Fault Refusal :=
  named 16 vc (runUp (fun s => s.ptDrain vc) s)

/-! ## MEM, HM and NV -/

/-- MEM_RD_DATA (R35). -/
def execMemRdData (request : Nat) (data : List Byte) (err : Bool) (s : State) : Host.Outcome State Fault Refusal :=
  runUp (fun s => s.memData request data err) s

/-- MEM_WACK (R35). -/
def execMemWack (request : Nat) (err : Bool) (s : State) : Host.Outcome State Fault Refusal :=
  runUp (fun s => s.memAck request err) s

/-- A pair's poll interval returns to 100 ns, and its doorbell block is read (R36, R246, R600). -/
def State.watchHit (s : State) (pair : Nat) : State :=
  if s.ringOn pair && !s.fetchHeld then
    (s.modRing pair (fun r => { r with pollExp := 0, again := r.reading, poll := false })).readDoorbell pair false
  else s

/-- HM_WATCH (R36): `line` is byte address bits [63:6] of the line written. -/
def execHmWatch (line : Nat) (s : State) : Host.Outcome State Fault Refusal :=
  runUpLight (fun s => forRange 64 (fun p s => if s.doorbellAddr p / 64 = line then s.watchHit p else s) s) s

/-- DOORBELL_READ_DONE (R243, R246, R261). -/
def execDoorbellReadDone (pair : Nat) (data : List Byte) (err : Bool) (s : State) : Host.Outcome State Fault Refusal :=
  named 64 pair (runUpLight (fun s => s.doorbellDone pair data err) s)

/-- SUBMISSION_FETCH_DONE (R245, R247, R261). -/
def execSubmissionFetchDone (pair : Nat) (data : List Byte) (err : Bool) (s : State) : Host.Outcome State Fault Refusal :=
  named 64 pair (runUpLight (fun s => s.submissionDone pair data err) s)

/-- HM_READ_DONE (R260). -/
def execHmReadDone (request : Nat) (data : List Byte) (err : Bool) (s : State) : Host.Outcome State Fault Refusal :=
  runUp (fun s => s.hostData request data err) s

/-- COMPLETION_ACK (R248, R261). -/
def execCompletionAck (request : Nat) (err : Bool) (s : State) : Host.Outcome State Fault Refusal :=
  runUp (fun s => s.hostAck true request err) s

/-- HM_WRITE_ACK (R254, R256, R261). -/
def execHmWriteAck (request : Nat) (err : Bool) (s : State) : Host.Outcome State Fault Refusal :=
  runUp (fun s => s.hostAck false request err) s

/-- NV_RESPONSE (R419). -/
def execNvResponse (rdata : BitVec 64) (err : Bool) (s : State) : Host.Outcome State Fault Refusal :=
  runAon (fun s => s.nvResponse rdata.toNat err) s

/-! ## HEAT_IN (R518, R519) -/

/-- HEAT_IN_FRAME (R519). -/
def execHeatInFrame (frame : Nat) (s : State) : Host.Outcome State Fault Refusal := runAonLight (fun s => s.heatInFrame frame) s

/-- HEAT_IN_STALE (R519). -/
def execHeatInStale (s : State) : Host.Outcome State Fault Refusal :=
  runAonLight (fun s => { s with pulse := { s.pulse with inStale := true } }) s

/-! ## The CFG window (R37, R592 to R602) -/

/-- A CFG address outside the 64 KiB window, or one that is not word aligned, cannot appear on CFG_ADDR[13:0] (R37): no such access
exists. -/
def access (off : Nat) (r : Host.Outcome State Fault Refusal) : Host.Outcome State Fault Refusal :=
  if off % 4 = 0 then named 0x10000 off r else .fault .absentUnit

/-- REGISTER_WRITE (R593). -/
def execRegisterWrite (offset : Nat) (data : BitVec 32) (s : State) : Host.Outcome State Fault Refusal :=
  access offset (run (fun s => s.cfgWrite offset data) s)

/-- FCOUNT_LO_READ (R604). -/
def execFcountLoRead (s : State) : Host.Outcome State Fault Refusal := runLight (fun s => s.cfgRead 0x200) s

/-- SHADOW_LO_READ (R596). -/
def execShadowLoRead (offset : Nat) (s : State) : Host.Outcome State Fault Refusal :=
  access offset (runLight (fun s => s.cfgRead offset) s)

/-- STOP_FETCH (R600): a write of CL_CTL. -/
def execStopFetch (data : BitVec 32) (s : State) : Host.Outcome State Fault Refusal := run (fun s => s.cfgWrite 0x100 data) s

/-- HOLD_I (R601): a write of CL_CTL. -/
def execHoldI (data : BitVec 32) (s : State) : Host.Outcome State Fault Refusal := run (fun s => s.cfgWrite 0x100 data) s

/-- RING_ENABLE (R245): a write of CL_RING_CTL with ENABLE 1. -/
def execRingEnable (pair : Nat) (data : BitVec 32) (s : State) : Host.Outcome State Fault Refusal :=
  named 64 pair (run (fun s => s.cfgWrite (ringReg pair 0x18) (data ||| 1#32)) s)

/-- RING_DISABLE (R245): the same with ENABLE 0. -/
def execRingDisable (pair : Nat) (data : BitVec 32) (s : State) : Host.Outcome State Fault Refusal :=
  named 64 pair (run (fun s => s.cfgWrite (ringReg pair 0x18) (data &&& 0xFFFFFFFE#32)) s)

/-- RING_POLL (R246). -/
def execRingPoll (pair : Nat) (s : State) : Host.Outcome State Fault Refusal :=
  named 64 pair (runUpLight (fun s => s.readDoorbell pair) s)

/-- MOD_TIME has passed since the oldest unsignalled entry was written (R256); with MOD_TIME 0 no time bounds the wait. -/
def State.modTimeout (s : State) (pair : Nat) : State :=
  if s.ringOn pair && s.flag (ringReg pair 0x18) 1 && (s.ring pair).oldest.isSome && s.fld (ringReg pair 0x18) 31 16 != 0 then
    s.messageDue pair
  else s

/-- IRQ_MOD_TIMEOUT (R256). -/
def execIrqModTimeout (pair : Nat) (s : State) : Host.Outcome State Fault Refusal :=
  named 64 pair (runUpLight (fun s => s.modTimeout pair) s)

end Sys2Proof.Machine
end

