-- ==== Sys2Proof/Machine/CmdDesc.lean ====
section
/-! DEFINITION. Commands of the descriptors: each is the acceptance of the next entry of R249, where that entry's OPCODE is the
command's (chapters 2 to 7, 11, 12, 15 and 16). -/

namespace Sys2Proof.Machine

/-- The acceptance engine takes its next entry, if its OPCODE is `opcode` (R249). -/
def acceptOp (opcode : Nat) (mask : List Nat) (run_ : Nat → List Byte → State → State) (s : State) :
    Host.Outcome State Fault Refusal :=
  runUp (fun s => s.accept (· == opcode) mask run_) s

/-- NOP (R258). -/
def execNop (s : State) : Host.Outcome State Fault Refusal :=
  runUpLight (fun s => s.accept (· == 0x00) [] (fun id _ s => s.complete id 0 (toLe 8 s.now))) s

/-- FENCE (R259). -/
def execFence (s : State) : Host.Outcome State Fault Refusal :=
  acceptOp 0x01 [3] (fun id e s => s.fence id e) s

/-- STATION_NAME (R44 to R47). -/
def execStationName (s : State) : Host.Outcome State Fault Refusal :=
  acceptOp 0x14 stationNameMask (fun id e s => s.stationName id e) s

/-- STREAM_OPEN (R53 to R57). -/
def execStreamOpen (s : State) : Host.Outcome State Fault Refusal :=
  acceptOp 0x10 streamOpenMask (fun id e s => s.streamOpen id e) s

/-- STREAM_CLOSE (R59, R92). -/
def execStreamClose (s : State) : Host.Outcome State Fault Refusal :=
  acceptOp 0x11 streamCloseMask (fun id e s => s.streamClose id e) s

/-- STREAM_MODIFY (R58, R139). -/
def execStreamModify (s : State) : Host.Outcome State Fault Refusal :=
  acceptOp 0x12 streamModifyMask (fun id e s => s.streamModify id e) s

/-- PARCEL_SEND (R260). -/
def execParcelSend (s : State) : Host.Outcome State Fault Refusal :=
  acceptOp 0x13 parcelSendMask (fun id e s => s.parcelSend id e) s

/-- SHELF_OPEN (R207, R208). -/
def execShelfOpen (s : State) : Host.Outcome State Fault Refusal :=
  acceptOp 0x20 shelfOpenMask (fun id e s => s.shelfOpen id e) s

/-- VERSION_COMMIT (R216). -/
def execVersionCommit (s : State) : Host.Outcome State Fault Refusal :=
  acceptOp 0x21 versionCommitMask (fun id e s => s.versionCommit id e) s

/-- VERSION_RELEASE (R218). -/
def execVersionRelease (s : State) : Host.Outcome State Fault Refusal :=
  acceptOp 0x22 versionReleaseMask (fun id e s => s.versionRelease id e) s

/-- SKEW_RELEASE (R214). -/
def execSkewRelease (s : State) : Host.Outcome State Fault Refusal :=
  acceptOp 0x23 skewReleaseMask (fun id e s => s.skewRelease id e) s

/-- DRAW_START (R219, R228, R230). -/
def execDrawStart (s : State) : Host.Outcome State Fault Refusal :=
  acceptOp 0x24 drawStartMask (fun id e s => s.drawStart id e) s

/-- DRAW_ACK (R228, R229). -/
def execDrawAck (s : State) : Host.Outcome State Fault Refusal :=
  acceptOp 0x25 drawAckMask (fun id e s => s.drawAck id e) s

/-- RESTORE (R235, R236). -/
def execRestore (s : State) : Host.Outcome State Fault Refusal :=
  acceptOp 0x26 restoreMask (fun id e s => s.restoreStart id e) s

/-- ACCUM_OPEN (R158). -/
def execAccumOpen (s : State) : Host.Outcome State Fault Refusal :=
  acceptOp 0x27 accumOpenMask (fun id e s => s.accumOpen id e) s

/-- SCALE_SAVE (R153). -/
def execScaleSave (s : State) : Host.Outcome State Fault Refusal :=
  acceptOp 0x28 scaleMask (fun id e s => s.scaleSave id e) s

/-- SCALE_LOAD (R154). -/
def execScaleLoad (s : State) : Host.Outcome State Fault Refusal :=
  acceptOp 0x29 scaleMask (fun id e s => s.scaleLoad id e) s

/-- DISPATCH_LOAD (R179 to R182, R198). -/
def execDispatchLoad (s : State) : Host.Outcome State Fault Refusal :=
  acceptOp 0x30 dispatchLoadMask (fun id e s => s.dispatchLoad id e) s

/-- CAL_REQUEST (R417). -/
def execCalRequest (s : State) : Host.Outcome State Fault Refusal :=
  acceptOp 0x40 calMask (fun id e s => s.calRequest id e) s

/-- BIST_SLICE (R542). -/
def execBistSlice (s : State) : Host.Outcome State Fault Refusal :=
  acceptOp 0x41 bistSliceMask (fun id e s => s.bistSliceCmd id e) s

/-- BIST_FULL (R543). -/
def execBistFull (s : State) : Host.Outcome State Fault Refusal :=
  acceptOp 0x42 bistFullMask (fun id e s => s.bistFullCmd id e) s

/-- REPAIR_CMD (R451). -/
def execRepairCmd (s : State) : Host.Outcome State Fault Refusal :=
  acceptOp 0x43 repairMask (fun id e s => s.repairCmd id e) s

/-- LOG_DRAIN (R257, R555). -/
def execLogDrain (s : State) : Host.Outcome State Fault Refusal :=
  acceptOp 0x50 logDrainMask (fun id e s => s.logDrain id e) s

/-- KEY_LOAD (R257). -/
def execKeyLoad (s : State) : Host.Outcome State Fault Refusal :=
  acceptOp 0x60 keyLoadMask (fun id e s => s.keyLoad id e) s

/-- WASH (R577, R578). -/
def execWash (s : State) : Host.Outcome State Fault Refusal :=
  acceptOp 0x61 [] (fun id _ s => s.startWash (some id)) s

/-- BAD_OPCODE (R10, R257): an entry whose opcode is unassigned. -/
def execBadOpcode (s : State) : Host.Outcome State Fault Refusal :=
  runUpLight (fun s => s.accept (fun o => !opcodes.contains o) [] (fun id _ s => s.complete id 0x10)) s

/-! ## Ends of descriptors that wait -/

/-- SHELF_OPEN_TIMEOUT (R208). -/
def execShelfOpenTimeout (descriptor : Nat) (s : State) : Host.Outcome State Fault Refusal :=
  runUp (fun s => s.shelfOpenTimeout descriptor) s

/-- VERSION_COMMIT_APPLY (R216). -/
def execVersionCommitApply (shelf : Nat) (s : State) : Host.Outcome State Fault Refusal :=
  named s.build.shelves shelf (runUp (fun s => s.versionCommitApply shelf) s)

/-- DRAW_ACK_TIMEOUT (R225). -/
def execDrawAckTimeout (draw : Nat) (s : State) : Host.Outcome State Fault Refusal := runUp (fun s => s.drawAckTimeout draw) s

/-- REL_MIN_WRITE (R233): a write of CL_SHELF_CTL. -/
def execRelMinWrite (data : BitVec 32) (s : State) : Host.Outcome State Fault Refusal := run (fun s => s.cfgWrite 0x5800 data) s

/-- CAP_EN_WRITE (R170): a write of CL_NUM_CTL. -/
def execCapEnWrite (data : BitVec 32) (s : State) : Host.Outcome State Fault Refusal := run (fun s => s.cfgWrite 0x4800 data) s

end Sys2Proof.Machine
end

