-- ==== Sys2Proof/Machine/CmdStream.lean ====
section
/-! DEFINITION. Commands of the stream layer: messages and flits that the merge has passed on, and the timers and waits of streams
(chapters 2 to 6 and 8). -/

namespace Sys2Proof.Machine

/-! ## Stream-control messages (R297, R298) -/

/-- OPEN (R56, R298). -/
def execOpenRequest (s : State) : Host.Outcome State Fault Refusal := runUp (fun s => s.takeMsg 0x10 (fun b s => s.openMsg b)) s

/-- OPEN_ANS (R55, R298). -/
def execOpenAnswer (s : State) : Host.Outcome State Fault Refusal := runUp (fun s => s.takeMsg 0x11 (fun b s => s.openAnsMsg b)) s

/-- CLOSE (R59, R298). -/
def execCloseMessage (s : State) : Host.Outcome State Fault Refusal := runUp (fun s => s.takeMsg 0x12 (fun b s => s.closeMsg b)) s

/-- CLOSE_ANS (R298). -/
def execCloseAnswer (s : State) : Host.Outcome State Fault Refusal := runUp (fun s => s.takeMsg 0x13 (fun b s => s.closeAnsMsg b)) s

/-- MODIFY (R139, R297). -/
def execModifyMessage (s : State) : Host.Outcome State Fault Refusal := runUp (fun s => s.takeMsg 0x14 (fun b s => s.modifyMsg b)) s

/-- DEMOTE (R334). -/
def execDemoteMessage (s : State) : Host.Outcome State Fault Refusal := runUp (fun s => s.takeMsg 0x20 (fun b s => s.demoteMsg b)) s

/-- CHUNK_OK (R225, R226, R298). -/
def execChunkOk (s : State) : Host.Outcome State Fault Refusal :=
  runUp (fun s => s.takeMsg 0x18 (fun b s => s.chunkOk (field b 0 2 % 4096) (bit (byteAt b 1) 4) (byteAt b 2 % 64) (field b 4 4))) s

/-- CHUNK_BAD (R225, R298). -/
def execChunkBad (s : State) : Host.Outcome State Fault Refusal :=
  runUp (fun s => s.takeMsg 0x19 (fun b s => s.chunkBad (field b 0 2 % 4096) (byteAt b 2 % 64) (field b 4 4))) s

/-! ## Flits (R72, R88, R120) -/

/-- PARCEL_HEAD_RECEIVE (R72, R300). -/
def execParcelHeadReceive (s : State) : Host.Outcome State Fault Refusal :=
  runUp (fun s => s.takePort [1] (fun i key b s => s.rxHead i key b)) s

/-- PARCEL_BODY_RECEIVE (R120, R302). -/
def execParcelBodyReceive (s : State) : Host.Outcome State Fault Refusal :=
  runUp (fun s => s.takePort [2] (fun i key b s => s.rxBody i key b)) s

/-- PASS_RECEIVE (R88). -/
def execPassReceive (s : State) : Host.Outcome State Fault Refusal :=
  runUp (fun s => s.takePort [3] (fun i key b s => s.rxPass i key b)) s

/-! ## Waits and timers of streams -/

/-- OPEN_TIMEOUT (R54). -/
def execOpenTimeout (stream : Nat) (s : State) : Host.Outcome State Fault Refusal :=
  named 4096 stream (runUp (fun s => s.openTimeout stream) s)

/-- The encoder has had no byte for 16 LCLK: the flit of the parcel in progress may end where it is (R118). -/
def State.idleEnd (s : State) (id : Nat) : State :=
  s.modTx id (fun (t : TxStream) => { t with queue := match t.queue with
    | [] => []
    | p :: rest => { p with idleEnd := !p.complete } :: rest })

/-- ENCODER_IDLE_END (R118). -/
def execEncoderIdleEnd (stream : Nat) (s : State) : Host.Outcome State Fault Refusal :=
  named 4096 stream (runUpLight (fun s => s.idleEnd stream) s)

/-- LOOKAHEAD_GRANT (R151). -/
def execLookaheadGrant (slice : Nat) (s : State) : Host.Outcome State Fault Refusal :=
  named 4 slice (runUpLight (fun s => s.laGrant slice) s)

/-- LOOKAHEAD_DONE (R112). -/
def execLookaheadDone (stream : Nat) (s : State) : Host.Outcome State Fault Refusal :=
  named 4096 stream (runUpLight (fun s => s.laDone stream) s)

/-- QUEUE_STALL (R86). -/
def execQueueStall (stream : Nat) (s : State) : Host.Outcome State Fault Refusal :=
  named 4096 stream (runUpLight (fun s => s.queueStall stream) s)

/-! ## Dispatch (R187, R189, R194) -/

/-- SOURCE_SCATTER (R185 to R190). -/
def execSourceScatter (stream : Nat) (s : State) : Host.Outcome State Fault Refusal :=
  named 4096 stream (runUp (fun s => s.scatter stream) s)

/-- HOLD_EXPIRED (R189). -/
def execHoldExpired (table : Nat) (s : State) : Host.Outcome State Fault Refusal :=
  named (s.build.dispTables + 1) table (runUp (fun s => s.expireHolds table) s)

/-- The oldest kept parcel is combined; under CAP_EN it is captured instead of delivered (R170, R194). -/
def State.combineNext (s : State) (id : Nat) : State :=
  match s.combine id with
  | (s1, none) => s1
  | (s1, some uid) => if s1.flag 0x4800 1 then s1.modParcel (4096 + id) uid (fun (q : RxParcel) => { q with hold := 5 }) else s1

/-- SOURCE_COMBINE (R194). -/
def execSourceCombine (stream : Nat) (s : State) : Host.Outcome State Fault Refusal :=
  named 4096 stream (runUp (fun s => s.combineNext stream) s)

end Sys2Proof.Machine
end

