-- ==== Sys2Proof/Machine/CmdLink.lean ====
section
/-! DEFINITION. Commands of the link layer, of frame boundaries and of the lanes' detectors (chapters 8 to 10). -/

namespace Sys2Proof.Machine

/-! ## Rows and flits (R264 to R291) -/

/-- FLIT_SLOT (R61, R274): the slots of the present row, and the row's end. -/
def execFlitSlot (s : State) : Host.Outcome State Fault Refusal := runUp (fun s => s.flitSlot) s

/-- FLIT_ACCEPT (R278). -/
def execFlitAccept (strand : Nat) (flit : List Byte) (s : State) : Host.Outcome State Fault Refusal :=
  named s.build.strands strand (runUp (fun s => s.flitAccept strand (padTo 256 flit)) s)

/-- REPLAY_SLOT (R281): the flit that arrives in the replay slot. -/
def execReplaySlot (strand : Nat) (flit : List Byte) (s : State) : Host.Outcome State Fault Refusal :=
  named s.build.strands strand (runUp (fun s => s.replaySlot strand (padTo 256 flit)) s)

/-- ACK_TIMEOUT (R290). -/
def execAckTimeout (strand : Nat) (s : State) : Host.Outcome State Fault Refusal :=
  named s.build.strands strand (runUp (fun s => s.ackTimeout strand) s)

/-- CRED_FLIT_DUE (R292). -/
def execCredFlitDue (s : State) : Host.Outcome State Fault Refusal :=
  runUpLight (fun s => if s.creditsDue.isEmpty then s else { s with credDue := true }) s

/-- XREPLAY (R288). -/
def execXreplay (s : State) : Host.Outcome State Fault Refusal :=
  runUp (fun s => s.takeLink 1 (fun _ b s => s.xreplayMsg b)) s

/-- SERVICE (R291, R610). -/
def execServiceMessage (s : State) : Host.Outcome State Fault Refusal :=
  runUp (fun s => s.takeLink 2 (fun _ b s =>
    s.serviceMsg (byteAt b 0) (bit (byteAt b 1) 0) (bits (byteAt b 1) 2 1) (field b 2 2 % 4096))) s

/-- MERGE_RELEASE (R276). -/
def execMergeRelease (s : State) : Host.Outcome State Fault Refusal := runUp (fun s => s.mergeRelease) s

/-- F_RELEASE_ROW (R316). -/
def execFReleaseRow (s : State) : Host.Outcome State Fault Refusal := runUp (fun s => s.fRelease) s

/-! ## Frame boundaries (R310) -/

/-- FRAME_BOUNDARY (R310): escalations are counted anew from it (R552). -/
def execFrameBoundary (coreCycles fabCycles cfgCycles aonCycles : Nat) (trk : List Nat) (lanes : List (Nat × Nat)) (s : State) :
    Host.Outcome State Fault Refusal :=
  let t := s.start.finish (s.start.frameBoundary coreCycles fabCycles cfgCycles aonCycles trk lanes)
  .next { t with kiln := { t.kiln with frameEsc := 0 } }

/-! ## Detectors of the lanes (R358, R361, R373) -/

/-- FWD_CLK_STOP (R358): the armed strands whose forwarded clock has stopped. -/
def execFwdClkStop (strands : List Nat) (s : State) : Host.Outcome State Fault Refusal := runUp (fun s => s.clockStop strands false) s

/-- FWD_CLK_LANE (R358). -/
def execFwdClkLane (strand : Nat) (s : State) : Host.Outcome State Fault Refusal :=
  named s.build.strands strand (runUp (fun s => s.fwdClkLane strand) s)

/-- VLD_LANE_FAIL (R361). -/
def execVldLaneFail (strand : Nat) (s : State) : Host.Outcome State Fault Refusal :=
  named s.build.strands strand (runUp (fun s => s.vldFail strand false) s)

/-- TRK_DRIFT (R361). -/
def execTrkDrift (strand : Nat) (s : State) : Host.Outcome State Fault Refusal :=
  named s.build.strands strand (runUpLight (fun s => s.trkDrift strand false) s)

/-- PRESENCE_WINDOW (R373). -/
def execPresenceWindow (edges : Nat) (s : State) : Host.Outcome State Fault Refusal := runAon (fun s => s.presenceWindow edges) s

/-- TERM_EN_WRITE (R375): a write of CL_PHY_CTL. -/
def execTermEnWrite (data : BitVec 32) (s : State) : Host.Outcome State Fault Refusal := run (fun s => s.cfgWrite 0x27C0 data) s

end Sys2Proof.Machine
end

