-- ==== Sys2Proof/Machine/CmdWedge.lean ====
section
/-! DEFINITION. Commands of the sideband, of bisque, time alignment, full-rate wedging, calibration and repair (chapters 11 and 12). -/

namespace Sys2Proof.Machine

/-! ## The sideband (R384 to R386) -/

/-- A received frame is discarded (R384): counted, and the exchange of records must hear its set again (R434). -/
def State.sbDiscard (s : State) : State :=
  { (s.bumpSat 0x208C 15 0 1).sticky 0x2088 6 with
    exch := if s.exch.got then s.exch else { s.exch with sum := false, left := 0, recs := [] } }

/-- A frame is received; point 0x29 makes its CRC fail (R560). -/
def frame (run_ : State → State) (s : State) : Host.Outcome State Fault Refusal :=
  runAon (fun s => match s.fire 0x29 0 with
    | (true, s1) => s1.sbDiscard
    | (false, s1) => run_ s1) s

/-- SB_FRAME_DISCARD (R384). -/
def execSbFrameDiscard (s : State) : Host.Outcome State Fault Refusal := runAonLight (fun s => s.sbDiscard) s

/-- LINK_READY (R386). -/
def execLinkReady (payload : List Byte) (s : State) : Host.Outcome State Fault Refusal :=
  frame (fun s =>
    let w := field payload 2 2
    { s with ready := some ⟨field payload 0 2, bit w 0, bit w 1, bit w 2⟩ }) s

/-- LINK_READY_SEND (R386). -/
def execLinkReadySend (s : State) : Host.Outcome State Fault Refusal := runAonLight (fun s => s.sendReady) s

/-! ## Bisque (R394 to R397) -/

/-- BQ_STEP (R395, R396). -/
def execBqStep (payload : List Byte) (s : State) : Host.Outcome State Fault Refusal := frame (fun s => s.bqStep payload) s

/-- BQ_STEP_REPEAT (R386). -/
def execBqStepRepeat (s : State) : Host.Outcome State Fault Refusal :=
  runAonLight (fun s => match s.bisque.said with
    | some w => s.sendFrame 0x11 (toLe 2 w)
    | none => s) s

/-- Training begins, but not while EXTEST is the instruction (R575). -/
def State.bisqueBegin (s : State) (restart : Bool) : State := if s.test.ir = 0 then s else s.bisqueStart restart

/-- BISQUE_START (R394). -/
def execBisqueStart (s : State) : Host.Outcome State Fault Refusal := runUp (fun s => s.bisqueBegin false) s

/-- BISQUE_STEP_DONE (R395). -/
def execBisqueStepDone (s : State) (lanes : List LaneMeas := []) : Host.Outcome State Fault Refusal := runUp (fun s => s.bisqueStepDone lanes) s

/-- BISQUE_TIMEOUT (R396). -/
def execBisqueTimeout (s : State) : Host.Outcome State Fault Refusal := runUp (fun s => s.bisqueTimeout false) s

/-- BISQUE_RESTART (R396). -/
def execBisqueRestart (s : State) : Host.Outcome State Fault Refusal := runUp (fun s => s.bisqueBegin true) s

/-- BISQUE_FLIT_SLOT (R397). -/
def execBisqueFlitSlot (s : State) : Host.Outcome State Fault Refusal := runUp (fun s => s.bisqueSlot) s

/-! ## Time (R400, R401) -/

/-- TIME (R400): `registered` is the LCLK index of the row in which UI 0 of the flit was registered. -/
def execTimeMessage (registered : Nat) (s : State) : Host.Outcome State Fault Refusal :=
  runUp (fun s => s.takeLink 0x28 (fun _ b s => s.timeMsg b registered)) s

/-- TIME_WAIT (R400). -/
def execTimeWait (s : State) : Host.Outcome State Fault Refusal := runUpLight (fun s => s.timeWait) s

/-- TIME_ADJUST (R401). -/
def execTimeAdjust (s : State) : Host.Outcome State Fault Refusal := runAon (fun s => s.timeAdjust) s

/-! ## Full-rate wedging (R402 to R409) -/

/-- WEDGE_START (R402, R513). -/
def execWedgeStart (group : Nat) (s : State) : Host.Outcome State Fault Refusal :=
  named s.build.sgs group (runUp (fun s => s.groupEngine group) s)

/-- WEDGE_STEP_DONE (R403, R407). -/
def execWedgeStepDone (strand : Nat) (fail : Bool) (lanes : List LaneMeas) (s : State) : Host.Outcome State Fault Refusal :=
  named s.build.strands strand (runUp (fun s => s.wedgeStepDone strand fail lanes) s)

/-- A STEP message: RUN reports a slice's end, VERIFY a check after application, the others a wedging step (R409, R416, R537). -/
def State.stepMsg (s : State) (b : List Byte) : State :=
  let i := byteAt b 0
  let w := byteAt b 1
  let ok := !bit w 5
  if s.build.strands ≤ i ∨ bit w 4 = bit w 5 then s
  else if bits w 3 0 = 7 then s.peerRun i
  else if bits w 3 0 = 8 then s.peerVerify i ok
  else if 1 ≤ bits w 3 0 ∧ bits w 3 0 ≤ 6 then s.peerStep i (bits w 3 0) ok
  else s

/-- STEP (R409, R416, R537). -/
def execStepMessage (s : State) : Host.Outcome State Fault Refusal := runUp (fun s => s.takeLink 0x29 (fun _ b s => s.stepMsg b)) s

/-- STEP_REPEAT (R409). -/
def execStepRepeat (strand : Nat) (s : State) : Host.Outcome State Fault Refusal :=
  named s.build.strands strand (runUpLight (fun s => match (s.strand strand).said with
    | some b => s.pushMsg 0x29 b
    | none => s) s)

/-- VREF_EYE (R404). -/
def execVrefEye (s : State) : Host.Outcome State Fault Refusal := runUp (fun s => s.takeLink 0x2B (fun _ b s => s.vrefEye b)) s

/-- WEDGE_FAIL_TIMEOUT (R407). -/
def execWedgeFailTimeout (strand : Nat) (s : State) : Host.Outcome State Fault Refusal :=
  named s.build.strands strand (runUp (fun s => s.wedgeTimeout strand) s)

/-! ## Calibration (R410 to R416) -/

/-- A strand's calibration interval has passed (R410); a CL_CAL_INTERVAL of 0 turns the trigger off. -/
def State.intervalDue (s : State) (i : Nat) : State :=
  if s.fld 0x2004 15 0 = 0 then s else s.makeDue i

/-- CAL_INTERVAL_DUE (R410). -/
def execCalIntervalDue (strand : Nat) (s : State) : Host.Outcome State Fault Refusal :=
  named s.build.strands strand (runUpLight (fun s => s.intervalDue strand) s)

/-- CAL_SCHEDULE (R411). -/
def execCalSchedule (s : State) : Host.Outcome State Fault Refusal := runUp (fun s => s.calSchedule) s

/-- CAL (R411). -/
def execCalMessage (s : State) : Host.Outcome State Fault Refusal := runUp (fun s => s.takeLink 0x2A (fun _ b s => s.calMsg b)) s

/-- CAL_RUN_DONE (R413, R414). -/
def execCalRunDone (first second : List LaneMeas) (s : State) : Host.Outcome State Fault Refusal :=
  runUp (fun s => s.calRunDone first second) s

/-- CAL_BUDGET_TIMEOUT (R413). -/
def execCalBudgetTimeout (s : State) : Host.Outcome State Fault Refusal := runUp (fun s => s.calTimeout) s

/-- CAL_IDLE_APPLY (R415). -/
def execCalIdleApply (s : State) : Host.Outcome State Fault Refusal := runUp (fun s => s.applyPending true) s

/-- CAL_VERIFY_DONE (R416). -/
def execCalVerifyDone (strand : Nat) (ok : Bool) (s : State) : Host.Outcome State Fault Refusal :=
  named s.build.strands strand (runUp (fun s => s.verifyDone strand ok) s)

/-! ## Repair (R433 to R446) -/

/-- REPAIR_SUM (R434). -/
def execRepairSum (payload : List Byte) (s : State) : Host.Outcome State Fault Refusal := frame (fun s => s.repairSum payload) s

/-- REPAIR_REC (R434, R435, R445). -/
def execRepairRec (payload : List Byte) (s : State) : Host.Outcome State Fault Refusal := frame (fun s => s.repairRec payload) s

/-- REPAIR_SVC (R439, R610). -/
def execRepairSvc (payload : List Byte) (s : State) : Host.Outcome State Fault Refusal :=
  frame (fun s =>
    let w := field payload 0 2
    s.serviceMsg (bits w 7 0) (bit w 8) (bits w 10 9) (field payload 2 2 % 4096)) s

/-- A change that travels by the sideband is repeated until its boundary (R439). -/
def State.repeatSvc (s : State) (i : Nat) : State :=
  let x := s.strand i
  let again (join : Bool) (v : Option Svc) (s : State) : State := match v with
    | some v => if v.side && s.lclk < v.row then s.sendSvc i join v else s
    | none => s
  again true x.join (again false x.leave s)

/-- REPAIR_SVC_REPEAT (R439). -/
def execRepairSvcRepeat (strand : Nat) (s : State) : Host.Outcome State Fault Refusal :=
  named s.build.strands strand (runAonLight (fun s => s.repeatSvc strand) s)

/-- REPAIR_SUM_RESEND (R434): while PRESENCE is 1 and the peer's latest REPAIR_SUM shows GOT 0. -/
def execRepairSumResend (s : State) : Host.Outcome State Fault Refusal :=
  runAonLight (fun s => if s.presence.on && !s.exch.done && !s.exch.peerGot && !s.recordsUnread then s.sendRecords else s) s

/-- REPAIR_SWEEP_DONE (R441, R442), with what the sweep has found. -/
def execRepairSweepDone (strand : Nat) (lanes : List LaneMeas) (s : State) : Host.Outcome State Fault Refusal :=
  named s.build.strands strand (runUp (fun s => s.sweepDone strand lanes) s)

/-- FILL_DONE (R443), with what the fill has found on the group's lanes. -/
def execFillDone (strand group : Nat) (lanes : List LaneMeas) (s : State) : Host.Outcome State Fault Refusal :=
  named s.build.strands strand (runUp (fun s => s.fillDone strand group lanes false) s)

/-- FILL_TIMEOUT (R443). -/
def execFillTimeout (strand group : Nat) (s : State) : Host.Outcome State Fault Refusal :=
  named s.build.strands strand (runUp (fun s => s.fillDone strand group [] true) s)

/-- REPAIR_TIMEOUT (R446). -/
def execRepairTimeout (strand : Nat) (s : State) : Host.Outcome State Fault Refusal :=
  named s.build.strands strand (runUp (fun s => s.repairTimeout strand) s)

end Sys2Proof.Machine
end

