-- ==== Sys2Proof/Machine/CmdMgmt.lean ====
section
/-! DEFINITION. Commands of discovery, negotiation and the Saggar, of the partner and its PULSEs, of cones, self-test, the kiln log and
error injection (chapters 13 to 15). -/

namespace Sys2Proof.Machine

/-! ## Discovery (R456 to R477) -/

/-- EARLY_ID (R457, R458). -/
def execEarlyId (payload : List Byte) (s : State) : Host.Outcome State Fault Refusal := frame (fun s => s.earlyId payload) s

/-- EARLY_ID_SEND (R456). -/
def execEarlyIdSend (s : State) : Host.Outcome State Fault Refusal := runAonLight (fun s => s.sendEarly) s

/-- IDENT (R464 to R468). -/
def execIdentMessage (s : State) : Host.Outcome State Fault Refusal := runUp (fun s => s.takeLink 0x30 (fun _ b s => s.identMsg b)) s

/-- AGREE (R466). -/
def execAgreeMessage (s : State) : Host.Outcome State Fault Refusal := runUp (fun s => s.takeLink 0x31 (fun _ b s => s.agreeMsg b)) s

/-- AGREE_TIMEOUT (R468). -/
def execAgreeTimeout (s : State) : Host.Outcome State Fault Refusal := runUp (fun s => s.agreeTimeout) s

/-- ATT_CHAL (R484). -/
def execAttChal (s : State) : Host.Outcome State Fault Refusal := runUp (fun s => s.takeLink 0x32 (fun _ b s => s.attChal b)) s

/-- ATT_RESP (R484). -/
def execAttResp (s : State) : Host.Outcome State Fault Refusal := runUp (fun s => s.takeLink 0x33 (fun _ b s => s.attResp b)) s

/-- ATT_TIMEOUT (R484). -/
def execAttTimeout (s : State) : Host.Outcome State Fault Refusal := runUp (fun s => s.attTimeout) s

/-- TOPO (R476). -/
def execTopoMessage (s : State) : Host.Outcome State Fault Refusal := runUpLight (fun s => s.takeLink 0x34 (fun _ b s => s.topoMsg b)) s

/-- PKG (R477). -/
def execPkgMessage (s : State) : Host.Outcome State Fault Refusal := runUp (fun s => s.takeLink 0x35 (fun _ b s => s.pkgMsg b)) s

/-- POST (R476): a write of CL_DISC_CTL with POST 1. -/
def execPostWrite (data : BitVec 32) (s : State) : Host.Outcome State Fault Refusal :=
  run (fun s => s.cfgWrite 0x6400 (data ||| 0x200#32)) s

/-- TOPO_CLR (R476): a write of CL_DISC_CTL with TOPO_CLR 1. -/
def execTopoClr (data : BitVec 32) (s : State) : Host.Outcome State Fault Refusal :=
  run (fun s => s.cfgWrite 0x6400 (data ||| 0x400#32)) s

/-- RENEG (R468): a write of CL_DISC_CTL with RENEG 1. -/
def execReneg (data : BitVec 32) (s : State) : Host.Outcome State Fault Refusal :=
  run (fun s => s.cfgWrite 0x6400 (data ||| 0x800#32)) s

/-- DIE_KIND_WRITE (R460): a write of CL_DISC_CTL. -/
def execDieKindWrite (data : BitVec 32) (s : State) : Host.Outcome State Fault Refusal := run (fun s => s.cfgWrite 0x6400 data) s

/-- PKG_WRITE (R477): a write of CL_DISC_PKG. -/
def execPkgWrite (data : BitVec 32) (s : State) : Host.Outcome State Fault Refusal := run (fun s => s.cfgWrite 0x640C data) s

/-- ATT_RETRY (R484): a write of CL_SAG_CTL with ATT_RETRY 1. -/
def execAttRetry (data : BitVec 32) (s : State) : Host.Outcome State Fault Refusal :=
  run (fun s => s.cfgWrite 0x4000 (data ||| 0x800#32)) s

/-- SAGGAR_LOCK (R486): a write of CL_SAG_CTL with LOCK 1. -/
def execSaggarLock (data : BitVec 32) (s : State) : Host.Outcome State Fault Refusal :=
  run (fun s => s.cfgWrite 0x4000 (data ||| 0x80000000#32)) s

/-! ## The partner (R491 to R501) -/

/-- PULSE_START (R491, R492). -/
def execPulseStart (s : State) : Host.Outcome State Fault Refusal := runAonLight (fun s => s.pulseStart) s

/-- PULSE (R493, R520, R521). -/
def execPulseFrame (payload : List Byte) (s : State) : Host.Outcome State Fault Refusal := frame (fun s => s.pulseMsg payload) s

/-- PULSE_WINDOW_END (R493, R522). -/
def execPulseWindowEnd (s : State) : Host.Outcome State Fault Refusal := runAon (fun s => s.pulseWindow) s

/-- PARTNER_ABSENT (R495). -/
def execPartnerAbsent (s : State) : Host.Outcome State Fault Refusal := runAon (fun s => s.partnerAbsent) s

/-! ## Cones (R526 to R529) -/

/-- CONE_SAMPLE (R527): the reading of each cone, by cone number. -/
def execConeSample (readings : List Nat) (s : State) : Host.Outcome State Fault Refusal := runAonLight (fun s => s.sampleCones readings) s

/-- CONE_REF_DONE (R538): what the cone converted, or counted, of its references. -/
def execConeRefDone (cone : Nat) (results : List Nat) (s : State) : Host.Outcome State Fault Refusal :=
  named 26 cone (runAon (fun s => s.coneRefDone cone results) s)

/-- MM_CLR (R528): a write of CL_CONE_CTL with MM_CLR 1. -/
def execMmClr (data : BitVec 32) (s : State) : Host.Outcome State Fault Refusal := run (fun s => s.cfgWrite 0x3200 (data ||| 1#32)) s

/-! ## Self-test (R530 to R544) -/

/-- TEST (R536). -/
def execTestMessage (s : State) : Host.Outcome State Fault Refusal := runUp (fun s => s.takeLink 0x38 (fun _ b s => s.testMsg b)) s

/-- BIST_SEGMENT_DONE (R532 to R534): what each tested lane received or measured, how many units were compared, and whether the segment
reached its planned end. -/
def execBistSegmentDone (strand : Nat) (measured : List Nat) (units : Nat) (complete : Bool) (s : State) :
    Host.Outcome State Fault Refusal :=
  named s.build.strands strand (runUp (fun s => s.segmentDone strand measured units complete) s)

/-- BIST_SLICE_END (R537). -/
def execBistSliceEnd (s : State) : Host.Outcome State Fault Refusal := runUp (fun s => s.sliceEnd) s

/-- BIST_FULL_DONE (R544). -/
def execBistFullDone (s : State) : Host.Outcome State Fault Refusal := runUp (fun s => s.fullDone) s

/-! ## Memories, kiln log and injection (R555 to R558) -/

/-- ECC_ERROR (R557): a word of a memory is read with `wrong` bits in error; the object that lies there is named. -/
def execEccError (memory word wrong : Nat) (object : EccObject) (s : State) : Host.Outcome State Fault Refusal :=
  named 8 memory (runUp (fun s => s.eccRead memory word wrong object) s)

/-- LOG_FREE (R594): a write of CL_LOG_FREE. -/
def execLogFree (data : BitVec 32) (s : State) : Host.Outcome State Fault Refusal := run (fun s => s.cfgWrite 0x3814 data) s

/-- LOG_FREE_ALL (R555): a write of CL_LOG_FREE with ALL 1. -/
def execLogFreeAll (data : BitVec 32) (s : State) : Host.Outcome State Fault Refusal :=
  run (fun s => s.cfgWrite 0x3814 (data ||| 0x80000000#32)) s

/-- INJ_UNLOCK (R558): a write of CL_INJ_UNLOCK. -/
def execInjUnlock (data : BitVec 32) (s : State) : Host.Outcome State Fault Refusal := run (fun s => s.cfgWrite 0x3C00 data) s

/-- INJ_ARM (R558): a write of CL_INJ_CTL with ARM 1. -/
def execInjArm (data : BitVec 32) (s : State) : Host.Outcome State Fault Refusal :=
  run (fun s => s.cfgWrite 0x3C04 (data ||| 0x100#32)) s

/-- INJ_UNLOCK_LAPSE (R558). -/
def execInjUnlockLapse (s : State) : Host.Outcome State Fault Refusal :=
  runUpLight (fun s => { s with inj := { s.inj with unlocked := false } }) s

end Sys2Proof.Machine
end

