-- ==== Sys2Proof/Machine/CmdPower.lean ====
section
/-! DEFINITION. Commands of the resets, the power controller, PWR_WARN, the clocks, and power management (chapters 1, 14 and 18). -/

namespace Sys2Proof.Machine

/-- The pins of the resets change: `x` is what else the change makes of `s`. -/
def State.pins (s x : State) (f : Resets → Resets) : State := { x with resets := f s.resets }

/-! ## Resets (R40, R503 to R506) -/

/-- RST_AON_N_ASSERT (R40, R505). -/
def execRstAonNAssert (s : State) : Host.Outcome State Fault Refusal := run (fun s => s.aonReset) s

/-- RST_AON_N_RELEASE (R17, R20, R506). -/
def execRstAonNRelease (slotId : BitVec 5) (feedTag : BitVec 8) (pkgRole : BitVec 2) (s : State) :
    Host.Outcome State Fault Refusal :=
  run (fun s => s.aonRelease slotId.toNat feedTag.toNat pkgRole.toNat) s

/-- RST_CFG_N_ASSERT (R40, R262, R505). -/
def execRstCfgNAssert (s : State) : Host.Outcome State Fault Refusal :=
  run (fun s => s.pins (if s.cfgHeld then s else s.cfgReset) (fun r => { r with cfg := true })) s

/-- RST_CFG_N_RELEASE (R503). A wash whose start was held begins (R577). -/
def execRstCfgNRelease (s : State) : Host.Outcome State Fault Refusal :=
  run (fun s =>
    let s1 := (s.pins s (fun r => { r with cfg := false })).afterRelease
    s.pins (if s1.test.held && !s1.cfgHeld then s1.startWash none else s1) (fun r => { r with cfg := false })) s

/-- RST_LINK_N_ASSERT (R303, R308, R505). -/
def execRstLinkNAssert (s : State) : Host.Outcome State Fault Refusal :=
  run (fun s => s.pins (if s.linkHeld then s else s.linkReset) (fun r => { r with link := true })) s

/-- RST_LINK_N_RELEASE (R308). -/
def execRstLinkNRelease (s : State) : Host.Outcome State Fault Refusal :=
  run (fun s => s.pins (s.pins s (fun r => { r with link := false })).afterRelease (fun r => { r with link := false })) s

/-- RST_CORE_N_ASSERT (R40, R505). -/
def execRstCoreNAssert (s : State) : Host.Outcome State Fault Refusal :=
  run (fun s => s.pins (if s.coreHeld then s else s.coreReset) (fun r => { r with core := true })) s

/-- RST_CORE_N_RELEASE (R503). -/
def execRstCoreNRelease (s : State) : Host.Outcome State Fault Refusal :=
  run (fun s => s.pins (s.pins s (fun r => { r with core := false })).afterRelease (fun r => { r with core := false })) s

/-! ## The power controller (R26 to R28, R510) -/

/-- PD_ACK_RISE (R26). -/
def execPdAckRise (domain : Nat) (s : State) : Host.Outcome State Fault Refusal :=
  named 24 domain (run (fun s => s.ackRise domain) s)

/-- PD_ACK_FALL (R26). -/
def execPdAckFall (domain : Nat) (s : State) : Host.Outcome State Fault Refusal :=
  named 24 domain (run (fun s => s.ackFall domain) s)

/-- PD_ACK_LOST (R28). -/
def execPdAckLost (domain : Nat) (s : State) : Host.Outcome State Fault Refusal :=
  named 24 domain (run (fun s => s.ackFall domain) s)

/-- PHY_PLL_LOCK (R386, R510). -/
def execPhyPllLock (group : Nat) (s : State) : Host.Outcome State Fault Refusal :=
  named s.build.sgs group (run (fun s => s.pllLock group) s)

/-! ## Brownout (R515) -/

/-- PWR_WARN_RISE (R515); ignored while RST_AON_N is asserted. -/
def execPwrWarnRise (s : State) : Host.Outcome State Fault Refusal :=
  runAon (fun s => if s.power.warn then s else s.brownout false) s

/-- PWR_WARN_FALL (R515): WARN clears, DOWN stays set. -/
def execPwrWarnFall (s : State) : Host.Outcome State Fault Refusal :=
  runAon (fun s => { s with power := { s.power with warn := false } }.setFlag 0x6014 0 false) s

/-- BROWNOUT_FLUSH_TIMEOUT (R515). -/
def execBrownoutFlushTimeout (s : State) : Host.Outcome State Fault Refusal := runAon (fun s => s.flushTimeout) s

/-! ## LCLK (R606) -/

/-- LCLK_LOCK_LOSS (R606). -/
def execLclkLockLoss (s : State) : Host.Outcome State Fault Refusal :=
  run (fun s => { (if s.linkHeld then s else s.linkReset) with lclkLock := false, lclkHold := true }) s

/-- LCLK_LOCK_SETTLED (R606): 20 µs after lock. -/
def execLclkLockSettled (s : State) : Host.Outcome State Fault Refusal :=
  run (fun s => { (State.afterRelease { s with lclkLock := true, lclkHold := false }) with lclkLock := true, lclkHold := false }) s

/-! ## Power management (R502, R507, R511 to R513) -/

/-- DOWN_WRITE (R502, R580). -/
def execDownWrite (data : BitVec 32) (s : State) : Host.Outcome State Fault Refusal := run (fun s => s.cfgWrite 0x6010 data) s

/-- PD_OFF_REQUEST (R507). -/
def execPdOffRequest (data : BitVec 32) (s : State) : Host.Outcome State Fault Refusal := run (fun s => s.cfgWrite 0x6000 data) s

/-- PARK_REQUEST (R511). -/
def execParkRequest (data : BitVec 32) (s : State) : Host.Outcome State Fault Refusal := run (fun s => s.cfgWrite 0x600C data) s

/-- PARK_START (R512). -/
def execParkStart (group : Nat) (s : State) : Host.Outcome State Fault Refusal :=
  named s.build.sgs group (runUp (fun s => s.parkStart group) s)

/-- GROUP_WAKE (R513). -/
def execGroupWake (group : Nat) (s : State) : Host.Outcome State Fault Refusal :=
  named s.build.sgs group (runUp (fun s => s.groupWake group) s)

end Sys2Proof.Machine
end

