-- ==== Sys2Proof/Machine/CmdTest.lean ====
section
/-! DEFINITION. Commands of the test access port, of key wash and of scan (chapter 16). While RST_AON_N is asserted the TAP controller
is in reset (R569). -/

namespace Sys2Proof.Machine

/-- TAP_TRST_N (R569). -/
def execTapTrstN (s : State) : Host.Outcome State Fault Refusal := runAonLight (fun s => s.tapReset) s

/-- TEST_LOGIC_RESET (R568). -/
def execTestLogicReset (s : State) : Host.Outcome State Fault Refusal := runAonLight (fun s => s.tapLogicReset) s

/-- IDCODE (R568). -/
def execIdcode (s : State) : Host.Outcome State Fault Refusal := 
  runAonLight (fun s => ((s.tapIr 0x01).tapDr 32).emit (.tapCapture 0x5E0DC1ED)) s

/-- BYPASS (R568); every unlisted code acts as BYPASS. -/
def execBypass (s : State) : Host.Outcome State Fault Refusal := 
  runAonLight (fun s => ((s.tapIr 0xFF).tapDr 1).emit (.tapCapture 0)) s

/-- SAMPLE (R568, R575): the boundary cells whose pads are 1, and the cells whose new update value is 1. -/
def execSample (pads cells : List Nat) (s : State) : Host.Outcome State Fault Refusal :=
  runAonLight (fun s => (s.tapIr 0x02).scanCells pads cells) s

/-- EXTEST (R575). -/
def execExtest (pads cells : List Nat) (s : State) : Host.Outcome State Fault Refusal := runAonLight (fun s => s.extest pads cells) s

/-- PCFG (R571). -/
def execPcfg (pass : Bool) (s : State) : Host.Outcome State Fault Refusal := runAonLight (fun s => s.pcfg pass) s

/-- TAP_WASH (R568, R577). -/
def execTapWash (s : State) : Host.Outcome State Fault Refusal := runAon (fun s => s.tapWash) s

/-- SCAN (R582). -/
def execScan (s : State) : Host.Outcome State Fault Refusal := runAonLight (fun s => s.scan) s

/-- WASH_START (R577): a write of CL_WASH_CTL with START 1. -/
def execWashStart (data : BitVec 32) (s : State) : Host.Outcome State Fault Refusal :=
  run (fun s => s.cfgWrite 0x7000 (data ||| 1#32)) s

/-- WASH_RELEASE (R580): a write of CL_WASH_CTL with RELEASE 1. -/
def execWashRelease (data : BitVec 32) (s : State) : Host.Outcome State Fault Refusal :=
  run (fun s => s.cfgWrite 0x7000 (data ||| 2#32)) s

/-- WASH_ACK_WAIT_END (R578). -/
def execWashAckWaitEnd (s : State) : Host.Outcome State Fault Refusal := runAon (fun s => s.washAckEnd) s

/-- WASH_DONE (R578, R579): the read-back has ended; `fail` with the memory and word that did not read zero. -/
def execWashDone (fail : Bool) (memory word : Nat) (s : State) : Host.Outcome State Fault Refusal :=
  runAon (fun s => s.washDone fail memory word) s

end Sys2Proof.Machine
end

