-- ==== Sys2Proof/Machine/Dispatch.lean ====
section
/-! DEFINITION. The one dispatch: each command calls its meaning. -/

namespace Sys2Proof.Machine

def exec (i : Instr) (s : State) : Host.Outcome State Fault Refusal :=
  match i with
  | .rstAonNAssert => Sys2Proof.Machine.execRstAonNAssert s
  | .rstAonNRelease slotId feedTag pkgRole => Sys2Proof.Machine.execRstAonNRelease slotId feedTag pkgRole s
  | .rstCfgNAssert => Sys2Proof.Machine.execRstCfgNAssert s
  | .rstCfgNRelease => Sys2Proof.Machine.execRstCfgNRelease s
  | .rstLinkNAssert => Sys2Proof.Machine.execRstLinkNAssert s
  | .rstLinkNRelease => Sys2Proof.Machine.execRstLinkNRelease s
  | .rstCoreNAssert => Sys2Proof.Machine.execRstCoreNAssert s
  | .rstCoreNRelease => Sys2Proof.Machine.execRstCoreNRelease s
  | .pdAckRise domain => Sys2Proof.Machine.execPdAckRise domain s
  | .pdAckFall domain => Sys2Proof.Machine.execPdAckFall domain s
  | .pdAckLost domain => Sys2Proof.Machine.execPdAckLost domain s
  | .pwrWarnRise => Sys2Proof.Machine.execPwrWarnRise s
  | .pwrWarnFall => Sys2Proof.Machine.execPwrWarnFall s
  | .brownoutFlushTimeout => Sys2Proof.Machine.execBrownoutFlushTimeout s
  | .lclkLockLoss => Sys2Proof.Machine.execLclkLockLoss s
  | .lclkLockSettled => Sys2Proof.Machine.execLclkLockSettled s
  | .stIBeat port side data => Sys2Proof.Machine.execStIBeat port side data s
  | .stOBeat port => Sys2Proof.Machine.execStOBeat port s
  | .popRequest port stream mb dir => Sys2Proof.Machine.execPopRequest port stream mb dir s
  | .ptIBeat vc sop eop data => Sys2Proof.Machine.execPtIBeat vc sop eop data s
  | .ptOBeat vc => Sys2Proof.Machine.execPtOBeat vc s
  | .memRdData request data err => Sys2Proof.Machine.execMemRdData request data err s
  | .memWack request err => Sys2Proof.Machine.execMemWack request err s
  | .hmWatch line => Sys2Proof.Machine.execHmWatch line s
  | .doorbellReadDone pair data err => Sys2Proof.Machine.execDoorbellReadDone pair data err s
  | .submissionFetchDone pair data err => Sys2Proof.Machine.execSubmissionFetchDone pair data err s
  | .hmReadDone request data err => Sys2Proof.Machine.execHmReadDone request data err s
  | .completionAck request err => Sys2Proof.Machine.execCompletionAck request err s
  | .hmWriteAck request err => Sys2Proof.Machine.execHmWriteAck request err s
  | .nvResponse rdata err => Sys2Proof.Machine.execNvResponse rdata err s
  | .heatInFrame frame => Sys2Proof.Machine.execHeatInFrame frame s
  | .heatInStale => Sys2Proof.Machine.execHeatInStale s
  | .registerWrite offset data => Sys2Proof.Machine.execRegisterWrite offset data s
  | .fcountLoRead => Sys2Proof.Machine.execFcountLoRead s
  | .shadowLoRead offset => Sys2Proof.Machine.execShadowLoRead offset s
  | .stopFetch data => Sys2Proof.Machine.execStopFetch data s
  | .holdI data => Sys2Proof.Machine.execHoldI data s
  | .ringEnable pair data => Sys2Proof.Machine.execRingEnable pair data s
  | .ringDisable pair data => Sys2Proof.Machine.execRingDisable pair data s
  | .ringPoll pair => Sys2Proof.Machine.execRingPoll pair s
  | .irqModTimeout pair => Sys2Proof.Machine.execIrqModTimeout pair s
  | .nop => Sys2Proof.Machine.execNop s
  | .fence => Sys2Proof.Machine.execFence s
  | .badOpcode => Sys2Proof.Machine.execBadOpcode s
  | .stationName => Sys2Proof.Machine.execStationName s
  | .streamOpen => Sys2Proof.Machine.execStreamOpen s
  | .streamClose => Sys2Proof.Machine.execStreamClose s
  | .streamModify => Sys2Proof.Machine.execStreamModify s
  | .parcelSend => Sys2Proof.Machine.execParcelSend s
  | .shelfOpen => Sys2Proof.Machine.execShelfOpen s
  | .shelfOpenTimeout descriptor => Sys2Proof.Machine.execShelfOpenTimeout descriptor s
  | .versionCommit => Sys2Proof.Machine.execVersionCommit s
  | .versionCommitApply shelf => Sys2Proof.Machine.execVersionCommitApply shelf s
  | .versionRelease => Sys2Proof.Machine.execVersionRelease s
  | .skewRelease => Sys2Proof.Machine.execSkewRelease s
  | .drawStart => Sys2Proof.Machine.execDrawStart s
  | .drawAck => Sys2Proof.Machine.execDrawAck s
  | .restore => Sys2Proof.Machine.execRestore s
  | .accumOpen => Sys2Proof.Machine.execAccumOpen s
  | .scaleSave => Sys2Proof.Machine.execScaleSave s
  | .scaleLoad => Sys2Proof.Machine.execScaleLoad s
  | .dispatchLoad => Sys2Proof.Machine.execDispatchLoad s
  | .calRequest => Sys2Proof.Machine.execCalRequest s
  | .bistSlice => Sys2Proof.Machine.execBistSlice s
  | .bistFull => Sys2Proof.Machine.execBistFull s
  | .repairCmd => Sys2Proof.Machine.execRepairCmd s
  | .logDrain => Sys2Proof.Machine.execLogDrain s
  | .keyLoad => Sys2Proof.Machine.execKeyLoad s
  | .wash => Sys2Proof.Machine.execWash s
  | .openRequest => Sys2Proof.Machine.execOpenRequest s
  | .openAnswer => Sys2Proof.Machine.execOpenAnswer s
  | .openTimeout stream => Sys2Proof.Machine.execOpenTimeout stream s
  | .closeMessage => Sys2Proof.Machine.execCloseMessage s
  | .closeAnswer => Sys2Proof.Machine.execCloseAnswer s
  | .modifyMessage => Sys2Proof.Machine.execModifyMessage s
  | .demoteMessage => Sys2Proof.Machine.execDemoteMessage s
  | .flitSlot => Sys2Proof.Machine.execFlitSlot s
  | .encoderIdleEnd stream => Sys2Proof.Machine.execEncoderIdleEnd stream s
  | .lookaheadGrant slice => Sys2Proof.Machine.execLookaheadGrant slice s
  | .lookaheadDone stream => Sys2Proof.Machine.execLookaheadDone stream s
  | .flitAccept strand flit => Sys2Proof.Machine.execFlitAccept strand flit s
  | .replaySlot strand flit => Sys2Proof.Machine.execReplaySlot strand flit s
  | .ackTimeout strand => Sys2Proof.Machine.execAckTimeout strand s
  | .credFlitDue => Sys2Proof.Machine.execCredFlitDue s
  | .xreplay => Sys2Proof.Machine.execXreplay s
  | .serviceMessage => Sys2Proof.Machine.execServiceMessage s
  | .mergeRelease => Sys2Proof.Machine.execMergeRelease s
  | .parcelHeadReceive => Sys2Proof.Machine.execParcelHeadReceive s
  | .parcelBodyReceive => Sys2Proof.Machine.execParcelBodyReceive s
  | .passReceive => Sys2Proof.Machine.execPassReceive s
  | .queueStall stream => Sys2Proof.Machine.execQueueStall stream s
  | .sourceScatter stream => Sys2Proof.Machine.execSourceScatter stream s
  | .holdExpired table => Sys2Proof.Machine.execHoldExpired table s
  | .sourceCombine stream => Sys2Proof.Machine.execSourceCombine stream s
  | .chunkOk => Sys2Proof.Machine.execChunkOk s
  | .chunkBad => Sys2Proof.Machine.execChunkBad s
  | .drawAckTimeout draw => Sys2Proof.Machine.execDrawAckTimeout draw s
  | .relMinWrite data => Sys2Proof.Machine.execRelMinWrite data s
  | .capEnWrite data => Sys2Proof.Machine.execCapEnWrite data s
  | .frameBoundary coreCycles fabCycles cfgCycles aonCycles trk lanes => Sys2Proof.Machine.execFrameBoundary coreCycles fabCycles cfgCycles aonCycles trk lanes s
  | .fReleaseRow => Sys2Proof.Machine.execFReleaseRow s
  | .fwdClkStop strands => Sys2Proof.Machine.execFwdClkStop strands s
  | .fwdClkLane strand => Sys2Proof.Machine.execFwdClkLane strand s
  | .vldLaneFail strand => Sys2Proof.Machine.execVldLaneFail strand s
  | .trkDrift strand => Sys2Proof.Machine.execTrkDrift strand s
  | .presenceWindow edges => Sys2Proof.Machine.execPresenceWindow edges s
  | .termEnWrite data => Sys2Proof.Machine.execTermEnWrite data s
  | .sbFrameDiscard => Sys2Proof.Machine.execSbFrameDiscard s
  | .linkReady payload => Sys2Proof.Machine.execLinkReady payload s
  | .linkReadySend => Sys2Proof.Machine.execLinkReadySend s
  | .bqStep payload => Sys2Proof.Machine.execBqStep payload s
  | .bisqueStart => Sys2Proof.Machine.execBisqueStart s
  | .bisqueStepDone lanes => Sys2Proof.Machine.execBisqueStepDone s lanes
  | .bisqueTimeout => Sys2Proof.Machine.execBisqueTimeout s
  | .bisqueRestart => Sys2Proof.Machine.execBisqueRestart s
  | .bisqueFlitSlot => Sys2Proof.Machine.execBisqueFlitSlot s
  | .timeMessage registered => Sys2Proof.Machine.execTimeMessage registered s
  | .timeWait => Sys2Proof.Machine.execTimeWait s
  | .timeAdjust => Sys2Proof.Machine.execTimeAdjust s
  | .wedgeStart group => Sys2Proof.Machine.execWedgeStart group s
  | .wedgeStepDone strand fail lanes => Sys2Proof.Machine.execWedgeStepDone strand fail lanes s
  | .stepMessage => Sys2Proof.Machine.execStepMessage s
  | .vrefEye => Sys2Proof.Machine.execVrefEye s
  | .wedgeFailTimeout strand => Sys2Proof.Machine.execWedgeFailTimeout strand s
  | .calIntervalDue strand => Sys2Proof.Machine.execCalIntervalDue strand s
  | .calSchedule => Sys2Proof.Machine.execCalSchedule s
  | .calMessage => Sys2Proof.Machine.execCalMessage s
  | .calRunDone first second => Sys2Proof.Machine.execCalRunDone first second s
  | .calBudgetTimeout => Sys2Proof.Machine.execCalBudgetTimeout s
  | .calIdleApply => Sys2Proof.Machine.execCalIdleApply s
  | .calVerifyDone strand ok => Sys2Proof.Machine.execCalVerifyDone strand ok s
  | .repairSum payload => Sys2Proof.Machine.execRepairSum payload s
  | .repairRec payload => Sys2Proof.Machine.execRepairRec payload s
  | .repairSvc payload => Sys2Proof.Machine.execRepairSvc payload s
  | .repairSumResend => Sys2Proof.Machine.execRepairSumResend s
  | .repairSweepDone strand lanes => Sys2Proof.Machine.execRepairSweepDone strand lanes s
  | .fillDone strand group lanes => Sys2Proof.Machine.execFillDone strand group lanes s
  | .fillTimeout strand group => Sys2Proof.Machine.execFillTimeout strand group s
  | .repairTimeout strand => Sys2Proof.Machine.execRepairTimeout strand s
  | .earlyId payload => Sys2Proof.Machine.execEarlyId payload s
  | .earlyIdSend => Sys2Proof.Machine.execEarlyIdSend s
  | .identMessage => Sys2Proof.Machine.execIdentMessage s
  | .agreeMessage => Sys2Proof.Machine.execAgreeMessage s
  | .agreeTimeout => Sys2Proof.Machine.execAgreeTimeout s
  | .attChal => Sys2Proof.Machine.execAttChal s
  | .attResp => Sys2Proof.Machine.execAttResp s
  | .attTimeout => Sys2Proof.Machine.execAttTimeout s
  | .topoMessage => Sys2Proof.Machine.execTopoMessage s
  | .pkgMessage => Sys2Proof.Machine.execPkgMessage s
  | .postWrite data => Sys2Proof.Machine.execPostWrite data s
  | .topoClr data => Sys2Proof.Machine.execTopoClr data s
  | .reneg data => Sys2Proof.Machine.execReneg data s
  | .dieKindWrite data => Sys2Proof.Machine.execDieKindWrite data s
  | .pkgWrite data => Sys2Proof.Machine.execPkgWrite data s
  | .attRetry data => Sys2Proof.Machine.execAttRetry data s
  | .saggarLock data => Sys2Proof.Machine.execSaggarLock data s
  | .pulseStart => Sys2Proof.Machine.execPulseStart s
  | .pulseFrame payload => Sys2Proof.Machine.execPulseFrame payload s
  | .pulseWindowEnd => Sys2Proof.Machine.execPulseWindowEnd s
  | .partnerAbsent => Sys2Proof.Machine.execPartnerAbsent s
  | .downWrite data => Sys2Proof.Machine.execDownWrite data s
  | .pdOffRequest data => Sys2Proof.Machine.execPdOffRequest data s
  | .parkRequest data => Sys2Proof.Machine.execParkRequest data s
  | .parkStart group => Sys2Proof.Machine.execParkStart group s
  | .groupWake group => Sys2Proof.Machine.execGroupWake group s
  | .coneSample readings => Sys2Proof.Machine.execConeSample readings s
  | .coneRefDone cone results => Sys2Proof.Machine.execConeRefDone cone results s
  | .mmClr data => Sys2Proof.Machine.execMmClr data s
  | .testMessage => Sys2Proof.Machine.execTestMessage s
  | .bistSegmentDone strand measured units complete => Sys2Proof.Machine.execBistSegmentDone strand measured units complete s
  | .bistSliceEnd => Sys2Proof.Machine.execBistSliceEnd s
  | .bistFullDone => Sys2Proof.Machine.execBistFullDone s
  | .eccError memory word wrong object => Sys2Proof.Machine.execEccError memory word wrong object s
  | .logFree data => Sys2Proof.Machine.execLogFree data s
  | .logFreeAll data => Sys2Proof.Machine.execLogFreeAll data s
  | .injUnlock data => Sys2Proof.Machine.execInjUnlock data s
  | .injArm data => Sys2Proof.Machine.execInjArm data s
  | .injUnlockLapse => Sys2Proof.Machine.execInjUnlockLapse s
  | .tapTrstN => Sys2Proof.Machine.execTapTrstN s
  | .extest pads cells => Sys2Proof.Machine.execExtest pads cells s
  | .idcode => Sys2Proof.Machine.execIdcode s
  | .sample pads cells => Sys2Proof.Machine.execSample pads cells s
  | .pcfg pass => Sys2Proof.Machine.execPcfg pass s
  | .tapWash => Sys2Proof.Machine.execTapWash s
  | .scan => Sys2Proof.Machine.execScan s
  | .bypass => Sys2Proof.Machine.execBypass s
  | .washStart data => Sys2Proof.Machine.execWashStart data s
  | .washRelease data => Sys2Proof.Machine.execWashRelease data s
  | .washAckWaitEnd => Sys2Proof.Machine.execWashAckWaitEnd s
  | .washDone fail memory word => Sys2Proof.Machine.execWashDone fail memory word s
  | .bqStepRepeat => Sys2Proof.Machine.execBqStepRepeat s
  | .stepRepeat strand => Sys2Proof.Machine.execStepRepeat strand s
  | .repairSvcRepeat strand => Sys2Proof.Machine.execRepairSvcRepeat strand s
  | .phyPllLock group => Sys2Proof.Machine.execPhyPllLock group s
  | .testLogicReset => Sys2Proof.Machine.execTestLogicReset s

end Sys2Proof.Machine
end

