-- ==== Sys2Proof/Machine/Patterns.lean ====
section
/-! DEFINITION. What the TX lanes carry, UI by UI: the bits of a flit on its lanes (R271, R272, R427, R428), the patterns of VLD, TRK,
training and marks (R359, R360, R387, R388), and the levels of every lane in each state of its strand (R367, R368, R500). Nothing here is
state: a lane's level is read from the state and from the flit that the strand sends in that LCLK. -/

open Sys2Proof.Machine

namespace Sys2Proof

/-! ## Patterns -/

/-- UIs of an LCLK at full rate (R271). -/
def Build.uis (b : Build) : Nat := if b.pers = .V then 8 else 16

/-- Bisque UIs of an LCLK: a bisque flit takes 8 LCLK (R395). -/
def Build.bisqueUis (b : Build) : Nat := if b.pers = .V then 1 else 2

/-- The bits of a shift register with feedback from bits `hi` and `lo`, most recent bit lowest: the state after `n` UIs. -/
def prbsRun (hi lo : Nat) : Nat → Nat → Nat
  | 0, st => st
  | n + 1, st => prbsRun hi lo n ((2 * st + (if bit st hi = bit st lo then 0 else 1)) % 2 ^ (hi + 1))

/-- The TRK bit of UI `n` of a frame: PRBS7 (R360), whose period is 127. -/
def trkBit (n : Nat) : Bool := bit (prbsRun 6 5 (n % 127 + 1) 0x7F) 0

/-- The PAT_TRAIN bit of UI `n` of a frame on lane index `k`: PRBS15 (R387), whose period is 32,767. -/
def trainBit (k n : Nat) : Bool := bit (prbsRun 14 13 (n % 0x7FFF + 1) (k * 0x1D3 % 0x7FFF + 1)) 0

/-- The PAT_MARK bit of UI `u` of an LCLK (R388). -/
def Build.markBit (b : Build) (bisque : Bool) (lclk u : Nat) : Bool :=
  u == 0 && lclk % (if bisque then 8 else if b.pers = .V then 4 else 2) == 0

/-- The VLD bit of UI `u` of the first LCLK of a flit (R359). -/
def Build.vldBit (b : Build) (u : Nat) : Bool := u < b.uis / 2

/-- The flit bit that logical data lane `i` carries in UI `u` of an LCLK (R271). -/
def flitBit (flit : List Byte) (b : Build) (i u : Nat) : Bool :=
  if u < 8 then bit (byteAt flit i) u else if b.pers = .L then bit (byteAt flit (i + 128)) (u - 8) else false

end Sys2Proof

namespace Sys2Proof.Machine

/-- The level of a TX lane in one UI. -/
inductive LaneLevel where
  /-- Not driven: the pull-down holds it low (R367, R370). -/
  | undriven
  | low
  /-- A forwarded clock that runs (R355). -/
  | clock
  | bit (b : Bool)
  deriving DecidableEq, Repr

/-- What a position of a group carries of a flit (R271, R272, R427): low on a position without a lane, on lanes of unused groups, and while
nothing is sent. `second` marks the second LCLK of a CRAZED flit. -/
def RepDir.flitLevel (r : RepDir) (b : Build) (crazed second : Bool) (flit : List Byte) (g p u : Nat) : LaneLevel :=
  let half := b.groups / 2
  match r.laneAt g p with
  | none => .low
  | some f =>
    if !crazed then .bit (flitBit flit b (16 * g + f) u)
    else if r.usedGroup half g ≠ g then .low
    else .bit (flitBit flit b (16 * (g % half + (if second then half else 0)) + f) u)

/-- A strand sends its flits as a CRAZED one does: in service as CRAZED, or wedging with lost groups (R272, R359, R435). -/
def State.sendsCrazed (s : State) (i : Nat) : Bool :=
  let x := s.strand i
  x.state == .crazed || (x.wedging && repState s.build x.rx x.tx == .crazed)

/-- The lanes of a strand that carries flits, wedged or in service (R359, R360, R367). -/
def State.flitLane (s : State) (i k lclk u : Nat) (flit : List Byte) : LaneLevel :=
  let b := s.build
  let x := s.strand i
  let crazed := s.sendsCrazed i
  let half := 17 * (b.groups / 2)
  match b.place k with
  | some (g, p) => x.tx.flitLevel b crazed (lclk % 2 == 1) flit g p u
  | none =>
    if k < half + 2 then .clock
    else if k = half + 2 then .bit (b.vldBit u && (!crazed || lclk % 2 == 0))
    else .bit (trkBit (lclk % 5120 * b.uis + u))

/-- The lanes of a strand that trains or is tested: `drives` says which D and SP positions carry PAT_TRAIN; the others are low, VLD is 0,
and TRK carries PAT_TRAIN or its own sequence (R389, R412, R440, R537). -/
def State.trainLane (s : State) (w k lclk u : Nat) (trk7 : Bool) (drives : Nat → Nat → Bool) : LaneLevel :=
  let b := s.build
  let half := 17 * (b.groups / 2)
  let n := lclk % 5120 * w + u
  match b.place k with
  | some (g, p) => if drives g p then .bit (trainBit k n) else .low
  | none =>
    if k < half + 2 then .clock else if k = half + 2 then .bit false else .bit (if trk7 then trkBit n else trainBit k n)

/-- Every lane outside lost groups carries marks but VLD, which is 0 outside flit traffic; the clocks run (R359, R388, R395, R403).
R388 says every lane, and R359
VLD 0 in every other state: R359, which is about VLD alone, governs (DEDUCED). -/
def State.markLane (s : State) (bisque : Bool) (k lclk u : Nat) (drives : Nat → Nat → Bool) : LaneLevel :=
  let half := 17 * (s.build.groups / 2)
  if (s.build.place k).any (fun q => !drives q.1 q.2) then .low
  else if half ≤ k ∧ k < half + 2 then .clock else .bit (k != half + 2 && s.build.markBit bisque lclk u)

/-- A strand at the bisque rate, once its transmitter sends flits: one flit over 8 LCLK on all data lanes (R395, R397). DEDUCED:
TRK carries its own sequence, which R361 has the receiver check there too. -/
def State.bisqueLane (s : State) (i k lclk u : Nat) (flit : List Byte) : LaneLevel :=
  let b := s.build
  let half := 17 * (b.groups / 2)
  let n := lclk % 8 * b.bisqueUis + u
  match b.place k with
  | some (g, p) => (s.strand i).tx.flitLevel b false false flit g p n
  | none =>
    if k < half + 2 then .clock
    else if k = half + 2 then .bit (b.vldBit n)
    else .bit (trkBit (lclk % 5120 * b.bisqueUis + u))

/-- TX lane `k` of strand `i` under EXTEST, which its boundary cell drives high (R574, R575). -/
def State.extestHigh (s : State) (i k : Nat) : Bool :=
  s.test.drives && s.tstOn && s.test.cells.contains (2 * s.build.laneCount * i + k)

/-- The level of TX lane `k` of strand `i` in UI `u` of the LCLK `lclk`, in which the strand sends `flit` (R367). RST_LINK_N and RST_AON_N
together leave the lanes as RST_LINK_N does (R375). -/
def State.laneLevel (s : State) (i k lclk u : Nat) (flit : List Byte) : LaneLevel :=
  let b := s.build
  let x := s.strand i
  let held := (x.rep.map (·.tx0)).getD x.tx
  let intact (g _p : Nat) : Bool := !bit held.lost g
  let inUse (g p : Nat) : Bool :=
    (x.tx.laneAt g p).isSome && (x.state != .crazed || x.tx.usedGroup (b.groups / 2) g == g)
  if s.resets.link && s.resets.aon then .low
  else if !s.domainOn (i / 16) then .undriven
  else if s.resets.link || s.lclkHold || !s.mayDrive i then .low
  else match x.sub with
    | .hold | .fill => s.trainLane b.uis k lclk u true intact
    | .test => if s.isInner i || s.bist.full.any (fun f => f.left.any (fun p => p.1 == i) && !f.running.contains i) then .low else s.trainLane b.uis k lclk u false intact
    | .cal =>
      if s.bisqueTraining = some i then
        (if s.bisque.peer < 2 then s.trainLane b.bisqueUis k lclk u false intact
         else if s.bisque.peer < 3 then s.markLane true k lclk u intact else s.bisqueLane i k lclk u flit)
      else if x.wedging then
        (if x.peer < 3 then s.trainLane b.uis k lclk u false intact
         else if x.peer < 4 then s.markLane false k lclk u intact else s.flitLane i k lclk u flit)
      else s.trainLane b.uis k lclk u false inUse
    | .none =>
      match x.state with
      | .greenware | .shard => if s.extestHigh i k then .bit true else .low
      | .bisque => s.bisqueLane i k lclk u flit
      | .fired | .crazed => s.flitLane i k lclk u flit

end Sys2Proof.Machine
end

