-- ==== Sys2Proof/Machine/Pins.lean ====
section
/-! DEFINITION. What the other pads carry: the bits of a sideband frame and the test of a received one (R382 to R384), the sideband's TX
levels (R372), the pull-downs of the lanes (R367, R370), and the test access port with its secondary port (R42, R567, R569 to R571). Nothing
here is state: it is read from the state, from a frame, and from the levels at the input pads. -/

namespace Sys2Proof.Machine

/-! ## Sideband frames (R382 to R384) -/

/-- The bits of bytes, each least significant bit first. -/
def bitsOf (bs : List Byte) : List Bool := bs.flatMap (fun b => (List.range 8).map (fun i => b.toNat.testBit i))

/-- The CRC of a frame, over its header and payload as bytes (R383). -/
def crc16 (bs : List Byte) : Nat := crcMsbBytes 16 0x1021 0xFFFF bs

/-- The bytes of a frame between its start and stop bits: header with TYPE and LEN, payload words, CRC. -/
def frameBytes (type : Nat) (payload : List Byte) : List Byte :=
  let body := toLe 2 (type % 256 + (payload.length / 2 % 16) <<< 8) ++ payload
  body ++ toLe 2 (crc16 body)

/-- The bits of a frame, first one first: start bit, words, stop bit. Between frames the line is at 1, for two bits or more. -/
def frameBits (type : Nat) (payload : List Byte) : List Bool := false :: bitsOf (frameBytes type payload) ++ [true]

/-- A byte of eight bits, least significant first. -/
def byteOf (bits : List Bool) : Byte := BitVec.ofNat 8 (bits.foldr (fun b n => 2 * n + b2n b) 0)

/-- The bytes of bits; `n` bounds them. -/
def bytesOf : Nat → List Bool → List Byte
  | 0, _ => []
  | n + 1, bits => if bits.length < 8 then [] else byteOf (bits.take 8) :: bytesOf n (bits.drop 8)

/-- What a receiver makes of the bits of a frame: TYPE and payload, or none where it discards the frame (R384): its LEN is above 8, its CRC
fails, or its stop bit is 0. -/
def frameTaken (bits : List Bool) : Option (Nat × List Byte) :=
  let bs := bytesOf bits.length (bits.drop 1)
  let len := field bs 0 2 / 256 % 16
  let body := bs.take (2 + 2 * len)
  if 8 < len ∨ crc16 body ≠ field bs (2 + 2 * len) 2 ∨ bits[16 * len + 33]? ≠ some true then none
  else some (field bs 0 2 % 256, body.drop 2)

/-- The levels of JZ_SB_TX_D and JZ_SB_TX_CK, `bit` being the frame bit that is sent, if one is (R372). -/
def State.sidebandTx (s : State) (bit : Option Bool) : LaneLevel × LaneLevel :=
  if s.resets.aon then (.low, .low) else (.bit (bit.getD true), .clock)

/-! ## Pull-downs (R367, R370) -/

/-- The pull-down of the pads of strand `i` is on. -/
def State.pullDown (s : State) (i : Nat) : Bool :=
  let x := s.strand i
  !s.domainOn (i / 16) || s.resets.link || s.lclkHold || (x.sub == .none && (x.state == .greenware || x.state == .shard))

/-! ## The test access port and its secondary port (R42, R567, R569 to R571) -/

/-- The levels at TAP_TCK, TAP_TMS and TAP_TRST_N, the bit that the selected register shifts out while the controller is in Shift-IR or
Shift-DR, and the five TST bonds' inputs: TST_TDI, and on a FROM build the other three and what its wrapper answers. -/
structure TapPads where
  tck   : Bool
  tms   : Bool
  trstN : Bool
  shift : Option Bool
  tdi   : Bool
  from_ : Bool × Bool × Bool
  wrap  : Bool
  deriving DecidableEq, Repr

/-- Levels at TST_TCK, TST_TMS, TST_TRST_N and TST_TDO; none where no rule states one. -/
structure TestPads where
  tck   : Option Bool
  tms   : Option Bool
  trstN : Option Bool
  tdo   : Option Bool
  deriving DecidableEq, Repr

/-- PASS as it stands at the pads: 0 while RST_AON_N is asserted (R569). -/
def State.passOn (s : State) : Bool := s.test.pass && !s.resets.aon

/-- The TST bonds: low on a NONE build, the secondary port on a TOWARD build, and passed through on a FROM build. Outside Shift-IR and
Shift-DR no register shifts out, and R571 states no TST_TDO there; nor TST_TMS and TST_TDO while PASS is 0. -/
def State.testPads (s : State) (p : TapPads) : TestPads :=
  match s.build.testSide with
  | .none => ⟨some false, some false, some false, some false⟩
  | .toward => if s.passOn then ⟨some p.tck, some p.tms, some p.trstN, p.shift⟩ else ⟨some false, none, some false, none⟩
  | .from => ⟨some p.from_.1, some p.from_.2.1, some p.from_.2.2, some p.wrap⟩

/-- TAP_TDO: 1 outside Shift-IR and Shift-DR and under RST_AON_N (R567, R569); else the register's bit, or, with PASS 1, the retiming bit,
which holds TST_TDI as the last rising edge of TAP_TCK found it (R571). A build that is not TOWARD has PASS 0, and ignores TST_TDI. -/
def State.tapTdo (s : State) (p : TapPads) : Bool :=
  match p.shift with
  | none => true
  | some b => if s.resets.aon then true else if s.passOn && s.toward then s.test.retimed else b

end Sys2Proof.Machine
end

