-- ==== Sys2Proof/WellFormed.lean ====
section
/-! DEFINITION. Well-formed commands: the units that a command names exist in the build, and a CFG offset is a word of the window. -/

namespace Sys2Proof

/-- The numbers that a command names, each with its limit in a build: ports, channels, pairs, strands, groups, domains, cones, tables,
shelves, slices, memories and stream ids (R21, R25, R29, R34, R52), and CFG offsets (R37, R592). -/
def unitLimits (b : Build) : Instr → List (Nat × Nat)
  | .rstAonNAssert => []
  | .rstAonNRelease _ _ _ => []
  | .rstCfgNAssert => []
  | .rstCfgNRelease => []
  | .rstLinkNAssert => []
  | .rstLinkNRelease => []
  | .rstCoreNAssert => []
  | .rstCoreNRelease => []
  | .pdAckRise domain => [(domain, 24)]
  | .pdAckFall domain => [(domain, 24)]
  | .pdAckLost domain => [(domain, 24)]
  | .pwrWarnRise => []
  | .pwrWarnFall => []
  | .brownoutFlushTimeout => []
  | .lclkLockLoss => []
  | .lclkLockSettled => []
  | .stIBeat port _ _ => [(port, b.ports)]
  | .stOBeat port => [(port, b.ports)]
  | .popRequest port _ _ _ => [(port, b.ports)]
  | .ptIBeat vc _ _ _ => [(vc, 16)]
  | .ptOBeat vc => [(vc, 16)]
  | .memRdData _ _ _ => []
  | .memWack _ _ => []
  | .hmWatch _ => []
  | .doorbellReadDone pair _ _ => [(pair, 64)]
  | .submissionFetchDone pair _ _ => [(pair, 64)]
  | .hmReadDone _ _ _ => []
  | .completionAck _ _ => []
  | .hmWriteAck _ _ => []
  | .nvResponse _ _ => []
  | .heatInFrame _ => []
  | .heatInStale => []
  | .registerWrite offset _ => [(offset, 0x10000), (offset % 4, 1)]
  | .fcountLoRead => []
  | .shadowLoRead offset => [(offset, 0x10000), (offset % 4, 1)]
  | .stopFetch _ => []
  | .holdI _ => []
  | .ringEnable pair _ => [(pair, 64)]
  | .ringDisable pair _ => [(pair, 64)]
  | .ringPoll pair => [(pair, 64)]
  | .irqModTimeout pair => [(pair, 64)]
  | .nop => []
  | .fence => []
  | .badOpcode => []
  | .stationName => []
  | .streamOpen => []
  | .streamClose => []
  | .streamModify => []
  | .parcelSend => []
  | .shelfOpen => []
  | .shelfOpenTimeout _ => []
  | .versionCommit => []
  | .versionCommitApply shelf => [(shelf, b.shelves)]
  | .versionRelease => []
  | .skewRelease => []
  | .drawStart => []
  | .drawAck => []
  | .restore => []
  | .accumOpen => []
  | .scaleSave => []
  | .scaleLoad => []
  | .dispatchLoad => []
  | .calRequest => []
  | .bistSlice => []
  | .bistFull => []
  | .repairCmd => []
  | .logDrain => []
  | .keyLoad => []
  | .wash => []
  | .openRequest => []
  | .openAnswer => []
  | .openTimeout stream => [(stream, 4096)]
  | .closeMessage => []
  | .closeAnswer => []
  | .modifyMessage => []
  | .demoteMessage => []
  | .flitSlot => []
  | .encoderIdleEnd stream => [(stream, 4096)]
  | .lookaheadGrant slice => [(slice, 4)]
  | .lookaheadDone stream => [(stream, 4096)]
  | .flitAccept strand _ => [(strand, b.strands)]
  | .replaySlot strand _ => [(strand, b.strands)]
  | .ackTimeout strand => [(strand, b.strands)]
  | .credFlitDue => []
  | .xreplay => []
  | .serviceMessage => []
  | .mergeRelease => []
  | .parcelHeadReceive => []
  | .parcelBodyReceive => []
  | .passReceive => []
  | .queueStall stream => [(stream, 4096)]
  | .sourceScatter stream => [(stream, 4096)]
  | .holdExpired table => [(table, b.dispTables + 1)]
  | .sourceCombine stream => [(stream, 4096)]
  | .chunkOk => []
  | .chunkBad => []
  | .drawAckTimeout _ => []
  | .relMinWrite _ => []
  | .capEnWrite _ => []
  | .frameBoundary _ _ _ _ _ _ => []
  | .fReleaseRow => []
  | .fwdClkStop _ => []
  | .fwdClkLane strand => [(strand, b.strands)]
  | .vldLaneFail strand => [(strand, b.strands)]
  | .trkDrift strand => [(strand, b.strands)]
  | .presenceWindow _ => []
  | .termEnWrite _ => []
  | .sbFrameDiscard => []
  | .linkReady _ => []
  | .linkReadySend => []
  | .bqStep _ => []
  | .bisqueStart => []
  | .bisqueStepDone _ => []
  | .bisqueTimeout => []
  | .bisqueRestart => []
  | .bisqueFlitSlot => []
  | .timeMessage _ => []
  | .timeWait => []
  | .timeAdjust => []
  | .wedgeStart group => [(group, b.sgs)]
  | .wedgeStepDone strand _ _ => [(strand, b.strands)]
  | .stepMessage => []
  | .vrefEye => []
  | .wedgeFailTimeout strand => [(strand, b.strands)]
  | .calIntervalDue strand => [(strand, b.strands)]
  | .calSchedule => []
  | .calMessage => []
  | .calRunDone _ _ => []
  | .calBudgetTimeout => []
  | .calIdleApply => []
  | .calVerifyDone strand _ => [(strand, b.strands)]
  | .repairSum _ => []
  | .repairRec _ => []
  | .repairSvc _ => []
  | .repairSumResend => []
  | .repairSweepDone strand _ => [(strand, b.strands)]
  | .fillDone strand _ _ => [(strand, b.strands)]
  | .fillTimeout strand _ => [(strand, b.strands)]
  | .repairTimeout strand => [(strand, b.strands)]
  | .earlyId _ => []
  | .earlyIdSend => []
  | .identMessage => []
  | .agreeMessage => []
  | .agreeTimeout => []
  | .attChal => []
  | .attResp => []
  | .attTimeout => []
  | .topoMessage => []
  | .pkgMessage => []
  | .postWrite _ => []
  | .topoClr _ => []
  | .reneg _ => []
  | .dieKindWrite _ => []
  | .pkgWrite _ => []
  | .attRetry _ => []
  | .saggarLock _ => []
  | .pulseStart => []
  | .pulseFrame _ => []
  | .pulseWindowEnd => []
  | .partnerAbsent => []
  | .downWrite _ => []
  | .pdOffRequest _ => []
  | .parkRequest _ => []
  | .parkStart group => [(group, b.sgs)]
  | .groupWake group => [(group, b.sgs)]
  | .coneSample _ => []
  | .coneRefDone cone _ => [(cone, 26)]
  | .mmClr _ => []
  | .testMessage => []
  | .bistSegmentDone strand _ _ _ => [(strand, b.strands)]
  | .bistSliceEnd => []
  | .bistFullDone => []
  | .eccError memory _ _ _ => [(memory, 8)]
  | .logFree _ => []
  | .logFreeAll _ => []
  | .injUnlock _ => []
  | .injArm _ => []
  | .injUnlockLapse => []
  | .tapTrstN => []
  | .extest _ _ => []
  | .idcode => []
  | .sample _ _ => []
  | .pcfg _ => []
  | .tapWash => []
  | .scan => []
  | .bypass => []
  | .washStart _ => []
  | .washRelease _ => []
  | .washAckWaitEnd => []
  | .washDone _ _ _ => []
  | .bqStepRepeat => []
  | .stepRepeat strand => [(strand, b.strands)]
  | .repairSvcRepeat strand => [(strand, b.strands)]
  | .phyPllLock group => [(group, b.sgs)]
  | .testLogicReset => []

/-- A command is well formed for a build: every unit that it names exists there. -/
def wellFormed (b : Build) (i : Instr) : Bool := (unitLimits b i).all (fun p => p.1 < p.2)

end Sys2Proof
end

