-- ==== Sys2Proof/Safety.lean ====
section
/-! DEFINITION. What counts as a safe step: the block stops only on a command that no build of its kind could meet. -/

namespace Sys2Proof.Machine

/-- The outcome is a next state. -/
def Completes (o : Host.Outcome State Fault Refusal) : Prop := ∃ t, o = .next t

/-- The front command, if any, is well formed for the build. -/
def State.Ready (s : State) : Prop := ∀ c cs, s.pending = c :: cs → wellFormed s.build c = true

/-- IRQ_N is driven as R41 and R553 say: low exactly while the class F summary bit is set and unmasked, and high in AON reset. -/
def State.IrqDriven (s : State) : Prop := s.irqN = (s.resets.aon || !(s.flag 0x3804 3 && !s.flag 0x3808 3))

/-- Keys rise strictly. -/
def Rising {β : Type} (l : List (Nat × β)) : Prop := l.Pairwise (fun a b => a.1 < b.1)

/-- The register file is canonical: offsets rise, and no register is listed at its reset value. -/
def State.RegsWf (s : State) : Prop := Rising s.regs ∧ ∀ p ∈ s.regs, p.2 ≠ regReset s.build s.role p.1

/-- The acceptance engine's next entry is `e`, of pair `pair`, with this opcode and its reserved bits zero, and no key wash hinders it. -/
def State.Offers (s : State) (pair : Nat) (e : List Byte) (opcode : Nat) (mask : List Nat) : Prop :=
  s.cfgUp = true ∧ s.nextEntry = some (pair, e) ∧ byteAt e 0 = opcode ∧ s.flag 0x7004 0 = false ∧ s.flag 0x7004 1 = false ∧
    reservedByte 0 (headerMask ++ mask) e = none

/-- The state in which the engine has taken that entry. -/
def State.taken (s : State) (pair : Nat) (e : List Byte) : State := s.start.takeEntry pair e

/-- No VERSION_COMMIT of the stage is accepted and not yet applied, and no descriptor waits for one (R249, R262). -/
def State.StageFree (s : State) (stage : Nat) : Prop := s.committing stage = false ∧ ∀ w ∈ s.commitWaits, w.1 ≠ stage

/-- From `t` the test port has scanned the instruction `code` in, and the register behind it: it rests in `ctl`, the PASS last written has taken
effect, no cell drives, and a wash goes on as it was. -/
def Test.Scanned (t u : Test) (code : Nat) (ctl : TapCtl) : Prop :=
  u.ir = code ∧ u.ctl = ctl ∧ u.pass = t.passSet ∧ u.drives = false ∧ u.wash = t.wash ∧ u.held = t.held

/-- A wash that begins in `s`, for these descriptors. -/
def Wash.Fresh (w : Wash) (s : State) (descs : List Nat) : Prop :=
  w.began = s.now ∧ w.descs = descs ∧ w.waiting = true ∧ w.lost = false

/-- Every memory that R576 lists is zero: the contexts, queues and buffers are empty, and the keys erased. -/
def State.Washed (s : State) : Prop :=
  s.tx = [] ∧ s.rx = [] ∧ s.tables = [] ∧ s.emptied = [] ∧ s.regions = [] ∧ s.shelves = (State.resetOf s.build).shelves ∧ s.bindings = [] ∧
    s.draws = [] ∧ s.restores = [] ∧ s.fetches = [] ∧ s.sends = [] ∧ s.saves = [] ∧ s.reads = [] ∧ s.keepers = [] ∧
    s.keys = (State.resetOf s.build).keys ∧ s.port = [] ∧ s.ghosts = [] ∧ s.ports = (State.resetOf s.build).ports ∧
    s.ptIn = (State.resetOf s.build).ptIn ∧ s.memOps = [] ∧ s.memHeld = [] ∧ s.sag.nonce = none ∧ s.sag.chunks = []

end Sys2Proof.Machine
end

