-- ==== Sys2Proof/Certificates/Slice0/Obligations.lean ====
section
/-! DEFINITION. The statements for the provers. A command's effect is stated through `State.finish` and `State.finishLight`: the state in
which a command ends is what its own effect makes of the state it began in, after what settles by itself has settled and the codes
raised are in the kiln log. What settling never touches is stated by `Obligations.SettlingKeeps`. -/

open Sys2Proof Sys2Proof.Machine

/-! ## Resets, power domains and clocks (chapters 1 and 14) -/

/-- R40, R503, R505: the assertion of RST_AON_N resets everything but what the pins and the power controller hold. The last field is the
model's own number of nonces drawn. -/
def Obligations.AonResetAssertResetsAll : Prop :=
  ∀ s : State, exec .rstAonNAssert s = .next (s.start.finish { State.resetOf s.build with
    resets := { s.resets with aon := true }, pdAck := s.pdAck, lclkLock := s.lclkLock, lclkHold := s.lclkHold
    reqSeq := s.reqSeq, pending := s.pending, sag := { nonces := s.sag.nonces } })

/-- R17, R18, R20, R399, R506: the release of RST_AON_N samples the straps, and a HUB is trusted from the start. -/
def Obligations.AonReleaseSamplesStraps : Prop :=
  ∀ (s : State) (slot : BitVec 5) (tag : BitVec 8) (role : BitVec 2), s.resets.aon = true →
    ∃ t, exec (.rstAonNRelease slot tag role) s = .next t ∧ t.resets = { s.resets with aon := false } ∧
      t.straps = { slotId := slot.toNat, feedTag := tag.toNat, role := roleOf role.toNat, err := strapErr s.build (roleOf role.toNat) } ∧
      t.trusted = (roleOf role.toNat == .hub)

/-- R40, R262, R303, R503, R505, R606: what each of the other resets clears when it is asserted, and that its release lets go of it. R367, R370,
R372, R375: while RST_LINK_N is asserted no lane is high and every pull-down is on, and while RST_AON_N is, the sideband sends nothing. -/
def Obligations.OtherResetsAssertAndRelease : Prop :=
  (∀ s : State, s.cfgHeld = false → ∃ u, exec .rstCfgNAssert s = .next (s.start.finish u) ∧ u.resets = { s.resets with cfg := true } ∧
    u.descs = [] ∧ u.rings = List.replicate 64 {} ∧ u.tx = [] ∧ u.rx = [] ∧ u.stations = List.replicate 64 {} ∧
    u.keys = List.replicate s.build.keySlots none ∧ u.kiln.records = [] ∧ u.linkMsgs = [] ∧
    ∀ off, regClear off ≠ .aon → u.reg off = regReset u.build u.role off) ∧
  (∀ s : State, s.linkHeld = false → ∃ u, exec .rstLinkNAssert s = .next (s.start.finish u) ∧
    u.resets = { s.resets with link := true } ∧ u.linkMsgs = [] ∧ u.mgmt = [] ∧ u.negDone = false ∧ u.bisque = {} ∧
    ∀ x ∈ u.strands, (x.state = .greenware ∨ x.state = .shard) ∧ x.service = false ∧ x.link = {} ∧ x.sub = .none) ∧
  (∀ s : State, s.coreHeld = false → ∃ u, exec .rstCoreNAssert s = .next (s.start.finish u) ∧
    u.resets = { s.resets with core := true } ∧ u.sends = [] ∧ u.regions = [] ∧ u.port = [] ∧ u.fetches = [] ∧
    u.ptIn = List.replicate 16 none ∧ ∀ p ∈ u.ports, p = {}) ∧
  (∀ s : State, ∃ t, exec .rstCfgNRelease s = .next t ∧ t.resets = { s.resets with cfg := false }) ∧
  (∀ s : State, ∃ t, exec .rstLinkNRelease s = .next t ∧ t.resets = { s.resets with link := false }) ∧
  (∀ s : State, ∃ t, exec .rstCoreNRelease s = .next t ∧ t.resets = { s.resets with core := false }) ∧
  (∀ s : State, ∃ t, exec .lclkLockLoss s = .next t ∧ t.lclkLock = false ∧ t.lclkHold = true ∧ t.linkHeld = true) ∧
  (∀ s : State, ∃ t, exec .lclkLockSettled s = .next t ∧ t.lclkLock = true ∧ t.lclkHold = false ∧ t.resets = s.resets) ∧
  (∀ (s : State) (i k lclk u : Nat) (flit : List Byte), s.resets.link = true → s.pullDown i = true ∧
    (s.laneLevel i k lclk u flit = .low ∨ s.laneLevel i k lclk u flit = .undriven)) ∧
  (∀ (s : State) (b : Option Bool), (s.resets.aon = true → s.sidebandTx b = (.low, .low)) ∧
    (s.resets.aon = false → s.sidebandTx b = (.bit (b.getD true), .clock)))

/-- R26, R28, R507, R510: the handshake of a power domain; a fall of PD_ACK that was not asked for is recorded and holds PD_REQ low, until the
record is freed; a domain requested off or parked is not asked for outside a wash. -/
def Obligations.PowerDomainsAreHandled : Prop :=
  ((∀ (s : State) (d : Nat), d < 23 → ∃ t, exec (.pdAckRise d) s = .next t ∧ t.pdAck = setBits s.pdAck d d 1) ∧
  (∀ (s : State) (d : Nat), d < 23 → s.aonHeld = true ∨ s.pdReq.testBit d = false → s.pdAck.testBit d = true →
    ∃ t, exec (.pdAckFall d) s = .next t ∧ t.pdAck = setBits s.pdAck d d 0) ∧
  (∀ (s : State) (d : Nat), d < 23 → s.aonHeld = false → s.pdAck.testBit d = true → s.pdReq.testBit d = true →
    ∃ u l, exec (.pdAckLost d) s = .next (s.start.finish u) ∧ u.pdAck = setBits s.pdAck d d 0 ∧ u.pdReq = setBits s.pdReq d d 0 ∧
      d ∈ u.kiln.pdHeld ∧ u.flag 0x6018 0 = true ∧ u.raised = l ++ [⟨0x0906, d, 0, false, 0⟩]) ∧
  (∀ (s : State) (g : Nat), g < s.build.sgs → s.domainOn g = true →
    exec (.phyPllLock g) s = .next (s.start.finish { s.start with phyReady := s.phyReady ||| 2 ^ g }))) ∧
  ((∀ (s : State) (d : Nat), d ∈ s.kiln.pdHeld → s.asksFor d = false) ∧
  (∀ (s : State) (d : Nat), s.test.wash = none → s.flag 0x6000 d = true ∨ d ∈ s.power.parked → s.asksFor d = false))

/-- R511: the effective park set. R511 to R515: the brownout warning, its fall and its time limit; parking a group begins with a SERVICE leave of
each of its strands in service, and a group that has left the park set is requested on. -/
def Obligations.PowerWarningAndParking : Prop :=
  ((∀ s : State, s.aonHeld = false → s.power.warn = false → ∃ u n, exec .pwrWarnRise s = .next (s.start.finish u) ∧
    u.power = { s.power with warn := true, flush := some n, inj := false } ∧ u.flag 0x6010 0 = true ∧ u.flag 0x6014 0 = true) ∧
  (∀ s : State, s.aonHeld = false → exec .pwrWarnFall s =
    .next (s.start.finish (State.setFlag { s.start with power := { s.power with warn := false } } 0x6014 0 false))) ∧
  (∀ (s : State) (n : Nat), s.aonHeld = false → s.power.flush = some n → ∃ u l,
    exec .brownoutFlushTimeout s = .next (s.start.finish u) ∧ u.power = { s.power with flush := none } ∧ u.flag 0x6018 2 = true ∧
    u.raised = l ++ [⟨0x0908, 0, 0, s.power.inj, 0⟩] ∧ (s.partner = .active ∨ s.partner = .present → u.partner = .quiet))) ∧
  ((∀ (s : State) (g : Nat), g < 16 → bit s.parkSet g = (decide (g < s.build.sgs) && (s.flag 0x600C g ||
    (decide (s.partner = .active) && bit s.pulse.park g)))) ∧
  (∀ (s : State) (g : Nat), g < s.build.sgs → s.cfgUp = true → s.initiates = true → s.parkDue g = true → s.mayPark g = true →
    exec (.parkStart g) s = .next (s.start.finish (forEach ((s.groupService g).filter (fun i => (s.strand i).leave.isNone))
      (fun i x => x.beginSvc i false 2) s.start))) ∧
  (∀ (s : State) (g : Nat), g < s.build.sgs → s.cfgUp = true → s.initiates = true → s.parkDue g = true → s.mayPark g = false →
    ¬ g ∈ s.power.blocked → exec (.parkStart g) s = .next (s.start.finish (State.raise
      { s.start.sticky 0x6018 3 with power := { s.power with blocked := s.power.blocked ++ [g] } } 0x0909 g))) ∧
  (∀ (s : State) (g : Nat), g < s.build.sgs → s.cfgUp = true → g ∈ s.power.parked → bit s.parkSet g = false → s.atRest g = true →
    s.pdReq.testBit g = false → s.flag 0x6000 g = false → ¬ g ∈ s.kiln.pdHeld → s.requiredOn g = true →
    ∃ u, exec (.groupWake g) s = .next (s.start.finish u) ∧ u.pdReq = setBits s.pdReq g g 1 ∧
      u.power = { s.power with parked := s.power.parked.filter (· != g) }))

/-! ## Ports (chapters 1, 2 and 7) -/

/-- R32, R65: a beat that does not end its parcel is taken in, later beats must name the same parcel, and the last beat puts the parcel in its
stream; on a stream that is not open it is malformed, recorded under 0x0401 and nothing is sent. R322, R323: the parcel of a stream of fixed
latency enters it with its first beat and grows with each later one, which is the model's choice (log entry 129). -/
def Obligations.StationParcelsEnter : Prop :=
  ((∀ (s : State) (port : Nat) (side : BitVec 128) (data : List Byte), port < s.build.ports → s.cfgUp = true →
    s.intakeReady port true = true → (s.ports.getD port {}).inOpen = false → sideSop side.toNat = true → sideEop side.toNat = false →
    sideBytes side.toNat = 512 → (∀ st, s.tx? (sideStream side.toNat) = some st → s.goesThrough st = false) →
    exec (.stIBeat port side data) s = .next (s.start.finish ((s.start.modPort port (fun p =>
      { p with
        inOpen := true, inSide := side.toNat, inBytes := data.take 512, inSeek := none, inBad := false
        inStamps := [((data.take 512).length, s.lclk)] })).seekIntake port))) ∧
  (∀ (s : State) (port id : Nat) (side : BitVec 128) (data b : List Byte) (st : TxStream), port < s.build.ports → port < s.ports.length →
    s.cfgUp = true → s.intakeReady port true = true → (s.ports.getD port {}).inOpen = false → sideSop side.toNat = true →
    sideEop side.toNat = false → sideBytes side.toNat = 512 → sideStream side.toNat = id → data.take 512 = b → s.tx? id = some st →
    s.goesThrough st = true → st.takes = true → st.fence = none → st.cfg.localStn = sideStation side.toNat →
    s.boundTo (sideStation side.toNat) port = true → hMb b = sideMb side.toNat → hDir b = sideDir side.toNat →
    s.parcelOk st b (parcelLen (denseSize st.cfg.srcFmt (hElems b)) b) true = true → hAtomic b = false →
    ∃ u st', exec (.stIBeat port side data) s = .next (s.start.finish u) ∧ u.tx? id = some st' ∧ (u.ports.getD port {}).inThru = true ∧
      st'.queue.map (·.src) = st.queue.map (·.src) ++ [b] ∧ ∃ p, st'.queue.getLast? = some p ∧ p.source = .station port ∧
      p.complete = false ∧ p.stamps = [(b.length, s.lclk)]) ∧
  (∀ (s : State) (port : Nat) (side : BitVec 128) (data : List Byte) (q : Port), port < s.build.ports → s.cfgUp = true →
    s.intakeReady port false = true → s.ports.getD port {} = q → q.inOpen = true → q.inBad = false → sideSop side.toNat = false →
    sideEop side.toNat = false → sideBytes side.toNat = 512 → sideStation side.toNat = sideStation q.inSide →
    sideStream side.toNat = sideStream q.inSide → sideMb side.toNat = sideMb q.inSide → sideDir side.toNat = sideDir q.inSide →
    ∀ (b : List Byte) (stamps : List (Nat × Nat)) (v : State), q.inBytes ++ data.take 512 = b → q.inStamps ++ [(b.length, s.lclk)] = stamps →
      s.start.modPort port (fun p => { p with inOpen := true, inSide := q.inSide, inBytes := b, inStamps := stamps, inBad := false }) = v →
      (q.inThru = false → exec (.stIBeat port side data) s = .next (s.start.finish v)) ∧
      (q.inThru = true → exec (.stIBeat port side data) s = .next (s.start.finish
        (v.modTx (sideStream q.inSide) (fun t => { t with queue := t.queue.map (fun p =>
          if p.comesBy port then { p with src := b, stamps := stamps, complete := false } else p) })))))) ∧
  ((∀ (s : State) (port : Nat) (side : BitVec 128) (data : List Byte), port < s.build.ports → s.cfgUp = true →
    s.intakeReady port true = true → (s.ports.getD port {}).inOpen = false → sideSop side.toNat = true → sideEop side.toNat = true →
    0 < sideBytes side.toNat → sideBytes side.toNat ≤ 512 → s.inj.armed = false → s.tx? (sideStream side.toNat) = none →
    port < s.ports.length → ∃ u, exec (.stIBeat port side data) s = .next (s.start.finish u) ∧ u.tx = s.tx ∧
      u.raised = [⟨0x0401, sideStream side.toNat, 0, false, 0⟩]) ∧
  (∀ (s : State) (port : Nat) (side : BitVec 128) (data : List Byte) (st : TxStream), port < s.build.ports → s.cfgUp = true →
    s.intakeReady port true = true → (s.ports.getD port {}).inOpen = false → sideSop side.toNat = true → sideEop side.toNat = true →
    0 < sideBytes side.toNat → sideBytes side.toNat ≤ 512 → s.inj.armed = false → s.tx? (sideStream side.toNat) = some st →
    st.takes = true → st.fence = none → st.cfg.localStn = sideStation side.toNat → s.boundTo (sideStation side.toNat) port = true →
    hMb data = sideMb side.toNat → hDir data = sideDir side.toNat → data.length = sideBytes side.toNat →
    s.parcelOk st data data.length false = true → st.atomicLim = 0 → hAtomic data = false → st.cfg.dispRole = 0 →
    s.sagChecksD st.cls st.looped (s.regN 0x4000) = false → port < s.ports.length →
    ∃ u st', exec (.stIBeat port side data) s = .next (s.start.finish u) ∧ u.raised = [] ∧
      u.tx? (sideStream side.toNat) = some st' ∧ (st'.queue.map (·.src)) = st.queue.map (·.src) ++ [data]))

/-- R30, R33, R77, R83, R86, R90: a pop request is answered at once where its stream is not open for the port, or is fenced and starves
it, and is queued otherwise, which ends a stall that it serves; the beat on offer at an O channel is the one that transfers and stays on
offer until then, and what it was taken from moves on; a port with none offers its next answer, which is the model's choice (log entry 103);
the last beat of a parcel that has come whole carries its remaining bytes and its status. -/
def Obligations.PopsAreAnswered : Prop :=
  ((∀ (s : State) (port stream mb dir : Nat), port < s.build.ports → s.cfgUp = true → s.portUp port = true → s.notWashed = true →
    (s.ports.getD port {}).pops.length < 16 →
    (s.popStream port stream = none → exec (.popRequest port stream mb dir) s =
      .next (s.start.finish (s.start.answerBeat port (sideField 0 stream true true 1 mb dir 0x11)))) ∧
    (∀ (key : Nat) (st : RxStream) (u : State), s.popStream port stream = some (key, st) →
      u = (if st.stall = true ∧ st.serves mb dir = true then s.start.modRx key (fun t => { t with stall := false }) else s.start) →
      (st.fence = none ∨ st.starves (s.ports.getD port {}).pops ⟨stream, mb, dir⟩ = false → exec (.popRequest port stream mb dir) s =
        .next (s.start.finish (u.modPort port (fun p => { p with pops := p.pops ++ [⟨stream, mb, dir⟩] })))) ∧
      (∀ status, st.fence = some status → st.starves (s.ports.getD port {}).pops ⟨stream, mb, dir⟩ = true →
        exec (.popRequest port stream mb dir) s = .next (s.start.finish (u.answerBeat port
          (sideField st.cfg.station stream true true 1 mb dir status)))))) ∧
  (∀ (s : State) (port : Nat), port < s.build.ports → s.cfgUp = true → s.portUp port = true →
    (∀ b : Beat, (s.ports.getD port {}).offer = some b →
      (b.source = none → exec (.stOBeat port) s = .next (s.start.finish
        ((s.start.modPort port (fun q => { q with offer := none })).emit (.oBeat port b.side b.data)))) ∧
      (∀ key uid, b.source = some (key, uid) → exec (.stOBeat port) s = .next (s.start.finish
        (((s.start.modPort port (fun q => { q with offer := none })).emit (.oBeat port b.side b.data)).beatTaken key uid
          (bit b.side 19))))) ∧
    (∀ side rest, port < s.ports.length → (s.ports.getD port {}).offer = none → (s.ports.getD port {}).outOf = none →
      (s.ports.getD port {}).answers = side :: rest → ∃ u, exec (.stOBeat port) s = .next (s.start.finish u) ∧
        u.out = [.oBeat port side [0]] ∧ (u.ports.getD port {}).answers = rest))) ∧
  ((∀ (s : State) (port : Nat), (s.ports.getD port {}).offer.isSome = true → s.offerBeat port = s) ∧
  (∀ (s : State) (port key uid n : Nat) (st : RxStream) (p : RxParcel), port < s.ports.length → s.rx? key = some st →
    st.parcel? uid = some p → (p.shown s.lclk).complete = true → (p.shown s.lclk).avail.length - p.taken = n → n ≤ 512 →
    ((s.offerNext port key uid).ports.getD port {}).offer = some ⟨sideField st.cfg.station st.cfg.id (p.taken == 0) true n p.mb p.dir
      p.okStatus, slice p.avail p.taken n, some (key, uid)⟩))

/-- R34, R88, R499: pass-through beats are taken in per channel; an error beat that waits leaves between packets. That a beat with SOP inside
an open packet begins it anew, and one without SOP between packets begins one, is the model's choice (log entry 102). -/
def Obligations.PassThroughBeats : Prop :=
  (∀ (s : State) (vc : Nat) (sop : Bool) (data : List Byte), vc < 16 → s.cfgUp = true → s.ptUp = true →
    (s.ptIn.getD vc none).isSome ∨ s.flag 0x100 1 = false → ∃ t, exec (.ptIBeat vc sop false data) s = .next t ∧
      t.ptIn = modAt (fun _ => some ((if sop then [] else (s.ptIn.getD vc none).getD []) ++ data.take (s.build.ptBits / 8))) vc s.ptIn) ∧
  (∀ (s : State) (vc : Nat) (sop : Bool) (bytes : List Byte) (rest : List (Bool × List Byte)), vc < 16 → s.cfgUp = true →
    s.ptUp = true → s.rx.find? (fun r => r.2.cls == 3 && r.2.cfg.vc == vc && !r.2.packets.isEmpty) = none →
    s.ptErr.getD vc [] = (sop, bytes) :: rest → exec (.ptOBeat vc) s = .next (s.start.finish
      (State.emit { s.start with ptErr := modAt (fun _ => rest) vc s.ptErr } (.ptBeat vc sop true true bytes))))
/-- R35: data and acknowledgements on MEM go to the use that asked for them, once. Without an armed injection. -/
def Obligations.MemResponsesReachTheirUse : Prop :=
  ∀ (s s1 : State) (request ch : Nat) (use : MemUse) (err : Bool), s.cfgUp = true → s.inj.armed = false →
    s.memUse request = some (ch, use) → s1 = { s.start with memOps := eraseKey request s.memOps } →
    (∀ data, ∃ u, exec (.memRdData request data err) s = .next (s.start.finish u) ∧
      (∀ w, use = .fetch w → u = s1.fetchData w request data err) ∧ (∀ d, use = .drawRead d → u = s1.drawData d request data err) ∧
      (∀ r k, use = .accRead r k → u = s1.accData r k request data err) ∧ (∀ d, use = .scaleLoad d → u = s1.scaleData d data err)) ∧
    (∃ u, exec (.memWack request err) s = .next (s.start.finish u) ∧
      (∀ r k, use = .accWrite r k → u = s1.accAdvance r k request err) ∧ (∀ h st p, use = .fill h st p → u = s1.fillAcked h st p err) ∧
      (∀ d p, use = .restoreWrite d p → u = s1.restoreAcked d p err) ∧ (∀ d, use = .image d → u = s1.imageAcked d err))

/-- R154, R179, R235, R248, R254, R256, R257, R260: the data of an HM read go to the descriptor that asked for them, once; an acknowledged
completion entry frees its in-flight slot, and an acknowledged event or message its request. A pair that waited may fetch again. -/
def Obligations.HostMemoryAnswers : Prop :=
  (∀ (s s1 : State) (request : Nat) (use : HmReadUse) (data : List Byte) (err : Bool), s.cfgUp = true → s.inj.armed = false →
    lookupKey request s.hmReads = some use → s1 = { s.start with hmReads := eraseKey request s.hmReads } →
    ∃ u, exec (.hmReadDone request data err) s = .next (s.start.finish u) ∧
      (∀ d, use = .parcelSend d → u = s1.sendData d data err) ∧ (∀ d, use = .scaleLoad d → u = s1.scaleData d data err) ∧
      (∀ d, use = .dispatchLoad d → u = s1.dispatchData d data err) ∧ (∀ d, use = .restoreTable d → u = s1.restoreData d true data err) ∧
      (∀ d, use = .restoreChunk d → u = s1.restoreData d false data err) ∧
      (∀ d x, use = .keyLoad d → err = false → s.desc? d = some x → x.written = false → u = State.complete { s1 with
        keys := modAt (fun _ => some (padTo (byteAt x.entry 9) data)) (bits (byteAt x.entry 8) 2 0) s.keys } d 0)) ∧
  ((∀ (s : State) (request pair d : Nat), s.cfgUp = true → s.inj.armed = false → lookupKey request s.hmWrites = some (.completion pair d) →
    exec (.completionAck request false) s = .next (s.start.finish (State.tryFetchAll (State.entryAcked { s.start with
      hmWrites := eraseKey request s.hmWrites, descs := s.descs.filter (fun x => x.id != d) } pair request)))) ∧
  (∀ (s : State) (request : Nat), s.cfgUp = true → s.inj.armed = false → lookupKey request s.hmWrites = some .event →
    exec (.hmWriteAck request false) s = .next (s.start.finish (State.tryFetchAll (State.entryAcked { s.start with
      hmWrites := eraseKey request s.hmWrites } 0 request)))) ∧
  (∀ (s : State) (request pair : Nat), s.cfgUp = true → s.inj.armed = false → lookupKey request s.hmWrites = some (.message pair) →
    exec (.hmWriteAck request true) s = .next (s.start.finish (State.tryFetchAll (State.raise { s.start with
      hmWrites := eraseKey request s.hmWrites } 0x0705 pair)))))

/-! ## Rings (chapter 7) -/

/-- R36, R246, R256, R600: a watch notification or a poll of an enabled pair reads its doorbell block; a watch notification while
a read is outstanding asks for another read after it, which is the model's choice (log entry 95); when MOD_TIME has passed a message becomes
due, which covers the unsignalled entries: it is sent at once where all of them are acknowledged, and waits behind them otherwise. -/
def Obligations.DoorbellsAndMessages : Prop :=
  ((∀ (s : State) (p : Nat), p < 64 → s.cfgUp = true → s.ringOn p = true → s.fetchHeld = false → (s.ring p).reading = false →
    exec (.ringPoll p) s = .next (s.start.finishLight ((s.start.modRing p (fun r => { r with reading := true, poll := true })).emit
      (.doorbellRead p (s.doorbellAddr p))))) ∧
  (∀ (s : State) (p line : Nat), p < 64 → s.cfgUp = true → s.doorbellAddr p / 64 = line →
    (∀ q, q < 64 → q ≠ p → s.doorbellAddr q / 64 ≠ line) → s.ringOn p = true → s.fetchHeld = false → (s.ring p).reading = false →
    s.rings.length = 64 → ∃ u, exec (.hmWatch line) s = .next (s.start.finishLight u) ∧
      u.out = [.doorbellRead p (s.doorbellAddr p)] ∧ (u.ring p) = { s.ring p with
        pollExp := 0, again := false, poll := false, reading := true }) ∧
  (∀ (s : State) (p line : Nat), p < 64 → s.cfgUp = true → s.doorbellAddr p / 64 = line →
    (∀ q, q < 64 → q ≠ p → s.doorbellAddr q / 64 ≠ line) → s.ringOn p = true → s.fetchHeld = false → (s.ring p).reading = true →
    s.rings.length = 64 → ∃ u, exec (.hmWatch line) s = .next (s.start.finishLight u) ∧
      u.out = [] ∧ (u.ring p) = { s.ring p with pollExp := 0, again := true, poll := false })) ∧
  ((∀ (s : State) (p : Nat), p < 64 → s.cfgUp = true → s.ringOn p = true → s.flag (ringReg p 0x18) 1 = true →
    (s.ring p).oldest.isSome = true → s.fld (ringReg p 0x18) 31 16 ≠ 0 →
    exec (.irqModTimeout p) s = .next (s.start.finishLight (s.start.messageDue p))) ∧
  (∀ (s : State) (p : Nat), p < s.rings.length → (∀ m ∈ (s.ring p).msgs, m ≠ []) → (s.ring p).msiAddr ≠ 0 → (s.ring p).msiAddr % 4 = 0 →
    ((s.messageDue p).ring p).unsig = 0 ∧ ((s.messageDue p).ring p).covers = [] ∧
    ((s.ring p).covers = [] → ((s.messageDue p).ring p).msgs = (s.ring p).msgs ∧
      (s.messageDue p).out = s.out ++ [.hmWrite s.reqSeq (s.ring p).msiAddr (toLe 4 (s.ring p).msiData)]) ∧
    ((s.ring p).covers ≠ [] → ((s.messageDue p).ring p).msgs = (s.ring p).msgs ++ [(s.ring p).covers] ∧ (s.messageDue p).out = s.out)))

/-- R243, R246, R247, R261: a good doorbell block is used, and read again after a watch notification that came meanwhile; a faulty
one or a failed read faults the pair; fetched entries pass to the acceptance engine and SQ_CI moves past them, wrapping with its
generation bit, and of a fetch that fails the entries before the failing one do. The second read, and those entries of a failed fetch, are the
model's choices (log entries 95 and 123). -/
def Obligations.DoorbellAndFetchReturn : Prop :=
  (∀ (s : State) (p : Nat) (data : List Byte), p < 64 → s.cfgUp = true → s.inj.armed = false → s.ringOn p = true →
    (s.ring p).reading = true → (s.ring p).oldRead = false → s.doorbellBad p (padTo 32 data) = false →
    exec (.doorbellReadDone p data false) s = .next (s.start.finishLight (
      let u := State.useDoorbell (s.start.modRing p (fun r => { r with reading := false, again := false, oldRead := false })) p
        (padTo 32 data)
      if (s.ring p).again then u.readDoorbell p false else u))) ∧
  (∀ (s : State) (p : Nat) (data : List Byte) (err : Bool), p < 64 → s.cfgUp = true → s.inj.armed = false → s.ringOn p = true →
    (s.ring p).reading = true → (s.ring p).oldRead = false → err = true ∨ s.doorbellBad p (padTo 32 data) = true →
    exec (.doorbellReadDone p data err) s = .next (s.start.finishLight (State.ringFault (s.start.modRing p (fun r => { r with
      reading := false, again := false, oldRead := false })) p 0x0702 false))) ∧
  (∀ (s : State) (p : Nat) (data : List Byte), p < 64 → s.cfgUp = true → s.inj.armed = false → (s.ring p).fetching ≠ 0 →
    (s.ring p).stale = false → p < s.rings.length → exec (.submissionFetchDone p data false) s = .next (s.start.finishLight
      (State.tryFetch (s.start.modRing p (fun r => { r with
        fetching := 0, stale := false, fetched := r.fetched ++ pieces 64 (padTo (64 * r.fetching) (data.take (64 * r.fetching)))
        sqCi := if s.sqSize p ≤ r.sqCi + r.fetching then r.sqCi + r.fetching - s.sqSize p else r.sqCi + r.fetching
        sqGen := if s.sqSize p ≤ r.sqCi + r.fetching then !r.sqGen else r.sqGen })) p))) ∧
  (∀ (s : State) (p : Nat) (data : List Byte), p < 64 → s.cfgUp = true → s.inj.armed = false → (s.ring p).fetching ≠ 0 →
    (s.ring p).stale = false → exec (.submissionFetchDone p data true) s = .next (s.start.finishLight
      (State.ringFault (s.start.modRing p (fun r => Ring.took { r with fetching := 0, stale := false } (s.sqSize p)
        (min (data.length / 64) (r.fetching - 1)) data)) p 0x0701 false)))

/-! ## NV, presence, heat, PULSEs and cones (chapters 1, 14 and 15) -/

/-- R419, R461, R515: the NV port answers its oldest request: a word of the die id, or a write of the log image in a brownout. -/
def Obligations.NvAnswersTheOldest : Prop :=
  (∀ (s : State) (rest : List NvUse) (w : BitVec 64), s.aonHeld = false → s.inj.armed = false → s.nvOps = .dieId 0 :: rest →
    exec (.nvResponse w false) s = .next (s.start.finish { s.start with nvOps := rest, idBuf := some w.toNat })) ∧
  (∀ (s : State) (rest : List NvUse) (last : Bool) (n : Nat) (w : BitVec 64), s.aonHeld = false → s.inj.armed = false →
    s.nvOps = .logWrite last :: rest → s.power.flush = some n → 1 < n → ∃ u, exec (.nvResponse w false) s = .next (s.start.finish u) ∧
      u.nvOps = rest ∧ u.power.flush = some (n - 1) ∧ u.fld 0x6014 31 16 = min (s.fld 0x6014 31 16 + 1) 65535)

/-- R518, R519, R527, R528, R538: HEAT_IN takes the temperature of a good frame and drops a bad one, counted; a cone sample stores its
reading, which is VALID; a reference check ends with what it read, held against its criterion, and one that fails is recorded: a temperature
cone within 1.5 degrees of each reference, a process cone within its LO and HI. -/
def Obligations.HeatAndCones : Prop :=
  ((∀ (s : State) (temp : Nat), s.aonHeld = false → s.inj.armed = false → temp < 65536 → exec (.heatInFrame (heatFrame temp true)) s =
    .next (s.start.finishLight { s.start with pulse := { s.pulse with heatIn := temp, inStale := false } })) ∧
  (∀ (s : State) (frame : Nat), s.aonHeld = false → s.inj.armed = false → bits (frame / 2) 31 24 ≠ crc8 (toLe 3 (frame / 2)) →
    ∃ u, exec (.heatInFrame frame) s = .next (s.start.finishLight u) ∧ u.pulse.heatIn = s.pulse.heatIn ∧
      u.pulse.inStale = s.pulse.inStale ∧ u.flag 0x6048 1 = true ∧ u.fld 0x604C 15 0 = min (s.fld 0x604C 15 0 + 1) 65535) ∧
  (∀ s : State, s.aonHeld = false → exec .heatInStale s =
    .next (s.start.finishLight { s.start with pulse := { s.pulse with inStale := true } }))) ∧
  ((∀ (s : State) (readings : List Nat) (i : Nat), s.aonHeld = false → s.inj.armed = false → s.cones.length = 26 → i < 4 →
    (s.cones.getD i {}).check = false → ∃ t, exec (.coneSample readings) s = .next t ∧
      (t.cones.getD i {}).value = readings.getD i 0 % 65536 ∧ t.coneValid i = true) ∧
  (∀ (s : State) (i : Nat) (results : List Nat), i < 26 → s.aonHeld = false → s.inj.armed = false → s.cones.length = 26 →
    (s.cones.getD i {}).check = true → s.bist.full = none → s.bist.from_ = none → ∃ u, exec (.coneRefDone i results) s =
      .next (s.start.finish u) ∧ (u.cones.getD i {}).check = false ∧
      u.raised = (if s.conePasses i results then [] else [⟨0x0A12, i, 0, false, 0⟩]) ∧
      (s.conePasses i results = false → u.flag 0x3408 3 = true ∧ u.flag (0x300C + 16 * i) 6 = true)) ∧
  (∀ (s : State) (i : Nat) (results : List Nat), (i < 20 → (s.conePasses i results = true ↔
      (ofInt16 (results.getD 0 0) + 640).natAbs ≤ 24 ∧ (ofInt16 (results.getD 1 0) - 2000).natAbs ≤ 24)) ∧
    (23 ≤ i → (s.conePasses i results = true ↔ s.fld (0x3008 + 16 * i) 15 0 ≤ min (results.getD 0 0) 65535 ∧
      min (results.getD 0 0) 65535 ≤ s.fld (0x3008 + 16 * i) 31 16))))

/-- R373, R491 to R495, R520: a PULSE carries SEQ, the heat and the flags of this side; one received is stored; eight windows without one are the
HEARTBEAT loss of an ACTIVE partner; a partner never seen is ABSENT; PRESENCE rises after four good windows in a row and its fall is a loss. -/
def Obligations.PulsesAndPresence : Prop :=
  ((∀ s : State, s.aonHeld = false → exec .pulseStart s = .next (s.start.finishLight (State.sendFrame { s.start with
      pulse := { s.pulse with seq := (s.pulse.seq + 1) % 65536, sent := if s.heatNow.2 then int16 s.heatNow.1 else 0 } } 1
    (toLe 2 s.pulse.seq ++ toLe 2 (if s.heatNow.2 then int16 s.heatNow.1 else 0) ++ toLe 2 (b2n s.heatNow.2 + 2 * b2n (s.allGreen true)
      + 4 * b2n s.localDown + 8 * b2n s.power.warn) ++ toLe 2 (s.fld 0x600C 15 0))))) ∧
  (∀ (s : State) (p : List Byte), s.aonHeld = false → s.inj.armed = false → bit (field p 4 2) 0 = false → bit (field p 4 2) 2 = false →
    s.pulse.stale = true → exec (.pulseFrame p) s = .next (s.start.finish { s.start with pulse := { s.pulse with
      peerSeq := field p 0 2, heat := field p 2 2, heatValid := false, green := bit (field p 4 2) 1, down := false
      warn := bit (field p 4 2) 3, park := field p 6 2, winPulse := true, winBad := s.pulse.winBad || !bit (field p 4 2) 1 } })) ∧
  (∀ (s : State) (p : List Byte), s.aonHeld = false → s.inj.armed = false → bit (field p 4 2) 0 = false → bit (field p 4 2) 2 = true →
    s.pulse.stale = true → s.partner = .active → ∃ u l, exec (.pulseFrame p) s = .next (s.start.finish u) ∧ u.partner = .quiet ∧
      u.pulse.cause = 2 ∧ u.raised = l ++ [⟨0x0902, 0, 0, false, 0⟩]) ∧
  (∀ s : State, s.aonHeld = false → s.pulse.winPulse = false → s.pulse.misses = 7 → s.pulse.heatMiss < 7 → s.pulse.stale = false →
    s.partner = .active → s.presence.on = false → s.inj.point = 0 → ∃ u l, exec .pulseWindowEnd s = .next (s.start.finish u) ∧
      u.partner = .lost ∧ u.pulse.misses = 8 ∧ u.pulse.cause = 5 ∧ u.raised = l ++ [⟨0x0904, 0, 0, false, 0⟩]) ∧
  (∀ s : State, s.aonHeld = false → s.partner = .unknown → s.presence.on = false → ∃ u l,
    exec .partnerAbsent s = .next (s.start.finish u) ∧ u.partner = .absent ∧ u.flag 0x6028 0 = true ∧
      u.raised = l ++ [⟨0x0901, 0, 0, false, 0⟩])) ∧
  ((∀ (s : State) (edges : Nat), s.aonHeld = false → s.inj.armed = false → s.presence.on = false → edges < 48 ∨ 80 < edges →
    exec (.presenceWindow edges) s = .next (s.start.finish { s.start with
      presence := { s.presence with edges := min 255 edges, good := 0 } })) ∧
  (∀ (s : State) (edges : Nat), s.aonHeld = false → s.inj.armed = false → s.presence.on = false → 48 ≤ edges → edges ≤ 80 →
    s.presence.good < 3 → exec (.presenceWindow edges) s = .next (s.start.finish { s.start with
      presence := { s.presence with edges := min 255 edges, good := s.presence.good + 1 } })) ∧
  (∀ (s : State) (edges : Nat), s.aonHeld = false → s.inj.armed = false → s.presence.on = false → 48 ≤ edges → edges ≤ 80 →
    s.presence.good = 3 → ∃ t, exec (.presenceWindow edges) s = .next t ∧ t.presence.on = true) ∧
  (∀ (s : State) (edges : Nat), s.aonHeld = false → s.inj.armed = false → s.presence.on = true → edges < 48 ∨ 80 < edges →
    s.partner = .active → ∃ u l, exec (.presenceWindow edges) s = .next (s.start.finish u) ∧ u.presence.on = false ∧
      u.partner = .quiet ∧ u.pulse.cause = 3 ∧ u.raised = l ++ [⟨0x0903, 0, 0, false, 0⟩]))

/-! ## Registers and the CFG window (chapters 1 and 18) -/

/-- R7, R594: a write to a stored register takes the data in its RW bits (as the register's own rule stores them), clears the RW1C bits
that are written 1, and leaves every other bit and every other register. -/
def Obligations.RegisterWriteFollowsAccessCodes : Prop :=
  ∀ (s : State) (off : Nat) (d : Word) (row : RegRow), regRow s.build s.role off = some row →
    (∀ i, i < 32 → (s.plainWrite off d).flag off i =
      if row.rw.testBit i then (writeRule off (s.regN off) d.toNat).testBit i
      else s.flag off i && !(row.w1c.testBit i && (writeRule off (s.regN off) d.toNat).testBit i)) ∧
    (∀ o, o ≠ off → (s.plainWrite off d).reg o = s.reg o) ∧
    s.plainWrite off d = { s with regs := (s.plainWrite off d).regs }

/-- Reading a register gives the word last stored, storing one register leaves the others, and storing keeps the register file canonical: offsets
rise and no register is listed at its reset value. So does every step, whatever its command and whatever settles and is logged after it. -/
def Obligations.RegisterFileIsCanonical : Prop :=
  (∀ s t : State, s.RegsWf → step s = .next t → t.RegsWf) ∧
  (∀ (s : State) (off : Nat) (w : Word), s.RegsWf →
    (s.setReg off w).reg off = w ∧ (∀ o, o ≠ off → (s.setReg off w).reg o = s.reg o) ∧ (s.setReg off w).RegsWf ∧
    (∀ t : State, t = { s with regs := t.regs } → t.RegsWf →
      (∀ o, t.reg o = s.reg o) → t = s))

/-- R37, R592, R602: a write reaches its register; one to a domain that is off is recorded in CL_CFG_ERR; in AON reset it is ignored;
and an offset off the window, or not word aligned, is no access: that it ends in a fault is the model's choice (log entry 5). -/
def Obligations.CfgWriteReachesOrIsRecorded : Prop :=
  (∀ (s : State) (off : Nat) (d : Word), off < 0x10000 → off % 4 = 0 → s.aonHeld = false → s.regReachable off = true →
    exec (.registerWrite off d) s = .next (s.start.finish (s.start.writeReg off d))) ∧
  (∀ (s : State) (off : Nat) (d : Word), off < 0x10000 → off % 4 = 0 → s.aonHeld = false → s.regReachable off = false →
    regExists s.build off = true → s.flag 0x10C 31 = false → ∃ u, exec (.registerWrite off d) s = .next (s.start.finish u) ∧
      u.flag 0x10C 31 = true ∧ u.fld 0x10C 13 0 = off / 4 ∧ u.flag 0x10C 14 = true ∧ u.flag 0x10C 30 = s.flag 0x10C 30) ∧
  (∀ (s : State) (off : Nat) (d : Word), off < 0x10000 → off % 4 = 0 → s.aonHeld = true →
    exec (.registerWrite off d) s = .next (s.start.finish s.start)) ∧
  (∀ (s : State) (off : Nat) (d : Word), ¬ (off < 0x10000 ∧ off % 4 = 0) → exec (.registerWrite off d) s = .fault .absentUnit)

/-- Registers whose writes have no behaviour beyond R7 and their own storing rule. -/
def Obligations.PlainRegistersOnlyStore : Prop :=
  ∀ (s : State) (d : Word) (off : Nat), off ∈ [0x108, 0x304, 0x308, 0x310, 0x2000, 0x2004, 0x2080, 0x2088, 0x2800, 0x2810, 0x3400,
      0x3800, 0x3804, 0x3808, 0x3810, 0x3C08, 0x3C0C, 0x4808, 0x5008, 0x580C, 0x6000, 0x600C, 0x6020, 0x6030, 0x6038, 0x603C, 0x6414] →
    s.writeReg off d = s.plainWrite off d

/-- R596, R604: reading the low word of a pair answers its low half and captures the high half in the pair's shadow. -/
def Obligations.PairReadsCaptureTheHighWord : Prop :=
  (∀ s : State, s.aonHeld = false → exec .fcountLoRead s = .next (s.start.finishLight (State.emit { s.start with
    shadows := insertKey 0x200 (s.now / 2 ^ 32) s.shadows } (.cfgData (s.now % 2 ^ 32))))) ∧
  (∀ (s : State) (off v : Nat), off < 0x10000 → off % 4 = 0 → s.aonHeld = false → s.regReachable off = true →
    s.pairValue off = some v → regExists s.build off = true → exec (.shadowLoRead off) s = .next (s.start.finishLight (State.emit
      { s.start with shadows := insertKey off (v / 2 ^ 32) s.shadows } (.cfgData (v % 2 ^ 32)))) ∧
    ({ s.start with shadows := insertKey off (v / 2 ^ 32) s.shadows } : State).readReg (off + 4) = v / 2 ^ 32)

/-- R600, R601, R170, R233, R507, R511, R502: the control registers of fetching, ports, capture, release level and power store their
fields; CAP_EN rising clears the capture pointer, and DOWN stays set while the instance is washed (R580). -/
def Obligations.ControlWritesTakeEffect : Prop :=
  (∀ (s : State) (d : Word), s.cfgUp = true → d.getLsbD 0 = true → ∃ u, exec (.stopFetch d) s = .next (s.start.finish u) ∧
    u = { s.start with regs := u.regs } ∧ u.flag 0x100 0 = true ∧ u.flag 0x100 1 = d.getLsbD 1) ∧
  (∀ (s : State) (d : Word), s.cfgUp = true → s.flag 0x100 0 = false → d.getLsbD 0 = false →
    ∃ u, exec (.holdI d) s = .next (s.start.finish u) ∧ u = { s.start with regs := u.regs } ∧ u.flag 0x100 1 = d.getLsbD 1) ∧
  (∀ (s : State) (d : Word), s.cfgUp = true → s.flag 0x4800 1 = false → d.getLsbD 1 = true → ∃ u,
    exec (.capEnWrite d) s = .next (s.start.finish u) ∧ u = { s.start with regs := u.regs } ∧ u.flag 0x4800 1 = true ∧
      u.fld 0x481C 27 0 = 0) ∧
  (∀ (s : State) (d : Word), s.cfgUp = true → bits d.toNat 2 0 = s.relMin → s.relMin ≤ 4 → ∃ u,
    exec (.relMinWrite d) s = .next (s.start.finish u) ∧ u = { s.start with regs := u.regs } ∧ u.relMin = s.relMin) ∧
  (∀ (s : State) (d : Word), s.cfgUp = true → bits d.toNat 2 0 ≠ s.relMin → bits d.toNat 2 0 ≤ 4 →
    exec (.relMinWrite d) s = .next (s.start.finish (s.start.plainWrite 0x5800 d).settleShelves.serveShelfWaits)) ∧
  (∀ (s : State) (d : Word), s.aonHeld = false → exec (.pdOffRequest d) s = .next (s.start.finish (s.start.plainWrite 0x6000 d))) ∧
  (∀ (s : State) (d : Word), s.aonHeld = false → exec (.parkRequest d) s = .next (s.start.finish (s.start.plainWrite 0x600C d))) ∧
  (∀ (s : State) (d : Word), s.aonHeld = false → d.getLsbD 0 = true → s.flag 0x6010 0 = false → ∃ u,
    exec (.downWrite d) s = .next (s.start.finish u) ∧ u = { s.start with regs := u.regs } ∧ u.flag 0x6010 0 = true) ∧
  (∀ (s : State) (d : Word), s.aonHeld = false → s.flag 0x7004 1 = true → s.flag 0x6010 0 = true →
    exec (.downWrite d) s = .next (s.start.finish s.start))

/-- R244, R245, R254: ENABLE 1 on a pair at rest with ring sizes of 6 to 12 starts its engine at index 0 with PHASE 1, and pair 0 then reports
the events that it has lost, whose count outlives the enable by the model's choice (log entry 21); ENABLE 0 stops fetching and discards what
is in flight, also a doorbell read, by the model's choice (log entry 95). -/
def Obligations.RingEnableAndDisable : Prop :=
  (∀ (s : State) (p : Nat) (d : Word), 0 < p → p < 64 → s.cfgUp = true → s.ringActive p = false → s.rings.length = 64 →
    6 ≤ s.fld (ringReg p 0) 3 0 → s.fld (ringReg p 0) 3 0 ≤ 12 → 6 ≤ s.fld (ringReg p 8) 3 0 → s.fld (ringReg p 8) 3 0 ≤ 12 →
    (s.ring p).fetching = 0 → ∃ u, exec (.ringEnable p d) s = .next (s.start.finish u) ∧ u.ringOn p = true ∧
      u.ring p = { cqPhase := true, reading := (s.ring p).reading, oldRead := (s.ring p).reading, unacked := (s.ring p).unacked } ∧
      ∀ q, q ≠ p → u.ring q = s.ring q) ∧
  (∀ (s : State) (d : Word) (n : Nat), s.cfgUp = true → s.ringActive 0 = false → s.rings.length = 64 →
    6 ≤ s.fld (ringReg 0 8) 3 0 → s.fld (ringReg 0 8) 3 0 ≤ 12 → (s.ring 0).sqCi = n → n ≠ 0 → ∃ u,
      exec (.ringEnable 0 d) s = .next (s.start.finish u) ∧ u.ringOn 0 = true ∧ (u.ring 0).sqCi = 0 ∧
      u.out = [.hmWrite s.reqSeq (s.ringBase (ringReg 0 8)) (patch (padTo 32 (toLe 2 0x31 ++ [0, 0] ++ toLe 8 s.now ++ toLe 2 0
        ++ toLe 2 0 ++ toLe 2 n)) 3 (toLe 1 1))]) ∧
  (∀ (s : State) (p : Nat) (d : Word), p < 64 → s.cfgUp = true → s.ringActive p = false → s.rings.length = 64 →
    s.fld (ringReg p 8) 3 0 < 6 ∨ 12 < s.fld (ringReg p 8) 3 0 → ∃ u, exec (.ringEnable p d) s = .next (s.start.finish u) ∧
      u.ringOn p = false ∧ (u.ring p).cfgErr = true) ∧
  (∀ (s : State) (p : Nat) (d : Word), p < 64 → s.cfgUp = true → s.ringOn p = true → s.rings.length = 64 → ∃ u,
    exec (.ringDisable p d) s = .next (s.start.finish u) ∧ u.ringOn p = false ∧
      u.ring p = { s.ring p with stale := (s.ring p).fetching != 0 } ∧ ∀ q, q ≠ p → u.ring q = s.ring q)

/-- R375, R460, R476, R468, R477, R528: writes of the PHY, discovery, package and cone control registers. That RENEG also drops the link record
is the model's choice (log entry 61). -/
def Obligations.DiscoveryAndPhyWrites : Prop :=
  (∀ (s : State) (d : Word), s.cfgUp = true → s.build.pers = .L → s.allGreen true = true →
    exec (.termEnWrite d) s = .next (s.start.finish (s.start.plainWrite 0x27C0 d))) ∧
  (∀ (s : State) (d : Word), s.cfgUp = true → s.build.pers = .L → s.allGreen true = false → d.getLsbD 0 ≠ s.flag 0x27C0 0 → ∃ u,
    exec (.termEnWrite d) s = .next (s.start.finish u) ∧ u.flag 0x27C0 0 = s.flag 0x27C0 0 ∧ u.flag 0x27C8 6 = true) ∧
  (∀ (s : State) (d : Word), s.cfgUp = true → s.allGreen false = true → d.getLsbD 9 = false → d.getLsbD 10 = false →
    d.getLsbD 11 = false → exec (.dieKindWrite d) s = .next (s.start.finish (s.start.plainWrite 0x6400 d))) ∧
  (∀ (s : State) (d : Word), s.cfgUp = true → s.allGreen false = true → s.postBusy = false → s.negDone = true →
    d.getLsbD 10 = false → d.getLsbD 11 = false → ∃ u, exec (.postWrite d) s = .next (s.start.finish u) ∧
      u.mgmt.length = s.mgmt.length + 1) ∧
  (∀ (s : State) (d : Word), s.cfgUp = true → s.allGreen false = true → d.getLsbD 9 = false → d.getLsbD 11 = false → ∃ u,
    exec (.topoClr d) s = .next (s.start.finish u) ∧ u.disc = { s.disc with topo := [] } ∧ u.mgmt = s.mgmt) ∧
  (∀ (s : State) (d : Word), s.cfgUp = true → s.allGreen false = true → d.getLsbD 9 = false → d.getLsbD 10 = false → ∃ u,
    exec (.reneg d) s = .next (s.start.finish u) ∧ u.negDone = false ∧ u.peerBlock = none ∧ u.record = none ∧ u.disc.link = none) ∧
  (∀ (s : State) (d : Word), s.cfgUp = true → s.tx = [] → s.rx = [] → ∃ u, exec (.pkgWrite d) s = .next (s.start.finish u) ∧
    u = { s.start with regs := u.regs } ∧ u.reg 0x640C = d &&& 0x800007FF#32) ∧
  (∀ (s : State) (d : Word), s.aonHeld = false → ∃ t, exec (.mmClr d) s = .next t ∧
    ∀ c ∈ t.cones, c.low = none ∧ c.high = none)

/-- R484, R486: LOCK freezes the Saggar's settings; ATT_RETRY starts a new attestation while the link is in BISQUE. -/
def Obligations.SaggarWrites : Prop :=
  (∀ (s : State) (d : Word), s.cfgUp = true → s.build.saggar = true → s.flag 0x4000 31 = false → d.getLsbD 11 = false → ∃ u,
    exec (.saggarLock d) s = .next (s.start.finish u) ∧ u = { s.start with regs := u.regs } ∧ u.flag 0x4000 31 = true ∧
      ∀ off e, off ≠ 0x4010 → u.writeSag off e = u) ∧
  (∀ (s : State) (d : Word), s.cfgUp = true → s.build.saggar = true → s.flag 0x4000 31 = false → s.bisqueOpen = true →
    ∃ u x : State, exec (.attRetry d) s = .next (s.start.finish u) ∧ u = x.startAtt ∧ x.sag = { s.sag with
      attPass := false, attFail := false, nonce := none } ∧ x = { s.start with regs := x.regs, sag := x.sag })

/-- R555, R558, R594: freeing records, and unlocking and arming the injection unit. -/
def Obligations.LogAndInjectionWrites : Prop :=
  (∀ (s : State) (d : Word) (r : KilnRecord), s.cfgUp = true → d.getLsbD 31 = false → lookupKey (bits d.toNat 5 0) s.kiln.records = some r →
    ∃ u, exec (.logFree d) s = .next (s.start.finish u) ∧ lookupKey (bits d.toNat 5 0) u.kiln.records = none ∧
      (∀ i, i ≠ bits d.toNat 5 0 → (lookupKey i u.kiln.records).isSome = (lookupKey i s.kiln.records).isSome)) ∧
  (∀ (s : State) (d : Word), s.cfgUp = true → exec (.logFreeAll d) s =
    .next (s.start.finish { s.start with kiln := { s.kiln with records := [], pdHeld := [] } })) ∧
  (∀ s : State, s.cfgUp = true → s.domainOn 22 = true → exec (.injUnlock 0x5A3C#32) s =
    .next (s.start.finish { s.start with inj := { s.inj with unlocked := true } })) ∧
  (∀ (s : State) (d : Word), s.cfgUp = true → s.domainOn 22 = true → d ≠ 0x5A3C#32 →
    exec (.injUnlock d) s = .next (s.start.finish s.start)) ∧
  (∀ (s : State) (d : Word), s.cfgUp = true → s.domainOn 22 = true → s.inj.unlocked = true → s.inj.armed = false →
    0 < bits d.toNat 5 0 → bits d.toNat 5 0 ≤ 0x34 → ∃ u, exec (.injArm d) s = .next (s.start.finish u) ∧ u.flag 0x3C04 8 = true ∧
      u.inj.armed = true ∧ u.inj.unlocked = false ∧ u.inj.point = bits d.toNat 5 0 ∧ u.inj.unit = s.fld 0x3C08 15 0 ∧
      u.inj.param = s.fld 0x3C08 31 16 ∧ u.inj.data = s.regN 0x3C0C) ∧
  (∀ s : State, s.cfgUp = true → exec .injUnlockLapse s =
    .next (s.start.finishLight { s.start with inj := { s.inj with unlocked := false } }))
/-! ## Descriptors (chapters 2 to 7, 11, 12, 15 and 16) -/

/-- R249, R257: each descriptor opcode runs its own work on the state in which the acceptance engine has taken the entry, for every
form of the entry. -/
def Obligations.OpcodesRunTheirWork : Prop :=
  ∀ (s : State) (p : Nat) (e : List Byte), (
    (s.Offers p e 0x00 [] → exec .nop s = .next (s.start.finishLight ((s.taken p e).complete s.nextDesc 0 (toLe 8 s.now)))) ∧
    (s.Offers p e 0x01 [3] → exec .fence s = .next (s.start.finish ((s.taken p e).fence s.nextDesc e))) ∧
    (s.Offers p e 0x10 streamOpenMask → exec .streamOpen s = .next (s.start.finish ((s.taken p e).streamOpen s.nextDesc e))) ∧
    (s.Offers p e 0x11 streamCloseMask → exec .streamClose s = .next (s.start.finish ((s.taken p e).streamClose s.nextDesc e))) ∧
    (s.Offers p e 0x12 streamModifyMask → exec .streamModify s = .next (s.start.finish ((s.taken p e).streamModify s.nextDesc e))) ∧
    (s.Offers p e 0x13 parcelSendMask → exec .parcelSend s = .next (s.start.finish ((s.taken p e).parcelSend s.nextDesc e))) ∧
    (s.Offers p e 0x14 stationNameMask → exec .stationName s = .next (s.start.finish ((s.taken p e).stationName s.nextDesc e))) ∧
    (s.Offers p e 0x20 shelfOpenMask → exec .shelfOpen s = .next (s.start.finish ((s.taken p e).shelfOpen s.nextDesc e))) ∧
    (s.Offers p e 0x21 versionCommitMask → exec .versionCommit s = .next (s.start.finish ((s.taken p e).versionCommit s.nextDesc e))) ∧
    (s.Offers p e 0x22 versionReleaseMask → exec .versionRelease s = .next (s.start.finish ((s.taken p e).versionRelease s.nextDesc e))) ∧
    (s.Offers p e 0x23 skewReleaseMask → exec .skewRelease s = .next (s.start.finish ((s.taken p e).skewRelease s.nextDesc e))) ∧
    (s.Offers p e 0x24 drawStartMask → exec .drawStart s = .next (s.start.finish ((s.taken p e).drawStart s.nextDesc e))) ∧
    (s.Offers p e 0x25 drawAckMask → exec .drawAck s = .next (s.start.finish ((s.taken p e).drawAck s.nextDesc e))) ∧
    (s.Offers p e 0x26 restoreMask → exec .restore s = .next (s.start.finish ((s.taken p e).restoreStart s.nextDesc e))) ∧
    (s.Offers p e 0x27 accumOpenMask → exec .accumOpen s = .next (s.start.finish ((s.taken p e).accumOpen s.nextDesc e))) ∧
    (s.Offers p e 0x28 scaleMask → exec .scaleSave s = .next (s.start.finish ((s.taken p e).scaleSave s.nextDesc e))) ∧
    (s.Offers p e 0x29 scaleMask → exec .scaleLoad s = .next (s.start.finish ((s.taken p e).scaleLoad s.nextDesc e))) ∧
    (s.Offers p e 0x30 dispatchLoadMask → exec .dispatchLoad s = .next (s.start.finish ((s.taken p e).dispatchLoad s.nextDesc e))) ∧
    (s.Offers p e 0x40 calMask → exec .calRequest s = .next (s.start.finish ((s.taken p e).calRequest s.nextDesc e))) ∧
    (s.Offers p e 0x41 bistSliceMask → exec .bistSlice s = .next (s.start.finish ((s.taken p e).bistSliceCmd s.nextDesc e))) ∧
    (s.Offers p e 0x42 bistFullMask → exec .bistFull s = .next (s.start.finish ((s.taken p e).bistFullCmd s.nextDesc e))) ∧
    (s.Offers p e 0x43 repairMask → exec .repairCmd s = .next (s.start.finish ((s.taken p e).repairCmd s.nextDesc e))) ∧
    (s.Offers p e 0x50 logDrainMask → exec .logDrain s = .next (s.start.finish ((s.taken p e).logDrain s.nextDesc e))) ∧
    (s.Offers p e 0x60 keyLoadMask → exec .keyLoad s = .next (s.start.finish ((s.taken p e).keyLoad s.nextDesc e))) ∧
    (s.Offers p e 0x61 [] → exec .wash s = .next (s.start.finish ((s.taken p e).startWash (some s.nextDesc)))))

/-- R258: a NOP completes with OK and the firing count at acceptance; with a bit of its reserved body set it completes with BAD_FIELD. An
unassigned opcode completes with BAD_OPCODE; and, shown for STREAM_OPEN, a reserved bit set gives BAD_FIELD at its byte, an entry met by a
wash ABORTED, and one met by a washed instance FENCED. Nothing else is done. That BAD_OPCODE comes before any reserved bit is the model's choice
(log entry 100). -/
def Obligations.EntriesTurnedAway : Prop :=
  ∀ (s : State) (p : Nat) (e : List Byte), s.cfgUp = true → s.nextEntry = some (p, e) →
    (s.flag 0x7004 0 = false → s.flag 0x7004 1 = false →
      (reservedByte 0 headerMask e = none → byteAt e 0 = 0x00 →
        exec .nop s = .next (s.start.finishLight ((s.taken p e).complete s.nextDesc 0 (toLe 8 s.now)))) ∧
      (∀ off, byteAt e 0 = 0x00 → reservedByte 0 headerMask e = some off →
        exec .nop s = .next (s.start.finishLight ((s.taken p e).complete s.nextDesc 0x11 [] off))) ∧
      (opcodes.contains (byteAt e 0) = false → exec .badOpcode s = .next (s.start.finishLight ((s.taken p e).complete s.nextDesc 0x10))) ∧
      (∀ off, byteAt e 0 = 0x10 → reservedByte 0 (headerMask ++ streamOpenMask) e = some off →
        exec .streamOpen s = .next (s.start.finish ((s.taken p e).complete s.nextDesc 0x11 [] off)))) ∧
    (byteAt e 0 = 0x10 → s.flag 0x7004 0 = true →
      exec .streamOpen s = .next (s.start.finish ((s.taken p e).complete s.nextDesc 0x60))) ∧
    (byteAt e 0 = 0x10 → s.flag 0x7004 0 = false → s.flag 0x7004 1 = true →
      exec .streamOpen s = .next (s.start.finish ((s.taken p e).complete s.nextDesc 0x22)))

/-- R248, R251, R252, R253: completing a descriptor writes one 32-byte entry at CQ_PI with the pair's PHASE, TAG, STATUS and OPCODE, and moves
CQ_PI, whose wrap inverts CQ_PHASE; a second completion of it does nothing. R256: what else leaves is interrupt messages of the pair, and none
where the pair is disabled or no message waits whose entries have all been acknowledged. -/
def Obligations.CompletionEntryIsWritten : Prop :=
  ∀ (s t : State) (id status : Nat) (d : Desc) (r : Ring) (result : List Byte), s.desc? id = some d → d.written = false → s.ring d.pair = r →
    d.pair < s.rings.length → 4 ≤ d.entry.length → status < 256 → s.complete id status result = t →
    ∃ (entry : List Byte) (msgs : List Out) (uses : List (Nat × HmWriteUse)),
      t.out = s.out ++ .hmWrite s.reqSeq (s.ringBase (ringReg d.pair 8) + 32 * r.cqPi) entry :: msgs ∧
      t.hmWrites = s.hmWrites ++ (s.reqSeq, .completion d.pair id) :: uses ∧ entry.length = 32 ∧
      slice entry 0 2 = slice d.entry 2 2 ∧ byteAt entry 2 = status ∧ byteAt entry 3 = b2n r.cqPhase ∧
      byteAt entry 4 = d.opcode ∧ slice entry 8 20 = padTo 20 result ∧
      (∀ o ∈ msgs, ∃ q, o = .hmWrite q r.msiAddr (toLe 4 r.msiData)) ∧ (∀ w ∈ uses, w.2 = .message d.pair) ∧
      (s.ringOn d.pair = false ∨ (∀ m ∈ r.msgs, m ≠ []) → msgs = [] ∧ uses = []) ∧
      (t.ring d.pair).cqPi = (if r.cqPi + 1 = s.cqSize d.pair then 0 else r.cqPi + 1) ∧
      (t.ring d.pair).cqPhase = (if r.cqPi + 1 = s.cqSize d.pair then !r.cqPhase else r.cqPhase) ∧
      (t.ring d.pair).unacked = r.unacked ++ [s.reqSeq] ∧ (∀ q, q ≠ d.pair → t.ring q = s.ring q) ∧
      ∀ x, t.complete id x = t

/-- R45, R257: a malformed name completes with BAD_FIELD and, by the model's choice (log entry 99), with the station as it stands in RESULT; a
well-formed one, bound to a port within the bank, enters the station table, and RESULT is the station then. An open that passes its checks waits
for its answer with an OPEN sent; a graceful close waits for the stream's last parcel; a counter query writes its record, or waits for the end
of the parcel in progress, by the model's choice (log entry 154); a PARCEL_SEND of an open stream joins the stream's sends. -/
def Obligations.StationsAndStreamDescriptors : Prop :=
  ((∀ (s : State) (p stn : Nat) (e : List Byte) (t : Station), s.Offers p e 0x14 stationNameMask → byteAt e 8 % 64 = stn →
    s.stations.getD stn {} = t → (∃ i j, i < j ∧ j < 16 ∧ byteAt e (0xC + i) = 0 ∧ byteAt e (0xC + j) ≠ 0) ∨
      (∃ i, i < 16 ∧ byteAt e (0xC + i) ≠ 0 ∧ (byteAt e (0xC + i) < 0x20 ∨ 0x7E < byteAt e (0xC + i)) ∧ ∀ j < i, byteAt e (0xC + j) ≠ 0) →
    ∃ off, exec .stationName s = .next (s.start.finish ((s.taken p e).complete s.nextDesc 0x11
      (toLe 1 (if allZero t.name then 0xFF else t.port) ++ [0] ++ toLe 2 t.quota ++ toLe 2 (s.pagesHeld stn)) off))) ∧
  (∀ (s : State) (p : Nat) (e : List Byte) (stn port quota : Nat) (name : List Byte), s.Offers p e 0x14 stationNameMask →
    byteAt e 8 = stn → stn < 64 → byteAt e 9 = port → port < s.build.ports → port < 64 → field e 0xA 2 = quota → slice e 0xC 16 = name →
    nameOk name = true → allZero name = false → quota ≤ s.bankFree stn port → s.pagesHeld stn + (s.taken p e).pagesLater stn ≤ quota →
    port = (s.stations.getD stn {}).port ∨ ((∀ x ∈ s.tx, x.2.cfg.localStn ≠ stn) ∧ (∀ x ∈ s.rx, x.2.cfg.station ≠ stn) ∧
      ∀ c ∈ (s.taken p e).opensLater, c.localStn ≠ stn ∧ ((s.taken p e).loops c = true → c.station ≠ stn)) →
    exec .stationName s = .next (s.start.finish (State.complete { s.taken p e with
      stations := modAt (fun _ => ⟨name, port, quota⟩) stn s.stations } s.nextDesc 0
      (toLe 1 port ++ [0] ++ toLe 2 quota ++ toLe 2 (s.pagesHeld stn)))))) ∧
  ((∀ (s : State) (p : Nat) (e : List Byte), s.Offers p e 0x10 streamOpenMask → (s.taken p e).loops (streamCfg (e.drop 8)) = false →
    ((s.taken p e).loading (streamCfg (e.drop 8)).dispTable || s.tableWaits.any (fun w => w.1 == (streamCfg (e.drop 8)).dispTable)) = false →
    firstFail ((s.taken p e).openChecks (streamCfg (e.drop 8)) false) = none → ∃ u st, exec .streamOpen s = .next (s.start.finish u) ∧
      u.tx? (streamCfg (e.drop 8)).id = some st ∧ st.phase = .opening s.nextDesc ∧ st.looped = false ∧
      st.cfg.localStn = (streamCfg (e.drop 8)).localStn ∧ u.mgmt.length = s.mgmt.length + 1) ∧
  (∀ (s : State) (p : Nat) (e : List Byte) (id : Nat) (st : TxStream), s.Offers p e 0x11 streamCloseMask → field e 8 2 = id → id < 4096 →
    s.tx? id = some st → st.phase = .live → st.cfg.dispRole = 0 → st.looped = false → s.negDone = true → st.queue ≠ [] →
    exec .streamClose s = .next (s.start.finish ((s.taken p e).setTx id { st with phase := .closing (some s.nextDesc) false }))) ∧
  (∀ (s : State) (p : Nat) (e : List Byte) (id : Nat) (st : TxStream), s.Offers p e 0x12 streamModifyMask → field e 8 2 = id + 4096 →
    id < 4096 → s.tx? id = some st → st.phase = .live → s.negDone = true → byteAt e 0xA = 0 → byteAt e 0xB = 0 → field e 0xC 4 = 0 →
    field e 0x10 4 = 0 → field e 0x18 8 % 64 = 0 → s.queries = [] →
    (st.queue.any (·.started) = false → exec .streamModify s = .next (s.start.finish
      ((s.taken p e).writeQuery s.nextDesc st.counterRecord))) ∧
    (st.queue.any (·.started) = true → exec .streamModify s = .next (s.start.finish
      { s.taken p e with queries := [(s.nextDesc, false, id)] }))) ∧
  (∀ (s : State) (p : Nat) (e : List Byte) (id : Nat) (st : TxStream), s.Offers p e 0x13 parcelSendMask → field e 8 2 % 4096 = id →
    s.tx? id = some st → st.takes = true → st.fence = none → s.negDone = true → field e 0x18 8 % 64 = 0 → 32 ≤ field e 0x10 8 →
    exec .parcelSend s = .next (s.start.finish (State.pumpSends { s.taken p e with
      sends := s.sends ++ [{ desc := s.nextDesc, stream := id, addr := field e 0x18 8, len := field e 0x10 8 }] }))))

/-- R206 to R208, R214, R216, R218: shelves are taken, committed and released. R249, R262: on a stage with an accepted VERSION_COMMIT that is not
yet applied a descriptor waits, and begins once it is,
which is the model's choice (log entry 181). -/
def Obligations.ShelfDescriptors : Prop :=
  (∀ a b : Nat, a < 65536 → b < 65536 → (newer a b = true ↔ 1 ≤ ((a : Int) - b) % 65536 ∧ ((a : Int) - b) % 65536 ≤ 32767) ∧
    (((a : Int) - b) % 65536 = 32768 → newer a b = false ∧ newer b a = false)) ∧
  (∀ (s : State) (p : Nat) (e : List Byte), s.Offers p e 0x20 shelfOpenMask → s.StageFree (opStage e) → s.hasShelves = true → opShelf e < s.shelves.length →
    opShelf e ≠ 0xFF → (s.shelf (opShelf e)).state = .free → shelfFmt (opFmt e) = true → s.currentOf (opStage e) = none →
    s.shelfOf (opStage e) (opVersion e) = none → opBase e % 512 = 0 → opLen e % 512 = 0 → 0 < opLen e → opBase e + opLen e ≤ 2 ^ 48 →
    s.hitsRegion (opBase e) (opLen e) = false → (s.openBlockers e) = [] → ∃ u, exec .shelfOpen s = .next (s.start.finish u) ∧
      (u.shelf (opShelf e)) = {
        state := .filling, stage := opStage e, version := opVersion e, fmt := opFmt e, base := opBase e, len := opLen e }) ∧
  (∀ (s : State) (p : Nat) (e : List Byte),
    (s.Offers p e 0x21 versionCommitMask → ¬ s.StageFree (field e 8 2) → exec .versionCommit s = .next (s.start.finish { s.taken p e with
      commitWaits := s.commitWaits ++ [(field e 8 2, s.nextDesc)] })) ∧
    (s.Offers p e 0x20 shelfOpenMask → ¬ s.StageFree (opStage e) → exec .shelfOpen s = .next (s.start.finish { s.taken p e with
      commitWaits := s.commitWaits ++ [(opStage e, s.nextDesc)] }))) ∧
  (∀ (s : State) (p : Nat) (e : List Byte) (i : Nat), s.Offers p e 0x21 versionCommitMask → s.StageFree (field e 8 2) → s.hasShelves = true →
    s.shelfOf (field e 8 2) (field e 0xA 2) = some i → (s.shelf i).state = .filling → (s.shelf i).fillErr = false →
    s.currentOf (field e 8 2) = none → exec .versionCommit s = .next (s.start.finish ((s.taken p e).modShelf i (fun h =>
      { h with commits := h.commits ++ [s.nextDesc] })))) ∧
  (∀ (s : State) (i : Nat) (h : Shelf), i < s.build.shelves → i < s.shelves.length → s.cfgUp = true → s.shelf i = h →
    h.state = .filling → h.fillErr = false → h.fillOut = 0 → h.commits ≠ [] → s.currentOf h.stage = none →
    exec (.versionCommitApply i) s = .next (s.start.finish (State.stageNext h.stage s.commitWaits.length (State.advanceFetches
      (State.settleShelves (forEach h.commits (fun d x => x.complete d 0 (toLe 1 i ++ toLe 1 0xFF)) (s.start.modShelf i (fun g =>
        { g with current := true, state := .committed, commits := [] })))))))) ∧
  (∀ (s : State) (p : Nat) (e : List Byte), s.Offers p e 0x22 versionReleaseMask → s.hasShelves = true → byteAt e 8 = 0 → byteAt e 9 = 0 →
    (s.bindingOf (field e 0xA 2) (field e 0xC 2)).isSome = true → exec .versionRelease s = .next (s.start.finish
      (((s.taken p e).unbind (field e 0xA 2) (field e 0xC 2)).complete s.nextDesc 0 (toLe 2 1)))) ∧
  (∀ (s : State) (p : Nat) (e : List Byte) (id key : Nat) (st : RxStream) (q : RxParcel), s.Offers p e 0x23 skewReleaseMask →
    field e 8 2 = id → id < 4096 → byteAt e 0xA = 1 → s.rxOf id = some (key, st) → st.cfg.shelfRole ≠ 1 →
    st.parcels.find? (fun x => x.hold == 1 && !x.gone) = some q → exec .skewRelease s = .next (s.start.finish
      ((((s.taken p e).modParcel key q.uid (fun x => { x with hold := s.freeHold st, okStatus := 0x31 })).advanceStream key).complete s.nextDesc 0
        (toLe 2 (hMb (q.wire.take 32)) ++ toLe 2 (hStage (q.wire.take 32)) ++ toLe 2 (hVersion (q.wire.take 32)))))) ∧
  (∀ (s : State) (d : Nat) (x : Desc), s.cfgUp = true → d ∈ s.shelfWaits → s.desc? d = some x → ∃ u,
    exec (.shelfOpenTimeout d) s = .next (s.start.finish u) ∧ ¬ d ∈ u.shelfWaits)

/-- R158, R219, R225, R229, R232, R235: draws, their acknowledgement and time limit, restores, and accumulation regions begin or end. -/
def Obligations.DrawRestoreAndAccumDescriptors : Prop :=
  (∀ (s : State) (p : Nat) (e : List Byte), s.Offers p e 0x24 drawStartMask → s.role = .base → byteAt e 8 < 64 → byteAt e 9 = 3 →
    byteAt e 0xA = 0 → field e 0xC 2 = 0 → field e 0xE 2 = 0 → s.draw? (byteAt e 8) = none →
    (s.taken p e).drawsLater (byteAt e 8) = false → field e 0x18 8 % 512 = 0 →
    0 < field e 0x20 8 → field e 0x20 8 % 512 = 0 → field e 0x18 8 + field e 0x20 8 ≤ 2 ^ 48 → field e 0x28 8 % 64 = 0 →
    field e 0x30 8 % 64 = 0 → exec .drawStart s = .next (s.start.finish (State.pumpDraw { s.taken p e with
      draws := s.draws.filter (fun d => !(d.phase == .suspended && d.id == byteAt e 8)) ++ [{
        id := byteAt e 8, desc := s.nextDesc, shelf := none, base := field e 0x18 8, len := field e 0x20 8, stage := field e 0x10 2,
        version := field e 0x12 2, keeper := 1, dataAddr := field e 0x28 8, tabAddr := field e 0x30 8, dieId := (s.taken p e).keeperDie 0 }] }
      (byteAt e 8)))) ∧
  (∀ (s : State) (p i : Nat) (e : List Byte) (vd : Nat), s.Offers p e 0x25 drawAckMask → s.hasShelves = true → byteAt e 8 = 0 →
    byteAt e 9 = i → i < s.shelves.length → (s.shelf i).vdigest = some vd → field e 0x10 8 = vd → byteAt e 0xA = 0 → byteAt e 0xB = 0 →
    byteAt e 0xC = s.fld 0x5800 15 8 → exec .drawAck s = .next (s.start.finish ((((s.taken p e).modShelf i (fun h =>
      { h with level := max (s.shelf i).level 3 })).settleShelves).complete s.nextDesc 0 (toLe 1 (max (s.shelf i).level 3))))) ∧
  (∀ (s : State) (id : Nat) (d : Draw), s.cfgUp = true → s.draw? id = some d → d.keeper = 0 → d.phase = .running →
    d.ackNext < d.next → exec (.drawAckTimeout id) s = .next (s.start.finish ((s.start.raise 0x0607 id).suspendDraw d 0x60))) ∧
  (∀ (s : State) (p : Nat) (e : List Byte), s.Offers p e 0x26 restoreMask → s.role = .base → byteAt e 8 = 3 → byteAt e 9 = 0 →
    byteAt e 0xA = 0 → field e 0xC 2 = 0 → field e 0x10 8 = 0 → field e 0x18 8 % 512 = 0 → 0 < field e 0x20 8 →
    field e 0x20 8 % 512 = 0 → field e 0x18 8 + field e 0x20 8 ≤ 2 ^ 48 →
    s.shelvesWhere (fun h => h.state != .free && overlap h.base h.len (field e 0x18 8) (field e 0x20 8)) = [] →
    s.hitsRegion (field e 0x18 8) (field e 0x20 8) = false → exec .restore s = .next (s.start.finish (State.pumpRestore { s.taken p e with
      restores := s.restores ++ [{
        desc := s.nextDesc, shelf := none, base := field e 0x18 8, len := field e 0x20 8, stage := field e 0x38 2, version := field e 0x3A 2, stream := none,
        dataAddr := field e 0x28 8, tabAddr := field e 0x30 8, expect := none, key := none, level := 0, commit := false }] } s.nextDesc))) ∧
  (∀ (s : State) (p : Nat) (e : List Byte), s.Offers p e 0x27 accumOpenMask → s.role = .base → s.regions.length ≠ 64 →
    0 < byteAt e 8 → byteAt e 8 ≤ 64 → s.region? (byteAt e 8) = none → bit (byteAt e 9) 3 = false → 0 < byteAt e 0xA →
    byteAt e 0xA ≤ 16 → 128 ≤ field e 0xC 4 → field e 0xC 4 ≤ 2 ^ 28 → field e 0xC 4 % 128 = 0 → 0 < byteAt e 0xB → byteAt e 0xB ≤ 64 →
    field e 0x10 8 % 512 = 0 → field e 0x10 8 + 4 * field e 0xC 4 * byteAt e 0xB ≤ 2 ^ 48 →
    s.hitsRegion (field e 0x10 8) (4 * field e 0xC 4 * byteAt e 0xB) = false → ∃ u, exec .accumOpen s = .next (s.start.finish u) ∧
      u.region? (byteAt e 8) = some {
        ordered := !bit (byteAt e 9) 0, contribs := byteAt e 0xA, elems := field e 0xC 4, slots := byteAt e 0xB, base := field e 0x10 8, addTo := bit (byteAt e 9) 1, strict := bit (byteAt e 9) 2 })

/-- R153, R154, R179, R257, R555: images, tables, keys and the log are read from or written to memory; an erased key slot is empty. -/
def Obligations.ImageTableKeyAndLogDescriptors : Prop :=
  (∀ (s : State) (p : Nat) (e : List Byte), s.Offers p e 0x28 scaleMask → byteAt e 8 = 0 → field e 0x10 8 % 64 = 0 → s.tx = [] →
    s.rx = [] → 32 ≤ field e 0x18 8 → ∃ u image, exec .scaleSave s = .next (s.start.finish u) ∧ image.length = 32 ∧
      field image 0 4 = 0x4C414353 ∧ field image 8 4 = 0 ∧ u.hmWrites = s.hmWrites ++ [(s.reqSeq, .image s.nextDesc)] ∧
      u.out = [.hmWrite s.reqSeq (field e 0x10 8) image]) ∧
  (∀ (s : State) (p : Nat) (e : List Byte), s.Offers p e 0x29 scaleMask → byteAt e 8 = 0 → field e 0x10 8 % 64 = 0 → 32 ≤ field e 0x18 8 →
    lookupKey s.nextDesc s.reads = none → exec .scaleLoad s =
      .next (s.start.finish ((s.taken p e).hmReadReq (field e 0x10 8) 32 (.scaleLoad s.nextDesc)))) ∧
  (∀ (s : State) (p : Nat) (e : List Byte), s.Offers p e 0x30 dispatchLoadMask → 0 < byteAt e 8 → byteAt e 8 ≤ s.build.dispTables →
    byteAt e 9 = 1 → field e 0xA 2 = 0 → field e 0xC 2 = 0 → field e 0xE 2 = 0 → field e 0x10 2 = 0 → field e 0x14 4 = 0 →
    field e 0x18 8 % 64 = 0 → (s.taken p e).loading (byteAt e 8) = false → s.tableWaits = [] → s.table? (byteAt e 8) = none → lookupKey (byteAt e 8) s.emptied = none → exec .dispatchLoad s =
      .next (s.start.finish ((s.taken p e).hmWriteReq (field e 0x18 8) (zeros 128) (.record s.nextDesc)))) ∧
  (∀ (s : State) (p : Nat) (e : List Byte), s.Offers p e 0x60 keyLoadMask → byteAt e 8 < s.build.keySlots → byteAt e 8 < 8 →
    0 < byteAt e 9 → byteAt e 9 ≤ 64 → field e 0x10 8 % 8 = 0 → exec .keyLoad s = .next (s.start.finish
      ((s.taken p e).hmReadReq (field e 0x10 8) (byteAt e 9) (.keyLoad s.nextDesc)))) ∧
  (∀ (s : State) (p k : Nat) (e : List Byte), s.Offers p e 0x60 keyLoadMask → byteAt e 8 = k + 128 → k < 8 → k < s.build.keySlots →
    byteAt e 9 = 0 → field e 0x10 8 = 0 → ∃ t, exec .keyLoad s = .next t ∧ t.keys = modAt (fun _ => none) k s.keys) ∧
  (∀ (s : State) (p i : Nat) (e : List Byte) (r : KilnRecord), s.Offers p e 0x50 logDrainMask → field e 0x10 8 % 64 = 0 →
    0 < field e 0x18 4 → field e 0x18 4 ≤ 64 → s.kiln.records = [(i, r)] → ∃ u, exec .logDrain s = .next (s.start.finish u) ∧
      u.out = [.hmWrite s.reqSeq (field e 0x10 8) r.bytes] ∧
      u.hmWrites = s.hmWrites ++ [(s.reqSeq, .logRecord s.nextDesc i r.seq)])

/-- R417, R451, R542, R543: calibration, repair and self-test descriptors mark their strands and wait. -/
def Obligations.StrandDescriptors : Prop :=
  (∀ (s : State) (p i : Nat) (e : List Byte), s.Offers p e 0x40 calMask → byteAt e 8 = i → byteAt e 9 = 0 → i < s.linkStrands →
    s.partnerStatus = none → (s.strand i).state = .fired ∨ (s.strand i).state = .crazed → s.calReqs = [] → i < s.strands.length →
    ∃ u, exec .calRequest s = .next (s.start.finish u) ∧ (u.strand i).dueAt.isSome = true ∧
      u.calReqs = [{ desc := s.nextDesc, save := bit (byteAt e 10) 0, left := [i] }]) ∧
  (∀ (s : State) (p i : Nat) (e : List Byte), s.Offers p e 0x41 bistSliceMask → byteAt e 8 = i → i < s.linkStrands →
    field e 10 2 ≤ 64 → (s.strand i).state = .fired ∨ (s.strand i).state = .crazed → s.isMember i = false → s.tstOn = true →
    exec .bistSlice s = .next (s.start.finish ((s.taken p e).modBist (fun b => { b with waits := b.waits ++ [{
      desc := s.nextDesc, strand := i, budget := if field e 10 2 = 0 then 8000 else 1000 * field e 10 2 }] })))) ∧
  (∀ (s : State) (p i : Nat) (e : List Byte), s.Offers p e 0x42 bistFullMask → byteAt e 8 = i → byteAt e 9 = 0 → i < s.linkStrands →
    s.tstOn = true → (s.strand i).state = .greenware → (s.strand i).sub = .none → s.domainOn (i / 16) = true → s.bist.full = none →
    i < s.strands.length → ∃ u f, exec .bistFull s = .next (s.start.finish u) ∧ u.bist.full = some f ∧ f.desc = s.nextDesc ∧
      f.left = [(i, 1)] ∧ (u.strand i).sub = .test ∧ ∀ c < 26, c < s.cones.length → coneExists s.build c = true → u.coneValid c = false) ∧
  (∀ (s : State) (p i : Nat) (e : List Byte), s.Offers p e 0x43 repairMask → byteAt e 8 = i → i < s.linkStrands → byteAt e 9 = 0 →
    byteAt e 10 = 0 → field e 0x0C 2 = 0 → s.partnerStatus = none → (s.strand i).state = .fired ∨ (s.strand i).state = .crazed →
    exec .repairCmd s = .next (s.start.finish ((s.taken p e).modStrand i (fun y => { y with
      waits := y.waits ++ [{ cause := .command, desc := some s.nextDesc }] }))))

/-- R259: a FENCE that no earlier descriptor of its pair precedes completes at once; otherwise it waits. -/
def Obligations.FenceWaitsForEarlierDescriptors : Prop :=
  (∀ (s : State) (p : Nat) (e : List Byte), s.Offers p e 0x01 [3] → byteAt e 8 = 0 → s.fences = [] → (∀ d ∈ s.descs, d.pair ≠ p) →
    (∀ d ∈ s.descs, d.id < s.nextDesc) → exec .fence s = .next (s.start.finish ((s.taken p e).complete s.nextDesc 0))) ∧
  (∀ (s : State) (p : Nat) (e : List Byte), s.Offers p e 0x01 [3] → byteAt e 8 = 0 → s.fences = [] →
    (∃ d ∈ s.descs, d.pair = p) → (∀ d ∈ s.descs, d.id < s.nextDesc) → exec .fence s = .next (s.start.finish
      { s.taken p e with fences := [⟨s.nextDesc, p, false, false⟩] }))
/-! ## Streams: messages, flits and waits (chapters 2 to 6 and 8) -/

/-- R54 to R56, R59, R90, R298: an accepted OPEN makes an inbound context and posts an event; its answer makes the sender's stream live, or
ends it; an OPEN without an answer ends with ABORTED and a CLOSE; a CLOSE waits until nothing is buffered, and with FORCE frees the context at
once, but for one that the partner's loss has left here (R92), which is only answered by the model's choice (log entry 113), and a CLOSE for a
stream that is still opening, which is ignored; a CLOSE_ANS ends the close that waits for it. -/
def Obligations.StreamsOpenAndClose : Prop :=
  ((∀ (s : State) (body : List Byte) (rest : List PortItem), s.cfgUp = true → s.port = .message 0x10 body :: rest →
    firstFail (State.acceptChecks { s.start with port := rest } (streamCfg body) false) = none → ∃ u,
      exec .openRequest s = .next (s.start.finish u) ∧ u.rx? (streamCfg body).id = some (s.newRx (streamCfg body) false) ∧ u.port = rest ∧
      u.mgmt.length = s.mgmt.length + 1) ∧
  (∀ (s : State) (body : List Byte) (rest : List PortItem) (id d : Nat) (st : TxStream), s.cfgUp = true → s.inj.armed = false →
    s.port = .message 0x11 body :: rest → bits (field body 0 2) 11 0 = id → s.tx? id = some st → st.phase = .opening d →
    (byteAt body 2 = 0 → ∃ u, exec .openAnswer s = .next (s.start.finish u) ∧ u.tx? id = some { st with
      phase := .live, capacity := field body 6 2 % 8192, credits := field body 6 2 % 8192, joinRow := s.lclk + 64 }) ∧
    (byteAt body 2 ≠ 0 → exec .openAnswer s = .next (s.start.finish (State.complete { s.start with
      port := rest, tx := eraseKey id s.tx } d (byteAt body 2) [] (field body 4 2) true)))) ∧
  (∀ (s : State) (id d : Nat) (st : TxStream), s.cfgUp = true → s.inj.armed = false → id < 4096 → s.tx? id = some st →
    st.phase = .opening d → ∃ f, exec (.openTimeout id) s = .next (s.start.finish (State.complete (State.pushMsg (State.raise { s.start with
      tx := eraseKey id s.tx } 0x0406 id 0 f) 0x12 (toLe 2 (id + 8192) ++ [0, 0])) d 0x60)))) ∧
  ((∀ (s : State) (body : List Byte) (rest : List PortItem) (id : Nat) (st : RxStream), s.cfgUp = true → s.port = .message 0x12 body :: rest →
    bits (field body 0 2) 11 0 = id → bit (field body 0 2) 12 = false → s.rx? id = some st →
    (bit (field body 0 2) 13 = false → st.closing = none → st.fence = none → st.partnerLost = false → st.empty = false → exec .closeMessage s = .next (s.start.finish
      (State.setRx { s.start with port := rest } id { st with closeSeen := true }))) ∧
    (st.kept = true → exec .closeMessage s = .next (s.start.finish (State.pushMsg { s.start with port := rest } 0x13
      (toLe 2 (id + 4096) ++ [0, 0])))) ∧
    (st.kept = false → bit (field body 0 2) 13 = true → ∃ u, exec .closeMessage s = .next (s.start.finish u) ∧ u.rx? id = none)) ∧
  (∀ (s : State) (body : List Byte) (rest : List PortItem) (id : Nat) (st : TxStream), s.cfgUp = true → s.port = .message 0x12 body :: rest →
    bits (field body 0 2) 11 0 = id → bit (field body 0 2) 12 = true → s.tx? id = some st → st.looped = false →
    ((∀ d, st.phase ≠ .opening d) → ∃ u, exec .closeMessage s = .next (s.start.finish u) ∧ u.tx? id = none) ∧
    (∀ d, st.phase = .opening d → exec .closeMessage s = .next (s.start.finish { s.start with port := rest }))) ∧
  (∀ (s : State) (body : List Byte) (rest : List PortItem) (id : Nat) (st : TxStream) (d : Option Nat), s.cfgUp = true →
    s.port = .message 0x13 body :: rest → bits (field body 0 2) 11 0 = id → bit (field body 0 2) 12 = true → s.tx? id = some st →
    st.phase = .closing d true → st.looped = false → ∃ u, exec .closeAnswer s = .next (s.start.finish u) ∧ u.tx? id = none) ∧
  (∀ (s : State) (body : List Byte) (rest : List PortItem) (id d : Nat) (st : RxStream), s.cfgUp = true → s.port = .message 0x13 body :: rest →
    bits (field body 0 2) 11 0 = id → bit (field body 0 2) 12 = false → s.rx? id = some st → st.closing = some d →
    exec .closeAnswer s = .next (s.start.finish (State.complete { s.start with port := rest, rx := eraseKey id s.rx } d 0))))

/-- R139, R225, R297, R298, R334: MODIFY and DEMOTE are kept for the parcel they name, the newer MODIFY of a parcel in the older one's
place; CHUNK_OK confirms a draw's next chunk; a first CHUNK_BAD sends the draw back and a second for the same chunk ends it. -/
def Obligations.StreamMessagesAct : Prop :=
  (∀ (s : State) (body : List Byte) (rest : List PortItem) (id : Nat) (st : RxStream), s.cfgUp = true → s.port = .message 0x14 body :: rest →
    bits (field body 0 2) 11 0 = id → s.rx? id = some st → exec .modifyMessage s = .next (s.start.finish
      (State.setRx { s.start with port := rest } id { st with
        modifies := st.modifies.filter (fun (x : Modify) => x.pseq != field body 12 2) ++ [{
          mask := bits (byteAt body 2) 3 0, weight := bits (byteAt body 3) 3 0, rnd := bits (byteAt body 3) 5 4, seed := field body 4 4,
          atomicLimit := field body 8 4, pseq := field body 12 2 }] }))) ∧
  (∀ (s : State) (body : List Byte) (rest : List PortItem) (id : Nat) (st : RxStream), s.cfgUp = true → s.port = .message 0x20 body :: rest →
    bits (field body 0 2) 11 0 = id → s.rx? id = some st → st.cls = 1 → exec .demoteMessage s = .next (s.start.finish
      (State.setRx { s.start with port := rest } id { st with demotePseq := some (field body 2 2) }))) ∧
  (∀ (s : State) (body : List Byte) (rest : List PortItem) (id : Nat) (d : Draw), s.cfgUp = true → s.port = .message 0x18 body :: rest →
    byteAt body 2 % 64 = id → s.draw? id = some d → d.phase = .running → d.keeper = 0 → field body 0 2 % 4096 = d.stream →
    bit (byteAt body 1) 4 = false → field body 4 4 = d.ackNext → d.ackNext < d.next → exec .chunkOk s = .next (s.start.finish
      (State.pumpDraw (State.modDraw { s.start with port := rest } id (fun (x : Draw) => { x with
        ackNext := d.ackNext + 1, running := digestStep x.running d.ackNext (x.digests.getD d.ackNext 0) })) id))) ∧
  (∀ (s : State) (body : List Byte) (rest : List PortItem) (id index : Nat) (d : Draw), s.cfgUp = true →
    s.port = .message 0x19 body :: rest → byteAt body 2 % 64 = id → s.draw? id = some d → d.phase = .running → d.keeper = 0 →
    field body 0 2 % 4096 = d.stream → field body 4 4 = index →
    (d.badSeen.contains index = false → exec .chunkBad s = .next (s.start.finish (State.pumpDraw (State.modDraw
      (State.dropDrawParcels { s.start with port := rest } d) id (fun (x : Draw) => { x with
        next := index, got := [], reading := none, closed := false, badSeen := x.badSeen ++ [index] })) id))) ∧
    (d.badSeen.contains index = true → ∃ u, exec .chunkBad s = .next (s.start.finish u) ∧ ⟨0x0608, d.id, 0, false, 0⟩ ∈ u.raised ∧
      u.draw? id = none))

/-- R72, R88, R120, R267: the flit that heads a parcel on an idle inbound stream starts a parcel with its payload, one on a stream that is not
open is recorded under 0x0403; a body flit's payload joins the parcel in progress, and one of another CLASS than it is a protocol fault
that cuts it, by the model's choice (log entry 127); a PASS flit on a stream of another CLASS is a protocol fault; a pass-through packet is taken in cell by cell, and counts among the parcels received by
the model's choice (log entry 106). -/
def Obligations.FlitsEnterTheirParcels : Prop :=
  (∀ (s : State) (strand key : Nat) (body : List Byte) (rest : List PortItem), s.cfgUp = true → s.port = .flit strand key body :: rest →
    fType body = 1 →
    (∀ st, s.rx? key = some st → st.current = none → st.fence = none → exec .parcelHeadReceive s = .next (s.start.finish
      (State.rxBytes (State.setRx { s.start with port := rest } key { st with
        parcels := st.parcels ++ [{ uid := st.nextUid, cls := fClass body, sagCtl := s.regN 0x4000 }], nextUid := st.nextUid + 1, busy := true }) key st.nextUid (fPayload body)
        (fLast body)))) ∧
    (s.rx? key = none → s.ghosts.contains key = false → exec .parcelHeadReceive s = .next (s.start.finish
      (State.ghost (State.raise { s.start with port := rest } 0x0403 (key % 4096)) key (fLast body))))) ∧
  (∀ (s : State) (strand key : Nat) (body : List Byte) (rest : List PortItem) (st : RxStream) (p : RxParcel), s.cfgUp = true →
    s.port = .flit strand key body :: rest → fType body = 2 → s.ghosts.contains key = false → s.rx? key = some st → st.current = some p →
    (p.cls ≠ fClass body → exec .parcelBodyReceive s = .next (s.start.finish
      ((State.flitFault { s.start with port := rest } strand).cutRx key p (fLast body)))) ∧
    (p.cls = fClass body → fAbort body = false → exec .parcelBodyReceive s = .next (s.start.finish
      (State.rxBytes { s.start with port := rest } key p.uid (fPayload body) (fLast body)))) ∧
    (p.cls = fClass body → fAbort body = true → exec .parcelBodyReceive s = .next (s.start.finish (State.rxAbort { s.start with port := rest } key)))) ∧
  (∀ (s : State) (strand key : Nat) (body : List Byte) (rest : List PortItem) (st : RxStream), s.cfgUp = true →
    s.port = .flit strand key body :: rest → fType body = 3 → s.rx? key = some st →
    (st.cls ≠ 3 → exec .passReceive s = .next (s.start.finish (State.flitFault { s.start with port := rest } strand))) ∧
    (st.cls = 3 → fFirst body = true → st.packets = [] → st.fence = none → s.sagOn = false ∨ st.looped = true →
      exec .passReceive s = .next (s.start.finish (State.setRx { s.start with port := rest } key { st with
        cells := st.cells + ceilDiv (fPayload body).length 240, packets := [(fPayload body, fLast body, 0)],
        parcelsRx := if fLast body then wrapAdd 32 st.parcelsRx 1 else st.parcelsRx }))))

/-- R86, R112, R118, R151: a full stream whose pops cannot be served stalls; an encoder left without bytes may end its flit; the oldest
waiting parcel of a slice takes lookahead space that is free; the oldest parcel wholly in lookahead may have its mode chosen. -/
def Obligations.StreamWaitsEnd : Prop :=
  (∀ (s : State) (id key : Nat) (st : RxStream), s.cfgUp = true → id < 4096 → s.rxOf id = some (key, st) → st.stall = false →
    s.stallTest st = true → ∃ u, exec (.queueStall id) s = .next (s.start.finishLight u) ∧
      u.rx? key = some { st with stall := true, stalls := satAdd 16 st.stalls 1 } ∧ u.raised = [⟨0x0404, st.cfg.id, 0, false, 0⟩]) ∧
  (∀ (s : State) (id : Nat) (st : TxStream) (p : TxParcel) (ps : List TxParcel), s.cfgUp = true → id < 4096 → s.tx? id = some st →
    st.queue = p :: ps →
    exec (.encoderIdleEnd id) s = .next (s.start.finishLight (s.start.setTx id { st with
      queue := { p with idleEnd := !p.complete } :: ps })) ∧
    (p.held ≠ 0 → p.laDone = false → p.regionIn st.cfg.srcFmt = true → exec (.lookaheadDone id) s = .next (s.start.finishLight
      (s.start.setTx id { st with
        s24Miss := satAdd 16 st.s24Miss (b2n (s.start.laMiss id 0)), queue := { p with laDone := true } :: ps })))) ∧
  (∀ (s : State) (slice arrival id region : Nat) (st : TxStream) (l : List (Nat × Nat × Nat)), s.cfgUp = true → slice < 4 →
    s.laWaits slice = (arrival, id, region) :: l → region + s.lookaheadUsed slice ≤ 1048576 → s.tx? id = some st →
    ∃ u, exec (.lookaheadGrant slice) s = .next (s.start.finishLight u) ∧ u.tx? id = some { st with
      queue := st.queue.map (fun (p : TxParcel) =>
        if p.waitsLa && p.arrival == arrival then { p with waitsLa := false, held := region } else p) } ∧
      ∀ port k, port < s.ports.length → (s.ports.getD port {}).inSeek = some k → (u.ports.getD port {}).inSeek =
        some (if k.waits && k.arrival == arrival then { k with waits := false, held := region } else k))

/-- R185 to R190, R194: the head parcel of a SOURCE stream whose charge, pair and rows fit is scattered in a new window of its table, and
its charge passes to the return side; the oldest kept parcel that is ready becomes a delivered parcel, or under CAP_EN one to be captured
(R170), which is the model's choice (log entry 29); an expired hold drops its slots. -/
def Obligations.ScatterHoldAndCombine : Prop :=
  (∀ (s : State) (id : Nat) (st : TxStream) (t : DispTable) (p : TxParcel) (ps : List TxParcel) (x : RxStream), s.cfgUp = true →
    id < 4096 → s.tx? id = some st → s.table? st.cfg.dispTable = some t → st.queue = p :: ps → st.cfg.dispRole = 1 →
    p.complete = true → st.fence = none → sourceCharge st.cfg p.src ≤ st.credits →
    (st.kept.map (fun k => k.marks.length)).foldl (· + ·) 0 + hTags p.src ≤ 4096 →
    st.openPairs.contains (hMb p.src, hDir p.src) = true ∨ 0 < st.pairCred → t.window = none → s.rx? (4096 + id) = some x →
    s.headBlocked st = false → ∃ u t' x', exec (.sourceScatter id) s = .next (s.start.finish u) ∧ u.table? t.num = some t' ∧ t'.row = hTags p.src ∧
      t'.rows = wrapAdd 48 t.rows (hTags p.src) ∧ t'.window = (if hMbEnd p.src then none else some (hMb p.src, hDir p.src)) ∧
      u.rx? (4096 + id) = some x' ∧ x'.cells = x.cells + sourceCharge st.cfg p.src) ∧
  (∀ (s : State) (id : Nat) (st : TxStream) (t : DispTable) (p : SrcParcel) (ps : List SrcParcel) (x : RxStream), s.cfgUp = true →
    id < 4096 → s.tx? id = some st → s.table? st.cfg.dispTable = some t → st.kept = p :: ps → p.ready = true →
    s.rx? (4096 + id) = some x → ∃ u, exec (.sourceCombine id) s = .next (s.start.finish u) ∧
      (∃ st', u.tx? id = some st' ∧ st'.kept = ps) ∧ (s.flag 0x4800 1 = false → ∃ x' q, u.rx? (4096 + id) = some x' ∧
        x'.parcels = x.parcels ++ [q] ∧ q.complete = true ∧ q.cells = p.cells ∧ q.mb = p.mb ∧ q.dir = p.dir) ∧
      (s.flag 0x4800 1 = true → ∃ x' q, u.rx? (4096 + id) = some x' ∧ q ∈ x'.parcels ∧ q.hold = 5 ∧ q.cells = p.cells)) ∧
  (∀ (s : State) (n : Nat) (t : DispTable), s.cfgUp = true → n ≤ s.build.dispTables → s.table? n = some t → t.num = n →
    t.holdFrom.isSome = true → t.window = none → ∃ u t', exec (.holdExpired n) s = .next (s.start.finish u) ∧ u.table? n = some t' ∧
      t'.held = [] ∧ t'.holdFrom = none ∧ u.raised = List.replicate t.held.length ⟨0x0504, n, 0, false, 0⟩)
/-! ## Link layer, frames and lane detectors (chapters 8 to 10) -/

/-- R266, R267, R269, R273, R274, R292, R293: five LCLK cycles make a tick, and a flit slot passes one of them, which is the model's choice (log
entry 2); a strand in service with nothing to send fills its slot with a GROG flit that carries the SEQ of its next sequenced flit and its
acknowledgement, and with credits due with a CRED flit that returns them; a credit return that has waited long enough makes a CRED flit due. -/
def Obligations.FlitSlotsAndCreditsDue : Prop :=
  (∀ (s : State), s.cfgUp = true → (∀ i < s.build.strands, s.hasSlot i = false) → s.guard.sets = [] → s.tx = [] → ∃ t,
    exec .flitSlot s = .next t ∧ t.phase = (if s.phase + 1 < 5 then s.phase + 1 else 0) ∧
      t.fcount = (if s.phase + 1 < 5 then s.fcount else s.fcount + 1)) ∧
  (∀ (s : State), s.cfgUp = true → s.build.strands = 1 → (s.strand 0).service = true → (s.strand 0).state = .fired →
    (s.strand 0).link.resend = 0 → (s.strand 0).link.waitMode = false → (s.strand 0).link.replay.length < s.linkDepth →
    (s.strand 0).link.carryOut = [] → s.mgmt = [] → s.guard.sets = [] → s.tx = [] →
    (s.credWanted = false → ∃ u, exec .flitSlot s = .next (s.start.finish u) ∧ u.guard.slots = s.guard.slots + 1 ∧
      u.out = [.flit 0 (wholeFlit (flitBody ⟨0, 0, 0, [], false, false, false⟩ none s.rowNow) (s.strand 0).link.txSeq (s.ackOf 0).1
        (s.ackOf 0).2)]) ∧
    (∀ key id cells pairs, s.credDue = true → s.creditsDue = [(key, id, cells, pairs)] → ∃ u seq ack kind,
      exec .flitSlot s = .next (s.start.finish u) ∧ u.guard.slots = s.guard.slots + 1 ∧ u.credDue = false ∧
      u.out = [.flit 0 (wholeFlit (flitBody ⟨5, 0, 0, toLe 2 id ++ toLe 2 (min cells 4370) ++ toLe 1 (min pairs 64) ++ zeros 3, false, false,
        false⟩ none s.rowNow) seq ack kind)])) ∧
  (∀ (s : State), s.cfgUp = true →
    (s.creditsDue ≠ [] → exec .credFlitDue s = .next (s.start.finishLight { s.start with credDue := true })) ∧
    (s.creditsDue = [] → exec .credFlitDue s = .next (s.start.finishLight s.start)))

/-- R278 to R281, R290: a flit that fails its CRC is counted and a NAK becomes due; of a passing one the acknowledgement acts first (an ACK frees
flits, a NAK has the others sent again or, at its third, exhausts the strand, a WAIT holds them, one that names no flit is counted), then the
SEQ: a sequenced flit with the expected one is accepted and another is not, a GROG flit with the expected one sets the watermark and with
another shows that one was lost. In the replay slot a flit with the expected SEQ ends the discarding, and another one asks again; an
unacknowledged flit whose timer runs out exhausts the strand. -/
def Obligations.FlitsAreReceived : Prop :=
  (∀ (s : State) (i : Nat) (flit : List Byte), s.cfgUp = true → i < s.build.strands → s.linkHeld = false → s.linkLive i = true →
    (s.strand i).state ≠ .bisque → s.inj.armed = false → (∀ m ∈ s.linkMsgs, m.2.1 ≠ 1) → (s.strand i).link.discard = none →
    (crcOk (padTo 256 flit) = false → exec (.flitAccept i flit) s = .next (s.start.finish (s.start.crcFail i false))) ∧
    (∀ (b : List Byte) (seq ack kind row : Nat) (v : State), padTo 256 flit = b → crcOk b = true → flitTrailer b = (seq, ack, kind) →
      s.start.applyAck i ack kind = v → (v.strand i).link.discard = none → rowNear ((v.strand i).link.mark.getD v.lclk) (fRow b) = row →
      (fType b ≠ 0 → seq = (v.strand i).link.rxSeq → exec (.flitAccept i flit) s =
        .next (s.start.finish (v.acceptFlit i seq (b.take 248)))) ∧
      (fType b ≠ 0 → seq ≠ (v.strand i).link.rxSeq → exec (.flitAccept i flit) s = .next (s.start.finish v)) ∧
      (fType b = 0 → seq = (v.strand i).link.rxSeq → layoutOk b = true → exec (.flitAccept i flit) s =
        .next (s.start.finish (v.noteRow i row))) ∧
      (fType b = 0 → seq ≠ (v.strand i).link.rxSeq → exec (.flitAccept i flit) s = .next (s.start.finish (v.crcFail i false))))) ∧
  (∀ (s : State) (i ack kind n : Nat) (l m : Link), s.inj.armed = false → (s.strand i).link = l →
    (l.ackedBy ack = none → s.applyAck i ack kind = s.ackInvalid i false) ∧
    (l.ackedBy ack = some n → { l with
        replay := l.replay.drop n, resend := min l.resend (l.replay.length - n), nakCount := if n = 0 then l.nakCount else 0 } = m →
      (kind < 2 → l.waitMode = false → s.applyAck i ack kind = s.modLink i (fun _ => m)) ∧
      (kind < 2 → l.waitMode = true → s.applyAck i ack kind = s.modLink i (fun _ => { m with
        waitMode := false, resend := m.replay.length })) ∧
      (kind = 3 → s.applyAck i ack kind = s.modLink i (fun _ => { m with waitMode := true })) ∧
      (kind = 2 → m.replay = [] → s.applyAck i ack kind = s.modLink i (fun _ => { m with waitMode := false })) ∧
      (∀ first count, kind = 2 → m.replay ≠ [] → (ack + 1) % 4096 = first →
        (if m.nakCount ≠ 0 ∧ m.nakSeq = first then m.nakCount + 1 else 1) = count →
        (count < 3 → s.applyAck i ack kind = s.modLink i (fun _ => { m with
          nakSeq := first, nakCount := count, waitMode := false, resend := m.replay.length, replays := satAdd 16 m.replays 1 })) ∧
        (3 ≤ count → s.applyAck i ack kind = (s.modLink i (fun _ => { m with
          nakSeq := first, nakCount := count, waitMode := false })).exhaust i false)))) ∧
  (∀ (s : State) (i d : Nat) (flit : List Byte), s.cfgUp = true → i < s.build.strands → s.linkHeld = false → s.linkLive i = true →
    s.inj.armed = false → (∀ m ∈ s.linkMsgs, m.2.1 ≠ 1) → (s.strand i).link.discard = some d →
    (crcOk (padTo 256 flit) = false → exec (.replaySlot i flit) s = .next (s.start.finish (s.start.crcFail i false))) ∧
    (crcOk (padTo 256 flit) = true → (flitTrailer (padTo 256 flit)).1 = (s.strand i).link.rxSeq → exec (.replaySlot i flit) s =
      .next (s.start.finish ((s.start.modLink i (fun (l : Link) => { l with discard := none })).passingFlit i (padTo 256 flit)))) ∧
    (∀ seq ack kind, crcOk (padTo 256 flit) = true → flitTrailer (padTo 256 flit) = (seq, ack, kind) → seq ≠ (s.strand i).link.rxSeq →
      exec (.replaySlot i flit) s = .next (s.start.finish ((s.start.applyAck i ack kind).modLink i (fun (l : Link) => { l with
        nakDue := true, discard := some (s.lclk + s.allowance) }))))) ∧
  (∀ (s : State) (i : Nat), s.cfgUp = true → i < s.build.strands → s.linkHeld = false → (s.strand i).link.replay ≠ [] →
    (s.strand i).link.waitMode = false → exec (.ackTimeout i) s = .next (s.start.finish (s.start.exhaust i false)))

/-- R276, R288, R291, R316: XREPLAY and SERVICE act on the strand they name; a held flit that every watermark has reached goes to the
stream layer and one that waits stays; an F flit in lock-step leaves in its release row. -/
def Obligations.MessagesAndMerge : Prop :=
  (∀ (s : State) (k : Nat) (body : List Byte) (rest : List (Nat × Nat × List Byte)), s.cfgUp = true → s.linkMsgs = (k, 1, body) :: rest →
    exec .xreplay s = .next (s.start.finish (State.xreplayMsg { s.start with linkMsgs := rest } body))) ∧
  (∀ (s : State) (k i b : Nat) (body : List Byte) (rest : List (Nat × Nat × List Byte)) (r : Svc × Bool), s.cfgUp = true →
    s.linkMsgs = (k, 2, body) :: rest → byteAt body 0 = i → i < s.build.strands → i < s.strands.length → (s.strand i).state ≠ .shard →
    (s.strand i).service = false → bit (byteAt body 1) 0 = true → s.rowBoundary (field body 2 2 % 4096) = some b →
    meetSvc (s.strand i).join b 0 true = r → ∃ u v, exec .serviceMessage s = .next (s.start.finish u) ∧ (u.strand i).join = some v ∧ v.row = r.1.row ∧ v.theirs = true) ∧
  (∀ (s : State) (i : Nat) (f : HeldFlit), s.cfgUp = true → s.heldFlits = [(i, f)] → s.lockStep f = false →
    exec .mergeRelease s = .next (s.start.finish (if (List.range s.build.strands).all (s.reached f.row) then s.start.release i f
      else s.start))) ∧
  (∀ (s : State) (i r : Nat) (f : HeldFlit), s.cfgUp = true → s.heldFlits = [(i, f)] → s.lockStep f = true →
    (s.lockSet (fStream f.body)).all (s.reached f.row) = true → f.ready = some r → s.lclk = f.row + s.releaseK →
    exec .fReleaseRow s = .next (s.start.finish (s.start.release i f)))

/-- R310, R358, R361, R474, R494, R549, R552, R605: outside AON reset a frame boundary moves time to it, latches the clock counts of the past frame
(none before the first complete one), counts escalations anew after the cycle's own (log
entry 45), and, while the set-up domain is up, closes the windows of
the log that end there and lets every stream be reported anew. Forwarded clocks that stop on every armed strand lose the partner under cause CLOCK; on some of them, with PRESENCE
low, they are marked and nothing is recorded, and with PRESENCE high each is a failure under 0x0101. A lane of the clock pair or the VLD lane that
fails is recorded under its own code, and takes a strand in service to HOLD, out of service and to be repaired by marking it SHARD. TRK drift
makes a strand due for calibration and is recorded once per calibration. None of the detectors reports on a strand that it does not watch. -/
def Obligations.FramesAndLaneDetectors : Prop :=
  (∀ (s : State) (core fab cfg aon : Nat) (trk : List Nat) (lanes : List (Nat × Nat)), s.aonHeld = false → ∃ t u,
    exec (.frameBoundary core fab cfg aon trk lanes) s = .next { t with kiln := { t.kiln with frameEsc := 0 } } ∧ t = s.start.finish u ∧
      u.fcount = (if s.now < s.nextBoundary then BitVec.ofNat 64 s.nextBoundary else s.fcount) ∧
      u.phase = (if s.now < s.nextBoundary then 0 else s.phase) ∧ u.guard.lastFrame = some (s.nextBoundary % 2 ^ 64) ∧
      (s.guard.lastFrame = none → ∀ off ∈ [0x208, 0x20C, 0x210, 0x214], u.fld off 23 0 = s.fld off 23 0) ∧
      (s.guard.lastFrame ≠ none → u.fld 0x208 23 0 = min core (2 ^ 24 - 1) ∧ u.fld 0x20C 23 0 = min fab (2 ^ 24 - 1) ∧
        u.fld 0x210 23 0 = min cfg (2 ^ 24 - 1) ∧ u.fld 0x214 23 0 = min aon (2 ^ 24 - 1)) ∧
      (s.inj.armed = false → s.cfgUp = true → (∀ p ∈ u.rx, p.2.laxSeen = false) ∧ ∀ p ∈ u.kiln.records, p.2.isOpen = true →
        if codeKind p.2.code = .strand then u.strandSettled p.2.unit = false else p.2.bounds < 2)) ∧
  (∀ (s u : State) (strands hit : List Nat), s.cfgUp = true → hit = s.armedStrands.filter strands.contains →
    u = forEach hit (fun i x => x.modStrand i (fun y => { y with clkFault := true })) s.start →
    (hit = [] → exec (.fwdClkStop strands) s = .next (s.start.finish s.start)) ∧
    (hit ≠ [] → hit.length = s.armedStrands.length →
      (s.partner = .active ∨ s.partner = .present → ∃ t l, exec (.fwdClkStop strands) s = .next (s.start.finish t) ∧ t.partner = .quiet ∧
        t.pulse.cause = 4 ∧ t.raised = l ++ [⟨0x0903, 0, 0, false, 0⟩]) ∧
      (s.partner ≠ .active → s.partner ≠ .present → exec (.fwdClkStop strands) s = .next (s.start.finish u))) ∧
    (hit ≠ [] → hit.length ≠ s.armedStrands.length →
      (s.presence.on = false → exec (.fwdClkStop strands) s = .next (s.start.finish u)) ∧
      (s.presence.on = true → exec (.fwdClkStop strands) s = .next (s.start.finish
        (forEach hit (fun i x => ((x.sticky 0x27C8 1).raise 0x0101 i).laneLost i) u))))) ∧
  (∀ (s : State) (i : Nat), s.cfgUp = true → i < s.build.strands → i < s.strands.length →
    ((s.strand i).watched = true → exec (.fwdClkLane i) s = .next (s.start.finish
      ((((s.start.modStrand i (fun y => { y with clkFault := true })).sticky 0x27C8 2).raise 0x0102 i).laneLost i))) ∧
    ((s.strand i).watched = false → exec (.fwdClkLane i) s = .next (s.start.finish s.start)) ∧
    ((s.strand i).tracked = false → exec (.vldLaneFail i) s = .next (s.start.finish s.start) ∧
      exec (.trkDrift i) s = .next (s.start.finishLight s.start)) ∧
    ((s.strand i).tracked = true → (s.strand i).state = .fired ∨ (s.strand i).state = .crazed ∨
      ((s.strand i).state = .bisque ∧ (s.strand i).sub = .none) →
      exec (.vldLaneFail i) s = .next (s.start.finish (((s.start.sticky 0x27C8 3).raise 0x0103 i).laneLost i))) ∧
    ((s.strand i).tracked = true → (s.strand i).state = .fired ∨ (s.strand i).state = .crazed → (s.strand i).dueAt = none →
      (s.strand i).sub ≠ .cal → ∃ u, exec (.trkDrift i) s = .next (s.start.finishLight u) ∧ (u.strand i).dueAt = some s.now ∧
        (u.strand i).trkSeen = true ∧ u.raised = (if (s.strand i).trkSeen then [] else [⟨0x0105, i, 0, false, 0⟩]) ∧
        ((s.strand i).trkSeen = false → u.flag 0x27C8 5 = true))) ∧
  (∀ (s : State) (i : Nat), i < s.strands.length → (s.strand i).state = .fired ∨ (s.strand i).state = .crazed → (s.strand i).sub ≠ .hold →
    (s.strand i).sub ≠ .fill → ((s.laneLost i).strand i).sub = .hold ∧ ((s.laneLost i).strand i).service = false ∧
      ((s.laneLost i).strand i).rx.shard = true)
/-! ## Sideband, bisque, time, wedging, calibration and repair (chapters 11 and 12) -/

/-- R382 to R384, R386, R394 to R397: a frame is 34 bits and 16 for each payload word, from a start bit of 0 to a stop bit of 1, its CRC is
0x29B1 over "123456789", and a receiver takes from its bits the TYPE and payload sent; a discarded frame is counted; LINK_READY and BQ_STEP are taken in, sent and repeated; bisque training
begins on the chosen strand, goes on step by step, fails when it runs out of time, and its channel sends a flit in its slot. -/
def Obligations.SidebandAndBisque : Prop :=
  (crc16 ((List.range 9).map (fun i => BitVec.ofNat 8 (0x31 + i))) = 0x29B1 ∧ ∀ (type : Nat) (payload : List Byte), type < 256 →
    payload.length % 2 = 0 → payload.length ≤ 16 → (frameBits type payload).length = 34 + 8 * payload.length ∧
    (frameBits type payload).head? = some false ∧ (frameBits type payload).getLast? = some true ∧
    frameTaken (frameBits type payload) = some (type, payload)) ∧
  (∀ (s : State) (p : List Byte), s.aonHeld = false →
    exec .sbFrameDiscard s = .next (s.start.finishLight s.start.sbDiscard) ∧
    exec .linkReadySend s = .next (s.start.finishLight s.start.sendReady) ∧
    (s.inj.armed = false → ∃ t, exec (.linkReady p) s = .next t ∧
      t.ready = some ⟨field p 0 2, bit (field p 2 2) 0, bit (field p 2 2) 1, bit (field p 2 2) 2⟩) ∧
    (∀ w, s.bisque.said = some w → exec .bqStepRepeat s = .next (s.start.finishLight (s.start.sendFrame 0x11 (toLe 2 w))))) ∧
  (∀ (s : State) (p : List Byte) (i : Nat), s.aonHeld = false → s.inj.armed = false → s.bisqueTraining = some i →
    bits (field p 0 2) 15 8 = i →
    (bit (field p 0 2) 5 = true → exec (.bqStep p) s = .next (s.start.finish (s.start.bisqueFail i))) ∧
    (bit (field p 0 2) 5 = false → bit (field p 0 2) 4 = true → exec (.bqStep p) s = .next (s.start.finish (State.checkBisque { s.start with
      bisque := { s.bisque with peer := max s.bisque.peer (min 4 (bits (field p 0 2) 3 0)) } })))) ∧
  (∀ (s : State) (i : Nat) (restart : Bool), s.cfgUp = true → s.test.ir ≠ 0 → s.bisqueChoice = some i → s.bisqueReady i = true →
    s.inService = [] → s.bisque.quiet = restart → i < s.strands.length → ∃ u,
      exec (if restart then .bisqueRestart else .bisqueStart) s = .next (s.start.finish u) ∧ (u.strand i).sub = .cal ∧
      u.bisque.strand = some i ∧ u.bisque.own = 0 ∧ u.bisque.peer = 0 ∧ u.bisque.quiet = false) ∧
  (∀ (s : State) (i : Nat), s.cfgUp = true → s.inj.armed = false → s.bisqueTraining = some i →
    (∀ ms, s.bisque.own < 4 → exec (.bisqueStepDone ms) s = .next (s.start.finish (State.checkBisque (State.sendBq (State.bisqueMeas
      (State.modStrand { s.start with bisque := { s.bisque with own := s.bisque.own + 1 } } i (fun x => { x with
        armed := true, clkFault := false })) i (s.bisque.own + 1) ms) i (s.bisque.own + 1) true)))) ∧
    exec .bisqueTimeout s = .next (s.start.finish ((((s.start.sendBq i (min 4 (s.bisque.own + 1)) false).sticky 0x2088 0).raise 0x0110
      i).bisqueFail i))) ∧
  (∀ (s : State), s.cfgUp = true → s.bisqueOpen = true → ∃ u b, exec .bisqueFlitSlot s = .next (s.start.finish u) ∧
    u.out = [.bisqueFlit b] ∧ u.bisque.flits = s.bisque.flits + 1)

/-- R400, R401: a TIME message whose whole difference is 0 from a trusted peer makes this side TRUSTED, one from a peer that is not
changes nothing but the peer's report, one that is no multiple of 5 UI is recorded; 1 ms without agreement is recorded; an armed adjustment
changes the firing count at its edge and makes this side TRUSTED. -/
def Obligations.TimeIsAligned : Prop :=
  (∀ (s : State) (k registered : Nat) (body : List Byte) (rest : List (Nat × Nat × List Byte)) (d : Int), s.cfgUp = true →
    s.inj.armed = false → s.linkMsgs = (k, 0x28, body) :: rest →
    d = (registered : Int) - (5 * (field body 0 8 : Int) + bits (byteAt body 8) 2 0) - 1 →
    (d % 5 ≠ 0 → ∃ u, exec (.timeMessage registered) s = .next (s.start.finish u) ∧ u.raised = [⟨0x0114, 0, 0, false, 0⟩] ∧
      u.peerTime = some (bit (byteAt body 8) 3, false)) ∧
    (d = 0 → bit (byteAt body 8) 3 = true → ∃ t, exec (.timeMessage registered) s = .next t ∧ t.trusted = true) ∧
    (d % 5 = 0 → bit (byteAt body 8) 3 = false → exec (.timeMessage registered) s = .next (s.start.finish { s.start with
      linkMsgs := rest, peerTime := some (false, d / 5 == 0) }))) ∧
  (∀ (s : State), s.cfgUp = true → s.bisqueOpen = true → s.bisque.waitSeen = false → s.aligned = false → ∃ u,
    exec .timeWait s = .next (s.start.finishLight u) ∧ u.raised = [⟨0x0112, 0, 0, false, 0⟩] ∧ u.bisque.waitSeen = true) ∧
  (∀ (s : State) (ahead : Nat), s.aonHeld = false → s.flag 0x2080 3 = true → ahead = (s.regN 0x20A0 + 2 ^ 32 - s.now % 2 ^ 32) % 2 ^ 32 →
    ∃ t, exec .timeAdjust s = .next t ∧ t.trusted = true ∧ t.phase = 0 ∧
      t.fcount = BitVec.ofInt 64 ((s.now + ahead + 1 : Int) - s.signedPair 0x2098))

/-- R393, R402 to R404, R407, R409, R591: a group engine with room for a strand in the wire power's change (as the
model counts it, log entry 194) reads its next strand's records; a wedging step that ends well goes on to the next, the first
one with the duty cycle corrected, and one that fails counts against its strand; STEP messages of the peer, repetitions, eye heights and the time limit act on the strand they name. -/
def Obligations.WedgingAdvances : Prop :=
  (∀ (s : State) (g i : Nat), s.cfgUp = true → g < s.build.sgs → s.test.ir ≠ 0 → (s.groupStrands g).any (fun i => (s.strand i).waking) = false →
    s.wedgeNext g = some i → s.wedgeReady = true → s.wireRoom 1 = true →
    exec (.wedgeStart g) s = .next (s.start.finish (((s.start.wireMove 1).modStrand i (fun x => { x with
      sub := .cal, wedging := true, step := 0, own := 0, peer := 0, fails := 0, reentry := false, again := false, quick := false, waking := false,
      armed := false, clkFault := false, moved := [], failSeen := false, serial := false })).readCal i))) ∧
  (∀ (s : State) (i step : Nat) (ms : List LaneMeas), s.cfgUp = true → s.inj.armed = false → i < s.build.strands →
    (s.strand i).wedging = true → (s.strand i).step = step → step = 1 ∨ step = 5 → (s.strand i).own < step → (s.strand i).quick = false →
    exec (.wedgeStepDone i false ms) s = .next (s.start.finish ((((if step = 1 then (s.start.modStrand i (fun y => { y with
      armed := true, clkFault := false })).correctDuty i else s.start).modStrand i (fun y => { y with own := step, step := step + 1 })).sendStep i step true).checkSignoff i)) ∧
    (step = 1 → exec (.wedgeStepDone i true ms) s = .next (s.start.finish ((s.start.sendStep i 1 false).wedgeFail i 1 [] false))) ∧
    exec (.wedgeFailTimeout i) s = .next (s.start.finish ((s.start.sendStep i step false).wedgeFail i 0 [] false))) ∧
  (∀ (s : State) (k i step : Nat) (body : List Byte) (rest : List (Nat × Nat × List Byte)), s.cfgUp = true →
    s.linkMsgs = (k, 0x29, body) :: rest → byteAt body 0 = i → i < s.build.strands → bits (byteAt body 1) 3 0 = step → 1 ≤ step → step ≤ 6 →
    bit (byteAt body 1) 4 = true → bit (byteAt body 1) 5 = false → (s.strand i).wedging = true → (s.strand i).step ≠ 0 →
    exec .stepMessage s = .next (s.start.finish ((State.modStrand { s.start with linkMsgs := rest } i (fun y => { y with
      peer := max y.peer step, failSeen := false })).checkSignoff i))) ∧
  (∀ (s : State) (i : Nat) (b : List Byte), s.cfgUp = true → i < s.build.strands → (s.strand i).said = some b →
    exec (.stepRepeat i) s = .next (s.start.finishLight (s.start.pushMsg 0x29 b))) ∧
  (∀ (s : State) (k i : Nat) (c : CalRun) (body : List Byte) (rest : List (Nat × Nat × List Byte)), s.cfgUp = true →
    s.linkMsgs = (k, 0x2B, body) :: rest → byteAt body 0 = i → i < s.build.strands → i < s.strands.length → (s.strand i).wedging = false →
    s.cal = some c → c.strand = i → c.phase ≠ .agreed → c.applied = false → c.restored = false → c.failed = false → ∃ u, exec .vrefEye s = .next (s.start.finish u) ∧ (u.strand i).peerEye = (s.strand i).peerEye ++
      ((List.range (min 128 (body.length - 4))).map (fun j => (128 * byteAt body 1 + j, byteAt body (4 + j)))).filter
        (fun p => p.1 < s.build.laneCount))

/-- R410, R411, R413, R415, R416: a strand becomes due and the queue head is scheduled with the peer, a set member without a free standby only
once it has waited 64 frames; runs that agree leave their settings waiting, runs that take too long fail, settings that wait are applied, and
the check ends at this side, where a failure returns the former settings unless the peer's has done so. -/
def Obligations.CalibrationAdvances : Prop :=
  (∀ (s : State) (i : Nat), s.cfgUp = true → i < s.build.strands → s.fld 0x2004 15 0 ≠ 0 → (s.strand i).state = .fired ∨
    (s.strand i).state = .crazed → (s.strand i).dueAt = none → exec (.calIntervalDue i) s = .next (s.start.finishLight
      (s.start.modStrand i (fun y => { y with dueAt := some s.now, waited := 0 })))) ∧
  (∀ (s : State) (i row : Nat) (l : List Nat), s.cfgUp = true → s.cal = none → s.calQueue = i :: l → (s.strand i).leave = none →
    row = boundaryFrom (s.lclk + 64) → s.mayTake i row = true ∨ s.isMember i = true ∧ 64 ≤ (s.strand i).waited → exec .calSchedule s = .next (s.start.finish
      (State.sendCal { s.start with cal := some { strand := i, row := row, mine := true, forced := !s.mayTake i row } } i row false))) ∧
  (∀ (s : State) (k i row : Nat) (body : List Byte) (rest : List (Nat × Nat × List Byte)), s.cfgUp = true →
    s.linkMsgs = (k, 0x2A, body) :: rest → byteAt body 0 = i → i < s.build.strands → s.rowBoundary (field body 2 2 % 4096) = some row →
    bit (byteAt body 4) 0 = false → s.cal = none → exec .calMessage s = .next (s.start.finish { s.start with
      linkMsgs := rest, cal := some { strand := i, row := row, mine := false } })) ∧
  (∀ (s : State) (c : CalRun) (first : List LaneMeas), s.cfgUp = true → s.inj.armed = false → s.cal = some c → c.phase = .running →
    (s.fld 0x2000 6 5 = 1 → s.fld 0x2000 8 7 ≠ 0 → (first.filter s.short) = [] → ∃ u c', exec (.calRunDone first []) s =
      .next (s.start.finish u) ∧ u.cal = some c' ∧ c'.phase = .pend ∧ c'.strand = c.strand) ∧
    (s.fld 0x2000 6 5 ≠ 0 → exec .calBudgetTimeout s = .next (s.start.finish (s.start.calFails c 0x0A02 false)))) ∧
  (∀ (s : State) (c : CalRun), s.cfgUp = true → s.cal = some c → c.phase = .pend → s.fld 0x2000 8 7 = 2 →
    exec .calIdleApply s = .next (s.start.finish (s.start.applyCal c))) ∧
  (∀ (s : State) (i : Nat) (c : CalRun) (ok : Bool), s.cfgUp = true → i < s.build.strands → s.inj.armed = false → s.runOf i = some c →
    c.phase = .verify → c.own = 0 → ∀ u, u = (s.start.setRun { c with own := if ok then 1 else 2 }).sendStep i 8 ok →
      exec (.calVerifyDone i ok) s = .next (s.start.finish ((if ok = true ∨ c.peer = 2 then u else u.failCheck i false).checkVerify i)))

/-- R434, R439, R441 to R443, R445, R446, R610: repair records are exchanged and repeated over the sideband, a change of service may
travel there, a sweep and a fill end with what failed, and silence retires the strand. -/
def Obligations.RepairAdvances : Prop :=
  (∀ (s : State) (p : List Byte), s.aonHeld = false → s.inj.armed = false →
    (s.exch.got = false → exec (.repairSum p) s = .next (s.start.finish (State.checkExchange { s.start with exch := { s.exch with
      peerGot := bit (field p 0 2) 15, sum := true, left := bits (field p 0 2) 9 0, recs := [], got := bits (field p 0 2) 9 0 == 0 } }))) ∧
    (bits (field p 0 2) 12 10 = 0 → s.exch.got = false → s.exch.sum = true →
      0 < s.exch.left → exec (.repairRec p) s = .next (s.start.finish (State.checkExchange { s.start with exch := { s.exch with
        recs := s.exch.recs ++ [(bits (field p 0 2) 7 0, bits (field p 0 2) 9 9, recDir s.build p)], left := s.exch.left - 1, got := s.exch.left == 1 } }))) ∧
    exec (.repairSvc p) s = .next (s.start.finish (s.start.serviceMsg (bits (field p 0 2) 7 0) (bit (field p 0 2) 8)
      (bits (field p 0 2) 10 9) (field p 2 2 % 4096)))) ∧
  (∀ (s : State), s.aonHeld = false → s.presence.on = true → s.exch.done = false → s.exch.peerGot = false → s.recordsUnread = false →
    exec .repairSumResend s = .next (s.start.finishLight s.start.sendRecords)) ∧
  (∀ (s : State) (i : Nat) (v : Svc), s.aonHeld = false → i < s.build.strands → (s.strand i).join = some v → (s.strand i).leave = none →
    v.side = true → s.lclk < v.row → exec (.repairSvcRepeat i) s = .next (s.start.finishLight (s.start.sendSvc i true v))) ∧
  (∀ (s : State) (i : Nat) (r : Repair) (found : List LaneMeas), s.cfgUp = true → s.inj.armed = false →
    i < s.build.strands → (s.strand i).rep = some r →
    (∀ all, r.mine = 1 → r.swept = true → r.skip = false →
      all = ((found.filter s.short).map (·.lane)).filter (fun k => (s.build.place k).any (fun q => !bit (s.strand i).rx.lost q.1)) →
      exec (.repairSweepDone i found) s = .next (s.start.finish ((((s.start.bumpSat 0x280C 31 16 1).modRep i (fun q => { q with
        failed := (all.map s.build.laneCode).foldl (fun a b => some (min b (a.getD b))) none })).applyFailures i all).finishSweep i))) ∧
    (∀ g, g ∈ r.fills → (s.strand i).sub = .fill → g < s.build.groups → bit (s.strand i).rx.lost g = false →
      ((∀ m ∈ found, s.short m = false) → exec (.fillDone i g found) s = .next (s.start.finish ((State.takeFill (s.start.modRep i (fun q =>
        { q with fills := q.fills.filter (· != g) })) i (found.filter (fun m => (s.strand i).fillCovers s.build g m.lane))).checkFilled i))) ∧
      ∃ u, exec (.fillTimeout i g) s = .next (s.start.finish u) ∧ ⟨0x0125, i, 0, false, 0⟩ ∈ u.raised ∧ ⟨0x0122, i, 0, false, 0⟩ ∈ u.raised) ∧
    (s.inj.point ≠ 0x0C → exec (.repairTimeout i) s = .next (s.start.finish
      (((s.start.sticky 0x2808 4).raise 0x0124 i s.inj.fired false).retire i))))
/-! ## Discovery, self-test, memories, test port and wash (chapters 13 to 16) -/

/-- R457, R462, R463, R466, R468, R476, R484 to R487: identity blocks are taken in, checked and answered; the record is computed from both
blocks and agreed by its CRC; a challenge is answered with the MAC, and a response is judged by it; a TOPO record takes the entry of its
key, or the lowest free one; a PKG message shows in its register. -/
def Obligations.DiscoveryMessages : Prop :=
  ((∀ (s : State) (p : List Byte), s.aonHeld = false →
    exec .earlyIdSend s = .next (s.start.finishLight (s.start.sendFrame 0x30 s.earlyBody)) ∧
    (s.inj.armed = false → ∃ u, exec (.earlyId p) s = .next (s.start.finish u) ∧
      u.early = (if s.cfgUp then some (padTo 16 p) else s.early) ∧
      (⟨0x0803, 0, 0, false, 0⟩ ∈ u.raised ↔ byteAt p 6 + 1 ≠ s.build.strands))) ∧
  (∀ (s : State) (k : Nat) (b : List Byte) (rest : List (Nat × Nat × List Byte)), s.cfgUp = true → s.inj.armed = false →
    s.linkMsgs = (k, 0x30, b) :: rest →
    (s.peerBlock = none → s.attRequired = false → s.disc.negFail = false → bit (byteAt b 6) 2 = (s.build.pers == .L) → 2 ≤ byteAt b 2 →
      ∃ u, exec .identMessage s = .next (s.start.finish u) ∧ u.peerBlock = some b ∧ u.record = some (recordOf s.ownBlock b)) ∧
    (s.peerBlock = some b → exec .identMessage s = .next (s.start.finish { s.start with linkMsgs := rest }))) ∧
  (∀ (s : State) (k : Nat) (body r : List Byte) (rest : List (Nat × Nat × List Byte)), s.cfgUp = true → s.inj.armed = false →
    s.linkMsgs = (k, 0x31, body) :: rest → s.record = some r → s.disc.negFail = false → field body 0 4 = crc32c r → ∃ u,
      exec .agreeMessage s = .next (s.start.finish u) ∧ u.negDone = true ∧ u.disc.peerCrc = some (crc32c r)) ∧
  (∀ (s : State) (c : Nat) (r : List Byte), s.cfgUp = true → s.inj.fired = 0 → s.record = some r → s.disc.peerCrc = some c →
    c ≠ crc32c r → s.negDone = false → s.disc.negFail = false →
    exec .agreeTimeout s = .next (s.start.finish (s.start.failNeg 0x0802 2 false))) ∧
  (∀ (s : State) (k : Nat) (body x : List Byte) (rest : List (Nat × Nat × List Byte)), s.cfgUp = true → s.linkMsgs = (k, 0x32, body) :: rest →
    s.peerBlock = some x → exec .attChal s = .next (s.start.finish (State.pushMsg { s.start with linkMsgs := rest } 0x33 (body.take 16 ++
      (s.attMac (bits (byteAt body 16) 2 0) (body.take 16) s.ownBlock (s.peerField 8 8)).getD (zeros 32))))) ∧
  (∀ (s : State) (k : Nat) (body : List Byte) (rest : List (Nat × Nat × List Byte)), s.cfgUp = true → s.inj.armed = false →
    s.linkMsgs = (k, 0x33, body) :: rest → s.sag.nonce = some (body.take 16) →
    (s.attMac (s.fld 0x4000 5 3) (body.take 16) (s.peerBlock.getD []) s.dieId = some (slice body 16 32) → ∃ u,
      exec .attResp s = .next (s.start.finish u) ∧ u.sag.attPass = true ∧ u.sag.nonce = none) ∧
    (s.attMac (s.fld 0x4000 5 3) (body.take 16) (s.peerBlock.getD []) s.dieId ≠ some (slice body 16 32) →
      exec .attResp s = .next (s.start.finish (State.attFails { s.start with linkMsgs := rest } false)))) ∧
  (∀ (s : State), s.cfgUp = true → s.sag.nonce ≠ none → exec .attTimeout s = .next (s.start.finish (s.start.attFails false)))) ∧
  ((∀ (s : State) (k i : Nat) (r : List Byte) (rest : List (Nat × Nat × List Byte)), s.cfgUp = true → s.linkMsgs = (k, 0x34, r) :: rest →
    s.disc.topo.find? (fun p => topoKey p.2 == topoKey r) = none →
    (List.range 64).find? (fun i => (lookupKey i s.disc.topo).isNone) = some i →
    exec .topoMessage s = .next (s.start.finishLight { s.start with
      linkMsgs := rest, disc := { s.disc with topo := insertKey i r s.disc.topo } })) ∧
  (∀ (s : State) (k : Nat) (b : List Byte) (rest : List (Nat × Nat × List Byte)), s.cfgUp = true → s.inj.armed = false →
    s.linkMsgs = (k, 0x35, b) :: rest → ∃ u, exec .pkgMessage s = .next (s.start.finish u) ∧
      u.reg 0x6410 = BitVec.ofNat 32 (bits (field b 0 2) 10 0 + 2 ^ 31 * b2n (bit (field b 0 2) 15))))

/-- R533, R536, R537, R544, R557: a TEST message names the next slice; a segment is judged in the slice or in the full BIST it belongs to,
and one that is cut short ends the slice's segments and leaves the strand as it is, and the slice's failure by the model's choice (log entry
78); the slice's end is reported; a full BIST that found
nothing completes with OK; a memory error is recorded under its code, and an uncorrectable one aborts the parcel being sent that it hits,
clears the scale history, faults the ring pair, or completes the descriptor with INTERNAL. -/
def Obligations.SelfTestAndMemoryErrors : Prop :=
  (∀ (s : State) (k i row : Nat) (body : List Byte) (rest : List (Nat × Nat × List Byte)), s.cfgUp = true →
    s.linkMsgs = (k, 0x38, body) :: rest → byteAt body 0 = i → i < s.build.strands → s.rowBoundary (field body 2 2 % 4096) = some row →
    bit (byteAt body 1) 0 = false → s.bist.slice = none → exec .testMessage s = .next (s.start.finish (State.modBist { s.start with
      linkMsgs := rest } (fun b => { b with slice := some { strand := i, row := row, mine := false } })))) ∧
  (∀ (s : State) (i units : Nat) (measured : List Nat) (complete : Bool), s.cfgUp = true → i < s.build.strands →
    (∀ c, s.bist.slice = some c → c.strand = i → c.phase = .segments → exec (.bistSegmentDone i measured units complete) s =
      .next (s.start.finish (s.start.sliceSegment c measured units complete))) ∧
    (∀ f seg, s.bist.slice = none → s.bist.full = some f → lookupKey i f.left = some seg → f.running.contains i = true →
      exec (.bistSegmentDone i measured units complete) s =
        .next (s.start.finish (s.start.fullSegment f i seg measured units complete)))) ∧
  (∀ (s : State) (i units : Nat) (measured : List Nat) (c : Slice), s.cfgUp = true → s.inj.armed = false → i < s.build.strands →
    s.bist.slice = some c → c.strand = i → c.phase = .segments → ∃ u c', exec (.bistSegmentDone i measured units false) s =
      .next (s.start.finish u) ∧ u.bist.slice = some c' ∧ c'.phase = .restore ∧ c'.short = true ∧ c'.failed = c.failed ∧
      u.strands = s.strands) ∧
  (∀ (s : State) (c : Slice), s.cfgUp = true → s.bist.slice = some c → c.phase = .restore → exec .bistSliceEnd s = .next (s.start.finish
    ((((s.start.modBist (fun (b : Bist) => { b with slice := some { c with phase := .done } })).countSlice { c with
      phase := .done }).sendStep c.strand 7 true).checkRun))) ∧
  (∀ (s : State) (f : FullRun), s.cfgUp = true → s.bist.full = some f → f.left = [] → f.cones = [] → f.fails = [] → f.found = 0 →
    f.short = false → exec .bistFullDone s = .next (s.start.finish ((s.start.modBist (fun (b : Bist) => { b with
      full := none })).complete f.desc 0 (toLe 2 0xFFFF ++ zeros 14)))) ∧
  (∀ (s : State) (memory word : Nat) (o : EccObject), s.cfgUp = true → s.inj.armed = false → memory < 8 →
    exec (.eccError memory word 1 o) s = .next (s.start.finish (s.start.raise 0x0B01 memory word)) ∧
    exec (.eccError memory word 2 o) s = .next (s.start.finish (if memory < 4 then (s.start.raise 0x0B02 memory word).eccParcel o
      else (s.start.raise 0x0B03 memory word).eccContext o))) ∧
  (∀ (s : State) (memory word id : Nat) (st : TxStream), s.cfgUp = true → s.inj.armed = false → s.tx? id = some st →
    (memory < 4 → ∀ p rest, st.queue = p :: rest → p.started = true → exec (.eccError memory word 2 (.txParcel id 0)) s = .next
      (s.start.finish ((s.start.raise 0x0B02 memory word).setTx id { st with queue := { p with abort := true } :: rest }))) ∧
    (4 ≤ memory → memory < 8 → st.cfg.histScaled = false → exec (.eccError memory word 2 (.history id)) s = .next (s.start.finish
      ((s.start.raise 0x0B03 memory word).setTx id { st with num := { st.num with
        hist := List.replicate 16 0, histNext := 0, histValid := 0 } })))) ∧
  (∀ (s : State) (memory word n : Nat), s.cfgUp = true → s.inj.armed = false → 4 ≤ memory → memory < 8 →
    exec (.eccError memory word 2 (.descriptor n)) s = .next (s.start.finish ((s.start.raise 0x0B03 memory word).complete n 0x7F)) ∧
    exec (.eccError memory word 2 (.ring 0)) s = .next (s.start.finish ((s.start.raise 0x0B03 memory word).modRing 0 (fun r => { r with
      fault := true }))))

/-- R567 to R569, R571, R575, R582: each test port instruction is scanned in, the captured word leaving before it, takes its place in the
instruction register and acts; PASS as PCFG wrote it takes effect when the controller next enters Run-Test/Idle. That a command is a whole scan
from Run-Test/Idle to Update is the model's choice (log entry 84). R42, R570: what the TST bonds and TAP_TDO carry on each side of a chain. -/
def Obligations.TestPortInstructions : Prop :=
  (∀ (s : State) (p : TapPads), s.irCapture % 4 = 1 ∧ s.irCapture < 16 ∧
    (s.build.testSide = .none → s.testPads p = ⟨some false, some false, some false, some false⟩) ∧
    (s.build.testSide = .toward → s.resets.aon = true ∨ s.test.pass = false →
      (s.testPads p).tck = some false ∧ (s.testPads p).trstN = some false) ∧
    (s.build.testSide = .toward → s.resets.aon = false → s.test.pass = true →
      s.testPads p = ⟨some p.tck, some p.tms, some p.trstN, p.shift⟩ ∧ (p.shift.isSome = true → s.tapTdo p = s.test.retimed)) ∧
    (p.shift = none ∨ s.resets.aon = true → s.tapTdo p = true) ∧
    (∀ b, p.shift = some b → s.resets.aon = false → s.test.pass = false → s.tapTdo p = b)) ∧
  (∀ (toward : Bool) (captured : Nat) (t : Test) (tms tdi : Bool),
    (t.edge toward captured (tms, tdi)).pass = (if t.ctl.next tms = .runTestIdle then t.passSet else t.pass) ∧
    (toward = true → t.pass = true → (t.edge toward captured (tms, tdi)).retimed = Config.tstTdi t.tcks)) ∧
  ∀ (s : State), s.aonHeld = false →
    (∃ t, exec .tapTrstN s = .next t ∧ t.test = { s.test with
      ir := 0x01, drives := false, ctl := .testLogicReset, pass := false, passSet := false }) ∧
    (∃ t, exec .testLogicReset s = .next t ∧ t.test.ir = 0x01 ∧ t.test.ctl = .testLogicReset ∧ t.test.drives = false ∧
      t.test.pass = s.test.pass ∧ t.test.passSet = s.test.passSet) ∧
    (∃ u, exec .idcode s = .next (s.start.finishLight u) ∧ s.test.Scanned u.test 0x01 .updateDr ∧
      u.out = [.tapIr s.irCapture, .tapCapture 0x5E0DC1ED]) ∧
    (∃ u, exec .bypass s = .next (s.start.finishLight u) ∧ s.test.Scanned u.test 0xFF .updateDr ∧
      u.out = [.tapIr s.irCapture, .tapCapture 0]) ∧
    (∀ pads cells, ∃ u, exec (.sample pads cells) s = .next (s.start.finishLight u) ∧ s.test.Scanned u.test 0x02 .updateDr ∧
      u.out = [.tapIr s.irCapture, .tapCells (s.captureCells pads)] ∧
      u.test.cells = if s.tstOn then cells.filter (fun k => k < s.boundaryLen) else []) ∧
    (∀ pads cells, ∃ t, exec (.extest pads cells) s = .next t ∧ t.test.ir = 0x00 ∧ t.test.ctl = .updateDr ∧ t.test.pass = s.test.passSet ∧
      t.test.drives = s.allGreen true ∧ t.test.cells = if s.tstOn then cells.filter (fun k => k < s.boundaryLen) else []) ∧
    (∀ v, ∃ u, exec (.pcfg v) s = .next (s.start.finishLight u) ∧ s.test.Scanned u.test 0x04 .updateDr ∧
      u.out = [.tapIr s.irCapture, .tapCapture (b2n s.test.passSet)] ∧ u.test.passSet = (s.toward && v)) ∧
    (s.flag 0x7004 1 = true → s.flag 0x7004 0 = false → ∃ u, exec .scan s = .next (s.start.finishLight u) ∧
      s.test.Scanned u.test 0x10 .updateIr ∧ u.out = [.tapIr s.irCapture] ∧ u.raised = [] ∧ u.flag 0x7004 2 = true ∧
      u.flag 0x7004 3 = true) ∧
    (s.flag 0x7004 1 = false ∨ s.flag 0x7004 0 = true → ∃ u, exec .scan s = .next (s.start.finishLight u) ∧
      s.test.Scanned u.test 0x10 .updateDr ∧ u.out = [.tapIr s.irCapture, .tapCapture 0] ∧ u.raised = [⟨0x0A42, 0, 0, false, 0⟩] ∧
      u.flag 0x7004 2 = s.flag 0x7004 2 ∧ u.flag 0x7004 3 = false ∧ u.flag 0x7014 0 = true)

/-- R577: a wash begins at a descriptor, a register write or a test port instruction; a start in a wash joins it, and one in RST_CFG_N is held
until its release. R576, R578 to R580: it ends its wait and, once the domains it needs are up or one is lost, ends with the memories of R576
zero: WASHED, or under code 0x0A41 and WASHED only where SCANNED is set, which is the model's choice (log entry 193); RELEASE clears WASHED
unless SCANNED is set. -/
def Obligations.WashStartsAndEnds : Prop :=
  (∀ (s : State), s.aonHeld = false → s.cfgHeld = false → s.test.wash = none →
    (∀ d, ∃ t w, exec (.washStart d) s = .next t ∧ t.test.wash = some w ∧ w.Fresh s []) ∧
    (∃ t w, exec .tapWash s = .next t ∧ t.test.wash = some w ∧ w.Fresh s [] ∧ t.test.ir = 0x08)) ∧
  (∀ (s : State) (w : Wash), s.aonHeld = false → s.cfgHeld = false → s.test.wash = some w →
    (∀ d, ∃ t, exec (.washStart d) s = .next t ∧ t.test.wash = some w) ∧ (∃ t, exec .tapWash s = .next t ∧ t.test.wash = some w)) ∧
  (∀ (s : State), s.aonHeld = false → s.cfgHeld = true →
    (∀ d, ∃ t, exec (.washStart d) s = .next t ∧ t.test.held = true ∧ t.test.wash = s.test.wash) ∧
    (∃ t, exec .tapWash s = .next t ∧ t.test.held = true ∧ t.test.wash = s.test.wash) ∧
    (s.test.held = true → s.test.wash = none → ∃ t w, exec .rstCfgNRelease s = .next t ∧ t.test.wash = some w ∧ w.Fresh s [])) ∧
  (∀ (s : State) (p : Nat) (e : List Byte), s.cfgUp = true → s.nextEntry = some (p, e) → byteAt e 0 = 0x61 →
    reservedByte 0 headerMask e = none →
    (s.test.wash = none → ∃ t w, exec .wash s = .next t ∧ t.test.wash = some w ∧ w.Fresh s [s.nextDesc]) ∧
    (∀ w, s.test.wash = some w → ∃ t, exec .wash s = .next t ∧ t.test.wash = some { w with descs := w.descs ++ [s.nextDesc] })) ∧
  (∀ (s : State) (d : Word), s.aonHeld = false → d.getLsbD 0 = false → exec (.washRelease d) s = .next (s.start.finish
    (if s.flag 0x7004 2 then s.start else s.start.setFlag 0x7004 1 false))) ∧
  (∀ (s : State) (w : Wash), s.aonHeld = false → s.test.wash = some w → w.waiting = true → ∃ t, exec .washAckWaitEnd s = .next t ∧
    t.test.wash = some { w with waiting := false }) ∧
  (∀ (s : State) (w : Wash) (fail : Bool) (memory word : Nat), s.aonHeld = false → s.test.wash = some w →
    ((w.waiting = true ∧ s.washWaits = true) ∨ s.washUp w = false → exec (.washDone fail memory word) s = .next (s.start.finish s.start)) ∧
    (w.waiting = false ∨ s.washWaits = false → s.washUp w = true → ∃ u t, exec (.washDone fail memory word) s = .next t ∧
      t = s.start.finish u ∧ t.test.wash = none ∧ u.Washed ∧ u.flag 0x7004 0 = false ∧ u.flag 0x7004 2 = s.flag 0x7004 2 ∧
      (fail = false → w.lost = false → u.flag 0x7004 1 = true ∧ u.raised = [⟨0x0A40, 0, 0, false, 0⟩]) ∧
      (fail = true ∨ w.lost = true → u.flag 0x7004 1 = s.flag 0x7004 2 ∧ u.flag 0x7014 3 = true ∧
        u.raised = [⟨0x0A41, if w.lost then 15 else memory, if w.lost then 0 else word, false, 0⟩])))
/-! ## The whole block -/

/-- A step takes the command at the front of the queue and runs it with the queue's rest. On an empty queue one LCLK cycle passes, which is
the model's choice (log entry 1), unless the AON reset holds the firing count. -/
def Obligations.StepRunsTheFrontCommand : Prop :=
  (∀ (s : State) (c : Instr) (cs : List Instr), s.pending = c :: cs → step s = exec c { s with pending := cs }) ∧
  (∀ (s : State), s.pending = [] → s.resets.aon = true → step s = .next s) ∧
  (∀ (s : State), s.pending = [] → s.resets.aon = false → s.phase < 4 → step s = .next { s with phase := s.phase + 1 }) ∧
  (∀ (s : State), s.pending = [] → s.resets.aon = false → 4 ≤ s.phase → step s = .next { s with phase := 0, fcount := s.fcount + 1 })

/-- R1, R21, R40, R373, R505, R506: the reset state is that of a block in AON reset, with every register at the value of its table, no stream, no
log record and no waiting command; its build has 256 strands, and what else it holds is as the model chose (log entries 6, 7 and 8); both
invariants hold in it. -/
def Obligations.ResetIsTheStatedState : Prop :=
  State.reset.resets.aon = true ∧ State.reset.irqN = true ∧ State.reset.pdReq = 0 ∧ State.reset.fcount = 0 ∧ State.reset.regs = [] ∧
    State.reset.trusted = false ∧ State.reset.partner = .unknown ∧ State.reset.presence.on = false ∧ State.reset.tx = [] ∧ State.reset.rx = [] ∧
    State.reset.pending = [] ∧ State.reset.strands = List.replicate 256 {} ∧ (∀ x ∈ State.reset.strands, x.state = .greenware) ∧
    State.reset.kiln.records = [] ∧ State.reset.readReg 0 = 0x5E0DC1ED ∧ State.reset.readReg 4 = 3 ∧ State.reset.relMin = 2 ∧
    State.reset.IrqDriven ∧ State.reset.RegsWf

/-- R41, R505, R553: after every step IRQ_N is low exactly while the class F summary bit is set and unmasked outside AON reset, whatever the
command and whatever settles and is logged after it. -/
def Obligations.EveryStepKeepsIrqDriven : Prop :=
  ∀ s t : State, s.IrqDriven → step s = .next t → t.IrqDriven

/-- A command that is well formed for the build ends in a next state, with the queue and the build as it found them; the only other end of a
command is the fault for a unit that the build lacks, which is the model's choice (log entry 5). -/
def Obligations.WellFormedCommandsComplete : Prop :=
  (∀ (c : Instr) (s : State), wellFormed s.build c = true → ∃ t, exec c s = .next t) ∧
  (∀ (c : Instr) (s t : State), exec c s = .next t → t.pending = s.pending ∧ t.build = s.build) ∧
  (∀ (c : Instr) (s : State) (f : Fault), exec c s = .fault f → f = .absentUnit ∧ wellFormed s.build c = false) ∧
  (∀ (c : Instr) (s : State) (r : Refusal), exec c s ≠ .refused r)

/-- What settling and logging never touch, for every command: the pins, straps and resets, time, the power acknowledgements, the acceptance
engine's turn, the station table, keys, cones, the die id, discovery frames, PRESENCE, trust and the test port. A command that lets nothing
else move on, and raises no code and no event, changes nothing but what its own effect says, save that ports offer their next beats and
sideband frames leave by their TYPE (R30, R385), and that registers of a domain in reset or off keep no value but ID_BAD (R592,
log entry 64). -/
def Obligations.SettlingKeeps : Prop :=
  (∀ (s u t : State), t = s.finish u ∨ t = s.finishLight u → t.straps = u.straps ∧ t.resets = u.resets ∧ t.lclkLock = u.lclkLock ∧
    t.lclkHold = u.lclkHold ∧ t.fcount = u.fcount ∧ t.phase = u.phase ∧ t.pdAck = u.pdAck ∧ t.accNext = u.accNext ∧
    t.nextDesc = u.nextDesc ∧ t.stations = u.stations ∧ t.ptIn = u.ptIn ∧ t.keys = u.keys ∧ t.cones = u.cones ∧ t.dieId = u.dieId ∧
    t.early = u.early ∧ t.ready = u.ready ∧ t.presence = u.presence ∧ t.trusted = u.trusted ∧ t.test = u.test) ∧
  (∀ (s u : State), u.raised = [] → u.events = [] →
    s.finishLight u = State.driveIrq (State.heldRegs { u.offerBeats.orderFrames with build := s.build, pending := s.pending }))

/-- R264, R268: a flit is 256 bytes, its header first, its payload from byte 8 and its trailer last; it carries every field of its header, its payload and its trailer, and its own CRC passes. -/
def Obligations.FlitsCarryTheirFields : Prop :=
  (∀ (body : List Byte) (seq ack type : Nat), body.length = 248 → seq < 4096 → ack < 4096 → type < 4 →
    (wholeFlit body seq ack type).length = 256 ∧ crcOk (wholeFlit body seq ack type) = true ∧
    flitTrailer (wholeFlit body seq ack type) = (seq, ack, type) ∧ (wholeFlit body seq ack type).take 248 = body) ∧
  (∀ (f : FlitOut) (stream cells pairs row : Nat) (b : List Byte), f.type < 16 → f.cls < 8 → f.stream < 4096 → f.payload.length ≤ 240 →
    stream < 4096 → cells < 128 → pairs < 4 → row < 4096 → b = flitBody f (some (stream, cells, pairs)) row → b.length = 248 ∧ b.drop 8 = padTo 240 f.payload ∧
    fType b = f.type ∧ fClass b = f.cls ∧ fStream b = f.stream ∧ fFirst b = f.first ∧ fLast b = f.last ∧ fAbort b = f.abort ∧
    fPayload b = f.payload ∧ fCrValid b = true ∧ fCrStream b = stream ∧ fCrCells b = cells ∧ fCrPairs b = pairs ∧ fRow b = row)

/-- R103 to R108, R119, R122: a tensor region decodes to the elements that were packed into it, in every format and every mode, passes the
decoder's checks and is used to its last byte; under SPARSE the scale byte of an elided block is not carried, and is read as 0x00 by the model's
choice (log entry 108). -/
def Obligations.RegionsDecodeToWhatWasPacked : Prop :=
  ∀ (mode f : Nat) (es : List Elem), mode ≤ 3 → f ≤ 0xD → (∀ p ∈ es, p.1 < 256 ∧ p.2 < 2 ^ elemBits f ∧ (isMx f = false → p.1 = 0)) →
    (∀ i, i < es.length → (es.getD i (0, 0)).1 = (es.getD (i / 32 * 32) (0, 0)).1) → (mode = 2 → s24Eligible es = true) →
    decodeRegion mode f es.length (packRegion mode f es) = { elems := (if mode = 1 then
      ((blocksOf es).map (fun b => if zeroBlock b then b.map (fun _ => (0, 0)) else b)).flatten else es), used := (packRegion mode f es).length }

/-- R318, R547, R553: a raised code sets its class bit and its family bit; a VALID record of the same code, unit and INJECTED bit takes the present
time and counts up by one and by the further occurrences that came with it; otherwise a record is made at the lowest free index, with COUNT 1
and those, the present time and the next SEQ. -/
def Obligations.LoggedCodesMakeOrUpdateRecords : Prop :=
  ∀ (s : State) (g : Logged) (r : Raised), g.state = s → r.code < 0x1000 →
    ((logOne false g r).state.flag 0x3804 (codeClass r.code) = true ∧ (logOne false g r).state.flag 0x3804 (15 + r.code / 256) = true) ∧
    (s.cfgUp = true → ∀ i old, s.kiln.find r = some (i, old) → ∃ new,
      lookupKey i (logOne false g r).state.kiln.records = some new ∧ new.code = old.code ∧ new.unit = old.unit ∧ new.first = old.first ∧
      new.seq = old.seq ∧ new.last = s.now ∧ new.count = min (old.count + 1 + r.more) 65535) ∧
    (s.cfgUp = true → s.kiln.find r = none → ∀ i, i < 64 → lookupKey i s.kiln.records = none →
      (∀ j < i, (lookupKey j s.kiln.records).isSome = true) → ∃ new, lookupKey i (logOne false g r).state.kiln.records = some new ∧
        new.code = r.code ∧ new.unit = r.unit ∧ new.injected = r.injected ∧ new.data = r.data ∧ new.count = min (1 + r.more) 65535 ∧ new.first = s.now ∧
        new.last = s.now ∧ new.seq = s.kiln.nextSeq)
end

