-- ==== Sys2Proof/Laws/Ops.lean ====
section
/-! SUPPORT. Numbers, bit fields, bytes and lists: what the named operations of `Machine/Ops.lean` answer. -/

namespace Sys2Proof.Machine

/-! ## Bit fields -/

theorem bits_testBit (v hi lo i : Nat) : (bits v hi lo).testBit i = (decide (i < hi - lo + 1) && v.testBit (lo + i)) := by
  simp [bits, Nat.testBit_mod_two_pow, Nat.testBit_shiftRight]

theorem bits_lt (v hi lo : Nat) : bits v hi lo < 2 ^ (hi - lo + 1) := Nat.mod_lt _ (by positivity)

/-- A field cut out of a number leaves the part above it and the part below it. -/
theorem bits_split (v hi lo : Nat) (h : lo ≤ hi) :
    v = 2 ^ (hi + 1) * (v >>> (hi + 1)) + bits v hi lo <<< lo + v % 2 ^ lo := by
  have h1 : v = 2 ^ lo * (v >>> lo) + v % 2 ^ lo := by
    rw [Nat.shiftRight_eq_div_pow]; exact (Nat.div_add_mod v (2 ^ lo)).symm
  have h2 : v >>> lo = 2 ^ (hi - lo + 1) * (v >>> (hi + 1)) + bits v hi lo := by
    have : v >>> (hi + 1) = (v >>> lo) >>> (hi - lo + 1) := by
      rw [← Nat.shiftRight_add]; congr 1; omega
    rw [this, bits, Nat.shiftRight_eq_div_pow (v >>> lo)]; exact (Nat.div_add_mod _ _).symm
  have h3 : 2 ^ lo * 2 ^ (hi - lo + 1) = 2 ^ (hi + 1) := by rw [← pow_add]; congr 1; omega
  calc v = 2 ^ lo * (v >>> lo) + v % 2 ^ lo := h1
    _ = 2 ^ lo * (2 ^ (hi - lo + 1) * (v >>> (hi + 1)) + bits v hi lo) + v % 2 ^ lo := by rw [← h2]
    _ = 2 ^ (hi + 1) * (v >>> (hi + 1)) + bits v hi lo <<< lo + v % 2 ^ lo := by
      rw [Nat.mul_add, ← Nat.mul_assoc, h3, Nat.shiftLeft_eq, Nat.mul_comm (bits v hi lo)]

/-- What `setBits` writes, in three parts. -/
theorem setBits_eq (v hi lo x : Nat) (h : lo ≤ hi) :
    setBits v hi lo x = 2 ^ (hi + 1) * (v >>> (hi + 1)) + (2 ^ lo * (x % 2 ^ (hi - lo + 1)) + v % 2 ^ lo) := by
  have e := bits_split v hi lo h
  have hx : (x % 2 ^ (hi - lo + 1)) <<< lo = 2 ^ lo * (x % 2 ^ (hi - lo + 1)) := by rw [Nat.shiftLeft_eq, Nat.mul_comm]
  unfold setBits
  rw [hx]
  generalize v >>> (hi + 1) = a at *
  generalize bits v hi lo <<< lo = b at *
  generalize v % 2 ^ lo = c at *
  generalize 2 ^ (hi + 1) * a = d at *
  omega

/-- A field that is written reads as written, and the other bits as before. -/
theorem setBits_testBit (v hi lo x i : Nat) (h : lo ≤ hi) :
    (setBits v hi lo x).testBit i = if lo ≤ i ∧ i ≤ hi then x.testBit (i - lo) else v.testBit i := by
  have hm : 2 ^ lo * (x % 2 ^ (hi - lo + 1)) + v % 2 ^ lo < 2 ^ (hi + 1) := by
    have h1 := Nat.mod_lt x (show 0 < 2 ^ (hi - lo + 1) by positivity)
    have h2 := Nat.mod_lt v (show 0 < 2 ^ lo by positivity)
    have h3 : 2 ^ lo * 2 ^ (hi - lo + 1) = 2 ^ (hi + 1) := by rw [← pow_add]; congr 1; omega
    have h4 : 2 ^ lo * (x % 2 ^ (hi - lo + 1)) + 2 ^ lo ≤ 2 ^ lo * 2 ^ (hi - lo + 1) := by
      rw [← Nat.mul_succ]; exact Nat.mul_le_mul_left _ h1
    omega
  rw [setBits_eq v hi lo x h, Nat.testBit_two_pow_mul_add _ hm]
  by_cases h1 : i < hi + 1
  · rw [if_pos h1, Nat.testBit_two_pow_mul_add _ (Nat.mod_lt v (by positivity))]
    by_cases h2 : i < lo
    · rw [if_pos h2, if_neg (by omega), Nat.testBit_mod_two_pow]; simp [h2]
    · rw [if_neg h2, if_pos (by omega), Nat.testBit_mod_two_pow]; simp; omega
  · rw [if_neg h1, if_neg (by omega), Nat.testBit_shiftRight]; congr 1; omega

theorem bits_setBits_same (v hi lo x : Nat) (h : lo ≤ hi) : bits (setBits v hi lo x) hi lo = x % 2 ^ (hi - lo + 1) := by
  apply Nat.eq_of_testBit_eq; intro i
  rw [bits_testBit, setBits_testBit _ _ _ _ _ h, Nat.testBit_mod_two_pow]
  by_cases hi' : i < hi - lo + 1
  · rw [if_pos (by omega)]; simp [hi']
  · simp [hi']

/-- A field apart from the one written stays. -/
theorem bits_setBits_other (v hi lo x hi' lo' : Nat) (h : lo ≤ hi) (h' : lo' ≤ hi') (d : hi < lo' ∨ hi' < lo) :
    bits (setBits v hi lo x) hi' lo' = bits v hi' lo' := by
  apply Nat.eq_of_testBit_eq; intro i
  rw [bits_testBit, bits_testBit, setBits_testBit _ _ _ _ _ h]
  by_cases hb : i < hi' - lo' + 1
  · rw [if_neg (by omega)]
  · simp [hb]

theorem setBits_lt (v hi lo x n : Nat) (h : lo ≤ hi) (hn : hi < n) (hv : v < 2 ^ n) : setBits v hi lo x < 2 ^ n := by
  apply Nat.lt_pow_two_of_testBit; intro i hi'
  rw [setBits_testBit _ _ _ _ _ h, if_neg (by omega)]
  exact Nat.testBit_lt_two_pow (lt_of_lt_of_le hv (Nat.pow_le_pow_right (by omega) hi'))

@[simp] theorem b2n_false : b2n false = 0 := rfl
@[simp] theorem b2n_true : b2n true = 1 := rfl
theorem b2n_lt (b : Bool) : b2n b < 2 := by cases b <;> decide

/-! ## Bytes -/

theorem toLe_length (k v : Nat) : (toLe k v).length = k := by
  induction k generalizing v with
  | zero => rfl
  | succ k ih => simp [toLe, ih]

/-- Little-endian bytes spell the number again (R3). -/
theorem leNat_toLe (k v : Nat) : leNat (toLe k v) = v % 2 ^ (8 * k) := by
  induction k generalizing v with
  | zero => simp [toLe, leNat, Nat.mod_one]
  | succ k ih =>
    have e : 2 ^ (8 * (k + 1)) = 256 * 2 ^ (8 * k) := by rw [Nat.mul_add, pow_add, Nat.mul_comm]; norm_num
    rw [toLe, leNat, ih, e, Nat.mod_mul]; simp

theorem leNat_lt (bs : List Byte) : leNat bs < 2 ^ (8 * bs.length) := by
  induction bs with
  | nil => simp [leNat]
  | cons b bs ih =>
    have e : 2 ^ (8 * (b :: bs).length) = 256 * 2 ^ (8 * bs.length) := by
      rw [List.length_cons, Nat.mul_add, pow_add, Nat.mul_comm]; norm_num
    have hb : b.toNat < 256 := b.isLt
    rw [leNat, e]; omega

/-- The bytes of a number that bytes spell are those bytes. -/
theorem toLe_leNat (bs : List Byte) : toLe bs.length (leNat bs) = bs := by
  induction bs with
  | nil => rfl
  | cons b bs ih =>
    have hb : b.toNat < 256 := b.isLt
    have h1 : (b.toNat + 256 * leNat bs) / 256 = leNat bs := by omega
    have h2 : BitVec.ofNat 8 (b.toNat + 256 * leNat bs) = b := by
      apply BitVec.eq_of_toNat_eq; simp; omega
    rw [List.length_cons, leNat, toLe, h1, h2, ih]

theorem zeros_length (k : Nat) : (zeros k).length = k := by simp [zeros]

theorem padTo_length (k : Nat) (bs : List Byte) : (padTo k bs).length = k := by
  simp [padTo, zeros]; omega

theorem padTo_self (bs : List Byte) : padTo bs.length bs = bs := by simp [padTo, zeros]

/-! ## Lists of records -/

theorem modAt_length {α : Type} (f : α → α) (i : Nat) (l : List α) : (modAt f i l).length = l.length := by
  induction l generalizing i with
  | nil => cases i <;> rfl
  | cons a l ih => cases i <;> simp [modAt, ih]

/-- The named record is replaced, and every other one stays. -/
theorem modAt_getElem? {α : Type} (f : α → α) (i k : Nat) (l : List α) :
    (modAt f i l)[k]? = if k = i then l[k]?.map f else l[k]? := by
  induction l generalizing i k with
  | nil => cases i <;> simp [modAt]
  | cons a l ih =>
    cases i with
    | zero => cases k <;> simp [modAt]
    | succ i => cases k with
      | zero => simp [modAt]
      | succ k => simp [modAt, ih]

@[simp] theorem lookupKey_insertKey_same {β : Type} (k : Nat) (v : β) (l : List (Nat × β)) : lookupKey k (insertKey k v l) = some v := by
  induction l with
  | nil => simp [insertKey, lookupKey]
  | cons p l ih =>
    unfold insertKey
    split
    · rename_i h; rw [lookupKey, if_neg (by omega), ih]
    · split <;> simp [lookupKey]

theorem lookupKey_insertKey_other {β : Type} (k j : Nat) (v : β) (l : List (Nat × β)) (h : j ≠ k) :
    lookupKey j (insertKey k v l) = lookupKey j l := by
  induction l with
  | nil => simp [insertKey, lookupKey, Ne.symm h]
  | cons p l ih =>
    unfold insertKey
    split
    · simp only [lookupKey, ih]
    · split
      · rename_i h1 h2; simp only [lookupKey, h2, Ne.symm h, if_false]
      · simp only [lookupKey, Ne.symm h, if_false]

theorem eraseKey_cons {β : Type} (k : Nat) (p : Nat × β) (l : List (Nat × β)) :
    eraseKey k (p :: l) = if p.1 = k then eraseKey k l else p :: eraseKey k l := by
  by_cases h : p.1 = k <;> simp [eraseKey, h]

@[simp] theorem lookupKey_eraseKey_same {β : Type} (k : Nat) (l : List (Nat × β)) : lookupKey k (eraseKey k l) = none := by
  induction l with
  | nil => rfl
  | cons p l ih =>
    rw [eraseKey_cons]
    split
    · exact ih
    · rename_i h; rw [lookupKey, if_neg h, ih]

theorem lookupKey_eraseKey_other {β : Type} (k j : Nat) (l : List (Nat × β)) (h : j ≠ k) :
    lookupKey j (eraseKey k l) = lookupKey j l := by
  induction l with
  | nil => rfl
  | cons p l ih =>
    rw [eraseKey_cons]
    split
    · rename_i h1; rw [ih, lookupKey, if_neg (by omega)]
    · simp only [lookupKey, ih]

theorem insertKey_mem {β : Type} (k : Nat) (v : β) (l : List (Nat × β)) (p : Nat × β) (h : p ∈ insertKey k v l) :
    p = (k, v) ∨ p ∈ l := by
  induction l with
  | nil => simpa [insertKey] using h
  | cons q l ih =>
    unfold insertKey at h
    split at h
    · rcases List.mem_cons.mp h with h | h
      · exact .inr (List.mem_cons.mpr (.inl h))
      · rcases ih h with h | h
        · exact .inl h
        · exact .inr (List.mem_cons.mpr (.inr h))
    · split at h
      · rcases List.mem_cons.mp h with h | h
        · exact .inl h
        · exact .inr (List.mem_cons.mpr (.inr h))
      · rcases List.mem_cons.mp h with h | h
        · exact .inl h
        · exact .inr h

theorem insertKey_rising {β : Type} (k : Nat) (v : β) (l : List (Nat × β)) (h : Rising l) : Rising (insertKey k v l) := by
  induction l with
  | nil => simp [insertKey, Rising]
  | cons q l ih =>
    have hq := List.pairwise_cons.mp h
    unfold insertKey
    split
    · rename_i h1
      refine List.pairwise_cons.mpr ⟨fun p hp => ?_, ih hq.2⟩
      rcases insertKey_mem k v l p hp with rfl | hp
      · exact h1
      · exact hq.1 p hp
    · split
      · rename_i h1 h2
        exact List.pairwise_cons.mpr ⟨fun p hp => by have := hq.1 p hp; simp only; omega, hq.2⟩
      · refine List.pairwise_cons.mpr ⟨fun p hp => ?_, h⟩
        rcases List.mem_cons.mp hp with rfl | hp
        · simp only; omega
        · have := hq.1 p hp; simp only; omega

theorem eraseKey_rising {β : Type} (k : Nat) (l : List (Nat × β)) (h : Rising l) : Rising (eraseKey k l) := List.Pairwise.filter _ h

/-! ## Iteration -/

/-- What every round of an iteration keeps, the iteration keeps. -/
theorem forEach_keeps {α β : Type} (P : α → Prop) (l : List β) (f : β → α → α) (a : α) (h : ∀ b x, P x → P (f b x)) (ha : P a) :
    P (forEach l f a) := by
  unfold forEach
  induction l generalizing a with
  | nil => exact ha
  | cons b l ih => exact ih _ (h b a ha)

theorem forRange_keeps {α : Type} (P : α → Prop) (n : Nat) (f : Nat → α → α) (a : α) (h : ∀ i x, P x → P (f i x)) (ha : P a) :
    P (forRange n f a) := by
  have := forEach_keeps P (List.range n) f a h ha
  simpa [forEach, forRange] using this

@[simp] theorem forEach_nil {α β : Type} (f : β → α → α) (a : α) : forEach [] f a = a := rfl

@[simp] theorem forEach_cons {α β : Type} (b : β) (l : List β) (f : β → α → α) (a : α) :
    forEach (b :: l) f a = forEach l f (f b a) := rfl

end Sys2Proof.Machine
end

