-- ==== Sys2Proof/Laws/PerInstr.lean ====
section
/-! SUPPORT. What it says of a command that it is well formed: every number that it names lies within the build's limits. -/

namespace Sys2Proof

/-- Well-formedness of a command is that each number it names lies below its limit. -/
theorem wellFormed_iff (b : Build) (i : Instr) : wellFormed b i = true ↔ ∀ p ∈ unitLimits b i, p.1 < p.2 := by
  simp [wellFormed]

/-- The per-command statement: in any build, the command is well formed exactly when the units that it names exist. -/
def Laws.WellFormed.Statement (i : Instr) : Prop :=
  ∀ b : Build, wellFormed b i = true ↔ ∀ p ∈ unitLimits b i, p.1 < p.2

end Sys2Proof

namespace Sys2Proof.Laws.WellFormed

theorem rstAonNAssert : Statement .rstAonNAssert := fun b => wellFormed_iff b _
theorem rstAonNRelease (slotId : BitVec 5) (feedTag : BitVec 8) (pkgRole : BitVec 2) : Statement (.rstAonNRelease slotId feedTag pkgRole) := fun b => wellFormed_iff b _
theorem rstCfgNAssert : Statement .rstCfgNAssert := fun b => wellFormed_iff b _
theorem rstCfgNRelease : Statement .rstCfgNRelease := fun b => wellFormed_iff b _
theorem rstLinkNAssert : Statement .rstLinkNAssert := fun b => wellFormed_iff b _
theorem rstLinkNRelease : Statement .rstLinkNRelease := fun b => wellFormed_iff b _
theorem rstCoreNAssert : Statement .rstCoreNAssert := fun b => wellFormed_iff b _
theorem rstCoreNRelease : Statement .rstCoreNRelease := fun b => wellFormed_iff b _
theorem pdAckRise (domain : Nat) : Statement (.pdAckRise domain) := fun b => wellFormed_iff b _
theorem pdAckFall (domain : Nat) : Statement (.pdAckFall domain) := fun b => wellFormed_iff b _
theorem pdAckLost (domain : Nat) : Statement (.pdAckLost domain) := fun b => wellFormed_iff b _
theorem pwrWarnRise : Statement .pwrWarnRise := fun b => wellFormed_iff b _
theorem pwrWarnFall : Statement .pwrWarnFall := fun b => wellFormed_iff b _
theorem brownoutFlushTimeout : Statement .brownoutFlushTimeout := fun b => wellFormed_iff b _
theorem lclkLockLoss : Statement .lclkLockLoss := fun b => wellFormed_iff b _
theorem lclkLockSettled : Statement .lclkLockSettled := fun b => wellFormed_iff b _
theorem stIBeat (port : Nat) (side : BitVec 128) (data : List Byte) : Statement (.stIBeat port side data) := fun b => wellFormed_iff b _
theorem stOBeat (port : Nat) : Statement (.stOBeat port) := fun b => wellFormed_iff b _
theorem popRequest (port : Nat) (stream : Nat) (mb : Nat) (dir : Nat) : Statement (.popRequest port stream mb dir) := fun b => wellFormed_iff b _
theorem ptIBeat (vc : Nat) (sop : Bool) (eop : Bool) (data : List Byte) : Statement (.ptIBeat vc sop eop data) := fun b => wellFormed_iff b _
theorem ptOBeat (vc : Nat) : Statement (.ptOBeat vc) := fun b => wellFormed_iff b _
theorem memRdData (request : Nat) (data : List Byte) (err : Bool) : Statement (.memRdData request data err) := fun b => wellFormed_iff b _
theorem memWack (request : Nat) (err : Bool) : Statement (.memWack request err) := fun b => wellFormed_iff b _
theorem hmWatch (line : Nat) : Statement (.hmWatch line) := fun b => wellFormed_iff b _
theorem doorbellReadDone (pair : Nat) (data : List Byte) (err : Bool) : Statement (.doorbellReadDone pair data err) := fun b => wellFormed_iff b _
theorem submissionFetchDone (pair : Nat) (data : List Byte) (err : Bool) : Statement (.submissionFetchDone pair data err) := fun b => wellFormed_iff b _
theorem hmReadDone (request : Nat) (data : List Byte) (err : Bool) : Statement (.hmReadDone request data err) := fun b => wellFormed_iff b _
theorem completionAck (request : Nat) (err : Bool) : Statement (.completionAck request err) := fun b => wellFormed_iff b _
theorem hmWriteAck (request : Nat) (err : Bool) : Statement (.hmWriteAck request err) := fun b => wellFormed_iff b _
theorem nvResponse (rdata : BitVec 64) (err : Bool) : Statement (.nvResponse rdata err) := fun b => wellFormed_iff b _
theorem heatInFrame (frame : Nat) : Statement (.heatInFrame frame) := fun b => wellFormed_iff b _
theorem heatInStale : Statement .heatInStale := fun b => wellFormed_iff b _
theorem registerWrite (offset : Nat) (data : BitVec 32) : Statement (.registerWrite offset data) := fun b => wellFormed_iff b _
theorem fcountLoRead : Statement .fcountLoRead := fun b => wellFormed_iff b _
theorem shadowLoRead (offset : Nat) : Statement (.shadowLoRead offset) := fun b => wellFormed_iff b _
theorem stopFetch (data : BitVec 32) : Statement (.stopFetch data) := fun b => wellFormed_iff b _
theorem holdI (data : BitVec 32) : Statement (.holdI data) := fun b => wellFormed_iff b _
theorem ringEnable (pair : Nat) (data : BitVec 32) : Statement (.ringEnable pair data) := fun b => wellFormed_iff b _
theorem ringDisable (pair : Nat) (data : BitVec 32) : Statement (.ringDisable pair data) := fun b => wellFormed_iff b _
theorem ringPoll (pair : Nat) : Statement (.ringPoll pair) := fun b => wellFormed_iff b _
theorem irqModTimeout (pair : Nat) : Statement (.irqModTimeout pair) := fun b => wellFormed_iff b _
theorem nop : Statement .nop := fun b => wellFormed_iff b _
theorem fence : Statement .fence := fun b => wellFormed_iff b _
theorem badOpcode : Statement .badOpcode := fun b => wellFormed_iff b _
theorem stationName : Statement .stationName := fun b => wellFormed_iff b _
theorem streamOpen : Statement .streamOpen := fun b => wellFormed_iff b _
theorem streamClose : Statement .streamClose := fun b => wellFormed_iff b _
theorem streamModify : Statement .streamModify := fun b => wellFormed_iff b _
theorem parcelSend : Statement .parcelSend := fun b => wellFormed_iff b _
theorem shelfOpen : Statement .shelfOpen := fun b => wellFormed_iff b _
theorem shelfOpenTimeout (descriptor : Nat) : Statement (.shelfOpenTimeout descriptor) := fun b => wellFormed_iff b _
theorem versionCommit : Statement .versionCommit := fun b => wellFormed_iff b _
theorem versionCommitApply (shelf : Nat) : Statement (.versionCommitApply shelf) := fun b => wellFormed_iff b _
theorem versionRelease : Statement .versionRelease := fun b => wellFormed_iff b _
theorem skewRelease : Statement .skewRelease := fun b => wellFormed_iff b _
theorem drawStart : Statement .drawStart := fun b => wellFormed_iff b _
theorem drawAck : Statement .drawAck := fun b => wellFormed_iff b _
theorem restore : Statement .restore := fun b => wellFormed_iff b _
theorem accumOpen : Statement .accumOpen := fun b => wellFormed_iff b _
theorem scaleSave : Statement .scaleSave := fun b => wellFormed_iff b _
theorem scaleLoad : Statement .scaleLoad := fun b => wellFormed_iff b _
theorem dispatchLoad : Statement .dispatchLoad := fun b => wellFormed_iff b _
theorem calRequest : Statement .calRequest := fun b => wellFormed_iff b _
theorem bistSlice : Statement .bistSlice := fun b => wellFormed_iff b _
theorem bistFull : Statement .bistFull := fun b => wellFormed_iff b _
theorem repairCmd : Statement .repairCmd := fun b => wellFormed_iff b _
theorem logDrain : Statement .logDrain := fun b => wellFormed_iff b _
theorem keyLoad : Statement .keyLoad := fun b => wellFormed_iff b _
theorem wash : Statement .wash := fun b => wellFormed_iff b _
theorem openRequest : Statement .openRequest := fun b => wellFormed_iff b _
theorem openAnswer : Statement .openAnswer := fun b => wellFormed_iff b _
theorem openTimeout (stream : Nat) : Statement (.openTimeout stream) := fun b => wellFormed_iff b _
theorem closeMessage : Statement .closeMessage := fun b => wellFormed_iff b _
theorem closeAnswer : Statement .closeAnswer := fun b => wellFormed_iff b _
theorem modifyMessage : Statement .modifyMessage := fun b => wellFormed_iff b _
theorem demoteMessage : Statement .demoteMessage := fun b => wellFormed_iff b _
theorem flitSlot : Statement .flitSlot := fun b => wellFormed_iff b _
theorem encoderIdleEnd (stream : Nat) : Statement (.encoderIdleEnd stream) := fun b => wellFormed_iff b _
theorem lookaheadGrant (slice : Nat) : Statement (.lookaheadGrant slice) := fun b => wellFormed_iff b _
theorem lookaheadDone (stream : Nat) : Statement (.lookaheadDone stream) := fun b => wellFormed_iff b _
theorem flitAccept (strand : Nat) (flit : List Byte) : Statement (.flitAccept strand flit) := fun b => wellFormed_iff b _
theorem replaySlot (strand : Nat) (flit : List Byte) : Statement (.replaySlot strand flit) := fun b => wellFormed_iff b _
theorem ackTimeout (strand : Nat) : Statement (.ackTimeout strand) := fun b => wellFormed_iff b _
theorem credFlitDue : Statement .credFlitDue := fun b => wellFormed_iff b _
theorem xreplay : Statement .xreplay := fun b => wellFormed_iff b _
theorem serviceMessage : Statement .serviceMessage := fun b => wellFormed_iff b _
theorem mergeRelease : Statement .mergeRelease := fun b => wellFormed_iff b _
theorem parcelHeadReceive : Statement .parcelHeadReceive := fun b => wellFormed_iff b _
theorem parcelBodyReceive : Statement .parcelBodyReceive := fun b => wellFormed_iff b _
theorem passReceive : Statement .passReceive := fun b => wellFormed_iff b _
theorem queueStall (stream : Nat) : Statement (.queueStall stream) := fun b => wellFormed_iff b _
theorem sourceScatter (stream : Nat) : Statement (.sourceScatter stream) := fun b => wellFormed_iff b _
theorem holdExpired (table : Nat) : Statement (.holdExpired table) := fun b => wellFormed_iff b _
theorem sourceCombine (stream : Nat) : Statement (.sourceCombine stream) := fun b => wellFormed_iff b _
theorem chunkOk : Statement .chunkOk := fun b => wellFormed_iff b _
theorem chunkBad : Statement .chunkBad := fun b => wellFormed_iff b _
theorem drawAckTimeout (draw : Nat) : Statement (.drawAckTimeout draw) := fun b => wellFormed_iff b _
theorem relMinWrite (data : BitVec 32) : Statement (.relMinWrite data) := fun b => wellFormed_iff b _
theorem capEnWrite (data : BitVec 32) : Statement (.capEnWrite data) := fun b => wellFormed_iff b _
theorem frameBoundary (coreCycles : Nat) (fabCycles : Nat) (cfgCycles : Nat) (aonCycles : Nat) (trk : List Nat) (lanes : List (Nat × Nat)) : Statement (.frameBoundary coreCycles fabCycles cfgCycles aonCycles trk lanes) := fun b => wellFormed_iff b _
theorem fReleaseRow : Statement .fReleaseRow := fun b => wellFormed_iff b _
theorem fwdClkStop (strands : List Nat) : Statement (.fwdClkStop strands) := fun b => wellFormed_iff b _
theorem fwdClkLane (strand : Nat) : Statement (.fwdClkLane strand) := fun b => wellFormed_iff b _
theorem vldLaneFail (strand : Nat) : Statement (.vldLaneFail strand) := fun b => wellFormed_iff b _
theorem trkDrift (strand : Nat) : Statement (.trkDrift strand) := fun b => wellFormed_iff b _
theorem presenceWindow (edges : Nat) : Statement (.presenceWindow edges) := fun b => wellFormed_iff b _
theorem termEnWrite (data : BitVec 32) : Statement (.termEnWrite data) := fun b => wellFormed_iff b _
theorem sbFrameDiscard : Statement .sbFrameDiscard := fun b => wellFormed_iff b _
theorem linkReady (payload : List Byte) : Statement (.linkReady payload) := fun b => wellFormed_iff b _
theorem linkReadySend : Statement .linkReadySend := fun b => wellFormed_iff b _
theorem bqStep (payload : List Byte) : Statement (.bqStep payload) := fun b => wellFormed_iff b _
theorem bisqueStart : Statement .bisqueStart := fun b => wellFormed_iff b _
theorem bisqueStepDone (lanes : List LaneMeas) : Statement (.bisqueStepDone lanes) := fun b => wellFormed_iff b _
theorem bisqueTimeout : Statement .bisqueTimeout := fun b => wellFormed_iff b _
theorem bisqueRestart : Statement .bisqueRestart := fun b => wellFormed_iff b _
theorem bisqueFlitSlot : Statement .bisqueFlitSlot := fun b => wellFormed_iff b _
theorem timeMessage (registered : Nat) : Statement (.timeMessage registered) := fun b => wellFormed_iff b _
theorem timeWait : Statement .timeWait := fun b => wellFormed_iff b _
theorem timeAdjust : Statement .timeAdjust := fun b => wellFormed_iff b _
theorem wedgeStart (group : Nat) : Statement (.wedgeStart group) := fun b => wellFormed_iff b _
theorem wedgeStepDone (strand : Nat) (fail : Bool) (lanes : List LaneMeas) : Statement (.wedgeStepDone strand fail lanes) := fun b => wellFormed_iff b _
theorem stepMessage : Statement .stepMessage := fun b => wellFormed_iff b _
theorem vrefEye : Statement .vrefEye := fun b => wellFormed_iff b _
theorem wedgeFailTimeout (strand : Nat) : Statement (.wedgeFailTimeout strand) := fun b => wellFormed_iff b _
theorem calIntervalDue (strand : Nat) : Statement (.calIntervalDue strand) := fun b => wellFormed_iff b _
theorem calSchedule : Statement .calSchedule := fun b => wellFormed_iff b _
theorem calMessage : Statement .calMessage := fun b => wellFormed_iff b _
theorem calRunDone (first : List LaneMeas) (second : List LaneMeas) : Statement (.calRunDone first second) := fun b => wellFormed_iff b _
theorem calBudgetTimeout : Statement .calBudgetTimeout := fun b => wellFormed_iff b _
theorem calIdleApply : Statement .calIdleApply := fun b => wellFormed_iff b _
theorem calVerifyDone (strand : Nat) (ok : Bool) : Statement (.calVerifyDone strand ok) := fun b => wellFormed_iff b _
theorem repairSum (payload : List Byte) : Statement (.repairSum payload) := fun b => wellFormed_iff b _
theorem repairRec (payload : List Byte) : Statement (.repairRec payload) := fun b => wellFormed_iff b _
theorem repairSvc (payload : List Byte) : Statement (.repairSvc payload) := fun b => wellFormed_iff b _
theorem repairSumResend : Statement .repairSumResend := fun b => wellFormed_iff b _
theorem repairSweepDone (strand : Nat) (lanes : List LaneMeas) : Statement (.repairSweepDone strand lanes) := fun b => wellFormed_iff b _
theorem fillDone (strand : Nat) (group : Nat) (lanes : List LaneMeas) : Statement (.fillDone strand group lanes) := fun b => wellFormed_iff b _
theorem fillTimeout (strand : Nat) (group : Nat) : Statement (.fillTimeout strand group) := fun b => wellFormed_iff b _
theorem repairTimeout (strand : Nat) : Statement (.repairTimeout strand) := fun b => wellFormed_iff b _
theorem earlyId (payload : List Byte) : Statement (.earlyId payload) := fun b => wellFormed_iff b _
theorem earlyIdSend : Statement .earlyIdSend := fun b => wellFormed_iff b _
theorem identMessage : Statement .identMessage := fun b => wellFormed_iff b _
theorem agreeMessage : Statement .agreeMessage := fun b => wellFormed_iff b _
theorem agreeTimeout : Statement .agreeTimeout := fun b => wellFormed_iff b _
theorem attChal : Statement .attChal := fun b => wellFormed_iff b _
theorem attResp : Statement .attResp := fun b => wellFormed_iff b _
theorem attTimeout : Statement .attTimeout := fun b => wellFormed_iff b _
theorem topoMessage : Statement .topoMessage := fun b => wellFormed_iff b _
theorem pkgMessage : Statement .pkgMessage := fun b => wellFormed_iff b _
theorem postWrite (data : BitVec 32) : Statement (.postWrite data) := fun b => wellFormed_iff b _
theorem topoClr (data : BitVec 32) : Statement (.topoClr data) := fun b => wellFormed_iff b _
theorem reneg (data : BitVec 32) : Statement (.reneg data) := fun b => wellFormed_iff b _
theorem dieKindWrite (data : BitVec 32) : Statement (.dieKindWrite data) := fun b => wellFormed_iff b _
theorem pkgWrite (data : BitVec 32) : Statement (.pkgWrite data) := fun b => wellFormed_iff b _
theorem attRetry (data : BitVec 32) : Statement (.attRetry data) := fun b => wellFormed_iff b _
theorem saggarLock (data : BitVec 32) : Statement (.saggarLock data) := fun b => wellFormed_iff b _
theorem pulseStart : Statement .pulseStart := fun b => wellFormed_iff b _
theorem pulseFrame (payload : List Byte) : Statement (.pulseFrame payload) := fun b => wellFormed_iff b _
theorem pulseWindowEnd : Statement .pulseWindowEnd := fun b => wellFormed_iff b _
theorem partnerAbsent : Statement .partnerAbsent := fun b => wellFormed_iff b _
theorem downWrite (data : BitVec 32) : Statement (.downWrite data) := fun b => wellFormed_iff b _
theorem pdOffRequest (data : BitVec 32) : Statement (.pdOffRequest data) := fun b => wellFormed_iff b _
theorem parkRequest (data : BitVec 32) : Statement (.parkRequest data) := fun b => wellFormed_iff b _
theorem parkStart (group : Nat) : Statement (.parkStart group) := fun b => wellFormed_iff b _
theorem groupWake (group : Nat) : Statement (.groupWake group) := fun b => wellFormed_iff b _
theorem coneSample (readings : List Nat) : Statement (.coneSample readings) := fun b => wellFormed_iff b _
theorem coneRefDone (cone : Nat) (results : List Nat) : Statement (.coneRefDone cone results) := fun b => wellFormed_iff b _
theorem mmClr (data : BitVec 32) : Statement (.mmClr data) := fun b => wellFormed_iff b _
theorem testMessage : Statement .testMessage := fun b => wellFormed_iff b _
theorem bistSegmentDone (strand : Nat) (measured : List Nat) (units : Nat) (complete : Bool) : Statement (.bistSegmentDone strand measured units complete) := fun b => wellFormed_iff b _
theorem bistSliceEnd : Statement .bistSliceEnd := fun b => wellFormed_iff b _
theorem bistFullDone : Statement .bistFullDone := fun b => wellFormed_iff b _
theorem eccError (memory : Nat) (word : Nat) (wrong : Nat) (object : EccObject) : Statement (.eccError memory word wrong object) := fun b => wellFormed_iff b _
theorem logFree (data : BitVec 32) : Statement (.logFree data) := fun b => wellFormed_iff b _
theorem logFreeAll (data : BitVec 32) : Statement (.logFreeAll data) := fun b => wellFormed_iff b _
theorem injUnlock (data : BitVec 32) : Statement (.injUnlock data) := fun b => wellFormed_iff b _
theorem injArm (data : BitVec 32) : Statement (.injArm data) := fun b => wellFormed_iff b _
theorem injUnlockLapse : Statement .injUnlockLapse := fun b => wellFormed_iff b _
theorem tapTrstN : Statement .tapTrstN := fun b => wellFormed_iff b _
theorem extest (pads : List Nat) (cells : List Nat) : Statement (.extest pads cells) := fun b => wellFormed_iff b _
theorem idcode : Statement .idcode := fun b => wellFormed_iff b _
theorem sample (pads : List Nat) (cells : List Nat) : Statement (.sample pads cells) := fun b => wellFormed_iff b _
theorem pcfg (pass : Bool) : Statement (.pcfg pass) := fun b => wellFormed_iff b _
theorem tapWash : Statement .tapWash := fun b => wellFormed_iff b _
theorem scan : Statement .scan := fun b => wellFormed_iff b _
theorem bypass : Statement .bypass := fun b => wellFormed_iff b _
theorem washStart (data : BitVec 32) : Statement (.washStart data) := fun b => wellFormed_iff b _
theorem washRelease (data : BitVec 32) : Statement (.washRelease data) := fun b => wellFormed_iff b _
theorem washAckWaitEnd : Statement .washAckWaitEnd := fun b => wellFormed_iff b _
theorem washDone (fail : Bool) (memory : Nat) (word : Nat) : Statement (.washDone fail memory word) := fun b => wellFormed_iff b _
theorem bqStepRepeat : Statement .bqStepRepeat := fun b => wellFormed_iff b _
theorem stepRepeat (strand : Nat) : Statement (.stepRepeat strand) := fun b => wellFormed_iff b _
theorem repairSvcRepeat (strand : Nat) : Statement (.repairSvcRepeat strand) := fun b => wellFormed_iff b _
theorem phyPllLock (group : Nat) : Statement (.phyPllLock group) := fun b => wellFormed_iff b _
theorem testLogicReset : Statement .testLogicReset := fun b => wellFormed_iff b _

end Sys2Proof.Laws.WellFormed
end

