-- ==== Sys2Proof/Laws/State.lean ====
section
/-! SUPPORT. What each basic update of the state leaves: one lemma per field and update. -/

namespace Sys2Proof.Machine


/-! ## `State.start` -/

@[simp] theorem State.start_build (s : State) : (s.start).build = s.build := rfl
@[simp] theorem State.start_straps (s : State) : (s.start).straps = s.straps := rfl
@[simp] theorem State.start_resets (s : State) : (s.start).resets = s.resets := rfl
@[simp] theorem State.start_lclkLock (s : State) : (s.start).lclkLock = s.lclkLock := rfl
@[simp] theorem State.start_lclkHold (s : State) : (s.start).lclkHold = s.lclkHold := rfl
@[simp] theorem State.start_fcount (s : State) : (s.start).fcount = s.fcount := rfl
@[simp] theorem State.start_phase (s : State) : (s.start).phase = s.phase := rfl
@[simp] theorem State.start_regs (s : State) : (s.start).regs = s.regs := rfl
@[simp] theorem State.start_pdReq (s : State) : (s.start).pdReq = s.pdReq := rfl
@[simp] theorem State.start_pdAck (s : State) : (s.start).pdAck = s.pdAck := rfl
@[simp] theorem State.start_irqN (s : State) : (s.start).irqN = s.irqN := rfl
@[simp] theorem State.start_kiln (s : State) : (s.start).kiln = s.kiln := rfl
@[simp] theorem State.start_inj (s : State) : (s.start).inj = s.inj := rfl
@[simp] theorem State.start_rings (s : State) : (s.start).rings = s.rings := rfl
@[simp] theorem State.start_accNext (s : State) : (s.start).accNext = s.accNext := rfl
@[simp] theorem State.start_descs (s : State) : (s.start).descs = s.descs := rfl
@[simp] theorem State.start_nextDesc (s : State) : (s.start).nextDesc = s.nextDesc := rfl
@[simp] theorem State.start_fences (s : State) : (s.start).fences = s.fences := rfl
@[simp] theorem State.start_hmReads (s : State) : (s.start).hmReads = s.hmReads := rfl
@[simp] theorem State.start_hmWrites (s : State) : (s.start).hmWrites = s.hmWrites := rfl
@[simp] theorem State.start_memOps (s : State) : (s.start).memOps = s.memOps := rfl
@[simp] theorem State.start_nvOps (s : State) : (s.start).nvOps = s.nvOps := rfl
@[simp] theorem State.start_reqSeq (s : State) : (s.start).reqSeq = s.reqSeq := rfl
@[simp] theorem State.start_stations (s : State) : (s.start).stations = s.stations := rfl
@[simp] theorem State.start_ports (s : State) : (s.start).ports = s.ports := rfl
@[simp] theorem State.start_tx (s : State) : (s.start).tx = s.tx := rfl
@[simp] theorem State.start_rx (s : State) : (s.start).rx = s.rx := rfl
@[simp] theorem State.start_ptIn (s : State) : (s.start).ptIn = s.ptIn := rfl
@[simp] theorem State.start_ptErr (s : State) : (s.start).ptErr = s.ptErr := rfl
@[simp] theorem State.start_arrivals (s : State) : (s.start).arrivals = s.arrivals := rfl
@[simp] theorem State.start_tables (s : State) : (s.start).tables = s.tables := rfl
@[simp] theorem State.start_emptied (s : State) : (s.start).emptied = s.emptied := rfl
@[simp] theorem State.start_regions (s : State) : (s.start).regions = s.regions := rfl
@[simp] theorem State.start_saves (s : State) : (s.start).saves = s.saves := rfl
@[simp] theorem State.start_shelves (s : State) : (s.start).shelves = s.shelves := rfl
@[simp] theorem State.start_bindings (s : State) : (s.start).bindings = s.bindings := rfl
@[simp] theorem State.start_shelfWaits (s : State) : (s.start).shelfWaits = s.shelfWaits := rfl
@[simp] theorem State.start_draws (s : State) : (s.start).draws = s.draws := rfl
@[simp] theorem State.start_restores (s : State) : (s.start).restores = s.restores := rfl
@[simp] theorem State.start_fetches (s : State) : (s.start).fetches = s.fetches := rfl
@[simp] theorem State.start_sends (s : State) : (s.start).sends = s.sends := rfl
@[simp] theorem State.start_sag (s : State) : (s.start).sag = s.sag := rfl
@[simp] theorem State.start_partner (s : State) : (s.start).partner = s.partner := rfl
@[simp] theorem State.start_keepers (s : State) : (s.start).keepers = s.keepers := rfl
@[simp] theorem State.start_keys (s : State) : (s.start).keys = s.keys := rfl
@[simp] theorem State.start_reads (s : State) : (s.start).reads = s.reads := rfl
@[simp] theorem State.start_ghosts (s : State) : (s.start).ghosts = s.ghosts := rfl
@[simp] theorem State.start_peerBlock (s : State) : (s.start).peerBlock = s.peerBlock := rfl
@[simp] theorem State.start_record (s : State) : (s.start).record = s.record := rfl
@[simp] theorem State.start_negDone (s : State) : (s.start).negDone = s.negDone := rfl
@[simp] theorem State.start_mgmt (s : State) : (s.start).mgmt = s.mgmt := rfl
@[simp] theorem State.start_port (s : State) : (s.start).port = s.port := rfl
@[simp] theorem State.start_linkMsgs (s : State) : (s.start).linkMsgs = s.linkMsgs := rfl
@[simp] theorem State.start_credDue (s : State) : (s.start).credDue = s.credDue := rfl
@[simp] theorem State.start_guard (s : State) : (s.start).guard = s.guard := rfl
@[simp] theorem State.start_strands (s : State) : (s.start).strands = s.strands := rfl
@[simp] theorem State.start_cones (s : State) : (s.start).cones = s.cones := rfl
@[simp] theorem State.start_dieId (s : State) : (s.start).dieId = s.dieId := rfl
@[simp] theorem State.start_dieIdOk (s : State) : (s.start).dieIdOk = s.dieIdOk := rfl
@[simp] theorem State.start_idBuf (s : State) : (s.start).idBuf = s.idBuf := rfl
@[simp] theorem State.start_early (s : State) : (s.start).early = s.early := rfl
@[simp] theorem State.start_bisque (s : State) : (s.start).bisque = s.bisque := rfl
@[simp] theorem State.start_ready (s : State) : (s.start).ready = s.ready := rfl
@[simp] theorem State.start_phyReady (s : State) : (s.start).phyReady = s.phyReady := rfl
@[simp] theorem State.start_exch (s : State) : (s.start).exch = s.exch := rfl
@[simp] theorem State.start_presence (s : State) : (s.start).presence = s.presence := rfl
@[simp] theorem State.start_trusted (s : State) : (s.start).trusted = s.trusted := rfl
@[simp] theorem State.start_offValid (s : State) : (s.start).offValid = s.offValid := rfl
@[simp] theorem State.start_peerTime (s : State) : (s.start).peerTime = s.peerTime := rfl
@[simp] theorem State.start_cal (s : State) : (s.start).cal = s.cal := rfl
@[simp] theorem State.start_calReqs (s : State) : (s.start).calReqs = s.calReqs := rfl
@[simp] theorem State.start_sliceRun (s : State) : (s.start).sliceRun = s.sliceRun := rfl
@[simp] theorem State.start_bist (s : State) : (s.start).bist = s.bist := rfl
@[simp] theorem State.start_pulse (s : State) : (s.start).pulse = s.pulse := rfl
@[simp] theorem State.start_power (s : State) : (s.start).power = s.power := rfl
@[simp] theorem State.start_disc (s : State) : (s.start).disc = s.disc := rfl
@[simp] theorem State.start_test (s : State) : (s.start).test = s.test := rfl
@[simp] theorem State.start_shadows (s : State) : (s.start).shadows = s.shadows := rfl
@[simp] theorem State.start_pending (s : State) : (s.start).pending = s.pending := rfl
@[simp] theorem State.start_memHeld (s : State) : (s.start).memHeld = s.memHeld := rfl
@[simp] theorem State.start_tableWaits (s : State) : (s.start).tableWaits = s.tableWaits := rfl
@[simp] theorem State.start_commitWaits (s : State) : (s.start).commitWaits = s.commitWaits := rfl
@[simp] theorem State.start_queries (s : State) : (s.start).queries = s.queries := rfl

/-! ## `State.setReg` -/

@[simp] theorem State.setReg_build (s : State) (o : Nat) (w : Word) : (s.setReg o w).build = s.build := rfl
@[simp] theorem State.setReg_straps (s : State) (o : Nat) (w : Word) : (s.setReg o w).straps = s.straps := rfl
@[simp] theorem State.setReg_resets (s : State) (o : Nat) (w : Word) : (s.setReg o w).resets = s.resets := rfl
@[simp] theorem State.setReg_lclkLock (s : State) (o : Nat) (w : Word) : (s.setReg o w).lclkLock = s.lclkLock := rfl
@[simp] theorem State.setReg_lclkHold (s : State) (o : Nat) (w : Word) : (s.setReg o w).lclkHold = s.lclkHold := rfl
@[simp] theorem State.setReg_fcount (s : State) (o : Nat) (w : Word) : (s.setReg o w).fcount = s.fcount := rfl
@[simp] theorem State.setReg_phase (s : State) (o : Nat) (w : Word) : (s.setReg o w).phase = s.phase := rfl
@[simp] theorem State.setReg_pdReq (s : State) (o : Nat) (w : Word) : (s.setReg o w).pdReq = s.pdReq := rfl
@[simp] theorem State.setReg_pdAck (s : State) (o : Nat) (w : Word) : (s.setReg o w).pdAck = s.pdAck := rfl
@[simp] theorem State.setReg_irqN (s : State) (o : Nat) (w : Word) : (s.setReg o w).irqN = s.irqN := rfl
@[simp] theorem State.setReg_kiln (s : State) (o : Nat) (w : Word) : (s.setReg o w).kiln = s.kiln := rfl
@[simp] theorem State.setReg_inj (s : State) (o : Nat) (w : Word) : (s.setReg o w).inj = s.inj := rfl
@[simp] theorem State.setReg_rings (s : State) (o : Nat) (w : Word) : (s.setReg o w).rings = s.rings := rfl
@[simp] theorem State.setReg_accNext (s : State) (o : Nat) (w : Word) : (s.setReg o w).accNext = s.accNext := rfl
@[simp] theorem State.setReg_descs (s : State) (o : Nat) (w : Word) : (s.setReg o w).descs = s.descs := rfl
@[simp] theorem State.setReg_nextDesc (s : State) (o : Nat) (w : Word) : (s.setReg o w).nextDesc = s.nextDesc := rfl
@[simp] theorem State.setReg_fences (s : State) (o : Nat) (w : Word) : (s.setReg o w).fences = s.fences := rfl
@[simp] theorem State.setReg_hmReads (s : State) (o : Nat) (w : Word) : (s.setReg o w).hmReads = s.hmReads := rfl
@[simp] theorem State.setReg_hmWrites (s : State) (o : Nat) (w : Word) : (s.setReg o w).hmWrites = s.hmWrites := rfl
@[simp] theorem State.setReg_memOps (s : State) (o : Nat) (w : Word) : (s.setReg o w).memOps = s.memOps := rfl
@[simp] theorem State.setReg_nvOps (s : State) (o : Nat) (w : Word) : (s.setReg o w).nvOps = s.nvOps := rfl
@[simp] theorem State.setReg_reqSeq (s : State) (o : Nat) (w : Word) : (s.setReg o w).reqSeq = s.reqSeq := rfl
@[simp] theorem State.setReg_stations (s : State) (o : Nat) (w : Word) : (s.setReg o w).stations = s.stations := rfl
@[simp] theorem State.setReg_ports (s : State) (o : Nat) (w : Word) : (s.setReg o w).ports = s.ports := rfl
@[simp] theorem State.setReg_tx (s : State) (o : Nat) (w : Word) : (s.setReg o w).tx = s.tx := rfl
@[simp] theorem State.setReg_rx (s : State) (o : Nat) (w : Word) : (s.setReg o w).rx = s.rx := rfl
@[simp] theorem State.setReg_ptIn (s : State) (o : Nat) (w : Word) : (s.setReg o w).ptIn = s.ptIn := rfl
@[simp] theorem State.setReg_ptErr (s : State) (o : Nat) (w : Word) : (s.setReg o w).ptErr = s.ptErr := rfl
@[simp] theorem State.setReg_arrivals (s : State) (o : Nat) (w : Word) : (s.setReg o w).arrivals = s.arrivals := rfl
@[simp] theorem State.setReg_tables (s : State) (o : Nat) (w : Word) : (s.setReg o w).tables = s.tables := rfl
@[simp] theorem State.setReg_emptied (s : State) (o : Nat) (w : Word) : (s.setReg o w).emptied = s.emptied := rfl
@[simp] theorem State.setReg_regions (s : State) (o : Nat) (w : Word) : (s.setReg o w).regions = s.regions := rfl
@[simp] theorem State.setReg_saves (s : State) (o : Nat) (w : Word) : (s.setReg o w).saves = s.saves := rfl
@[simp] theorem State.setReg_shelves (s : State) (o : Nat) (w : Word) : (s.setReg o w).shelves = s.shelves := rfl
@[simp] theorem State.setReg_bindings (s : State) (o : Nat) (w : Word) : (s.setReg o w).bindings = s.bindings := rfl
@[simp] theorem State.setReg_shelfWaits (s : State) (o : Nat) (w : Word) : (s.setReg o w).shelfWaits = s.shelfWaits := rfl
@[simp] theorem State.setReg_draws (s : State) (o : Nat) (w : Word) : (s.setReg o w).draws = s.draws := rfl
@[simp] theorem State.setReg_restores (s : State) (o : Nat) (w : Word) : (s.setReg o w).restores = s.restores := rfl
@[simp] theorem State.setReg_fetches (s : State) (o : Nat) (w : Word) : (s.setReg o w).fetches = s.fetches := rfl
@[simp] theorem State.setReg_sends (s : State) (o : Nat) (w : Word) : (s.setReg o w).sends = s.sends := rfl
@[simp] theorem State.setReg_sag (s : State) (o : Nat) (w : Word) : (s.setReg o w).sag = s.sag := rfl
@[simp] theorem State.setReg_partner (s : State) (o : Nat) (w : Word) : (s.setReg o w).partner = s.partner := rfl
@[simp] theorem State.setReg_keepers (s : State) (o : Nat) (w : Word) : (s.setReg o w).keepers = s.keepers := rfl
@[simp] theorem State.setReg_keys (s : State) (o : Nat) (w : Word) : (s.setReg o w).keys = s.keys := rfl
@[simp] theorem State.setReg_reads (s : State) (o : Nat) (w : Word) : (s.setReg o w).reads = s.reads := rfl
@[simp] theorem State.setReg_ghosts (s : State) (o : Nat) (w : Word) : (s.setReg o w).ghosts = s.ghosts := rfl
@[simp] theorem State.setReg_peerBlock (s : State) (o : Nat) (w : Word) : (s.setReg o w).peerBlock = s.peerBlock := rfl
@[simp] theorem State.setReg_record (s : State) (o : Nat) (w : Word) : (s.setReg o w).record = s.record := rfl
@[simp] theorem State.setReg_negDone (s : State) (o : Nat) (w : Word) : (s.setReg o w).negDone = s.negDone := rfl
@[simp] theorem State.setReg_mgmt (s : State) (o : Nat) (w : Word) : (s.setReg o w).mgmt = s.mgmt := rfl
@[simp] theorem State.setReg_port (s : State) (o : Nat) (w : Word) : (s.setReg o w).port = s.port := rfl
@[simp] theorem State.setReg_linkMsgs (s : State) (o : Nat) (w : Word) : (s.setReg o w).linkMsgs = s.linkMsgs := rfl
@[simp] theorem State.setReg_credDue (s : State) (o : Nat) (w : Word) : (s.setReg o w).credDue = s.credDue := rfl
@[simp] theorem State.setReg_guard (s : State) (o : Nat) (w : Word) : (s.setReg o w).guard = s.guard := rfl
@[simp] theorem State.setReg_strands (s : State) (o : Nat) (w : Word) : (s.setReg o w).strands = s.strands := rfl
@[simp] theorem State.setReg_cones (s : State) (o : Nat) (w : Word) : (s.setReg o w).cones = s.cones := rfl
@[simp] theorem State.setReg_dieId (s : State) (o : Nat) (w : Word) : (s.setReg o w).dieId = s.dieId := rfl
@[simp] theorem State.setReg_dieIdOk (s : State) (o : Nat) (w : Word) : (s.setReg o w).dieIdOk = s.dieIdOk := rfl
@[simp] theorem State.setReg_idBuf (s : State) (o : Nat) (w : Word) : (s.setReg o w).idBuf = s.idBuf := rfl
@[simp] theorem State.setReg_early (s : State) (o : Nat) (w : Word) : (s.setReg o w).early = s.early := rfl
@[simp] theorem State.setReg_bisque (s : State) (o : Nat) (w : Word) : (s.setReg o w).bisque = s.bisque := rfl
@[simp] theorem State.setReg_ready (s : State) (o : Nat) (w : Word) : (s.setReg o w).ready = s.ready := rfl
@[simp] theorem State.setReg_phyReady (s : State) (o : Nat) (w : Word) : (s.setReg o w).phyReady = s.phyReady := rfl
@[simp] theorem State.setReg_exch (s : State) (o : Nat) (w : Word) : (s.setReg o w).exch = s.exch := rfl
@[simp] theorem State.setReg_presence (s : State) (o : Nat) (w : Word) : (s.setReg o w).presence = s.presence := rfl
@[simp] theorem State.setReg_trusted (s : State) (o : Nat) (w : Word) : (s.setReg o w).trusted = s.trusted := rfl
@[simp] theorem State.setReg_offValid (s : State) (o : Nat) (w : Word) : (s.setReg o w).offValid = s.offValid := rfl
@[simp] theorem State.setReg_peerTime (s : State) (o : Nat) (w : Word) : (s.setReg o w).peerTime = s.peerTime := rfl
@[simp] theorem State.setReg_cal (s : State) (o : Nat) (w : Word) : (s.setReg o w).cal = s.cal := rfl
@[simp] theorem State.setReg_calReqs (s : State) (o : Nat) (w : Word) : (s.setReg o w).calReqs = s.calReqs := rfl
@[simp] theorem State.setReg_sliceRun (s : State) (o : Nat) (w : Word) : (s.setReg o w).sliceRun = s.sliceRun := rfl
@[simp] theorem State.setReg_bist (s : State) (o : Nat) (w : Word) : (s.setReg o w).bist = s.bist := rfl
@[simp] theorem State.setReg_pulse (s : State) (o : Nat) (w : Word) : (s.setReg o w).pulse = s.pulse := rfl
@[simp] theorem State.setReg_power (s : State) (o : Nat) (w : Word) : (s.setReg o w).power = s.power := rfl
@[simp] theorem State.setReg_disc (s : State) (o : Nat) (w : Word) : (s.setReg o w).disc = s.disc := rfl
@[simp] theorem State.setReg_test (s : State) (o : Nat) (w : Word) : (s.setReg o w).test = s.test := rfl
@[simp] theorem State.setReg_shadows (s : State) (o : Nat) (w : Word) : (s.setReg o w).shadows = s.shadows := rfl
@[simp] theorem State.setReg_out (s : State) (o : Nat) (w : Word) : (s.setReg o w).out = s.out := rfl
@[simp] theorem State.setReg_raised (s : State) (o : Nat) (w : Word) : (s.setReg o w).raised = s.raised := rfl
@[simp] theorem State.setReg_events (s : State) (o : Nat) (w : Word) : (s.setReg o w).events = s.events := rfl
@[simp] theorem State.setReg_pending (s : State) (o : Nat) (w : Word) : (s.setReg o w).pending = s.pending := rfl
@[simp] theorem State.setReg_memHeld (s : State) (o : Nat) (w : Word) : (s.setReg o w).memHeld = s.memHeld := rfl
@[simp] theorem State.setReg_tableWaits (s : State) (o : Nat) (w : Word) : (s.setReg o w).tableWaits = s.tableWaits := rfl
@[simp] theorem State.setReg_commitWaits (s : State) (o : Nat) (w : Word) : (s.setReg o w).commitWaits = s.commitWaits := rfl
@[simp] theorem State.setReg_queries (s : State) (o : Nat) (w : Word) : (s.setReg o w).queries = s.queries := rfl

/-! ## `State.setFld` -/

@[simp] theorem State.setFld_build (s : State) (o hi lo x : Nat) : (s.setFld o hi lo x).build = s.build := rfl
@[simp] theorem State.setFld_straps (s : State) (o hi lo x : Nat) : (s.setFld o hi lo x).straps = s.straps := rfl
@[simp] theorem State.setFld_resets (s : State) (o hi lo x : Nat) : (s.setFld o hi lo x).resets = s.resets := rfl
@[simp] theorem State.setFld_lclkLock (s : State) (o hi lo x : Nat) : (s.setFld o hi lo x).lclkLock = s.lclkLock := rfl
@[simp] theorem State.setFld_lclkHold (s : State) (o hi lo x : Nat) : (s.setFld o hi lo x).lclkHold = s.lclkHold := rfl
@[simp] theorem State.setFld_fcount (s : State) (o hi lo x : Nat) : (s.setFld o hi lo x).fcount = s.fcount := rfl
@[simp] theorem State.setFld_phase (s : State) (o hi lo x : Nat) : (s.setFld o hi lo x).phase = s.phase := rfl
@[simp] theorem State.setFld_pdReq (s : State) (o hi lo x : Nat) : (s.setFld o hi lo x).pdReq = s.pdReq := rfl
@[simp] theorem State.setFld_pdAck (s : State) (o hi lo x : Nat) : (s.setFld o hi lo x).pdAck = s.pdAck := rfl
@[simp] theorem State.setFld_irqN (s : State) (o hi lo x : Nat) : (s.setFld o hi lo x).irqN = s.irqN := rfl
@[simp] theorem State.setFld_kiln (s : State) (o hi lo x : Nat) : (s.setFld o hi lo x).kiln = s.kiln := rfl
@[simp] theorem State.setFld_inj (s : State) (o hi lo x : Nat) : (s.setFld o hi lo x).inj = s.inj := rfl
@[simp] theorem State.setFld_rings (s : State) (o hi lo x : Nat) : (s.setFld o hi lo x).rings = s.rings := rfl
@[simp] theorem State.setFld_accNext (s : State) (o hi lo x : Nat) : (s.setFld o hi lo x).accNext = s.accNext := rfl
@[simp] theorem State.setFld_descs (s : State) (o hi lo x : Nat) : (s.setFld o hi lo x).descs = s.descs := rfl
@[simp] theorem State.setFld_nextDesc (s : State) (o hi lo x : Nat) : (s.setFld o hi lo x).nextDesc = s.nextDesc := rfl
@[simp] theorem State.setFld_fences (s : State) (o hi lo x : Nat) : (s.setFld o hi lo x).fences = s.fences := rfl
@[simp] theorem State.setFld_hmReads (s : State) (o hi lo x : Nat) : (s.setFld o hi lo x).hmReads = s.hmReads := rfl
@[simp] theorem State.setFld_hmWrites (s : State) (o hi lo x : Nat) : (s.setFld o hi lo x).hmWrites = s.hmWrites := rfl
@[simp] theorem State.setFld_memOps (s : State) (o hi lo x : Nat) : (s.setFld o hi lo x).memOps = s.memOps := rfl
@[simp] theorem State.setFld_nvOps (s : State) (o hi lo x : Nat) : (s.setFld o hi lo x).nvOps = s.nvOps := rfl
@[simp] theorem State.setFld_reqSeq (s : State) (o hi lo x : Nat) : (s.setFld o hi lo x).reqSeq = s.reqSeq := rfl
@[simp] theorem State.setFld_stations (s : State) (o hi lo x : Nat) : (s.setFld o hi lo x).stations = s.stations := rfl
@[simp] theorem State.setFld_ports (s : State) (o hi lo x : Nat) : (s.setFld o hi lo x).ports = s.ports := rfl
@[simp] theorem State.setFld_tx (s : State) (o hi lo x : Nat) : (s.setFld o hi lo x).tx = s.tx := rfl
@[simp] theorem State.setFld_rx (s : State) (o hi lo x : Nat) : (s.setFld o hi lo x).rx = s.rx := rfl
@[simp] theorem State.setFld_ptIn (s : State) (o hi lo x : Nat) : (s.setFld o hi lo x).ptIn = s.ptIn := rfl
@[simp] theorem State.setFld_ptErr (s : State) (o hi lo x : Nat) : (s.setFld o hi lo x).ptErr = s.ptErr := rfl
@[simp] theorem State.setFld_arrivals (s : State) (o hi lo x : Nat) : (s.setFld o hi lo x).arrivals = s.arrivals := rfl
@[simp] theorem State.setFld_tables (s : State) (o hi lo x : Nat) : (s.setFld o hi lo x).tables = s.tables := rfl
@[simp] theorem State.setFld_emptied (s : State) (o hi lo x : Nat) : (s.setFld o hi lo x).emptied = s.emptied := rfl
@[simp] theorem State.setFld_regions (s : State) (o hi lo x : Nat) : (s.setFld o hi lo x).regions = s.regions := rfl
@[simp] theorem State.setFld_saves (s : State) (o hi lo x : Nat) : (s.setFld o hi lo x).saves = s.saves := rfl
@[simp] theorem State.setFld_shelves (s : State) (o hi lo x : Nat) : (s.setFld o hi lo x).shelves = s.shelves := rfl
@[simp] theorem State.setFld_bindings (s : State) (o hi lo x : Nat) : (s.setFld o hi lo x).bindings = s.bindings := rfl
@[simp] theorem State.setFld_shelfWaits (s : State) (o hi lo x : Nat) : (s.setFld o hi lo x).shelfWaits = s.shelfWaits := rfl
@[simp] theorem State.setFld_draws (s : State) (o hi lo x : Nat) : (s.setFld o hi lo x).draws = s.draws := rfl
@[simp] theorem State.setFld_restores (s : State) (o hi lo x : Nat) : (s.setFld o hi lo x).restores = s.restores := rfl
@[simp] theorem State.setFld_fetches (s : State) (o hi lo x : Nat) : (s.setFld o hi lo x).fetches = s.fetches := rfl
@[simp] theorem State.setFld_sends (s : State) (o hi lo x : Nat) : (s.setFld o hi lo x).sends = s.sends := rfl
@[simp] theorem State.setFld_sag (s : State) (o hi lo x : Nat) : (s.setFld o hi lo x).sag = s.sag := rfl
@[simp] theorem State.setFld_partner (s : State) (o hi lo x : Nat) : (s.setFld o hi lo x).partner = s.partner := rfl
@[simp] theorem State.setFld_keepers (s : State) (o hi lo x : Nat) : (s.setFld o hi lo x).keepers = s.keepers := rfl
@[simp] theorem State.setFld_keys (s : State) (o hi lo x : Nat) : (s.setFld o hi lo x).keys = s.keys := rfl
@[simp] theorem State.setFld_reads (s : State) (o hi lo x : Nat) : (s.setFld o hi lo x).reads = s.reads := rfl
@[simp] theorem State.setFld_ghosts (s : State) (o hi lo x : Nat) : (s.setFld o hi lo x).ghosts = s.ghosts := rfl
@[simp] theorem State.setFld_peerBlock (s : State) (o hi lo x : Nat) : (s.setFld o hi lo x).peerBlock = s.peerBlock := rfl
@[simp] theorem State.setFld_record (s : State) (o hi lo x : Nat) : (s.setFld o hi lo x).record = s.record := rfl
@[simp] theorem State.setFld_negDone (s : State) (o hi lo x : Nat) : (s.setFld o hi lo x).negDone = s.negDone := rfl
@[simp] theorem State.setFld_mgmt (s : State) (o hi lo x : Nat) : (s.setFld o hi lo x).mgmt = s.mgmt := rfl
@[simp] theorem State.setFld_port (s : State) (o hi lo x : Nat) : (s.setFld o hi lo x).port = s.port := rfl
@[simp] theorem State.setFld_linkMsgs (s : State) (o hi lo x : Nat) : (s.setFld o hi lo x).linkMsgs = s.linkMsgs := rfl
@[simp] theorem State.setFld_credDue (s : State) (o hi lo x : Nat) : (s.setFld o hi lo x).credDue = s.credDue := rfl
@[simp] theorem State.setFld_guard (s : State) (o hi lo x : Nat) : (s.setFld o hi lo x).guard = s.guard := rfl
@[simp] theorem State.setFld_strands (s : State) (o hi lo x : Nat) : (s.setFld o hi lo x).strands = s.strands := rfl
@[simp] theorem State.setFld_cones (s : State) (o hi lo x : Nat) : (s.setFld o hi lo x).cones = s.cones := rfl
@[simp] theorem State.setFld_dieId (s : State) (o hi lo x : Nat) : (s.setFld o hi lo x).dieId = s.dieId := rfl
@[simp] theorem State.setFld_dieIdOk (s : State) (o hi lo x : Nat) : (s.setFld o hi lo x).dieIdOk = s.dieIdOk := rfl
@[simp] theorem State.setFld_idBuf (s : State) (o hi lo x : Nat) : (s.setFld o hi lo x).idBuf = s.idBuf := rfl
@[simp] theorem State.setFld_early (s : State) (o hi lo x : Nat) : (s.setFld o hi lo x).early = s.early := rfl
@[simp] theorem State.setFld_bisque (s : State) (o hi lo x : Nat) : (s.setFld o hi lo x).bisque = s.bisque := rfl
@[simp] theorem State.setFld_ready (s : State) (o hi lo x : Nat) : (s.setFld o hi lo x).ready = s.ready := rfl
@[simp] theorem State.setFld_phyReady (s : State) (o hi lo x : Nat) : (s.setFld o hi lo x).phyReady = s.phyReady := rfl
@[simp] theorem State.setFld_exch (s : State) (o hi lo x : Nat) : (s.setFld o hi lo x).exch = s.exch := rfl
@[simp] theorem State.setFld_presence (s : State) (o hi lo x : Nat) : (s.setFld o hi lo x).presence = s.presence := rfl
@[simp] theorem State.setFld_trusted (s : State) (o hi lo x : Nat) : (s.setFld o hi lo x).trusted = s.trusted := rfl
@[simp] theorem State.setFld_offValid (s : State) (o hi lo x : Nat) : (s.setFld o hi lo x).offValid = s.offValid := rfl
@[simp] theorem State.setFld_peerTime (s : State) (o hi lo x : Nat) : (s.setFld o hi lo x).peerTime = s.peerTime := rfl
@[simp] theorem State.setFld_cal (s : State) (o hi lo x : Nat) : (s.setFld o hi lo x).cal = s.cal := rfl
@[simp] theorem State.setFld_calReqs (s : State) (o hi lo x : Nat) : (s.setFld o hi lo x).calReqs = s.calReqs := rfl
@[simp] theorem State.setFld_sliceRun (s : State) (o hi lo x : Nat) : (s.setFld o hi lo x).sliceRun = s.sliceRun := rfl
@[simp] theorem State.setFld_bist (s : State) (o hi lo x : Nat) : (s.setFld o hi lo x).bist = s.bist := rfl
@[simp] theorem State.setFld_pulse (s : State) (o hi lo x : Nat) : (s.setFld o hi lo x).pulse = s.pulse := rfl
@[simp] theorem State.setFld_power (s : State) (o hi lo x : Nat) : (s.setFld o hi lo x).power = s.power := rfl
@[simp] theorem State.setFld_disc (s : State) (o hi lo x : Nat) : (s.setFld o hi lo x).disc = s.disc := rfl
@[simp] theorem State.setFld_test (s : State) (o hi lo x : Nat) : (s.setFld o hi lo x).test = s.test := rfl
@[simp] theorem State.setFld_shadows (s : State) (o hi lo x : Nat) : (s.setFld o hi lo x).shadows = s.shadows := rfl
@[simp] theorem State.setFld_out (s : State) (o hi lo x : Nat) : (s.setFld o hi lo x).out = s.out := rfl
@[simp] theorem State.setFld_raised (s : State) (o hi lo x : Nat) : (s.setFld o hi lo x).raised = s.raised := rfl
@[simp] theorem State.setFld_events (s : State) (o hi lo x : Nat) : (s.setFld o hi lo x).events = s.events := rfl
@[simp] theorem State.setFld_pending (s : State) (o hi lo x : Nat) : (s.setFld o hi lo x).pending = s.pending := rfl
@[simp] theorem State.setFld_memHeld (s : State) (o hi lo x : Nat) : (s.setFld o hi lo x).memHeld = s.memHeld := rfl
@[simp] theorem State.setFld_tableWaits (s : State) (o hi lo x : Nat) : (s.setFld o hi lo x).tableWaits = s.tableWaits := rfl
@[simp] theorem State.setFld_commitWaits (s : State) (o hi lo x : Nat) : (s.setFld o hi lo x).commitWaits = s.commitWaits := rfl
@[simp] theorem State.setFld_queries (s : State) (o hi lo x : Nat) : (s.setFld o hi lo x).queries = s.queries := rfl

/-! ## `State.setFlag` -/

@[simp] theorem State.setFlag_build (s : State) (o i : Nat) (b : Bool) : (s.setFlag o i b).build = s.build := rfl
@[simp] theorem State.setFlag_straps (s : State) (o i : Nat) (b : Bool) : (s.setFlag o i b).straps = s.straps := rfl
@[simp] theorem State.setFlag_resets (s : State) (o i : Nat) (b : Bool) : (s.setFlag o i b).resets = s.resets := rfl
@[simp] theorem State.setFlag_lclkLock (s : State) (o i : Nat) (b : Bool) : (s.setFlag o i b).lclkLock = s.lclkLock := rfl
@[simp] theorem State.setFlag_lclkHold (s : State) (o i : Nat) (b : Bool) : (s.setFlag o i b).lclkHold = s.lclkHold := rfl
@[simp] theorem State.setFlag_fcount (s : State) (o i : Nat) (b : Bool) : (s.setFlag o i b).fcount = s.fcount := rfl
@[simp] theorem State.setFlag_phase (s : State) (o i : Nat) (b : Bool) : (s.setFlag o i b).phase = s.phase := rfl
@[simp] theorem State.setFlag_pdReq (s : State) (o i : Nat) (b : Bool) : (s.setFlag o i b).pdReq = s.pdReq := rfl
@[simp] theorem State.setFlag_pdAck (s : State) (o i : Nat) (b : Bool) : (s.setFlag o i b).pdAck = s.pdAck := rfl
@[simp] theorem State.setFlag_irqN (s : State) (o i : Nat) (b : Bool) : (s.setFlag o i b).irqN = s.irqN := rfl
@[simp] theorem State.setFlag_kiln (s : State) (o i : Nat) (b : Bool) : (s.setFlag o i b).kiln = s.kiln := rfl
@[simp] theorem State.setFlag_inj (s : State) (o i : Nat) (b : Bool) : (s.setFlag o i b).inj = s.inj := rfl
@[simp] theorem State.setFlag_rings (s : State) (o i : Nat) (b : Bool) : (s.setFlag o i b).rings = s.rings := rfl
@[simp] theorem State.setFlag_accNext (s : State) (o i : Nat) (b : Bool) : (s.setFlag o i b).accNext = s.accNext := rfl
@[simp] theorem State.setFlag_descs (s : State) (o i : Nat) (b : Bool) : (s.setFlag o i b).descs = s.descs := rfl
@[simp] theorem State.setFlag_nextDesc (s : State) (o i : Nat) (b : Bool) : (s.setFlag o i b).nextDesc = s.nextDesc := rfl
@[simp] theorem State.setFlag_fences (s : State) (o i : Nat) (b : Bool) : (s.setFlag o i b).fences = s.fences := rfl
@[simp] theorem State.setFlag_hmReads (s : State) (o i : Nat) (b : Bool) : (s.setFlag o i b).hmReads = s.hmReads := rfl
@[simp] theorem State.setFlag_hmWrites (s : State) (o i : Nat) (b : Bool) : (s.setFlag o i b).hmWrites = s.hmWrites := rfl
@[simp] theorem State.setFlag_memOps (s : State) (o i : Nat) (b : Bool) : (s.setFlag o i b).memOps = s.memOps := rfl
@[simp] theorem State.setFlag_nvOps (s : State) (o i : Nat) (b : Bool) : (s.setFlag o i b).nvOps = s.nvOps := rfl
@[simp] theorem State.setFlag_reqSeq (s : State) (o i : Nat) (b : Bool) : (s.setFlag o i b).reqSeq = s.reqSeq := rfl
@[simp] theorem State.setFlag_stations (s : State) (o i : Nat) (b : Bool) : (s.setFlag o i b).stations = s.stations := rfl
@[simp] theorem State.setFlag_ports (s : State) (o i : Nat) (b : Bool) : (s.setFlag o i b).ports = s.ports := rfl
@[simp] theorem State.setFlag_tx (s : State) (o i : Nat) (b : Bool) : (s.setFlag o i b).tx = s.tx := rfl
@[simp] theorem State.setFlag_rx (s : State) (o i : Nat) (b : Bool) : (s.setFlag o i b).rx = s.rx := rfl
@[simp] theorem State.setFlag_ptIn (s : State) (o i : Nat) (b : Bool) : (s.setFlag o i b).ptIn = s.ptIn := rfl
@[simp] theorem State.setFlag_ptErr (s : State) (o i : Nat) (b : Bool) : (s.setFlag o i b).ptErr = s.ptErr := rfl
@[simp] theorem State.setFlag_arrivals (s : State) (o i : Nat) (b : Bool) : (s.setFlag o i b).arrivals = s.arrivals := rfl
@[simp] theorem State.setFlag_tables (s : State) (o i : Nat) (b : Bool) : (s.setFlag o i b).tables = s.tables := rfl
@[simp] theorem State.setFlag_emptied (s : State) (o i : Nat) (b : Bool) : (s.setFlag o i b).emptied = s.emptied := rfl
@[simp] theorem State.setFlag_regions (s : State) (o i : Nat) (b : Bool) : (s.setFlag o i b).regions = s.regions := rfl
@[simp] theorem State.setFlag_saves (s : State) (o i : Nat) (b : Bool) : (s.setFlag o i b).saves = s.saves := rfl
@[simp] theorem State.setFlag_shelves (s : State) (o i : Nat) (b : Bool) : (s.setFlag o i b).shelves = s.shelves := rfl
@[simp] theorem State.setFlag_bindings (s : State) (o i : Nat) (b : Bool) : (s.setFlag o i b).bindings = s.bindings := rfl
@[simp] theorem State.setFlag_shelfWaits (s : State) (o i : Nat) (b : Bool) : (s.setFlag o i b).shelfWaits = s.shelfWaits := rfl
@[simp] theorem State.setFlag_draws (s : State) (o i : Nat) (b : Bool) : (s.setFlag o i b).draws = s.draws := rfl
@[simp] theorem State.setFlag_restores (s : State) (o i : Nat) (b : Bool) : (s.setFlag o i b).restores = s.restores := rfl
@[simp] theorem State.setFlag_fetches (s : State) (o i : Nat) (b : Bool) : (s.setFlag o i b).fetches = s.fetches := rfl
@[simp] theorem State.setFlag_sends (s : State) (o i : Nat) (b : Bool) : (s.setFlag o i b).sends = s.sends := rfl
@[simp] theorem State.setFlag_sag (s : State) (o i : Nat) (b : Bool) : (s.setFlag o i b).sag = s.sag := rfl
@[simp] theorem State.setFlag_partner (s : State) (o i : Nat) (b : Bool) : (s.setFlag o i b).partner = s.partner := rfl
@[simp] theorem State.setFlag_keepers (s : State) (o i : Nat) (b : Bool) : (s.setFlag o i b).keepers = s.keepers := rfl
@[simp] theorem State.setFlag_keys (s : State) (o i : Nat) (b : Bool) : (s.setFlag o i b).keys = s.keys := rfl
@[simp] theorem State.setFlag_reads (s : State) (o i : Nat) (b : Bool) : (s.setFlag o i b).reads = s.reads := rfl
@[simp] theorem State.setFlag_ghosts (s : State) (o i : Nat) (b : Bool) : (s.setFlag o i b).ghosts = s.ghosts := rfl
@[simp] theorem State.setFlag_peerBlock (s : State) (o i : Nat) (b : Bool) : (s.setFlag o i b).peerBlock = s.peerBlock := rfl
@[simp] theorem State.setFlag_record (s : State) (o i : Nat) (b : Bool) : (s.setFlag o i b).record = s.record := rfl
@[simp] theorem State.setFlag_negDone (s : State) (o i : Nat) (b : Bool) : (s.setFlag o i b).negDone = s.negDone := rfl
@[simp] theorem State.setFlag_mgmt (s : State) (o i : Nat) (b : Bool) : (s.setFlag o i b).mgmt = s.mgmt := rfl
@[simp] theorem State.setFlag_port (s : State) (o i : Nat) (b : Bool) : (s.setFlag o i b).port = s.port := rfl
@[simp] theorem State.setFlag_linkMsgs (s : State) (o i : Nat) (b : Bool) : (s.setFlag o i b).linkMsgs = s.linkMsgs := rfl
@[simp] theorem State.setFlag_credDue (s : State) (o i : Nat) (b : Bool) : (s.setFlag o i b).credDue = s.credDue := rfl
@[simp] theorem State.setFlag_guard (s : State) (o i : Nat) (b : Bool) : (s.setFlag o i b).guard = s.guard := rfl
@[simp] theorem State.setFlag_strands (s : State) (o i : Nat) (b : Bool) : (s.setFlag o i b).strands = s.strands := rfl
@[simp] theorem State.setFlag_cones (s : State) (o i : Nat) (b : Bool) : (s.setFlag o i b).cones = s.cones := rfl
@[simp] theorem State.setFlag_dieId (s : State) (o i : Nat) (b : Bool) : (s.setFlag o i b).dieId = s.dieId := rfl
@[simp] theorem State.setFlag_dieIdOk (s : State) (o i : Nat) (b : Bool) : (s.setFlag o i b).dieIdOk = s.dieIdOk := rfl
@[simp] theorem State.setFlag_idBuf (s : State) (o i : Nat) (b : Bool) : (s.setFlag o i b).idBuf = s.idBuf := rfl
@[simp] theorem State.setFlag_early (s : State) (o i : Nat) (b : Bool) : (s.setFlag o i b).early = s.early := rfl
@[simp] theorem State.setFlag_bisque (s : State) (o i : Nat) (b : Bool) : (s.setFlag o i b).bisque = s.bisque := rfl
@[simp] theorem State.setFlag_ready (s : State) (o i : Nat) (b : Bool) : (s.setFlag o i b).ready = s.ready := rfl
@[simp] theorem State.setFlag_phyReady (s : State) (o i : Nat) (b : Bool) : (s.setFlag o i b).phyReady = s.phyReady := rfl
@[simp] theorem State.setFlag_exch (s : State) (o i : Nat) (b : Bool) : (s.setFlag o i b).exch = s.exch := rfl
@[simp] theorem State.setFlag_presence (s : State) (o i : Nat) (b : Bool) : (s.setFlag o i b).presence = s.presence := rfl
@[simp] theorem State.setFlag_trusted (s : State) (o i : Nat) (b : Bool) : (s.setFlag o i b).trusted = s.trusted := rfl
@[simp] theorem State.setFlag_offValid (s : State) (o i : Nat) (b : Bool) : (s.setFlag o i b).offValid = s.offValid := rfl
@[simp] theorem State.setFlag_peerTime (s : State) (o i : Nat) (b : Bool) : (s.setFlag o i b).peerTime = s.peerTime := rfl
@[simp] theorem State.setFlag_cal (s : State) (o i : Nat) (b : Bool) : (s.setFlag o i b).cal = s.cal := rfl
@[simp] theorem State.setFlag_calReqs (s : State) (o i : Nat) (b : Bool) : (s.setFlag o i b).calReqs = s.calReqs := rfl
@[simp] theorem State.setFlag_sliceRun (s : State) (o i : Nat) (b : Bool) : (s.setFlag o i b).sliceRun = s.sliceRun := rfl
@[simp] theorem State.setFlag_bist (s : State) (o i : Nat) (b : Bool) : (s.setFlag o i b).bist = s.bist := rfl
@[simp] theorem State.setFlag_pulse (s : State) (o i : Nat) (b : Bool) : (s.setFlag o i b).pulse = s.pulse := rfl
@[simp] theorem State.setFlag_power (s : State) (o i : Nat) (b : Bool) : (s.setFlag o i b).power = s.power := rfl
@[simp] theorem State.setFlag_disc (s : State) (o i : Nat) (b : Bool) : (s.setFlag o i b).disc = s.disc := rfl
@[simp] theorem State.setFlag_test (s : State) (o i : Nat) (b : Bool) : (s.setFlag o i b).test = s.test := rfl
@[simp] theorem State.setFlag_shadows (s : State) (o i : Nat) (b : Bool) : (s.setFlag o i b).shadows = s.shadows := rfl
@[simp] theorem State.setFlag_out (s : State) (o i : Nat) (b : Bool) : (s.setFlag o i b).out = s.out := rfl
@[simp] theorem State.setFlag_raised (s : State) (o i : Nat) (b : Bool) : (s.setFlag o i b).raised = s.raised := rfl
@[simp] theorem State.setFlag_events (s : State) (o i : Nat) (b : Bool) : (s.setFlag o i b).events = s.events := rfl
@[simp] theorem State.setFlag_pending (s : State) (o i : Nat) (b : Bool) : (s.setFlag o i b).pending = s.pending := rfl
@[simp] theorem State.setFlag_memHeld (s : State) (o i : Nat) (b : Bool) : (s.setFlag o i b).memHeld = s.memHeld := rfl
@[simp] theorem State.setFlag_tableWaits (s : State) (o i : Nat) (b : Bool) : (s.setFlag o i b).tableWaits = s.tableWaits := rfl
@[simp] theorem State.setFlag_commitWaits (s : State) (o i : Nat) (b : Bool) : (s.setFlag o i b).commitWaits = s.commitWaits := rfl
@[simp] theorem State.setFlag_queries (s : State) (o i : Nat) (b : Bool) : (s.setFlag o i b).queries = s.queries := rfl

/-! ## `State.sticky` -/

@[simp] theorem State.sticky_build (s : State) (o i : Nat) : (s.sticky o i).build = s.build := rfl
@[simp] theorem State.sticky_straps (s : State) (o i : Nat) : (s.sticky o i).straps = s.straps := rfl
@[simp] theorem State.sticky_resets (s : State) (o i : Nat) : (s.sticky o i).resets = s.resets := rfl
@[simp] theorem State.sticky_lclkLock (s : State) (o i : Nat) : (s.sticky o i).lclkLock = s.lclkLock := rfl
@[simp] theorem State.sticky_lclkHold (s : State) (o i : Nat) : (s.sticky o i).lclkHold = s.lclkHold := rfl
@[simp] theorem State.sticky_fcount (s : State) (o i : Nat) : (s.sticky o i).fcount = s.fcount := rfl
@[simp] theorem State.sticky_phase (s : State) (o i : Nat) : (s.sticky o i).phase = s.phase := rfl
@[simp] theorem State.sticky_pdReq (s : State) (o i : Nat) : (s.sticky o i).pdReq = s.pdReq := rfl
@[simp] theorem State.sticky_pdAck (s : State) (o i : Nat) : (s.sticky o i).pdAck = s.pdAck := rfl
@[simp] theorem State.sticky_irqN (s : State) (o i : Nat) : (s.sticky o i).irqN = s.irqN := rfl
@[simp] theorem State.sticky_kiln (s : State) (o i : Nat) : (s.sticky o i).kiln = s.kiln := rfl
@[simp] theorem State.sticky_inj (s : State) (o i : Nat) : (s.sticky o i).inj = s.inj := rfl
@[simp] theorem State.sticky_rings (s : State) (o i : Nat) : (s.sticky o i).rings = s.rings := rfl
@[simp] theorem State.sticky_accNext (s : State) (o i : Nat) : (s.sticky o i).accNext = s.accNext := rfl
@[simp] theorem State.sticky_descs (s : State) (o i : Nat) : (s.sticky o i).descs = s.descs := rfl
@[simp] theorem State.sticky_nextDesc (s : State) (o i : Nat) : (s.sticky o i).nextDesc = s.nextDesc := rfl
@[simp] theorem State.sticky_fences (s : State) (o i : Nat) : (s.sticky o i).fences = s.fences := rfl
@[simp] theorem State.sticky_hmReads (s : State) (o i : Nat) : (s.sticky o i).hmReads = s.hmReads := rfl
@[simp] theorem State.sticky_hmWrites (s : State) (o i : Nat) : (s.sticky o i).hmWrites = s.hmWrites := rfl
@[simp] theorem State.sticky_memOps (s : State) (o i : Nat) : (s.sticky o i).memOps = s.memOps := rfl
@[simp] theorem State.sticky_nvOps (s : State) (o i : Nat) : (s.sticky o i).nvOps = s.nvOps := rfl
@[simp] theorem State.sticky_reqSeq (s : State) (o i : Nat) : (s.sticky o i).reqSeq = s.reqSeq := rfl
@[simp] theorem State.sticky_stations (s : State) (o i : Nat) : (s.sticky o i).stations = s.stations := rfl
@[simp] theorem State.sticky_ports (s : State) (o i : Nat) : (s.sticky o i).ports = s.ports := rfl
@[simp] theorem State.sticky_tx (s : State) (o i : Nat) : (s.sticky o i).tx = s.tx := rfl
@[simp] theorem State.sticky_rx (s : State) (o i : Nat) : (s.sticky o i).rx = s.rx := rfl
@[simp] theorem State.sticky_ptIn (s : State) (o i : Nat) : (s.sticky o i).ptIn = s.ptIn := rfl
@[simp] theorem State.sticky_ptErr (s : State) (o i : Nat) : (s.sticky o i).ptErr = s.ptErr := rfl
@[simp] theorem State.sticky_arrivals (s : State) (o i : Nat) : (s.sticky o i).arrivals = s.arrivals := rfl
@[simp] theorem State.sticky_tables (s : State) (o i : Nat) : (s.sticky o i).tables = s.tables := rfl
@[simp] theorem State.sticky_emptied (s : State) (o i : Nat) : (s.sticky o i).emptied = s.emptied := rfl
@[simp] theorem State.sticky_regions (s : State) (o i : Nat) : (s.sticky o i).regions = s.regions := rfl
@[simp] theorem State.sticky_saves (s : State) (o i : Nat) : (s.sticky o i).saves = s.saves := rfl
@[simp] theorem State.sticky_shelves (s : State) (o i : Nat) : (s.sticky o i).shelves = s.shelves := rfl
@[simp] theorem State.sticky_bindings (s : State) (o i : Nat) : (s.sticky o i).bindings = s.bindings := rfl
@[simp] theorem State.sticky_shelfWaits (s : State) (o i : Nat) : (s.sticky o i).shelfWaits = s.shelfWaits := rfl
@[simp] theorem State.sticky_draws (s : State) (o i : Nat) : (s.sticky o i).draws = s.draws := rfl
@[simp] theorem State.sticky_restores (s : State) (o i : Nat) : (s.sticky o i).restores = s.restores := rfl
@[simp] theorem State.sticky_fetches (s : State) (o i : Nat) : (s.sticky o i).fetches = s.fetches := rfl
@[simp] theorem State.sticky_sends (s : State) (o i : Nat) : (s.sticky o i).sends = s.sends := rfl
@[simp] theorem State.sticky_sag (s : State) (o i : Nat) : (s.sticky o i).sag = s.sag := rfl
@[simp] theorem State.sticky_partner (s : State) (o i : Nat) : (s.sticky o i).partner = s.partner := rfl
@[simp] theorem State.sticky_keepers (s : State) (o i : Nat) : (s.sticky o i).keepers = s.keepers := rfl
@[simp] theorem State.sticky_keys (s : State) (o i : Nat) : (s.sticky o i).keys = s.keys := rfl
@[simp] theorem State.sticky_reads (s : State) (o i : Nat) : (s.sticky o i).reads = s.reads := rfl
@[simp] theorem State.sticky_ghosts (s : State) (o i : Nat) : (s.sticky o i).ghosts = s.ghosts := rfl
@[simp] theorem State.sticky_peerBlock (s : State) (o i : Nat) : (s.sticky o i).peerBlock = s.peerBlock := rfl
@[simp] theorem State.sticky_record (s : State) (o i : Nat) : (s.sticky o i).record = s.record := rfl
@[simp] theorem State.sticky_negDone (s : State) (o i : Nat) : (s.sticky o i).negDone = s.negDone := rfl
@[simp] theorem State.sticky_mgmt (s : State) (o i : Nat) : (s.sticky o i).mgmt = s.mgmt := rfl
@[simp] theorem State.sticky_port (s : State) (o i : Nat) : (s.sticky o i).port = s.port := rfl
@[simp] theorem State.sticky_linkMsgs (s : State) (o i : Nat) : (s.sticky o i).linkMsgs = s.linkMsgs := rfl
@[simp] theorem State.sticky_credDue (s : State) (o i : Nat) : (s.sticky o i).credDue = s.credDue := rfl
@[simp] theorem State.sticky_guard (s : State) (o i : Nat) : (s.sticky o i).guard = s.guard := rfl
@[simp] theorem State.sticky_strands (s : State) (o i : Nat) : (s.sticky o i).strands = s.strands := rfl
@[simp] theorem State.sticky_cones (s : State) (o i : Nat) : (s.sticky o i).cones = s.cones := rfl
@[simp] theorem State.sticky_dieId (s : State) (o i : Nat) : (s.sticky o i).dieId = s.dieId := rfl
@[simp] theorem State.sticky_dieIdOk (s : State) (o i : Nat) : (s.sticky o i).dieIdOk = s.dieIdOk := rfl
@[simp] theorem State.sticky_idBuf (s : State) (o i : Nat) : (s.sticky o i).idBuf = s.idBuf := rfl
@[simp] theorem State.sticky_early (s : State) (o i : Nat) : (s.sticky o i).early = s.early := rfl
@[simp] theorem State.sticky_bisque (s : State) (o i : Nat) : (s.sticky o i).bisque = s.bisque := rfl
@[simp] theorem State.sticky_ready (s : State) (o i : Nat) : (s.sticky o i).ready = s.ready := rfl
@[simp] theorem State.sticky_phyReady (s : State) (o i : Nat) : (s.sticky o i).phyReady = s.phyReady := rfl
@[simp] theorem State.sticky_exch (s : State) (o i : Nat) : (s.sticky o i).exch = s.exch := rfl
@[simp] theorem State.sticky_presence (s : State) (o i : Nat) : (s.sticky o i).presence = s.presence := rfl
@[simp] theorem State.sticky_trusted (s : State) (o i : Nat) : (s.sticky o i).trusted = s.trusted := rfl
@[simp] theorem State.sticky_offValid (s : State) (o i : Nat) : (s.sticky o i).offValid = s.offValid := rfl
@[simp] theorem State.sticky_peerTime (s : State) (o i : Nat) : (s.sticky o i).peerTime = s.peerTime := rfl
@[simp] theorem State.sticky_cal (s : State) (o i : Nat) : (s.sticky o i).cal = s.cal := rfl
@[simp] theorem State.sticky_calReqs (s : State) (o i : Nat) : (s.sticky o i).calReqs = s.calReqs := rfl
@[simp] theorem State.sticky_sliceRun (s : State) (o i : Nat) : (s.sticky o i).sliceRun = s.sliceRun := rfl
@[simp] theorem State.sticky_bist (s : State) (o i : Nat) : (s.sticky o i).bist = s.bist := rfl
@[simp] theorem State.sticky_pulse (s : State) (o i : Nat) : (s.sticky o i).pulse = s.pulse := rfl
@[simp] theorem State.sticky_power (s : State) (o i : Nat) : (s.sticky o i).power = s.power := rfl
@[simp] theorem State.sticky_disc (s : State) (o i : Nat) : (s.sticky o i).disc = s.disc := rfl
@[simp] theorem State.sticky_test (s : State) (o i : Nat) : (s.sticky o i).test = s.test := rfl
@[simp] theorem State.sticky_shadows (s : State) (o i : Nat) : (s.sticky o i).shadows = s.shadows := rfl
@[simp] theorem State.sticky_out (s : State) (o i : Nat) : (s.sticky o i).out = s.out := rfl
@[simp] theorem State.sticky_raised (s : State) (o i : Nat) : (s.sticky o i).raised = s.raised := rfl
@[simp] theorem State.sticky_events (s : State) (o i : Nat) : (s.sticky o i).events = s.events := rfl
@[simp] theorem State.sticky_pending (s : State) (o i : Nat) : (s.sticky o i).pending = s.pending := rfl
@[simp] theorem State.sticky_memHeld (s : State) (o i : Nat) : (s.sticky o i).memHeld = s.memHeld := rfl
@[simp] theorem State.sticky_tableWaits (s : State) (o i : Nat) : (s.sticky o i).tableWaits = s.tableWaits := rfl
@[simp] theorem State.sticky_commitWaits (s : State) (o i : Nat) : (s.sticky o i).commitWaits = s.commitWaits := rfl
@[simp] theorem State.sticky_queries (s : State) (o i : Nat) : (s.sticky o i).queries = s.queries := rfl

/-! ## `State.bumpSat` -/

@[simp] theorem State.bumpSat_build (s : State) (o hi lo n : Nat) : (s.bumpSat o hi lo n).build = s.build := rfl
@[simp] theorem State.bumpSat_straps (s : State) (o hi lo n : Nat) : (s.bumpSat o hi lo n).straps = s.straps := rfl
@[simp] theorem State.bumpSat_resets (s : State) (o hi lo n : Nat) : (s.bumpSat o hi lo n).resets = s.resets := rfl
@[simp] theorem State.bumpSat_lclkLock (s : State) (o hi lo n : Nat) : (s.bumpSat o hi lo n).lclkLock = s.lclkLock := rfl
@[simp] theorem State.bumpSat_lclkHold (s : State) (o hi lo n : Nat) : (s.bumpSat o hi lo n).lclkHold = s.lclkHold := rfl
@[simp] theorem State.bumpSat_fcount (s : State) (o hi lo n : Nat) : (s.bumpSat o hi lo n).fcount = s.fcount := rfl
@[simp] theorem State.bumpSat_phase (s : State) (o hi lo n : Nat) : (s.bumpSat o hi lo n).phase = s.phase := rfl
@[simp] theorem State.bumpSat_pdReq (s : State) (o hi lo n : Nat) : (s.bumpSat o hi lo n).pdReq = s.pdReq := rfl
@[simp] theorem State.bumpSat_pdAck (s : State) (o hi lo n : Nat) : (s.bumpSat o hi lo n).pdAck = s.pdAck := rfl
@[simp] theorem State.bumpSat_irqN (s : State) (o hi lo n : Nat) : (s.bumpSat o hi lo n).irqN = s.irqN := rfl
@[simp] theorem State.bumpSat_kiln (s : State) (o hi lo n : Nat) : (s.bumpSat o hi lo n).kiln = s.kiln := rfl
@[simp] theorem State.bumpSat_inj (s : State) (o hi lo n : Nat) : (s.bumpSat o hi lo n).inj = s.inj := rfl
@[simp] theorem State.bumpSat_rings (s : State) (o hi lo n : Nat) : (s.bumpSat o hi lo n).rings = s.rings := rfl
@[simp] theorem State.bumpSat_accNext (s : State) (o hi lo n : Nat) : (s.bumpSat o hi lo n).accNext = s.accNext := rfl
@[simp] theorem State.bumpSat_descs (s : State) (o hi lo n : Nat) : (s.bumpSat o hi lo n).descs = s.descs := rfl
@[simp] theorem State.bumpSat_nextDesc (s : State) (o hi lo n : Nat) : (s.bumpSat o hi lo n).nextDesc = s.nextDesc := rfl
@[simp] theorem State.bumpSat_fences (s : State) (o hi lo n : Nat) : (s.bumpSat o hi lo n).fences = s.fences := rfl
@[simp] theorem State.bumpSat_hmReads (s : State) (o hi lo n : Nat) : (s.bumpSat o hi lo n).hmReads = s.hmReads := rfl
@[simp] theorem State.bumpSat_hmWrites (s : State) (o hi lo n : Nat) : (s.bumpSat o hi lo n).hmWrites = s.hmWrites := rfl
@[simp] theorem State.bumpSat_memOps (s : State) (o hi lo n : Nat) : (s.bumpSat o hi lo n).memOps = s.memOps := rfl
@[simp] theorem State.bumpSat_nvOps (s : State) (o hi lo n : Nat) : (s.bumpSat o hi lo n).nvOps = s.nvOps := rfl
@[simp] theorem State.bumpSat_reqSeq (s : State) (o hi lo n : Nat) : (s.bumpSat o hi lo n).reqSeq = s.reqSeq := rfl
@[simp] theorem State.bumpSat_stations (s : State) (o hi lo n : Nat) : (s.bumpSat o hi lo n).stations = s.stations := rfl
@[simp] theorem State.bumpSat_ports (s : State) (o hi lo n : Nat) : (s.bumpSat o hi lo n).ports = s.ports := rfl
@[simp] theorem State.bumpSat_tx (s : State) (o hi lo n : Nat) : (s.bumpSat o hi lo n).tx = s.tx := rfl
@[simp] theorem State.bumpSat_rx (s : State) (o hi lo n : Nat) : (s.bumpSat o hi lo n).rx = s.rx := rfl
@[simp] theorem State.bumpSat_ptIn (s : State) (o hi lo n : Nat) : (s.bumpSat o hi lo n).ptIn = s.ptIn := rfl
@[simp] theorem State.bumpSat_ptErr (s : State) (o hi lo n : Nat) : (s.bumpSat o hi lo n).ptErr = s.ptErr := rfl
@[simp] theorem State.bumpSat_arrivals (s : State) (o hi lo n : Nat) : (s.bumpSat o hi lo n).arrivals = s.arrivals := rfl
@[simp] theorem State.bumpSat_tables (s : State) (o hi lo n : Nat) : (s.bumpSat o hi lo n).tables = s.tables := rfl
@[simp] theorem State.bumpSat_emptied (s : State) (o hi lo n : Nat) : (s.bumpSat o hi lo n).emptied = s.emptied := rfl
@[simp] theorem State.bumpSat_regions (s : State) (o hi lo n : Nat) : (s.bumpSat o hi lo n).regions = s.regions := rfl
@[simp] theorem State.bumpSat_saves (s : State) (o hi lo n : Nat) : (s.bumpSat o hi lo n).saves = s.saves := rfl
@[simp] theorem State.bumpSat_shelves (s : State) (o hi lo n : Nat) : (s.bumpSat o hi lo n).shelves = s.shelves := rfl
@[simp] theorem State.bumpSat_bindings (s : State) (o hi lo n : Nat) : (s.bumpSat o hi lo n).bindings = s.bindings := rfl
@[simp] theorem State.bumpSat_shelfWaits (s : State) (o hi lo n : Nat) : (s.bumpSat o hi lo n).shelfWaits = s.shelfWaits := rfl
@[simp] theorem State.bumpSat_draws (s : State) (o hi lo n : Nat) : (s.bumpSat o hi lo n).draws = s.draws := rfl
@[simp] theorem State.bumpSat_restores (s : State) (o hi lo n : Nat) : (s.bumpSat o hi lo n).restores = s.restores := rfl
@[simp] theorem State.bumpSat_fetches (s : State) (o hi lo n : Nat) : (s.bumpSat o hi lo n).fetches = s.fetches := rfl
@[simp] theorem State.bumpSat_sends (s : State) (o hi lo n : Nat) : (s.bumpSat o hi lo n).sends = s.sends := rfl
@[simp] theorem State.bumpSat_sag (s : State) (o hi lo n : Nat) : (s.bumpSat o hi lo n).sag = s.sag := rfl
@[simp] theorem State.bumpSat_partner (s : State) (o hi lo n : Nat) : (s.bumpSat o hi lo n).partner = s.partner := rfl
@[simp] theorem State.bumpSat_keepers (s : State) (o hi lo n : Nat) : (s.bumpSat o hi lo n).keepers = s.keepers := rfl
@[simp] theorem State.bumpSat_keys (s : State) (o hi lo n : Nat) : (s.bumpSat o hi lo n).keys = s.keys := rfl
@[simp] theorem State.bumpSat_reads (s : State) (o hi lo n : Nat) : (s.bumpSat o hi lo n).reads = s.reads := rfl
@[simp] theorem State.bumpSat_ghosts (s : State) (o hi lo n : Nat) : (s.bumpSat o hi lo n).ghosts = s.ghosts := rfl
@[simp] theorem State.bumpSat_peerBlock (s : State) (o hi lo n : Nat) : (s.bumpSat o hi lo n).peerBlock = s.peerBlock := rfl
@[simp] theorem State.bumpSat_record (s : State) (o hi lo n : Nat) : (s.bumpSat o hi lo n).record = s.record := rfl
@[simp] theorem State.bumpSat_negDone (s : State) (o hi lo n : Nat) : (s.bumpSat o hi lo n).negDone = s.negDone := rfl
@[simp] theorem State.bumpSat_mgmt (s : State) (o hi lo n : Nat) : (s.bumpSat o hi lo n).mgmt = s.mgmt := rfl
@[simp] theorem State.bumpSat_port (s : State) (o hi lo n : Nat) : (s.bumpSat o hi lo n).port = s.port := rfl
@[simp] theorem State.bumpSat_linkMsgs (s : State) (o hi lo n : Nat) : (s.bumpSat o hi lo n).linkMsgs = s.linkMsgs := rfl
@[simp] theorem State.bumpSat_credDue (s : State) (o hi lo n : Nat) : (s.bumpSat o hi lo n).credDue = s.credDue := rfl
@[simp] theorem State.bumpSat_guard (s : State) (o hi lo n : Nat) : (s.bumpSat o hi lo n).guard = s.guard := rfl
@[simp] theorem State.bumpSat_strands (s : State) (o hi lo n : Nat) : (s.bumpSat o hi lo n).strands = s.strands := rfl
@[simp] theorem State.bumpSat_cones (s : State) (o hi lo n : Nat) : (s.bumpSat o hi lo n).cones = s.cones := rfl
@[simp] theorem State.bumpSat_dieId (s : State) (o hi lo n : Nat) : (s.bumpSat o hi lo n).dieId = s.dieId := rfl
@[simp] theorem State.bumpSat_dieIdOk (s : State) (o hi lo n : Nat) : (s.bumpSat o hi lo n).dieIdOk = s.dieIdOk := rfl
@[simp] theorem State.bumpSat_idBuf (s : State) (o hi lo n : Nat) : (s.bumpSat o hi lo n).idBuf = s.idBuf := rfl
@[simp] theorem State.bumpSat_early (s : State) (o hi lo n : Nat) : (s.bumpSat o hi lo n).early = s.early := rfl
@[simp] theorem State.bumpSat_bisque (s : State) (o hi lo n : Nat) : (s.bumpSat o hi lo n).bisque = s.bisque := rfl
@[simp] theorem State.bumpSat_ready (s : State) (o hi lo n : Nat) : (s.bumpSat o hi lo n).ready = s.ready := rfl
@[simp] theorem State.bumpSat_phyReady (s : State) (o hi lo n : Nat) : (s.bumpSat o hi lo n).phyReady = s.phyReady := rfl
@[simp] theorem State.bumpSat_exch (s : State) (o hi lo n : Nat) : (s.bumpSat o hi lo n).exch = s.exch := rfl
@[simp] theorem State.bumpSat_presence (s : State) (o hi lo n : Nat) : (s.bumpSat o hi lo n).presence = s.presence := rfl
@[simp] theorem State.bumpSat_trusted (s : State) (o hi lo n : Nat) : (s.bumpSat o hi lo n).trusted = s.trusted := rfl
@[simp] theorem State.bumpSat_offValid (s : State) (o hi lo n : Nat) : (s.bumpSat o hi lo n).offValid = s.offValid := rfl
@[simp] theorem State.bumpSat_peerTime (s : State) (o hi lo n : Nat) : (s.bumpSat o hi lo n).peerTime = s.peerTime := rfl
@[simp] theorem State.bumpSat_cal (s : State) (o hi lo n : Nat) : (s.bumpSat o hi lo n).cal = s.cal := rfl
@[simp] theorem State.bumpSat_calReqs (s : State) (o hi lo n : Nat) : (s.bumpSat o hi lo n).calReqs = s.calReqs := rfl
@[simp] theorem State.bumpSat_sliceRun (s : State) (o hi lo n : Nat) : (s.bumpSat o hi lo n).sliceRun = s.sliceRun := rfl
@[simp] theorem State.bumpSat_bist (s : State) (o hi lo n : Nat) : (s.bumpSat o hi lo n).bist = s.bist := rfl
@[simp] theorem State.bumpSat_pulse (s : State) (o hi lo n : Nat) : (s.bumpSat o hi lo n).pulse = s.pulse := rfl
@[simp] theorem State.bumpSat_power (s : State) (o hi lo n : Nat) : (s.bumpSat o hi lo n).power = s.power := rfl
@[simp] theorem State.bumpSat_disc (s : State) (o hi lo n : Nat) : (s.bumpSat o hi lo n).disc = s.disc := rfl
@[simp] theorem State.bumpSat_test (s : State) (o hi lo n : Nat) : (s.bumpSat o hi lo n).test = s.test := rfl
@[simp] theorem State.bumpSat_shadows (s : State) (o hi lo n : Nat) : (s.bumpSat o hi lo n).shadows = s.shadows := rfl
@[simp] theorem State.bumpSat_out (s : State) (o hi lo n : Nat) : (s.bumpSat o hi lo n).out = s.out := rfl
@[simp] theorem State.bumpSat_raised (s : State) (o hi lo n : Nat) : (s.bumpSat o hi lo n).raised = s.raised := rfl
@[simp] theorem State.bumpSat_events (s : State) (o hi lo n : Nat) : (s.bumpSat o hi lo n).events = s.events := rfl
@[simp] theorem State.bumpSat_pending (s : State) (o hi lo n : Nat) : (s.bumpSat o hi lo n).pending = s.pending := rfl
@[simp] theorem State.bumpSat_memHeld (s : State) (o hi lo n : Nat) : (s.bumpSat o hi lo n).memHeld = s.memHeld := rfl
@[simp] theorem State.bumpSat_tableWaits (s : State) (o hi lo n : Nat) : (s.bumpSat o hi lo n).tableWaits = s.tableWaits := rfl
@[simp] theorem State.bumpSat_commitWaits (s : State) (o hi lo n : Nat) : (s.bumpSat o hi lo n).commitWaits = s.commitWaits := rfl
@[simp] theorem State.bumpSat_queries (s : State) (o hi lo n : Nat) : (s.bumpSat o hi lo n).queries = s.queries := rfl

/-! ## `State.bumpWrap` -/

@[simp] theorem State.bumpWrap_build (s : State) (o hi lo n : Nat) : (s.bumpWrap o hi lo n).build = s.build := rfl
@[simp] theorem State.bumpWrap_straps (s : State) (o hi lo n : Nat) : (s.bumpWrap o hi lo n).straps = s.straps := rfl
@[simp] theorem State.bumpWrap_resets (s : State) (o hi lo n : Nat) : (s.bumpWrap o hi lo n).resets = s.resets := rfl
@[simp] theorem State.bumpWrap_lclkLock (s : State) (o hi lo n : Nat) : (s.bumpWrap o hi lo n).lclkLock = s.lclkLock := rfl
@[simp] theorem State.bumpWrap_lclkHold (s : State) (o hi lo n : Nat) : (s.bumpWrap o hi lo n).lclkHold = s.lclkHold := rfl
@[simp] theorem State.bumpWrap_fcount (s : State) (o hi lo n : Nat) : (s.bumpWrap o hi lo n).fcount = s.fcount := rfl
@[simp] theorem State.bumpWrap_phase (s : State) (o hi lo n : Nat) : (s.bumpWrap o hi lo n).phase = s.phase := rfl
@[simp] theorem State.bumpWrap_pdReq (s : State) (o hi lo n : Nat) : (s.bumpWrap o hi lo n).pdReq = s.pdReq := rfl
@[simp] theorem State.bumpWrap_pdAck (s : State) (o hi lo n : Nat) : (s.bumpWrap o hi lo n).pdAck = s.pdAck := rfl
@[simp] theorem State.bumpWrap_irqN (s : State) (o hi lo n : Nat) : (s.bumpWrap o hi lo n).irqN = s.irqN := rfl
@[simp] theorem State.bumpWrap_kiln (s : State) (o hi lo n : Nat) : (s.bumpWrap o hi lo n).kiln = s.kiln := rfl
@[simp] theorem State.bumpWrap_inj (s : State) (o hi lo n : Nat) : (s.bumpWrap o hi lo n).inj = s.inj := rfl
@[simp] theorem State.bumpWrap_rings (s : State) (o hi lo n : Nat) : (s.bumpWrap o hi lo n).rings = s.rings := rfl
@[simp] theorem State.bumpWrap_accNext (s : State) (o hi lo n : Nat) : (s.bumpWrap o hi lo n).accNext = s.accNext := rfl
@[simp] theorem State.bumpWrap_descs (s : State) (o hi lo n : Nat) : (s.bumpWrap o hi lo n).descs = s.descs := rfl
@[simp] theorem State.bumpWrap_nextDesc (s : State) (o hi lo n : Nat) : (s.bumpWrap o hi lo n).nextDesc = s.nextDesc := rfl
@[simp] theorem State.bumpWrap_fences (s : State) (o hi lo n : Nat) : (s.bumpWrap o hi lo n).fences = s.fences := rfl
@[simp] theorem State.bumpWrap_hmReads (s : State) (o hi lo n : Nat) : (s.bumpWrap o hi lo n).hmReads = s.hmReads := rfl
@[simp] theorem State.bumpWrap_hmWrites (s : State) (o hi lo n : Nat) : (s.bumpWrap o hi lo n).hmWrites = s.hmWrites := rfl
@[simp] theorem State.bumpWrap_memOps (s : State) (o hi lo n : Nat) : (s.bumpWrap o hi lo n).memOps = s.memOps := rfl
@[simp] theorem State.bumpWrap_nvOps (s : State) (o hi lo n : Nat) : (s.bumpWrap o hi lo n).nvOps = s.nvOps := rfl
@[simp] theorem State.bumpWrap_reqSeq (s : State) (o hi lo n : Nat) : (s.bumpWrap o hi lo n).reqSeq = s.reqSeq := rfl
@[simp] theorem State.bumpWrap_stations (s : State) (o hi lo n : Nat) : (s.bumpWrap o hi lo n).stations = s.stations := rfl
@[simp] theorem State.bumpWrap_ports (s : State) (o hi lo n : Nat) : (s.bumpWrap o hi lo n).ports = s.ports := rfl
@[simp] theorem State.bumpWrap_tx (s : State) (o hi lo n : Nat) : (s.bumpWrap o hi lo n).tx = s.tx := rfl
@[simp] theorem State.bumpWrap_rx (s : State) (o hi lo n : Nat) : (s.bumpWrap o hi lo n).rx = s.rx := rfl
@[simp] theorem State.bumpWrap_ptIn (s : State) (o hi lo n : Nat) : (s.bumpWrap o hi lo n).ptIn = s.ptIn := rfl
@[simp] theorem State.bumpWrap_ptErr (s : State) (o hi lo n : Nat) : (s.bumpWrap o hi lo n).ptErr = s.ptErr := rfl
@[simp] theorem State.bumpWrap_arrivals (s : State) (o hi lo n : Nat) : (s.bumpWrap o hi lo n).arrivals = s.arrivals := rfl
@[simp] theorem State.bumpWrap_tables (s : State) (o hi lo n : Nat) : (s.bumpWrap o hi lo n).tables = s.tables := rfl
@[simp] theorem State.bumpWrap_emptied (s : State) (o hi lo n : Nat) : (s.bumpWrap o hi lo n).emptied = s.emptied := rfl
@[simp] theorem State.bumpWrap_regions (s : State) (o hi lo n : Nat) : (s.bumpWrap o hi lo n).regions = s.regions := rfl
@[simp] theorem State.bumpWrap_saves (s : State) (o hi lo n : Nat) : (s.bumpWrap o hi lo n).saves = s.saves := rfl
@[simp] theorem State.bumpWrap_shelves (s : State) (o hi lo n : Nat) : (s.bumpWrap o hi lo n).shelves = s.shelves := rfl
@[simp] theorem State.bumpWrap_bindings (s : State) (o hi lo n : Nat) : (s.bumpWrap o hi lo n).bindings = s.bindings := rfl
@[simp] theorem State.bumpWrap_shelfWaits (s : State) (o hi lo n : Nat) : (s.bumpWrap o hi lo n).shelfWaits = s.shelfWaits := rfl
@[simp] theorem State.bumpWrap_draws (s : State) (o hi lo n : Nat) : (s.bumpWrap o hi lo n).draws = s.draws := rfl
@[simp] theorem State.bumpWrap_restores (s : State) (o hi lo n : Nat) : (s.bumpWrap o hi lo n).restores = s.restores := rfl
@[simp] theorem State.bumpWrap_fetches (s : State) (o hi lo n : Nat) : (s.bumpWrap o hi lo n).fetches = s.fetches := rfl
@[simp] theorem State.bumpWrap_sends (s : State) (o hi lo n : Nat) : (s.bumpWrap o hi lo n).sends = s.sends := rfl
@[simp] theorem State.bumpWrap_sag (s : State) (o hi lo n : Nat) : (s.bumpWrap o hi lo n).sag = s.sag := rfl
@[simp] theorem State.bumpWrap_partner (s : State) (o hi lo n : Nat) : (s.bumpWrap o hi lo n).partner = s.partner := rfl
@[simp] theorem State.bumpWrap_keepers (s : State) (o hi lo n : Nat) : (s.bumpWrap o hi lo n).keepers = s.keepers := rfl
@[simp] theorem State.bumpWrap_keys (s : State) (o hi lo n : Nat) : (s.bumpWrap o hi lo n).keys = s.keys := rfl
@[simp] theorem State.bumpWrap_reads (s : State) (o hi lo n : Nat) : (s.bumpWrap o hi lo n).reads = s.reads := rfl
@[simp] theorem State.bumpWrap_ghosts (s : State) (o hi lo n : Nat) : (s.bumpWrap o hi lo n).ghosts = s.ghosts := rfl
@[simp] theorem State.bumpWrap_peerBlock (s : State) (o hi lo n : Nat) : (s.bumpWrap o hi lo n).peerBlock = s.peerBlock := rfl
@[simp] theorem State.bumpWrap_record (s : State) (o hi lo n : Nat) : (s.bumpWrap o hi lo n).record = s.record := rfl
@[simp] theorem State.bumpWrap_negDone (s : State) (o hi lo n : Nat) : (s.bumpWrap o hi lo n).negDone = s.negDone := rfl
@[simp] theorem State.bumpWrap_mgmt (s : State) (o hi lo n : Nat) : (s.bumpWrap o hi lo n).mgmt = s.mgmt := rfl
@[simp] theorem State.bumpWrap_port (s : State) (o hi lo n : Nat) : (s.bumpWrap o hi lo n).port = s.port := rfl
@[simp] theorem State.bumpWrap_linkMsgs (s : State) (o hi lo n : Nat) : (s.bumpWrap o hi lo n).linkMsgs = s.linkMsgs := rfl
@[simp] theorem State.bumpWrap_credDue (s : State) (o hi lo n : Nat) : (s.bumpWrap o hi lo n).credDue = s.credDue := rfl
@[simp] theorem State.bumpWrap_guard (s : State) (o hi lo n : Nat) : (s.bumpWrap o hi lo n).guard = s.guard := rfl
@[simp] theorem State.bumpWrap_strands (s : State) (o hi lo n : Nat) : (s.bumpWrap o hi lo n).strands = s.strands := rfl
@[simp] theorem State.bumpWrap_cones (s : State) (o hi lo n : Nat) : (s.bumpWrap o hi lo n).cones = s.cones := rfl
@[simp] theorem State.bumpWrap_dieId (s : State) (o hi lo n : Nat) : (s.bumpWrap o hi lo n).dieId = s.dieId := rfl
@[simp] theorem State.bumpWrap_dieIdOk (s : State) (o hi lo n : Nat) : (s.bumpWrap o hi lo n).dieIdOk = s.dieIdOk := rfl
@[simp] theorem State.bumpWrap_idBuf (s : State) (o hi lo n : Nat) : (s.bumpWrap o hi lo n).idBuf = s.idBuf := rfl
@[simp] theorem State.bumpWrap_early (s : State) (o hi lo n : Nat) : (s.bumpWrap o hi lo n).early = s.early := rfl
@[simp] theorem State.bumpWrap_bisque (s : State) (o hi lo n : Nat) : (s.bumpWrap o hi lo n).bisque = s.bisque := rfl
@[simp] theorem State.bumpWrap_ready (s : State) (o hi lo n : Nat) : (s.bumpWrap o hi lo n).ready = s.ready := rfl
@[simp] theorem State.bumpWrap_phyReady (s : State) (o hi lo n : Nat) : (s.bumpWrap o hi lo n).phyReady = s.phyReady := rfl
@[simp] theorem State.bumpWrap_exch (s : State) (o hi lo n : Nat) : (s.bumpWrap o hi lo n).exch = s.exch := rfl
@[simp] theorem State.bumpWrap_presence (s : State) (o hi lo n : Nat) : (s.bumpWrap o hi lo n).presence = s.presence := rfl
@[simp] theorem State.bumpWrap_trusted (s : State) (o hi lo n : Nat) : (s.bumpWrap o hi lo n).trusted = s.trusted := rfl
@[simp] theorem State.bumpWrap_offValid (s : State) (o hi lo n : Nat) : (s.bumpWrap o hi lo n).offValid = s.offValid := rfl
@[simp] theorem State.bumpWrap_peerTime (s : State) (o hi lo n : Nat) : (s.bumpWrap o hi lo n).peerTime = s.peerTime := rfl
@[simp] theorem State.bumpWrap_cal (s : State) (o hi lo n : Nat) : (s.bumpWrap o hi lo n).cal = s.cal := rfl
@[simp] theorem State.bumpWrap_calReqs (s : State) (o hi lo n : Nat) : (s.bumpWrap o hi lo n).calReqs = s.calReqs := rfl
@[simp] theorem State.bumpWrap_sliceRun (s : State) (o hi lo n : Nat) : (s.bumpWrap o hi lo n).sliceRun = s.sliceRun := rfl
@[simp] theorem State.bumpWrap_bist (s : State) (o hi lo n : Nat) : (s.bumpWrap o hi lo n).bist = s.bist := rfl
@[simp] theorem State.bumpWrap_pulse (s : State) (o hi lo n : Nat) : (s.bumpWrap o hi lo n).pulse = s.pulse := rfl
@[simp] theorem State.bumpWrap_power (s : State) (o hi lo n : Nat) : (s.bumpWrap o hi lo n).power = s.power := rfl
@[simp] theorem State.bumpWrap_disc (s : State) (o hi lo n : Nat) : (s.bumpWrap o hi lo n).disc = s.disc := rfl
@[simp] theorem State.bumpWrap_test (s : State) (o hi lo n : Nat) : (s.bumpWrap o hi lo n).test = s.test := rfl
@[simp] theorem State.bumpWrap_shadows (s : State) (o hi lo n : Nat) : (s.bumpWrap o hi lo n).shadows = s.shadows := rfl
@[simp] theorem State.bumpWrap_out (s : State) (o hi lo n : Nat) : (s.bumpWrap o hi lo n).out = s.out := rfl
@[simp] theorem State.bumpWrap_raised (s : State) (o hi lo n : Nat) : (s.bumpWrap o hi lo n).raised = s.raised := rfl
@[simp] theorem State.bumpWrap_events (s : State) (o hi lo n : Nat) : (s.bumpWrap o hi lo n).events = s.events := rfl
@[simp] theorem State.bumpWrap_pending (s : State) (o hi lo n : Nat) : (s.bumpWrap o hi lo n).pending = s.pending := rfl
@[simp] theorem State.bumpWrap_memHeld (s : State) (o hi lo n : Nat) : (s.bumpWrap o hi lo n).memHeld = s.memHeld := rfl
@[simp] theorem State.bumpWrap_tableWaits (s : State) (o hi lo n : Nat) : (s.bumpWrap o hi lo n).tableWaits = s.tableWaits := rfl
@[simp] theorem State.bumpWrap_commitWaits (s : State) (o hi lo n : Nat) : (s.bumpWrap o hi lo n).commitWaits = s.commitWaits := rfl
@[simp] theorem State.bumpWrap_queries (s : State) (o hi lo n : Nat) : (s.bumpWrap o hi lo n).queries = s.queries := rfl

/-! ## `State.raise` -/

@[simp] theorem State.raise_build (s : State) (c u d : Nat) (j : Bool) : (s.raise c u d j).build = s.build := rfl
@[simp] theorem State.raise_straps (s : State) (c u d : Nat) (j : Bool) : (s.raise c u d j).straps = s.straps := rfl
@[simp] theorem State.raise_resets (s : State) (c u d : Nat) (j : Bool) : (s.raise c u d j).resets = s.resets := rfl
@[simp] theorem State.raise_lclkLock (s : State) (c u d : Nat) (j : Bool) : (s.raise c u d j).lclkLock = s.lclkLock := rfl
@[simp] theorem State.raise_lclkHold (s : State) (c u d : Nat) (j : Bool) : (s.raise c u d j).lclkHold = s.lclkHold := rfl
@[simp] theorem State.raise_fcount (s : State) (c u d : Nat) (j : Bool) : (s.raise c u d j).fcount = s.fcount := rfl
@[simp] theorem State.raise_phase (s : State) (c u d : Nat) (j : Bool) : (s.raise c u d j).phase = s.phase := rfl
@[simp] theorem State.raise_regs (s : State) (c u d : Nat) (j : Bool) : (s.raise c u d j).regs = s.regs := rfl
@[simp] theorem State.raise_pdReq (s : State) (c u d : Nat) (j : Bool) : (s.raise c u d j).pdReq = s.pdReq := rfl
@[simp] theorem State.raise_pdAck (s : State) (c u d : Nat) (j : Bool) : (s.raise c u d j).pdAck = s.pdAck := rfl
@[simp] theorem State.raise_irqN (s : State) (c u d : Nat) (j : Bool) : (s.raise c u d j).irqN = s.irqN := rfl
@[simp] theorem State.raise_kiln (s : State) (c u d : Nat) (j : Bool) : (s.raise c u d j).kiln = s.kiln := rfl
@[simp] theorem State.raise_inj (s : State) (c u d : Nat) (j : Bool) : (s.raise c u d j).inj = s.inj := rfl
@[simp] theorem State.raise_rings (s : State) (c u d : Nat) (j : Bool) : (s.raise c u d j).rings = s.rings := rfl
@[simp] theorem State.raise_accNext (s : State) (c u d : Nat) (j : Bool) : (s.raise c u d j).accNext = s.accNext := rfl
@[simp] theorem State.raise_descs (s : State) (c u d : Nat) (j : Bool) : (s.raise c u d j).descs = s.descs := rfl
@[simp] theorem State.raise_nextDesc (s : State) (c u d : Nat) (j : Bool) : (s.raise c u d j).nextDesc = s.nextDesc := rfl
@[simp] theorem State.raise_fences (s : State) (c u d : Nat) (j : Bool) : (s.raise c u d j).fences = s.fences := rfl
@[simp] theorem State.raise_hmReads (s : State) (c u d : Nat) (j : Bool) : (s.raise c u d j).hmReads = s.hmReads := rfl
@[simp] theorem State.raise_hmWrites (s : State) (c u d : Nat) (j : Bool) : (s.raise c u d j).hmWrites = s.hmWrites := rfl
@[simp] theorem State.raise_memOps (s : State) (c u d : Nat) (j : Bool) : (s.raise c u d j).memOps = s.memOps := rfl
@[simp] theorem State.raise_nvOps (s : State) (c u d : Nat) (j : Bool) : (s.raise c u d j).nvOps = s.nvOps := rfl
@[simp] theorem State.raise_reqSeq (s : State) (c u d : Nat) (j : Bool) : (s.raise c u d j).reqSeq = s.reqSeq := rfl
@[simp] theorem State.raise_stations (s : State) (c u d : Nat) (j : Bool) : (s.raise c u d j).stations = s.stations := rfl
@[simp] theorem State.raise_ports (s : State) (c u d : Nat) (j : Bool) : (s.raise c u d j).ports = s.ports := rfl
@[simp] theorem State.raise_tx (s : State) (c u d : Nat) (j : Bool) : (s.raise c u d j).tx = s.tx := rfl
@[simp] theorem State.raise_rx (s : State) (c u d : Nat) (j : Bool) : (s.raise c u d j).rx = s.rx := rfl
@[simp] theorem State.raise_ptIn (s : State) (c u d : Nat) (j : Bool) : (s.raise c u d j).ptIn = s.ptIn := rfl
@[simp] theorem State.raise_ptErr (s : State) (c u d : Nat) (j : Bool) : (s.raise c u d j).ptErr = s.ptErr := rfl
@[simp] theorem State.raise_arrivals (s : State) (c u d : Nat) (j : Bool) : (s.raise c u d j).arrivals = s.arrivals := rfl
@[simp] theorem State.raise_tables (s : State) (c u d : Nat) (j : Bool) : (s.raise c u d j).tables = s.tables := rfl
@[simp] theorem State.raise_emptied (s : State) (c u d : Nat) (j : Bool) : (s.raise c u d j).emptied = s.emptied := rfl
@[simp] theorem State.raise_regions (s : State) (c u d : Nat) (j : Bool) : (s.raise c u d j).regions = s.regions := rfl
@[simp] theorem State.raise_saves (s : State) (c u d : Nat) (j : Bool) : (s.raise c u d j).saves = s.saves := rfl
@[simp] theorem State.raise_shelves (s : State) (c u d : Nat) (j : Bool) : (s.raise c u d j).shelves = s.shelves := rfl
@[simp] theorem State.raise_bindings (s : State) (c u d : Nat) (j : Bool) : (s.raise c u d j).bindings = s.bindings := rfl
@[simp] theorem State.raise_shelfWaits (s : State) (c u d : Nat) (j : Bool) : (s.raise c u d j).shelfWaits = s.shelfWaits := rfl
@[simp] theorem State.raise_draws (s : State) (c u d : Nat) (j : Bool) : (s.raise c u d j).draws = s.draws := rfl
@[simp] theorem State.raise_restores (s : State) (c u d : Nat) (j : Bool) : (s.raise c u d j).restores = s.restores := rfl
@[simp] theorem State.raise_fetches (s : State) (c u d : Nat) (j : Bool) : (s.raise c u d j).fetches = s.fetches := rfl
@[simp] theorem State.raise_sends (s : State) (c u d : Nat) (j : Bool) : (s.raise c u d j).sends = s.sends := rfl
@[simp] theorem State.raise_sag (s : State) (c u d : Nat) (j : Bool) : (s.raise c u d j).sag = s.sag := rfl
@[simp] theorem State.raise_partner (s : State) (c u d : Nat) (j : Bool) : (s.raise c u d j).partner = s.partner := rfl
@[simp] theorem State.raise_keepers (s : State) (c u d : Nat) (j : Bool) : (s.raise c u d j).keepers = s.keepers := rfl
@[simp] theorem State.raise_keys (s : State) (c u d : Nat) (j : Bool) : (s.raise c u d j).keys = s.keys := rfl
@[simp] theorem State.raise_reads (s : State) (c u d : Nat) (j : Bool) : (s.raise c u d j).reads = s.reads := rfl
@[simp] theorem State.raise_ghosts (s : State) (c u d : Nat) (j : Bool) : (s.raise c u d j).ghosts = s.ghosts := rfl
@[simp] theorem State.raise_peerBlock (s : State) (c u d : Nat) (j : Bool) : (s.raise c u d j).peerBlock = s.peerBlock := rfl
@[simp] theorem State.raise_record (s : State) (c u d : Nat) (j : Bool) : (s.raise c u d j).record = s.record := rfl
@[simp] theorem State.raise_negDone (s : State) (c u d : Nat) (j : Bool) : (s.raise c u d j).negDone = s.negDone := rfl
@[simp] theorem State.raise_mgmt (s : State) (c u d : Nat) (j : Bool) : (s.raise c u d j).mgmt = s.mgmt := rfl
@[simp] theorem State.raise_port (s : State) (c u d : Nat) (j : Bool) : (s.raise c u d j).port = s.port := rfl
@[simp] theorem State.raise_linkMsgs (s : State) (c u d : Nat) (j : Bool) : (s.raise c u d j).linkMsgs = s.linkMsgs := rfl
@[simp] theorem State.raise_credDue (s : State) (c u d : Nat) (j : Bool) : (s.raise c u d j).credDue = s.credDue := rfl
@[simp] theorem State.raise_guard (s : State) (c u d : Nat) (j : Bool) : (s.raise c u d j).guard = s.guard := rfl
@[simp] theorem State.raise_strands (s : State) (c u d : Nat) (j : Bool) : (s.raise c u d j).strands = s.strands := rfl
@[simp] theorem State.raise_cones (s : State) (c u d : Nat) (j : Bool) : (s.raise c u d j).cones = s.cones := rfl
@[simp] theorem State.raise_dieId (s : State) (c u d : Nat) (j : Bool) : (s.raise c u d j).dieId = s.dieId := rfl
@[simp] theorem State.raise_dieIdOk (s : State) (c u d : Nat) (j : Bool) : (s.raise c u d j).dieIdOk = s.dieIdOk := rfl
@[simp] theorem State.raise_idBuf (s : State) (c u d : Nat) (j : Bool) : (s.raise c u d j).idBuf = s.idBuf := rfl
@[simp] theorem State.raise_early (s : State) (c u d : Nat) (j : Bool) : (s.raise c u d j).early = s.early := rfl
@[simp] theorem State.raise_bisque (s : State) (c u d : Nat) (j : Bool) : (s.raise c u d j).bisque = s.bisque := rfl
@[simp] theorem State.raise_ready (s : State) (c u d : Nat) (j : Bool) : (s.raise c u d j).ready = s.ready := rfl
@[simp] theorem State.raise_phyReady (s : State) (c u d : Nat) (j : Bool) : (s.raise c u d j).phyReady = s.phyReady := rfl
@[simp] theorem State.raise_exch (s : State) (c u d : Nat) (j : Bool) : (s.raise c u d j).exch = s.exch := rfl
@[simp] theorem State.raise_presence (s : State) (c u d : Nat) (j : Bool) : (s.raise c u d j).presence = s.presence := rfl
@[simp] theorem State.raise_trusted (s : State) (c u d : Nat) (j : Bool) : (s.raise c u d j).trusted = s.trusted := rfl
@[simp] theorem State.raise_offValid (s : State) (c u d : Nat) (j : Bool) : (s.raise c u d j).offValid = s.offValid := rfl
@[simp] theorem State.raise_peerTime (s : State) (c u d : Nat) (j : Bool) : (s.raise c u d j).peerTime = s.peerTime := rfl
@[simp] theorem State.raise_cal (s : State) (c u d : Nat) (j : Bool) : (s.raise c u d j).cal = s.cal := rfl
@[simp] theorem State.raise_calReqs (s : State) (c u d : Nat) (j : Bool) : (s.raise c u d j).calReqs = s.calReqs := rfl
@[simp] theorem State.raise_sliceRun (s : State) (c u d : Nat) (j : Bool) : (s.raise c u d j).sliceRun = s.sliceRun := rfl
@[simp] theorem State.raise_bist (s : State) (c u d : Nat) (j : Bool) : (s.raise c u d j).bist = s.bist := rfl
@[simp] theorem State.raise_pulse (s : State) (c u d : Nat) (j : Bool) : (s.raise c u d j).pulse = s.pulse := rfl
@[simp] theorem State.raise_power (s : State) (c u d : Nat) (j : Bool) : (s.raise c u d j).power = s.power := rfl
@[simp] theorem State.raise_disc (s : State) (c u d : Nat) (j : Bool) : (s.raise c u d j).disc = s.disc := rfl
@[simp] theorem State.raise_test (s : State) (c u d : Nat) (j : Bool) : (s.raise c u d j).test = s.test := rfl
@[simp] theorem State.raise_shadows (s : State) (c u d : Nat) (j : Bool) : (s.raise c u d j).shadows = s.shadows := rfl
@[simp] theorem State.raise_out (s : State) (c u d : Nat) (j : Bool) : (s.raise c u d j).out = s.out := rfl
@[simp] theorem State.raise_pending (s : State) (c u d : Nat) (j : Bool) : (s.raise c u d j).pending = s.pending := rfl

/-! ## `State.emit` -/

@[simp] theorem State.emit_build (s : State) (x : Out) : (s.emit x).build = s.build := rfl
@[simp] theorem State.emit_straps (s : State) (x : Out) : (s.emit x).straps = s.straps := rfl
@[simp] theorem State.emit_resets (s : State) (x : Out) : (s.emit x).resets = s.resets := rfl
@[simp] theorem State.emit_lclkLock (s : State) (x : Out) : (s.emit x).lclkLock = s.lclkLock := rfl
@[simp] theorem State.emit_lclkHold (s : State) (x : Out) : (s.emit x).lclkHold = s.lclkHold := rfl
@[simp] theorem State.emit_fcount (s : State) (x : Out) : (s.emit x).fcount = s.fcount := rfl
@[simp] theorem State.emit_phase (s : State) (x : Out) : (s.emit x).phase = s.phase := rfl
@[simp] theorem State.emit_regs (s : State) (x : Out) : (s.emit x).regs = s.regs := rfl
@[simp] theorem State.emit_pdReq (s : State) (x : Out) : (s.emit x).pdReq = s.pdReq := rfl
@[simp] theorem State.emit_pdAck (s : State) (x : Out) : (s.emit x).pdAck = s.pdAck := rfl
@[simp] theorem State.emit_irqN (s : State) (x : Out) : (s.emit x).irqN = s.irqN := rfl
@[simp] theorem State.emit_kiln (s : State) (x : Out) : (s.emit x).kiln = s.kiln := rfl
@[simp] theorem State.emit_inj (s : State) (x : Out) : (s.emit x).inj = s.inj := rfl
@[simp] theorem State.emit_rings (s : State) (x : Out) : (s.emit x).rings = s.rings := rfl
@[simp] theorem State.emit_accNext (s : State) (x : Out) : (s.emit x).accNext = s.accNext := rfl
@[simp] theorem State.emit_descs (s : State) (x : Out) : (s.emit x).descs = s.descs := rfl
@[simp] theorem State.emit_nextDesc (s : State) (x : Out) : (s.emit x).nextDesc = s.nextDesc := rfl
@[simp] theorem State.emit_fences (s : State) (x : Out) : (s.emit x).fences = s.fences := rfl
@[simp] theorem State.emit_hmReads (s : State) (x : Out) : (s.emit x).hmReads = s.hmReads := rfl
@[simp] theorem State.emit_hmWrites (s : State) (x : Out) : (s.emit x).hmWrites = s.hmWrites := rfl
@[simp] theorem State.emit_memOps (s : State) (x : Out) : (s.emit x).memOps = s.memOps := rfl
@[simp] theorem State.emit_nvOps (s : State) (x : Out) : (s.emit x).nvOps = s.nvOps := rfl
@[simp] theorem State.emit_reqSeq (s : State) (x : Out) : (s.emit x).reqSeq = s.reqSeq := rfl
@[simp] theorem State.emit_stations (s : State) (x : Out) : (s.emit x).stations = s.stations := rfl
@[simp] theorem State.emit_ports (s : State) (x : Out) : (s.emit x).ports = s.ports := rfl
@[simp] theorem State.emit_tx (s : State) (x : Out) : (s.emit x).tx = s.tx := rfl
@[simp] theorem State.emit_rx (s : State) (x : Out) : (s.emit x).rx = s.rx := rfl
@[simp] theorem State.emit_ptIn (s : State) (x : Out) : (s.emit x).ptIn = s.ptIn := rfl
@[simp] theorem State.emit_ptErr (s : State) (x : Out) : (s.emit x).ptErr = s.ptErr := rfl
@[simp] theorem State.emit_arrivals (s : State) (x : Out) : (s.emit x).arrivals = s.arrivals := rfl
@[simp] theorem State.emit_tables (s : State) (x : Out) : (s.emit x).tables = s.tables := rfl
@[simp] theorem State.emit_emptied (s : State) (x : Out) : (s.emit x).emptied = s.emptied := rfl
@[simp] theorem State.emit_regions (s : State) (x : Out) : (s.emit x).regions = s.regions := rfl
@[simp] theorem State.emit_saves (s : State) (x : Out) : (s.emit x).saves = s.saves := rfl
@[simp] theorem State.emit_shelves (s : State) (x : Out) : (s.emit x).shelves = s.shelves := rfl
@[simp] theorem State.emit_bindings (s : State) (x : Out) : (s.emit x).bindings = s.bindings := rfl
@[simp] theorem State.emit_shelfWaits (s : State) (x : Out) : (s.emit x).shelfWaits = s.shelfWaits := rfl
@[simp] theorem State.emit_draws (s : State) (x : Out) : (s.emit x).draws = s.draws := rfl
@[simp] theorem State.emit_restores (s : State) (x : Out) : (s.emit x).restores = s.restores := rfl
@[simp] theorem State.emit_fetches (s : State) (x : Out) : (s.emit x).fetches = s.fetches := rfl
@[simp] theorem State.emit_sends (s : State) (x : Out) : (s.emit x).sends = s.sends := rfl
@[simp] theorem State.emit_sag (s : State) (x : Out) : (s.emit x).sag = s.sag := rfl
@[simp] theorem State.emit_partner (s : State) (x : Out) : (s.emit x).partner = s.partner := rfl
@[simp] theorem State.emit_keepers (s : State) (x : Out) : (s.emit x).keepers = s.keepers := rfl
@[simp] theorem State.emit_keys (s : State) (x : Out) : (s.emit x).keys = s.keys := rfl
@[simp] theorem State.emit_reads (s : State) (x : Out) : (s.emit x).reads = s.reads := rfl
@[simp] theorem State.emit_ghosts (s : State) (x : Out) : (s.emit x).ghosts = s.ghosts := rfl
@[simp] theorem State.emit_peerBlock (s : State) (x : Out) : (s.emit x).peerBlock = s.peerBlock := rfl
@[simp] theorem State.emit_record (s : State) (x : Out) : (s.emit x).record = s.record := rfl
@[simp] theorem State.emit_negDone (s : State) (x : Out) : (s.emit x).negDone = s.negDone := rfl
@[simp] theorem State.emit_mgmt (s : State) (x : Out) : (s.emit x).mgmt = s.mgmt := rfl
@[simp] theorem State.emit_port (s : State) (x : Out) : (s.emit x).port = s.port := rfl
@[simp] theorem State.emit_linkMsgs (s : State) (x : Out) : (s.emit x).linkMsgs = s.linkMsgs := rfl
@[simp] theorem State.emit_credDue (s : State) (x : Out) : (s.emit x).credDue = s.credDue := rfl
@[simp] theorem State.emit_guard (s : State) (x : Out) : (s.emit x).guard = s.guard := rfl
@[simp] theorem State.emit_strands (s : State) (x : Out) : (s.emit x).strands = s.strands := rfl
@[simp] theorem State.emit_cones (s : State) (x : Out) : (s.emit x).cones = s.cones := rfl
@[simp] theorem State.emit_dieId (s : State) (x : Out) : (s.emit x).dieId = s.dieId := rfl
@[simp] theorem State.emit_dieIdOk (s : State) (x : Out) : (s.emit x).dieIdOk = s.dieIdOk := rfl
@[simp] theorem State.emit_idBuf (s : State) (x : Out) : (s.emit x).idBuf = s.idBuf := rfl
@[simp] theorem State.emit_early (s : State) (x : Out) : (s.emit x).early = s.early := rfl
@[simp] theorem State.emit_bisque (s : State) (x : Out) : (s.emit x).bisque = s.bisque := rfl
@[simp] theorem State.emit_ready (s : State) (x : Out) : (s.emit x).ready = s.ready := rfl
@[simp] theorem State.emit_phyReady (s : State) (x : Out) : (s.emit x).phyReady = s.phyReady := rfl
@[simp] theorem State.emit_exch (s : State) (x : Out) : (s.emit x).exch = s.exch := rfl
@[simp] theorem State.emit_presence (s : State) (x : Out) : (s.emit x).presence = s.presence := rfl
@[simp] theorem State.emit_trusted (s : State) (x : Out) : (s.emit x).trusted = s.trusted := rfl
@[simp] theorem State.emit_offValid (s : State) (x : Out) : (s.emit x).offValid = s.offValid := rfl
@[simp] theorem State.emit_peerTime (s : State) (x : Out) : (s.emit x).peerTime = s.peerTime := rfl
@[simp] theorem State.emit_cal (s : State) (x : Out) : (s.emit x).cal = s.cal := rfl
@[simp] theorem State.emit_calReqs (s : State) (x : Out) : (s.emit x).calReqs = s.calReqs := rfl
@[simp] theorem State.emit_sliceRun (s : State) (x : Out) : (s.emit x).sliceRun = s.sliceRun := rfl
@[simp] theorem State.emit_bist (s : State) (x : Out) : (s.emit x).bist = s.bist := rfl
@[simp] theorem State.emit_pulse (s : State) (x : Out) : (s.emit x).pulse = s.pulse := rfl
@[simp] theorem State.emit_power (s : State) (x : Out) : (s.emit x).power = s.power := rfl
@[simp] theorem State.emit_disc (s : State) (x : Out) : (s.emit x).disc = s.disc := rfl
@[simp] theorem State.emit_test (s : State) (x : Out) : (s.emit x).test = s.test := rfl
@[simp] theorem State.emit_shadows (s : State) (x : Out) : (s.emit x).shadows = s.shadows := rfl
@[simp] theorem State.emit_raised (s : State) (x : Out) : (s.emit x).raised = s.raised := rfl
@[simp] theorem State.emit_events (s : State) (x : Out) : (s.emit x).events = s.events := rfl
@[simp] theorem State.emit_pending (s : State) (x : Out) : (s.emit x).pending = s.pending := rfl
@[simp] theorem State.emit_memHeld (s : State) (x : Out) : (s.emit x).memHeld = s.memHeld := rfl
@[simp] theorem State.emit_tableWaits (s : State) (x : Out) : (s.emit x).tableWaits = s.tableWaits := rfl
@[simp] theorem State.emit_commitWaits (s : State) (x : Out) : (s.emit x).commitWaits = s.commitWaits := rfl
@[simp] theorem State.emit_queries (s : State) (x : Out) : (s.emit x).queries = s.queries := rfl

/-! ## `State.modStrand` -/

@[simp] theorem State.modStrand_build (s : State) (i : Nat) (f : Strand → Strand) : (s.modStrand i f).build = s.build := rfl
@[simp] theorem State.modStrand_straps (s : State) (i : Nat) (f : Strand → Strand) : (s.modStrand i f).straps = s.straps := rfl
@[simp] theorem State.modStrand_resets (s : State) (i : Nat) (f : Strand → Strand) : (s.modStrand i f).resets = s.resets := rfl
@[simp] theorem State.modStrand_lclkLock (s : State) (i : Nat) (f : Strand → Strand) : (s.modStrand i f).lclkLock = s.lclkLock := rfl
@[simp] theorem State.modStrand_lclkHold (s : State) (i : Nat) (f : Strand → Strand) : (s.modStrand i f).lclkHold = s.lclkHold := rfl
@[simp] theorem State.modStrand_fcount (s : State) (i : Nat) (f : Strand → Strand) : (s.modStrand i f).fcount = s.fcount := rfl
@[simp] theorem State.modStrand_phase (s : State) (i : Nat) (f : Strand → Strand) : (s.modStrand i f).phase = s.phase := rfl
@[simp] theorem State.modStrand_regs (s : State) (i : Nat) (f : Strand → Strand) : (s.modStrand i f).regs = s.regs := rfl
@[simp] theorem State.modStrand_pdReq (s : State) (i : Nat) (f : Strand → Strand) : (s.modStrand i f).pdReq = s.pdReq := rfl
@[simp] theorem State.modStrand_pdAck (s : State) (i : Nat) (f : Strand → Strand) : (s.modStrand i f).pdAck = s.pdAck := rfl
@[simp] theorem State.modStrand_irqN (s : State) (i : Nat) (f : Strand → Strand) : (s.modStrand i f).irqN = s.irqN := rfl
@[simp] theorem State.modStrand_kiln (s : State) (i : Nat) (f : Strand → Strand) : (s.modStrand i f).kiln = s.kiln := rfl
@[simp] theorem State.modStrand_inj (s : State) (i : Nat) (f : Strand → Strand) : (s.modStrand i f).inj = s.inj := rfl
@[simp] theorem State.modStrand_rings (s : State) (i : Nat) (f : Strand → Strand) : (s.modStrand i f).rings = s.rings := rfl
@[simp] theorem State.modStrand_accNext (s : State) (i : Nat) (f : Strand → Strand) : (s.modStrand i f).accNext = s.accNext := rfl
@[simp] theorem State.modStrand_descs (s : State) (i : Nat) (f : Strand → Strand) : (s.modStrand i f).descs = s.descs := rfl
@[simp] theorem State.modStrand_nextDesc (s : State) (i : Nat) (f : Strand → Strand) : (s.modStrand i f).nextDesc = s.nextDesc := rfl
@[simp] theorem State.modStrand_fences (s : State) (i : Nat) (f : Strand → Strand) : (s.modStrand i f).fences = s.fences := rfl
@[simp] theorem State.modStrand_hmReads (s : State) (i : Nat) (f : Strand → Strand) : (s.modStrand i f).hmReads = s.hmReads := rfl
@[simp] theorem State.modStrand_hmWrites (s : State) (i : Nat) (f : Strand → Strand) : (s.modStrand i f).hmWrites = s.hmWrites := rfl
@[simp] theorem State.modStrand_memOps (s : State) (i : Nat) (f : Strand → Strand) : (s.modStrand i f).memOps = s.memOps := rfl
@[simp] theorem State.modStrand_memHeld (s : State) (i : Nat) (f : Strand → Strand) : (s.modStrand i f).memHeld = s.memHeld := rfl
@[simp] theorem State.modStrand_nvOps (s : State) (i : Nat) (f : Strand → Strand) : (s.modStrand i f).nvOps = s.nvOps := rfl
@[simp] theorem State.modStrand_reqSeq (s : State) (i : Nat) (f : Strand → Strand) : (s.modStrand i f).reqSeq = s.reqSeq := rfl
@[simp] theorem State.modStrand_stations (s : State) (i : Nat) (f : Strand → Strand) : (s.modStrand i f).stations = s.stations := rfl
@[simp] theorem State.modStrand_ports (s : State) (i : Nat) (f : Strand → Strand) : (s.modStrand i f).ports = s.ports := rfl
@[simp] theorem State.modStrand_tx (s : State) (i : Nat) (f : Strand → Strand) : (s.modStrand i f).tx = s.tx := rfl
@[simp] theorem State.modStrand_rx (s : State) (i : Nat) (f : Strand → Strand) : (s.modStrand i f).rx = s.rx := rfl
@[simp] theorem State.modStrand_ptIn (s : State) (i : Nat) (f : Strand → Strand) : (s.modStrand i f).ptIn = s.ptIn := rfl
@[simp] theorem State.modStrand_ptErr (s : State) (i : Nat) (f : Strand → Strand) : (s.modStrand i f).ptErr = s.ptErr := rfl
@[simp] theorem State.modStrand_arrivals (s : State) (i : Nat) (f : Strand → Strand) : (s.modStrand i f).arrivals = s.arrivals := rfl
@[simp] theorem State.modStrand_tables (s : State) (i : Nat) (f : Strand → Strand) : (s.modStrand i f).tables = s.tables := rfl
@[simp] theorem State.modStrand_emptied (s : State) (i : Nat) (f : Strand → Strand) : (s.modStrand i f).emptied = s.emptied := rfl
@[simp] theorem State.modStrand_regions (s : State) (i : Nat) (f : Strand → Strand) : (s.modStrand i f).regions = s.regions := rfl
@[simp] theorem State.modStrand_saves (s : State) (i : Nat) (f : Strand → Strand) : (s.modStrand i f).saves = s.saves := rfl
@[simp] theorem State.modStrand_shelves (s : State) (i : Nat) (f : Strand → Strand) : (s.modStrand i f).shelves = s.shelves := rfl
@[simp] theorem State.modStrand_bindings (s : State) (i : Nat) (f : Strand → Strand) : (s.modStrand i f).bindings = s.bindings := rfl
@[simp] theorem State.modStrand_shelfWaits (s : State) (i : Nat) (f : Strand → Strand) : (s.modStrand i f).shelfWaits = s.shelfWaits := rfl
@[simp] theorem State.modStrand_draws (s : State) (i : Nat) (f : Strand → Strand) : (s.modStrand i f).draws = s.draws := rfl
@[simp] theorem State.modStrand_restores (s : State) (i : Nat) (f : Strand → Strand) : (s.modStrand i f).restores = s.restores := rfl
@[simp] theorem State.modStrand_fetches (s : State) (i : Nat) (f : Strand → Strand) : (s.modStrand i f).fetches = s.fetches := rfl
@[simp] theorem State.modStrand_sends (s : State) (i : Nat) (f : Strand → Strand) : (s.modStrand i f).sends = s.sends := rfl
@[simp] theorem State.modStrand_sag (s : State) (i : Nat) (f : Strand → Strand) : (s.modStrand i f).sag = s.sag := rfl
@[simp] theorem State.modStrand_partner (s : State) (i : Nat) (f : Strand → Strand) : (s.modStrand i f).partner = s.partner := rfl
@[simp] theorem State.modStrand_keepers (s : State) (i : Nat) (f : Strand → Strand) : (s.modStrand i f).keepers = s.keepers := rfl
@[simp] theorem State.modStrand_keys (s : State) (i : Nat) (f : Strand → Strand) : (s.modStrand i f).keys = s.keys := rfl
@[simp] theorem State.modStrand_reads (s : State) (i : Nat) (f : Strand → Strand) : (s.modStrand i f).reads = s.reads := rfl
@[simp] theorem State.modStrand_tableWaits (s : State) (i : Nat) (f : Strand → Strand) : (s.modStrand i f).tableWaits = s.tableWaits := rfl
@[simp] theorem State.modStrand_commitWaits (s : State) (i : Nat) (f : Strand → Strand) : (s.modStrand i f).commitWaits = s.commitWaits := rfl
@[simp] theorem State.modStrand_queries (s : State) (i : Nat) (f : Strand → Strand) : (s.modStrand i f).queries = s.queries := rfl
@[simp] theorem State.modStrand_ghosts (s : State) (i : Nat) (f : Strand → Strand) : (s.modStrand i f).ghosts = s.ghosts := rfl
@[simp] theorem State.modStrand_peerBlock (s : State) (i : Nat) (f : Strand → Strand) : (s.modStrand i f).peerBlock = s.peerBlock := rfl
@[simp] theorem State.modStrand_record (s : State) (i : Nat) (f : Strand → Strand) : (s.modStrand i f).record = s.record := rfl
@[simp] theorem State.modStrand_negDone (s : State) (i : Nat) (f : Strand → Strand) : (s.modStrand i f).negDone = s.negDone := rfl
@[simp] theorem State.modStrand_mgmt (s : State) (i : Nat) (f : Strand → Strand) : (s.modStrand i f).mgmt = s.mgmt := rfl
@[simp] theorem State.modStrand_port (s : State) (i : Nat) (f : Strand → Strand) : (s.modStrand i f).port = s.port := rfl
@[simp] theorem State.modStrand_linkMsgs (s : State) (i : Nat) (f : Strand → Strand) : (s.modStrand i f).linkMsgs = s.linkMsgs := rfl
@[simp] theorem State.modStrand_credDue (s : State) (i : Nat) (f : Strand → Strand) : (s.modStrand i f).credDue = s.credDue := rfl
@[simp] theorem State.modStrand_guard (s : State) (i : Nat) (f : Strand → Strand) : (s.modStrand i f).guard = s.guard := rfl
@[simp] theorem State.modStrand_strands (s : State) (i : Nat) (f : Strand → Strand) : (s.modStrand i f).strands = modAt f i s.strands := rfl
@[simp] theorem State.modStrand_cones (s : State) (i : Nat) (f : Strand → Strand) : (s.modStrand i f).cones = s.cones := rfl
@[simp] theorem State.modStrand_dieId (s : State) (i : Nat) (f : Strand → Strand) : (s.modStrand i f).dieId = s.dieId := rfl
@[simp] theorem State.modStrand_dieIdOk (s : State) (i : Nat) (f : Strand → Strand) : (s.modStrand i f).dieIdOk = s.dieIdOk := rfl
@[simp] theorem State.modStrand_idBuf (s : State) (i : Nat) (f : Strand → Strand) : (s.modStrand i f).idBuf = s.idBuf := rfl
@[simp] theorem State.modStrand_early (s : State) (i : Nat) (f : Strand → Strand) : (s.modStrand i f).early = s.early := rfl
@[simp] theorem State.modStrand_bisque (s : State) (i : Nat) (f : Strand → Strand) : (s.modStrand i f).bisque = s.bisque := rfl
@[simp] theorem State.modStrand_ready (s : State) (i : Nat) (f : Strand → Strand) : (s.modStrand i f).ready = s.ready := rfl
@[simp] theorem State.modStrand_phyReady (s : State) (i : Nat) (f : Strand → Strand) : (s.modStrand i f).phyReady = s.phyReady := rfl
@[simp] theorem State.modStrand_exch (s : State) (i : Nat) (f : Strand → Strand) : (s.modStrand i f).exch = s.exch := rfl
@[simp] theorem State.modStrand_presence (s : State) (i : Nat) (f : Strand → Strand) : (s.modStrand i f).presence = s.presence := rfl
@[simp] theorem State.modStrand_trusted (s : State) (i : Nat) (f : Strand → Strand) : (s.modStrand i f).trusted = s.trusted := rfl
@[simp] theorem State.modStrand_offValid (s : State) (i : Nat) (f : Strand → Strand) : (s.modStrand i f).offValid = s.offValid := rfl
@[simp] theorem State.modStrand_peerTime (s : State) (i : Nat) (f : Strand → Strand) : (s.modStrand i f).peerTime = s.peerTime := rfl
@[simp] theorem State.modStrand_cal (s : State) (i : Nat) (f : Strand → Strand) : (s.modStrand i f).cal = s.cal := rfl
@[simp] theorem State.modStrand_calReqs (s : State) (i : Nat) (f : Strand → Strand) : (s.modStrand i f).calReqs = s.calReqs := rfl
@[simp] theorem State.modStrand_sliceRun (s : State) (i : Nat) (f : Strand → Strand) : (s.modStrand i f).sliceRun = s.sliceRun := rfl
@[simp] theorem State.modStrand_bist (s : State) (i : Nat) (f : Strand → Strand) : (s.modStrand i f).bist = s.bist := rfl
@[simp] theorem State.modStrand_pulse (s : State) (i : Nat) (f : Strand → Strand) : (s.modStrand i f).pulse = s.pulse := rfl
@[simp] theorem State.modStrand_power (s : State) (i : Nat) (f : Strand → Strand) : (s.modStrand i f).power = s.power := rfl
@[simp] theorem State.modStrand_disc (s : State) (i : Nat) (f : Strand → Strand) : (s.modStrand i f).disc = s.disc := rfl
@[simp] theorem State.modStrand_test (s : State) (i : Nat) (f : Strand → Strand) : (s.modStrand i f).test = s.test := rfl
@[simp] theorem State.modStrand_shadows (s : State) (i : Nat) (f : Strand → Strand) : (s.modStrand i f).shadows = s.shadows := rfl
@[simp] theorem State.modStrand_out (s : State) (i : Nat) (f : Strand → Strand) : (s.modStrand i f).out = s.out := rfl
@[simp] theorem State.modStrand_raised (s : State) (i : Nat) (f : Strand → Strand) : (s.modStrand i f).raised = s.raised := rfl
@[simp] theorem State.modStrand_events (s : State) (i : Nat) (f : Strand → Strand) : (s.modStrand i f).events = s.events := rfl
@[simp] theorem State.modStrand_pending (s : State) (i : Nat) (f : Strand → Strand) : (s.modStrand i f).pending = s.pending := rfl

/-! ## `State.setTx` -/

@[simp] theorem State.setTx_build (s : State) (id : Nat) (st : TxStream) : (s.setTx id st).build = s.build := rfl
@[simp] theorem State.setTx_straps (s : State) (id : Nat) (st : TxStream) : (s.setTx id st).straps = s.straps := rfl
@[simp] theorem State.setTx_resets (s : State) (id : Nat) (st : TxStream) : (s.setTx id st).resets = s.resets := rfl
@[simp] theorem State.setTx_lclkLock (s : State) (id : Nat) (st : TxStream) : (s.setTx id st).lclkLock = s.lclkLock := rfl
@[simp] theorem State.setTx_lclkHold (s : State) (id : Nat) (st : TxStream) : (s.setTx id st).lclkHold = s.lclkHold := rfl
@[simp] theorem State.setTx_fcount (s : State) (id : Nat) (st : TxStream) : (s.setTx id st).fcount = s.fcount := rfl
@[simp] theorem State.setTx_phase (s : State) (id : Nat) (st : TxStream) : (s.setTx id st).phase = s.phase := rfl
@[simp] theorem State.setTx_regs (s : State) (id : Nat) (st : TxStream) : (s.setTx id st).regs = s.regs := rfl
@[simp] theorem State.setTx_pdReq (s : State) (id : Nat) (st : TxStream) : (s.setTx id st).pdReq = s.pdReq := rfl
@[simp] theorem State.setTx_pdAck (s : State) (id : Nat) (st : TxStream) : (s.setTx id st).pdAck = s.pdAck := rfl
@[simp] theorem State.setTx_irqN (s : State) (id : Nat) (st : TxStream) : (s.setTx id st).irqN = s.irqN := rfl
@[simp] theorem State.setTx_kiln (s : State) (id : Nat) (st : TxStream) : (s.setTx id st).kiln = s.kiln := rfl
@[simp] theorem State.setTx_inj (s : State) (id : Nat) (st : TxStream) : (s.setTx id st).inj = s.inj := rfl
@[simp] theorem State.setTx_rings (s : State) (id : Nat) (st : TxStream) : (s.setTx id st).rings = s.rings := rfl
@[simp] theorem State.setTx_accNext (s : State) (id : Nat) (st : TxStream) : (s.setTx id st).accNext = s.accNext := rfl
@[simp] theorem State.setTx_descs (s : State) (id : Nat) (st : TxStream) : (s.setTx id st).descs = s.descs := rfl
@[simp] theorem State.setTx_nextDesc (s : State) (id : Nat) (st : TxStream) : (s.setTx id st).nextDesc = s.nextDesc := rfl
@[simp] theorem State.setTx_fences (s : State) (id : Nat) (st : TxStream) : (s.setTx id st).fences = s.fences := rfl
@[simp] theorem State.setTx_hmReads (s : State) (id : Nat) (st : TxStream) : (s.setTx id st).hmReads = s.hmReads := rfl
@[simp] theorem State.setTx_hmWrites (s : State) (id : Nat) (st : TxStream) : (s.setTx id st).hmWrites = s.hmWrites := rfl
@[simp] theorem State.setTx_memOps (s : State) (id : Nat) (st : TxStream) : (s.setTx id st).memOps = s.memOps := rfl
@[simp] theorem State.setTx_memHeld (s : State) (id : Nat) (st : TxStream) : (s.setTx id st).memHeld = s.memHeld := rfl
@[simp] theorem State.setTx_nvOps (s : State) (id : Nat) (st : TxStream) : (s.setTx id st).nvOps = s.nvOps := rfl
@[simp] theorem State.setTx_reqSeq (s : State) (id : Nat) (st : TxStream) : (s.setTx id st).reqSeq = s.reqSeq := rfl
@[simp] theorem State.setTx_stations (s : State) (id : Nat) (st : TxStream) : (s.setTx id st).stations = s.stations := rfl
@[simp] theorem State.setTx_ports (s : State) (id : Nat) (st : TxStream) : (s.setTx id st).ports = s.ports := rfl
@[simp] theorem State.setTx_tx (s : State) (id : Nat) (st : TxStream) : (s.setTx id st).tx = insertKey id st s.tx := rfl
@[simp] theorem State.setTx_rx (s : State) (id : Nat) (st : TxStream) : (s.setTx id st).rx = s.rx := rfl
@[simp] theorem State.setTx_ptIn (s : State) (id : Nat) (st : TxStream) : (s.setTx id st).ptIn = s.ptIn := rfl
@[simp] theorem State.setTx_ptErr (s : State) (id : Nat) (st : TxStream) : (s.setTx id st).ptErr = s.ptErr := rfl
@[simp] theorem State.setTx_arrivals (s : State) (id : Nat) (st : TxStream) : (s.setTx id st).arrivals = s.arrivals := rfl
@[simp] theorem State.setTx_tables (s : State) (id : Nat) (st : TxStream) : (s.setTx id st).tables = s.tables := rfl
@[simp] theorem State.setTx_emptied (s : State) (id : Nat) (st : TxStream) : (s.setTx id st).emptied = s.emptied := rfl
@[simp] theorem State.setTx_regions (s : State) (id : Nat) (st : TxStream) : (s.setTx id st).regions = s.regions := rfl
@[simp] theorem State.setTx_saves (s : State) (id : Nat) (st : TxStream) : (s.setTx id st).saves = s.saves := rfl
@[simp] theorem State.setTx_shelves (s : State) (id : Nat) (st : TxStream) : (s.setTx id st).shelves = s.shelves := rfl
@[simp] theorem State.setTx_bindings (s : State) (id : Nat) (st : TxStream) : (s.setTx id st).bindings = s.bindings := rfl
@[simp] theorem State.setTx_shelfWaits (s : State) (id : Nat) (st : TxStream) : (s.setTx id st).shelfWaits = s.shelfWaits := rfl
@[simp] theorem State.setTx_draws (s : State) (id : Nat) (st : TxStream) : (s.setTx id st).draws = s.draws := rfl
@[simp] theorem State.setTx_restores (s : State) (id : Nat) (st : TxStream) : (s.setTx id st).restores = s.restores := rfl
@[simp] theorem State.setTx_fetches (s : State) (id : Nat) (st : TxStream) : (s.setTx id st).fetches = s.fetches := rfl
@[simp] theorem State.setTx_sends (s : State) (id : Nat) (st : TxStream) : (s.setTx id st).sends = s.sends := rfl
@[simp] theorem State.setTx_sag (s : State) (id : Nat) (st : TxStream) : (s.setTx id st).sag = s.sag := rfl
@[simp] theorem State.setTx_partner (s : State) (id : Nat) (st : TxStream) : (s.setTx id st).partner = s.partner := rfl
@[simp] theorem State.setTx_keepers (s : State) (id : Nat) (st : TxStream) : (s.setTx id st).keepers = s.keepers := rfl
@[simp] theorem State.setTx_keys (s : State) (id : Nat) (st : TxStream) : (s.setTx id st).keys = s.keys := rfl
@[simp] theorem State.setTx_reads (s : State) (id : Nat) (st : TxStream) : (s.setTx id st).reads = s.reads := rfl
@[simp] theorem State.setTx_tableWaits (s : State) (id : Nat) (st : TxStream) : (s.setTx id st).tableWaits = s.tableWaits := rfl
@[simp] theorem State.setTx_commitWaits (s : State) (id : Nat) (st : TxStream) : (s.setTx id st).commitWaits = s.commitWaits := rfl
@[simp] theorem State.setTx_queries (s : State) (id : Nat) (st : TxStream) : (s.setTx id st).queries = s.queries := rfl
@[simp] theorem State.setTx_ghosts (s : State) (id : Nat) (st : TxStream) : (s.setTx id st).ghosts = s.ghosts := rfl
@[simp] theorem State.setTx_peerBlock (s : State) (id : Nat) (st : TxStream) : (s.setTx id st).peerBlock = s.peerBlock := rfl
@[simp] theorem State.setTx_record (s : State) (id : Nat) (st : TxStream) : (s.setTx id st).record = s.record := rfl
@[simp] theorem State.setTx_negDone (s : State) (id : Nat) (st : TxStream) : (s.setTx id st).negDone = s.negDone := rfl
@[simp] theorem State.setTx_mgmt (s : State) (id : Nat) (st : TxStream) : (s.setTx id st).mgmt = s.mgmt := rfl
@[simp] theorem State.setTx_port (s : State) (id : Nat) (st : TxStream) : (s.setTx id st).port = s.port := rfl
@[simp] theorem State.setTx_linkMsgs (s : State) (id : Nat) (st : TxStream) : (s.setTx id st).linkMsgs = s.linkMsgs := rfl
@[simp] theorem State.setTx_credDue (s : State) (id : Nat) (st : TxStream) : (s.setTx id st).credDue = s.credDue := rfl
@[simp] theorem State.setTx_guard (s : State) (id : Nat) (st : TxStream) : (s.setTx id st).guard = s.guard := rfl
@[simp] theorem State.setTx_strands (s : State) (id : Nat) (st : TxStream) : (s.setTx id st).strands = s.strands := rfl
@[simp] theorem State.setTx_cones (s : State) (id : Nat) (st : TxStream) : (s.setTx id st).cones = s.cones := rfl
@[simp] theorem State.setTx_dieId (s : State) (id : Nat) (st : TxStream) : (s.setTx id st).dieId = s.dieId := rfl
@[simp] theorem State.setTx_dieIdOk (s : State) (id : Nat) (st : TxStream) : (s.setTx id st).dieIdOk = s.dieIdOk := rfl
@[simp] theorem State.setTx_idBuf (s : State) (id : Nat) (st : TxStream) : (s.setTx id st).idBuf = s.idBuf := rfl
@[simp] theorem State.setTx_early (s : State) (id : Nat) (st : TxStream) : (s.setTx id st).early = s.early := rfl
@[simp] theorem State.setTx_bisque (s : State) (id : Nat) (st : TxStream) : (s.setTx id st).bisque = s.bisque := rfl
@[simp] theorem State.setTx_ready (s : State) (id : Nat) (st : TxStream) : (s.setTx id st).ready = s.ready := rfl
@[simp] theorem State.setTx_phyReady (s : State) (id : Nat) (st : TxStream) : (s.setTx id st).phyReady = s.phyReady := rfl
@[simp] theorem State.setTx_exch (s : State) (id : Nat) (st : TxStream) : (s.setTx id st).exch = s.exch := rfl
@[simp] theorem State.setTx_presence (s : State) (id : Nat) (st : TxStream) : (s.setTx id st).presence = s.presence := rfl
@[simp] theorem State.setTx_trusted (s : State) (id : Nat) (st : TxStream) : (s.setTx id st).trusted = s.trusted := rfl
@[simp] theorem State.setTx_offValid (s : State) (id : Nat) (st : TxStream) : (s.setTx id st).offValid = s.offValid := rfl
@[simp] theorem State.setTx_peerTime (s : State) (id : Nat) (st : TxStream) : (s.setTx id st).peerTime = s.peerTime := rfl
@[simp] theorem State.setTx_cal (s : State) (id : Nat) (st : TxStream) : (s.setTx id st).cal = s.cal := rfl
@[simp] theorem State.setTx_calReqs (s : State) (id : Nat) (st : TxStream) : (s.setTx id st).calReqs = s.calReqs := rfl
@[simp] theorem State.setTx_sliceRun (s : State) (id : Nat) (st : TxStream) : (s.setTx id st).sliceRun = s.sliceRun := rfl
@[simp] theorem State.setTx_bist (s : State) (id : Nat) (st : TxStream) : (s.setTx id st).bist = s.bist := rfl
@[simp] theorem State.setTx_pulse (s : State) (id : Nat) (st : TxStream) : (s.setTx id st).pulse = s.pulse := rfl
@[simp] theorem State.setTx_power (s : State) (id : Nat) (st : TxStream) : (s.setTx id st).power = s.power := rfl
@[simp] theorem State.setTx_disc (s : State) (id : Nat) (st : TxStream) : (s.setTx id st).disc = s.disc := rfl
@[simp] theorem State.setTx_test (s : State) (id : Nat) (st : TxStream) : (s.setTx id st).test = s.test := rfl
@[simp] theorem State.setTx_shadows (s : State) (id : Nat) (st : TxStream) : (s.setTx id st).shadows = s.shadows := rfl
@[simp] theorem State.setTx_out (s : State) (id : Nat) (st : TxStream) : (s.setTx id st).out = s.out := rfl
@[simp] theorem State.setTx_raised (s : State) (id : Nat) (st : TxStream) : (s.setTx id st).raised = s.raised := rfl
@[simp] theorem State.setTx_events (s : State) (id : Nat) (st : TxStream) : (s.setTx id st).events = s.events := rfl
@[simp] theorem State.setTx_pending (s : State) (id : Nat) (st : TxStream) : (s.setTx id st).pending = s.pending := rfl

/-! ## `State.setRx` -/

@[simp] theorem State.setRx_build (s : State) (key : Nat) (st : RxStream) : (s.setRx key st).build = s.build := rfl
@[simp] theorem State.setRx_straps (s : State) (key : Nat) (st : RxStream) : (s.setRx key st).straps = s.straps := rfl
@[simp] theorem State.setRx_resets (s : State) (key : Nat) (st : RxStream) : (s.setRx key st).resets = s.resets := rfl
@[simp] theorem State.setRx_lclkLock (s : State) (key : Nat) (st : RxStream) : (s.setRx key st).lclkLock = s.lclkLock := rfl
@[simp] theorem State.setRx_lclkHold (s : State) (key : Nat) (st : RxStream) : (s.setRx key st).lclkHold = s.lclkHold := rfl
@[simp] theorem State.setRx_fcount (s : State) (key : Nat) (st : RxStream) : (s.setRx key st).fcount = s.fcount := rfl
@[simp] theorem State.setRx_phase (s : State) (key : Nat) (st : RxStream) : (s.setRx key st).phase = s.phase := rfl
@[simp] theorem State.setRx_regs (s : State) (key : Nat) (st : RxStream) : (s.setRx key st).regs = s.regs := rfl
@[simp] theorem State.setRx_pdReq (s : State) (key : Nat) (st : RxStream) : (s.setRx key st).pdReq = s.pdReq := rfl
@[simp] theorem State.setRx_pdAck (s : State) (key : Nat) (st : RxStream) : (s.setRx key st).pdAck = s.pdAck := rfl
@[simp] theorem State.setRx_irqN (s : State) (key : Nat) (st : RxStream) : (s.setRx key st).irqN = s.irqN := rfl
@[simp] theorem State.setRx_kiln (s : State) (key : Nat) (st : RxStream) : (s.setRx key st).kiln = s.kiln := rfl
@[simp] theorem State.setRx_inj (s : State) (key : Nat) (st : RxStream) : (s.setRx key st).inj = s.inj := rfl
@[simp] theorem State.setRx_rings (s : State) (key : Nat) (st : RxStream) : (s.setRx key st).rings = s.rings := rfl
@[simp] theorem State.setRx_accNext (s : State) (key : Nat) (st : RxStream) : (s.setRx key st).accNext = s.accNext := rfl
@[simp] theorem State.setRx_descs (s : State) (key : Nat) (st : RxStream) : (s.setRx key st).descs = s.descs := rfl
@[simp] theorem State.setRx_nextDesc (s : State) (key : Nat) (st : RxStream) : (s.setRx key st).nextDesc = s.nextDesc := rfl
@[simp] theorem State.setRx_fences (s : State) (key : Nat) (st : RxStream) : (s.setRx key st).fences = s.fences := rfl
@[simp] theorem State.setRx_hmReads (s : State) (key : Nat) (st : RxStream) : (s.setRx key st).hmReads = s.hmReads := rfl
@[simp] theorem State.setRx_hmWrites (s : State) (key : Nat) (st : RxStream) : (s.setRx key st).hmWrites = s.hmWrites := rfl
@[simp] theorem State.setRx_memOps (s : State) (key : Nat) (st : RxStream) : (s.setRx key st).memOps = s.memOps := rfl
@[simp] theorem State.setRx_memHeld (s : State) (key : Nat) (st : RxStream) : (s.setRx key st).memHeld = s.memHeld := rfl
@[simp] theorem State.setRx_nvOps (s : State) (key : Nat) (st : RxStream) : (s.setRx key st).nvOps = s.nvOps := rfl
@[simp] theorem State.setRx_reqSeq (s : State) (key : Nat) (st : RxStream) : (s.setRx key st).reqSeq = s.reqSeq := rfl
@[simp] theorem State.setRx_stations (s : State) (key : Nat) (st : RxStream) : (s.setRx key st).stations = s.stations := rfl
@[simp] theorem State.setRx_ports (s : State) (key : Nat) (st : RxStream) : (s.setRx key st).ports = s.ports := rfl
@[simp] theorem State.setRx_tx (s : State) (key : Nat) (st : RxStream) : (s.setRx key st).tx = s.tx := rfl
@[simp] theorem State.setRx_rx (s : State) (key : Nat) (st : RxStream) : (s.setRx key st).rx = insertKey key st s.rx := rfl
@[simp] theorem State.setRx_ptIn (s : State) (key : Nat) (st : RxStream) : (s.setRx key st).ptIn = s.ptIn := rfl
@[simp] theorem State.setRx_ptErr (s : State) (key : Nat) (st : RxStream) : (s.setRx key st).ptErr = s.ptErr := rfl
@[simp] theorem State.setRx_arrivals (s : State) (key : Nat) (st : RxStream) : (s.setRx key st).arrivals = s.arrivals := rfl
@[simp] theorem State.setRx_tables (s : State) (key : Nat) (st : RxStream) : (s.setRx key st).tables = s.tables := rfl
@[simp] theorem State.setRx_emptied (s : State) (key : Nat) (st : RxStream) : (s.setRx key st).emptied = s.emptied := rfl
@[simp] theorem State.setRx_regions (s : State) (key : Nat) (st : RxStream) : (s.setRx key st).regions = s.regions := rfl
@[simp] theorem State.setRx_saves (s : State) (key : Nat) (st : RxStream) : (s.setRx key st).saves = s.saves := rfl
@[simp] theorem State.setRx_shelves (s : State) (key : Nat) (st : RxStream) : (s.setRx key st).shelves = s.shelves := rfl
@[simp] theorem State.setRx_bindings (s : State) (key : Nat) (st : RxStream) : (s.setRx key st).bindings = s.bindings := rfl
@[simp] theorem State.setRx_shelfWaits (s : State) (key : Nat) (st : RxStream) : (s.setRx key st).shelfWaits = s.shelfWaits := rfl
@[simp] theorem State.setRx_draws (s : State) (key : Nat) (st : RxStream) : (s.setRx key st).draws = s.draws := rfl
@[simp] theorem State.setRx_restores (s : State) (key : Nat) (st : RxStream) : (s.setRx key st).restores = s.restores := rfl
@[simp] theorem State.setRx_fetches (s : State) (key : Nat) (st : RxStream) : (s.setRx key st).fetches = s.fetches := rfl
@[simp] theorem State.setRx_sends (s : State) (key : Nat) (st : RxStream) : (s.setRx key st).sends = s.sends := rfl
@[simp] theorem State.setRx_sag (s : State) (key : Nat) (st : RxStream) : (s.setRx key st).sag = s.sag := rfl
@[simp] theorem State.setRx_partner (s : State) (key : Nat) (st : RxStream) : (s.setRx key st).partner = s.partner := rfl
@[simp] theorem State.setRx_keepers (s : State) (key : Nat) (st : RxStream) : (s.setRx key st).keepers = s.keepers := rfl
@[simp] theorem State.setRx_keys (s : State) (key : Nat) (st : RxStream) : (s.setRx key st).keys = s.keys := rfl
@[simp] theorem State.setRx_reads (s : State) (key : Nat) (st : RxStream) : (s.setRx key st).reads = s.reads := rfl
@[simp] theorem State.setRx_tableWaits (s : State) (key : Nat) (st : RxStream) : (s.setRx key st).tableWaits = s.tableWaits := rfl
@[simp] theorem State.setRx_commitWaits (s : State) (key : Nat) (st : RxStream) : (s.setRx key st).commitWaits = s.commitWaits := rfl
@[simp] theorem State.setRx_queries (s : State) (key : Nat) (st : RxStream) : (s.setRx key st).queries = s.queries := rfl
@[simp] theorem State.setRx_ghosts (s : State) (key : Nat) (st : RxStream) : (s.setRx key st).ghosts = s.ghosts := rfl
@[simp] theorem State.setRx_peerBlock (s : State) (key : Nat) (st : RxStream) : (s.setRx key st).peerBlock = s.peerBlock := rfl
@[simp] theorem State.setRx_record (s : State) (key : Nat) (st : RxStream) : (s.setRx key st).record = s.record := rfl
@[simp] theorem State.setRx_negDone (s : State) (key : Nat) (st : RxStream) : (s.setRx key st).negDone = s.negDone := rfl
@[simp] theorem State.setRx_mgmt (s : State) (key : Nat) (st : RxStream) : (s.setRx key st).mgmt = s.mgmt := rfl
@[simp] theorem State.setRx_port (s : State) (key : Nat) (st : RxStream) : (s.setRx key st).port = s.port := rfl
@[simp] theorem State.setRx_linkMsgs (s : State) (key : Nat) (st : RxStream) : (s.setRx key st).linkMsgs = s.linkMsgs := rfl
@[simp] theorem State.setRx_credDue (s : State) (key : Nat) (st : RxStream) : (s.setRx key st).credDue = s.credDue := rfl
@[simp] theorem State.setRx_guard (s : State) (key : Nat) (st : RxStream) : (s.setRx key st).guard = s.guard := rfl
@[simp] theorem State.setRx_strands (s : State) (key : Nat) (st : RxStream) : (s.setRx key st).strands = s.strands := rfl
@[simp] theorem State.setRx_cones (s : State) (key : Nat) (st : RxStream) : (s.setRx key st).cones = s.cones := rfl
@[simp] theorem State.setRx_dieId (s : State) (key : Nat) (st : RxStream) : (s.setRx key st).dieId = s.dieId := rfl
@[simp] theorem State.setRx_dieIdOk (s : State) (key : Nat) (st : RxStream) : (s.setRx key st).dieIdOk = s.dieIdOk := rfl
@[simp] theorem State.setRx_idBuf (s : State) (key : Nat) (st : RxStream) : (s.setRx key st).idBuf = s.idBuf := rfl
@[simp] theorem State.setRx_early (s : State) (key : Nat) (st : RxStream) : (s.setRx key st).early = s.early := rfl
@[simp] theorem State.setRx_bisque (s : State) (key : Nat) (st : RxStream) : (s.setRx key st).bisque = s.bisque := rfl
@[simp] theorem State.setRx_ready (s : State) (key : Nat) (st : RxStream) : (s.setRx key st).ready = s.ready := rfl
@[simp] theorem State.setRx_phyReady (s : State) (key : Nat) (st : RxStream) : (s.setRx key st).phyReady = s.phyReady := rfl
@[simp] theorem State.setRx_exch (s : State) (key : Nat) (st : RxStream) : (s.setRx key st).exch = s.exch := rfl
@[simp] theorem State.setRx_presence (s : State) (key : Nat) (st : RxStream) : (s.setRx key st).presence = s.presence := rfl
@[simp] theorem State.setRx_trusted (s : State) (key : Nat) (st : RxStream) : (s.setRx key st).trusted = s.trusted := rfl
@[simp] theorem State.setRx_offValid (s : State) (key : Nat) (st : RxStream) : (s.setRx key st).offValid = s.offValid := rfl
@[simp] theorem State.setRx_peerTime (s : State) (key : Nat) (st : RxStream) : (s.setRx key st).peerTime = s.peerTime := rfl
@[simp] theorem State.setRx_cal (s : State) (key : Nat) (st : RxStream) : (s.setRx key st).cal = s.cal := rfl
@[simp] theorem State.setRx_calReqs (s : State) (key : Nat) (st : RxStream) : (s.setRx key st).calReqs = s.calReqs := rfl
@[simp] theorem State.setRx_sliceRun (s : State) (key : Nat) (st : RxStream) : (s.setRx key st).sliceRun = s.sliceRun := rfl
@[simp] theorem State.setRx_bist (s : State) (key : Nat) (st : RxStream) : (s.setRx key st).bist = s.bist := rfl
@[simp] theorem State.setRx_pulse (s : State) (key : Nat) (st : RxStream) : (s.setRx key st).pulse = s.pulse := rfl
@[simp] theorem State.setRx_power (s : State) (key : Nat) (st : RxStream) : (s.setRx key st).power = s.power := rfl
@[simp] theorem State.setRx_disc (s : State) (key : Nat) (st : RxStream) : (s.setRx key st).disc = s.disc := rfl
@[simp] theorem State.setRx_test (s : State) (key : Nat) (st : RxStream) : (s.setRx key st).test = s.test := rfl
@[simp] theorem State.setRx_shadows (s : State) (key : Nat) (st : RxStream) : (s.setRx key st).shadows = s.shadows := rfl
@[simp] theorem State.setRx_out (s : State) (key : Nat) (st : RxStream) : (s.setRx key st).out = s.out := rfl
@[simp] theorem State.setRx_raised (s : State) (key : Nat) (st : RxStream) : (s.setRx key st).raised = s.raised := rfl
@[simp] theorem State.setRx_events (s : State) (key : Nat) (st : RxStream) : (s.setRx key st).events = s.events := rfl
@[simp] theorem State.setRx_pending (s : State) (key : Nat) (st : RxStream) : (s.setRx key st).pending = s.pending := rfl

/-! ## What each update writes -/

@[simp] theorem State.start_out (s : State) : s.start.out = [] := rfl
@[simp] theorem State.start_raised (s : State) : s.start.raised = [] := rfl
@[simp] theorem State.start_events (s : State) : s.start.events = [] := rfl
@[simp] theorem State.raise_raised (s : State) (c u d : Nat) (j : Bool) : (s.raise c u d j).raised = s.raised ++ [⟨c, u, d, j, 0⟩] := rfl
@[simp] theorem State.raise_events (s : State) (c u d : Nat) (j : Bool) : (s.raise c u d j).events = s.events := rfl
@[simp] theorem State.raise_memHeld (s : State) (c u d : Nat) (j : Bool) : (s.raise c u d j).memHeld = s.memHeld := rfl
@[simp] theorem State.raise_tableWaits (s : State) (c u d : Nat) (j : Bool) : (s.raise c u d j).tableWaits = s.tableWaits := rfl
@[simp] theorem State.raise_commitWaits (s : State) (c u d : Nat) (j : Bool) : (s.raise c u d j).commitWaits = s.commitWaits := rfl
@[simp] theorem State.raise_queries (s : State) (c u d : Nat) (j : Bool) : (s.raise c u d j).queries = s.queries := rfl
@[simp] theorem State.emit_out (s : State) (x : Out) : (s.emit x).out = s.out ++ [x] := rfl

/-! ## What the end of a command leaves (see `State.unsettled`) -/

@[simp] theorem State.finish_straps (s u : State) : (s.finish u).straps = u.straps := rfl
@[simp] theorem State.finishLight_straps (s u : State) : (s.finishLight u).straps = u.straps := rfl
@[simp] theorem State.finish_resets (s u : State) : (s.finish u).resets = u.resets := rfl
@[simp] theorem State.finishLight_resets (s u : State) : (s.finishLight u).resets = u.resets := rfl
@[simp] theorem State.finish_lclkLock (s u : State) : (s.finish u).lclkLock = u.lclkLock := rfl
@[simp] theorem State.finishLight_lclkLock (s u : State) : (s.finishLight u).lclkLock = u.lclkLock := rfl
@[simp] theorem State.finish_lclkHold (s u : State) : (s.finish u).lclkHold = u.lclkHold := rfl
@[simp] theorem State.finishLight_lclkHold (s u : State) : (s.finishLight u).lclkHold = u.lclkHold := rfl
@[simp] theorem State.finish_fcount (s u : State) : (s.finish u).fcount = u.fcount := rfl
@[simp] theorem State.finishLight_fcount (s u : State) : (s.finishLight u).fcount = u.fcount := rfl
@[simp] theorem State.finish_phase (s u : State) : (s.finish u).phase = u.phase := rfl
@[simp] theorem State.finishLight_phase (s u : State) : (s.finishLight u).phase = u.phase := rfl
@[simp] theorem State.finish_pdAck (s u : State) : (s.finish u).pdAck = u.pdAck := rfl
@[simp] theorem State.finishLight_pdAck (s u : State) : (s.finishLight u).pdAck = u.pdAck := rfl
@[simp] theorem State.finish_accNext (s u : State) : (s.finish u).accNext = u.accNext := rfl
@[simp] theorem State.finishLight_accNext (s u : State) : (s.finishLight u).accNext = u.accNext := rfl
@[simp] theorem State.finish_nextDesc (s u : State) : (s.finish u).nextDesc = u.nextDesc := rfl
@[simp] theorem State.finishLight_nextDesc (s u : State) : (s.finishLight u).nextDesc = u.nextDesc := rfl
@[simp] theorem State.finish_stations (s u : State) : (s.finish u).stations = u.stations := rfl
@[simp] theorem State.finishLight_stations (s u : State) : (s.finishLight u).stations = u.stations := rfl
@[simp] theorem State.finish_ptIn (s u : State) : (s.finish u).ptIn = u.ptIn := rfl
@[simp] theorem State.finishLight_ptIn (s u : State) : (s.finishLight u).ptIn = u.ptIn := rfl
@[simp] theorem State.finish_emptied (s u : State) : (s.finish u).emptied = u.emptied := rfl
@[simp] theorem State.finishLight_emptied (s u : State) : (s.finishLight u).emptied = u.emptied := rfl
@[simp] theorem State.finish_keepers (s u : State) : (s.finish u).keepers = u.keepers := rfl
@[simp] theorem State.finishLight_keepers (s u : State) : (s.finishLight u).keepers = u.keepers := rfl
@[simp] theorem State.finish_keys (s u : State) : (s.finish u).keys = u.keys := rfl
@[simp] theorem State.finishLight_keys (s u : State) : (s.finishLight u).keys = u.keys := rfl
@[simp] theorem State.finish_reads (s u : State) : (s.finish u).reads = u.reads := rfl
@[simp] theorem State.finishLight_reads (s u : State) : (s.finishLight u).reads = u.reads := rfl
@[simp] theorem State.finish_cones (s u : State) : (s.finish u).cones = u.cones := rfl
@[simp] theorem State.finishLight_cones (s u : State) : (s.finishLight u).cones = u.cones := rfl
@[simp] theorem State.finish_dieId (s u : State) : (s.finish u).dieId = u.dieId := rfl
@[simp] theorem State.finishLight_dieId (s u : State) : (s.finishLight u).dieId = u.dieId := rfl
@[simp] theorem State.finish_dieIdOk (s u : State) : (s.finish u).dieIdOk = u.dieIdOk := rfl
@[simp] theorem State.finishLight_dieIdOk (s u : State) : (s.finishLight u).dieIdOk = u.dieIdOk := rfl
@[simp] theorem State.finish_idBuf (s u : State) : (s.finish u).idBuf = u.idBuf := rfl
@[simp] theorem State.finishLight_idBuf (s u : State) : (s.finishLight u).idBuf = u.idBuf := rfl
@[simp] theorem State.finish_early (s u : State) : (s.finish u).early = u.early := rfl
@[simp] theorem State.finishLight_early (s u : State) : (s.finishLight u).early = u.early := rfl
@[simp] theorem State.finish_ready (s u : State) : (s.finish u).ready = u.ready := rfl
@[simp] theorem State.finishLight_ready (s u : State) : (s.finishLight u).ready = u.ready := rfl
@[simp] theorem State.finish_presence (s u : State) : (s.finish u).presence = u.presence := rfl
@[simp] theorem State.finishLight_presence (s u : State) : (s.finishLight u).presence = u.presence := rfl
@[simp] theorem State.finish_trusted (s u : State) : (s.finish u).trusted = u.trusted := rfl
@[simp] theorem State.finishLight_trusted (s u : State) : (s.finishLight u).trusted = u.trusted := rfl
@[simp] theorem State.finish_offValid (s u : State) : (s.finish u).offValid = u.offValid := rfl
@[simp] theorem State.finishLight_offValid (s u : State) : (s.finishLight u).offValid = u.offValid := rfl
@[simp] theorem State.finish_test (s u : State) : (s.finish u).test = u.test := rfl
@[simp] theorem State.finishLight_test (s u : State) : (s.finishLight u).test = u.test := rfl
@[simp] theorem State.finish_shadows (s u : State) : (s.finish u).shadows = u.shadows := rfl
@[simp] theorem State.finishLight_shadows (s u : State) : (s.finishLight u).shadows = u.shadows := rfl
@[simp] theorem State.finish_build (s u : State) : (s.finish u).build = s.build := rfl
@[simp] theorem State.finishLight_build (s u : State) : (s.finishLight u).build = s.build := rfl
@[simp] theorem State.finish_pending (s u : State) : (s.finish u).pending = s.pending := rfl
@[simp] theorem State.finishLight_pending (s u : State) : (s.finishLight u).pending = s.pending := rfl

end Sys2Proof.Machine
end

