-- ==== Sys2Proof/Laws/Regs.lean ====
section
/-! SUPPORT. The register file: what reading gives after writing, and the canonical form that writing keeps. -/

namespace Sys2Proof.Machine

/-! ## Reading what was written -/

@[simp] theorem State.reg_setReg_same (s : State) (off : Nat) (w : Word) : (s.setReg off w).reg off = w := by
  unfold State.reg
  show (lookupKey off (s.setReg off w).regs).getD (regReset s.build s.role off) = w
  unfold State.setReg
  split
  · rename_i h; simp [h]
  · simp

theorem State.reg_setReg_other (s : State) (off o : Nat) (w : Word) (h : o ≠ off) : (s.setReg off w).reg o = s.reg o := by
  unfold State.reg
  show (lookupKey o (s.setReg off w).regs).getD (regReset s.build s.role o) = _
  unfold State.setReg
  split
  · rw [lookupKey_eraseKey_other _ _ _ h]
  · rw [lookupKey_insertKey_other _ _ _ _ h]

theorem State.regN_lt (s : State) (off : Nat) : s.regN off < 2 ^ 32 := (s.reg off).isLt

theorem State.regN_setFld_same (s : State) (off hi lo x : Nat) (h : lo ≤ hi) (h' : hi < 32) :
    (s.setFld off hi lo x).regN off = setBits (s.regN off) hi lo x := by
  have := setBits_lt (s.regN off) hi lo x 32 h h' (s.regN_lt off)
  unfold State.setFld
  rw [State.regN, State.reg_setReg_same, BitVec.toNat_ofNat, Nat.mod_eq_of_lt this]

theorem State.reg_setFld_other (s : State) (off o hi lo x : Nat) (h : o ≠ off) : (s.setFld off hi lo x).reg o = s.reg o :=
  s.reg_setReg_other off o _ h

theorem State.flag_eq_testBit (s : State) (off i : Nat) : s.flag off i = (s.regN off).testBit i := rfl

/-- Bits of a register after a field of it is written. -/
theorem State.flag_setFld (s : State) (off hi lo x o i : Nat) (h : lo ≤ hi) (h' : hi < 32) :
    (s.setFld off hi lo x).flag o i = if o = off ∧ lo ≤ i ∧ i ≤ hi then x.testBit (i - lo) else s.flag o i := by
  by_cases ho : o = off
  · subst ho
    rw [State.flag_eq_testBit, State.regN_setFld_same _ _ _ _ _ h h', setBits_testBit _ _ _ _ _ h]
    by_cases hi' : lo ≤ i ∧ i ≤ hi
    · rw [if_pos hi', if_pos ⟨rfl, hi'⟩]
    · rw [if_neg hi', if_neg (fun c => hi' c.2)]; rfl
  · rw [if_neg (fun c => ho c.1)]
    simp only [State.flag, s.reg_setFld_other off o hi lo x ho]

/-- Bits of a register after one bit of it is written. -/
theorem State.flag_setFlag (s : State) (off i o j : Nat) (b : Bool) (h : i < 32) :
    (s.setFlag off i b).flag o j = if o = off ∧ j = i then b else s.flag o j := by
  unfold State.setFlag
  rw [State.flag_setFld _ _ _ _ _ _ _ (le_refl i) h]
  by_cases hc : o = off ∧ j = i
  · obtain ⟨rfl, rfl⟩ := hc
    rw [if_pos ⟨rfl, le_refl _, le_refl _⟩, if_pos ⟨rfl, rfl⟩]
    cases b <;> simp
  · rw [if_neg hc, if_neg (by omega)]

@[simp] theorem State.flag_setFlag_same (s : State) (off i : Nat) (b : Bool) (h : i < 32) : (s.setFlag off i b).flag off i = b := by
  rw [State.flag_setFlag _ _ _ _ _ _ h, if_pos ⟨rfl, rfl⟩]

theorem State.flag_sticky (s : State) (off i o j : Nat) (h : i < 32) :
    (s.sticky off i).flag o j = (decide (o = off ∧ j = i) || s.flag o j) := by
  unfold State.sticky
  rw [State.flag_setFlag _ _ _ _ _ _ h]
  by_cases hc : o = off ∧ j = i <;> simp [hc]

theorem State.fld_setFld_same (s : State) (off hi lo x : Nat) (h : lo ≤ hi) (h' : hi < 32) :
    (s.setFld off hi lo x).fld off hi lo = x % 2 ^ (hi - lo + 1) := by
  unfold State.fld
  rw [State.regN_setFld_same _ _ _ _ _ h h', bits_setBits_same _ _ _ _ h]

theorem State.fld_setFld_other (s : State) (off hi lo x hi' lo' : Nat) (h : lo ≤ hi) (h' : hi < 32) (h2 : lo' ≤ hi')
    (d : hi < lo' ∨ hi' < lo) : (s.setFld off hi lo x).fld off hi' lo' = s.fld off hi' lo' := by
  unfold State.fld
  rw [State.regN_setFld_same _ _ _ _ _ h h', bits_setBits_other _ _ _ _ _ _ h h2 d]

theorem State.fld_setFld_reg (s : State) (off o hi lo x hi' lo' : Nat) (h : o ≠ off) :
    (s.setFld off hi lo x).fld o hi' lo' = s.fld o hi' lo' := by
  simp only [State.fld, State.regN, s.reg_setFld_other off o hi lo x h]

/-- A saturating counter counts, and stops at its top (R12). -/
theorem State.fld_bumpSat (s : State) (off hi lo n : Nat) (h : lo ≤ hi) (h' : hi < 32) :
    (s.bumpSat off hi lo n).fld off hi lo = min (s.fld off hi lo + n) (2 ^ (hi - lo + 1) - 1) := by
  unfold State.bumpSat
  rw [State.fld_setFld_same _ _ _ _ _ h h']
  apply Nat.mod_eq_of_lt
  have : 0 < 2 ^ (hi - lo + 1) := by positivity
  simp only [satAdd]; omega

/-! ## The canonical form -/

theorem State.setReg_wf (s : State) (off : Nat) (w : Word) (h : s.RegsWf) : (s.setReg off w).RegsWf := by
  unfold State.RegsWf
  show Rising (s.setReg off w).regs ∧ ∀ p ∈ (s.setReg off w).regs, p.2 ≠ regReset s.build s.role p.1
  unfold State.setReg
  split
  · exact ⟨eraseKey_rising _ _ h.1, fun p hp => h.2 p (List.mem_of_mem_filter hp)⟩
  · rename_i hw
    refine ⟨insertKey_rising _ _ _ h.1, fun p hp => ?_⟩
    rcases insertKey_mem _ _ _ _ hp with rfl | hp
    · exact hw
    · exact h.2 p hp

theorem State.setFld_wf (s : State) (off hi lo x : Nat) (h : s.RegsWf) : (s.setFld off hi lo x).RegsWf := s.setReg_wf _ _ h
theorem State.setFlag_wf (s : State) (off i : Nat) (b : Bool) (h : s.RegsWf) : (s.setFlag off i b).RegsWf := s.setReg_wf _ _ h
theorem State.sticky_wf (s : State) (off i : Nat) (h : s.RegsWf) : (s.sticky off i).RegsWf := s.setReg_wf _ _ h
theorem State.bumpSat_wf (s : State) (off hi lo n : Nat) (h : s.RegsWf) : (s.bumpSat off hi lo n).RegsWf := s.setReg_wf _ _ h
theorem State.bumpWrap_wf (s : State) (off hi lo n : Nat) (h : s.RegsWf) : (s.bumpWrap off hi lo n).RegsWf := s.setReg_wf _ _ h

theorem State.clearRegs_wf (s : State) (c : RegClear) (h : s.RegsWf) : (s.clearRegs c).RegsWf :=
  ⟨List.Pairwise.filter _ h.1, fun p hp => h.2 p (List.mem_of_mem_filter hp)⟩

theorem canonRegs_rising (b : Build) (r : Role) (l : List (Nat × Word)) : Rising (canonRegs b r l) := by
  unfold canonRegs
  induction l.filter (fun p => p.2 != regReset b r p.1) with
  | nil => exact List.Pairwise.nil
  | cons p l ih => exact insertKey_rising _ _ _ ih

theorem canonRegs_mem (b : Build) (r : Role) (l : List (Nat × Word)) : ∀ p ∈ canonRegs b r l, p ∈ l ∧ p.2 ≠ regReset b r p.1 := by
  have h : ∀ m : List (Nat × Word), ∀ p ∈ m.foldr (fun p acc => insertKey p.1 p.2 acc) [], p ∈ m := by
    intro m
    induction m with
    | nil => simp
    | cons q m ih =>
      intro p hp
      rcases insertKey_mem _ _ _ _ hp with rfl | hp
      · exact List.mem_cons_self
      · exact List.mem_cons_of_mem _ (ih p hp)
  intro p hp
  have := h _ p hp
  simpa using this

/-- Every command ends with its register file in canonical form. -/
theorem State.heldRegs_wf (s : State) : s.heldRegs.RegsWf :=
  ⟨canonRegs_rising _ _ _, fun p hp => (canonRegs_mem _ _ _ p hp).2⟩

theorem State.driveIrq_wf (s : State) (h : s.RegsWf) : s.driveIrq.RegsWf := h

theorem State.finish_wf (s u : State) : (s.finish u).RegsWf := by
  unfold State.finish
  exact State.driveIrq_wf _ (State.heldRegs_wf _)

theorem State.finishLight_wf (s u : State) : (s.finishLight u).RegsWf := by
  unfold State.finishLight
  exact State.driveIrq_wf _ (State.heldRegs_wf _)

theorem State.plainWrite_wf (s : State) (off : Nat) (d : Word) (h : s.RegsWf) : (s.plainWrite off d).RegsWf := by
  unfold State.plainWrite
  split
  · exact h
  · exact s.setReg_wf _ _ h

end Sys2Proof.Machine
end

