-- ==== Sys2Proof/Laws/Run.lean ====
section
/-! SUPPORT. How a command runs, and what reading a strand or a stream gives after it has been changed. -/

namespace Sys2Proof.Machine

/-! ## The ways of running a command -/

/-- A command of the set-up domain has its effect while that domain is up. -/
theorem runUp_up (f : State → State) (s : State) (h : s.cfgUp = true) : runUp f s = .next (s.start.finish (f s.start)) := by
  have h' : s.start.cfgUp = true := h
  simp [runUp, run, h']

/-- While that domain is down it changes nothing. -/
theorem runUp_down (f : State → State) (s : State) (h : s.cfgUp = false) : runUp f s = .next (s.start.finish s.start) := by
  have h' : s.start.cfgUp = false := h
  simp [runUp, run, h']

theorem runUpLight_up (f : State → State) (s : State) (h : s.cfgUp = true) :
    runUpLight f s = .next (s.start.finishLight (f s.start)) := by
  have h' : s.start.cfgUp = true := h
  simp [runUpLight, runLight, h']

theorem runUpLight_down (f : State → State) (s : State) (h : s.cfgUp = false) :
    runUpLight f s = .next (s.start.finishLight s.start) := by
  have h' : s.start.cfgUp = false := h
  simp [runUpLight, runLight, h']

/-- A command of the AON domain has its effect unless RST_AON_N is asserted. -/
theorem runAon_up (f : State → State) (s : State) (h : s.aonHeld = false) : runAon f s = .next (s.start.finish (f s.start)) := by
  have h' : s.start.aonHeld = false := h
  simp [runAon, run, h']

theorem runAon_held (f : State → State) (s : State) (h : s.aonHeld = true) : runAon f s = .next (s.start.finish s.start) := by
  have h' : s.start.aonHeld = true := h
  simp [runAon, run, h']

theorem runAonLight_up (f : State → State) (s : State) (h : s.aonHeld = false) :
    runAonLight f s = .next (s.start.finishLight (f s.start)) := by
  have h' : s.start.aonHeld = false := h
  simp [runAonLight, runLight, h']

theorem runAonLight_held (f : State → State) (s : State) (h : s.aonHeld = true) :
    runAonLight f s = .next (s.start.finishLight s.start) := by
  have h' : s.start.aonHeld = true := h
  simp [runAonLight, runLight, h']

/-- A command that names a unit of the build runs; one that names another stops. -/
theorem named_present (n i : Nat) (r : Host.Outcome State Fault Refusal) (h : i < n) : named n i r = r := if_pos h

theorem named_absent (n i : Nat) (r : Host.Outcome State Fault Refusal) (h : n ≤ i) : named n i r = .fault .absentUnit :=
  if_neg (by omega)

/-- An injection unit that is not armed fires at no point (R559). -/
theorem State.fire_unarmed (s : State) (point unit : Nat) (h : s.inj.armed = false) : s.fire point unit = (false, s) := by
  simp [State.fire, h]

/-- The message in front is taken if it is of the type; a message of another type, or none, changes nothing. -/
theorem State.takeLink_front (s : State) (type k : Nat) (body : List Byte) (rest : List (Nat × Nat × List Byte))
    (run : Nat → List Byte → State → State) (h : s.linkMsgs = (k, type, body) :: rest) :
    s.takeLink type run = run k body { s with linkMsgs := rest } := by
  simp [State.takeLink, h]

theorem State.takeLink_none (s : State) (type : Nat) (run : Nat → List Byte → State → State) (h : s.linkMsgs = []) :
    s.takeLink type run = s := by
  simp [State.takeLink, h]

theorem State.takeLink_other (s : State) (type k t : Nat) (body : List Byte) (rest : List (Nat × Nat × List Byte))
    (run : Nat → List Byte → State → State) (h : s.linkMsgs = (k, t, body) :: rest) (ht : t ≠ type) : s.takeLink type run = s := by
  simp [State.takeLink, h, ht]

/-! ## Strands and streams that have been changed -/

theorem State.strand_modStrand_same (s : State) (i : Nat) (f : Strand → Strand) (h : i < s.strands.length) :
    (s.modStrand i f).strand i = f (s.strand i) := by
  simp [State.strand, State.modStrand, modAt_getElem?, List.getD_eq_getElem?_getD, h]

theorem State.strand_modStrand_other (s : State) (i j : Nat) (f : Strand → Strand) (h : j ≠ i) :
    (s.modStrand i f).strand j = s.strand j := by
  simp [State.strand, State.modStrand, modAt_getElem?, List.getD_eq_getElem?_getD, h]

@[simp] theorem State.tx?_setTx_same (s : State) (id : Nat) (st : TxStream) : (s.setTx id st).tx? id = some st :=
  lookupKey_insertKey_same id st s.tx

theorem State.tx?_setTx_other (s : State) (id j : Nat) (st : TxStream) (h : j ≠ id) : (s.setTx id st).tx? j = s.tx? j :=
  lookupKey_insertKey_other id j st s.tx h

@[simp] theorem State.rx?_setRx_same (s : State) (key : Nat) (st : RxStream) : (s.setRx key st).rx? key = some st :=
  lookupKey_insertKey_same key st s.rx

theorem State.rx?_setRx_other (s : State) (key j : Nat) (st : RxStream) (h : j ≠ key) : (s.setRx key st).rx? j = s.rx? j :=
  lookupKey_insertKey_other key j st s.rx h

end Sys2Proof.Machine
end

