-- ==== Sys2Proof/Laws/Tap.lean ====
section
/-! SUPPORT. What a scan of the test access port's instruction register or of a data register leaves. -/

namespace Sys2Proof.Machine

/-- Eight bits shifted in, least significant first, replace the eight that the shift stage held. -/
theorem shift_eight (x n : Nat) (hx : x < 256) (hn : n < 256) :
    ((List.range 8).map (fun i => n.testBit i)).foldl (fun a b => a / 2 + 128 * b2n b) x = n := by
  have h : ∀ i, b2n (n.testBit i) = n / 2 ^ i % 2 := by
    intro i
    rw [Nat.testBit_eq_decide_div_mod_eq]
    have : n / 2 ^ i % 2 < 2 := Nat.mod_lt _ (by decide)
    by_cases hb : n / 2 ^ i % 2 = 1
    · simp [hb, b2n]
    · have : n / 2 ^ i % 2 = 0 := by omega
      simp [this, b2n]
  simp only [List.range, List.range.loop, List.map, List.foldl, h]
  omega

/-- A scan of the instruction register shifts its code in and ends in Update-IR, after Run-Test/Idle has made the PASS that was written take
effect. -/
theorem Test.irScan (tw : Bool) (cap code : Nat) (t : Test) (hc : cap < 256) (hn : code < 256) :
    let u := (t.ctl.irPath code).foldl (Test.edge tw cap) t
    u.shift = code ∧ u.ctl = .updateIr ∧ u.pass = t.passSet ∧ u.passSet = t.passSet ∧ u.ir = t.ir ∧ u.drives = t.drives ∧
      u.cells = t.cells ∧ u.wash = t.wash ∧ u.held = t.held := by
  have h := shift_eight cap code hc hn
  simp only [List.range, List.range.loop, List.map, List.foldl] at h
  cases ht : t.ctl <;>
    simp [TapCtl.irPath, TapCtl.toIdle, Test.edge, TapCtl.next, ht, List.range, List.range.loop, h, -Nat.testBit_zero]

theorem State.irCapture_lt (s : State) : s.irCapture < 256 := by
  unfold State.irCapture b2n; split <;> split <;> omega

/-- All that the scan of an instruction changes: the test port, scan enable, and the captured word that leaves. -/
theorem State.tapIr_eq (s : State) (code : Nat) :
    s.tapIr code = { s.setFlag 0x7004 3 false with test := (s.tapIr code).test, out := s.out ++ [.tapIr s.irCapture] } := by
  unfold State.tapIr; rfl

/-- What the scan of an instruction makes of the test port. -/
theorem State.tapIr_scanned (s : State) (code : Nat) (h : code < 256) :
    s.test.Scanned (s.tapIr code).test code .updateIr ∧ (s.tapIr code).test.passSet = s.test.passSet ∧
      (s.tapIr code).test.cells = s.test.cells := by
  obtain ⟨h1, h2, h3, h4, -, -, h7, h8, h9⟩ := Test.irScan s.toward s.irCapture code s.test s.irCapture_lt h
  unfold State.tapIr Test.Scanned
  simp [State.emit, State.setIr, h1, h2, h3, h4, h7, h8, h9]

@[simp] theorem State.setIr_test (s : State) (code : Nat) : (s.setIr code).test = { s.test with ir := code, drives := false } := rfl
@[simp] theorem State.tapDr_test (s : State) (n : Nat) : (s.tapDr n).test = s.test.drScan s.toward n := rfl
@[simp] theorem State.tapDr_regs (s : State) (n : Nat) : (s.tapDr n).regs = s.regs := rfl
@[simp] theorem State.tapDr_out (s : State) (n : Nat) : (s.tapDr n).out = s.out := rfl
@[simp] theorem State.tapIr_out (s : State) (code : Nat) : (s.tapIr code).out = s.out ++ [.tapIr s.irCapture] := rfl

/-- A scan of a data register is as many edges of TAP_TCK as its bits and four: through Capture-DR to Shift-DR, and out to Update-DR. -/
theorem Test.drScan_edges (tw : Bool) (cap n : Nat) (bits : List Bool) (last : Bool) (t : Test) (ht : t.ctl = .updateIr)
    (hn : bits.length = n) :
    ([(true, true), (false, true), (false, true)] ++ bits.map (fun b => (false, b)) ++ [(true, last), (true, true)]).foldl
      (Test.edge tw cap) t = t.drScan tw (n + 1) := by
  subst hn
  have h : ∀ (bits : List Bool) (u : Test), u.ctl = .shiftDr →
      (bits.map (fun b => (false, b))).foldl (Test.edge tw cap) u = { u with
        retimed := if bits.isEmpty then u.retimed else if tw && u.pass then Config.tstTdi (u.tcks + bits.length - 1) else u.retimed
        tcks := u.tcks + bits.length } := by
    intro bits
    induction bits with
    | nil => intro u hu; cases u; simp
    | cons b bits ih =>
      intro u hu
      rw [List.map_cons, List.foldl_cons, ih _ (by simp [Test.edge, hu, TapCtl.next])]
      cases u
      simp only at hu
      subst hu
      cases bits <;> simp [Test.edge, TapCtl.next, Nat.add_comm, Nat.add_left_comm] <;> split <;> simp_all
  rw [List.foldl_append, List.foldl_append, h]
  · cases t
    simp only at ht
    subst ht
    simp [Test.edge, TapCtl.next, Test.drScan, Nat.add_assoc, Nat.add_comm, Nat.add_left_comm] <;> split <;> simp_all
  · simp [Test.edge, ht, TapCtl.next]

end Sys2Proof.Machine
end

