-- ==== Sys2Proof/Machine/Sweep.lean ====
section
/-! DEFINITION. What a receiver makes of the training pattern: its checker (R387), a point of a sweep and when it passes (R390), and the
sweep of an axis and of a lane (R391). The eye of a lane is the package's: the commands that end a sweep bring what these give of it. -/

namespace Sys2Proof.Machine

/-! ## The checker (R387) and a point (R390) -/

/-- The checker's register after a bit, and whether that bit differs from the one predicted from the 15 before it. -/
def trainPredict (reg : Nat) (b : Bool) : Nat × Bool := ((2 * reg + b2n b) % 2 ^ 15, (bit reg 14 != bit reg 13) != b)

/-- The checker's register after some bits, and the mismatches among them. -/
def trainCheck (reg : Nat) (bs : List Bool) : Nat × Nat :=
  bs.foldl (fun (acc : Nat × Nat) b => ((trainPredict acc.1 b).1, acc.2 + b2n (trainPredict acc.1 b).2)) (reg, 0)

/-- What a sweep is made for (R390). -/
inductive SweepUse where
  | bisque | wedging | fill | calibration | repair
  deriving DecidableEq, Repr

/-- DWELL: the UI over which a point counts. -/
def SweepUse.dwell : SweepUse → Nat
  | .bisque => 64
  | .wedging | .fill => 1024
  | .calibration | .repair => 256

/-- The mismatches that a point counts of the bits received at it: 16 UI settle, and DWELL UI are counted. -/
def pointCount (u : SweepUse) (bs : List Bool) : Nat := (trainCheck (trainCheck 0 (bs.take 16)).1 ((bs.drop 16).take u.dwell)).2

/-- A point passes when it counts no mismatch. -/
def pointPasses (u : SweepUse) (bs : List Bool) : Bool := pointCount u bs == 0

/-! ## The sweep of an axis (R391) -/

/-- The length of the run of passing codes that starts at a position of a list. -/
def runFrom (l : List Bool) : Nat := (l.takeWhile (fun p => p)).length

/-- The longest run of passing codes in a list: where it starts and its length; the lowest start on a tie; none if no code passes. -/
def longestRun : List Bool → Option (Nat × Nat)
  | [] => none
  | p :: l =>
    let n := runFrom (p :: l)
    match longestRun l with
    | none => if n = 0 then none else some (0, n)
    | some (at_, m) => if m ≤ n then some (0, n) else some (at_ + 1, m)

/-- A window of an axis: its lowest code, counted as if the axis were a line, and its length. -/
structure Window where
  lo  : Int
  len : Nat
  deriving DecidableEq, Repr

/-- The code that a place on the line stands for: phase codes are circular. -/
def codeAt (k : Int) : Nat := (k % 64).toNat

/-- The longest run of a whole circle, and the lowest start on a tie, counted from the window's lowest code: a run that passes the window's
end goes on at its start, so that none is cut (DEDUCED). -/
def circleRun (pass : Nat → Bool) (lo : Int) : Option (Int × Nat) :=
  let at_ (j : Nat) : Bool := pass (codeAt (lo + (j : Int)))
  if (List.range 64).all at_ then some (lo, 64)
  else
    let starts := (List.range 64).filter (fun j => at_ j && !at_ (j + 63))
    let runs := starts.map (fun (j : Nat) => (lo + (j : Int), runFrom ((List.range 64).map (fun t => at_ (j + t)))))
    runs.foldl (fun (best : Option (Int × Nat)) r => if best.any (fun b => r.2 ≤ b.2) then best else some r) none

/-- The longest run of a window. -/
def regionOf (circular : Bool) (pass : Nat → Bool) (w : Window) : Option (Int × Nat) :=
  if circular && w.len ≥ 64 then circleRun pass w.lo
  else (longestRun ((List.range w.len).map (fun (j : Nat) => pass (codeAt (w.lo + (j : Int)))))).map (fun r => (w.lo + (r.1 : Int), r.2))

/-- A sweep of one axis: the centre and the length of its region, or none where no code passes; `n` bounds the extensions. -/
def sweepFrom (circular : Bool) (pass : Nat → Bool) : Nat → Window → Option (Nat × Nat)
  | 0, _ => none
  | n + 1, w =>
    match regionOf circular pass w with
    | none => none
    | some (first, len) =>
      let whole := circular && w.len ≥ 64
      let top := w.lo + w.len
      if !whole && first = w.lo && (circular || 0 < w.lo) then
        let lo := if circular then w.lo - 16 else max 0 (w.lo - 16)
        sweepFrom circular pass n ⟨lo, (top - lo).toNat⟩
      else if !whole && first + len = top && (circular || top < 64) then
        sweepFrom circular pass n ⟨w.lo, ((if circular then top + 16 else min 64 (top + 16)) - w.lo).toNat⟩
      else some (codeAt (first + ((len - 1) / 2 : Nat)), len)

/-- The window that a sweep starts with: the whole axis, or 16 codes to either side of a seed. -/
def startWindow (circular : Bool) (seed : Option Nat) : Window :=
  match seed with
  | none => ⟨0, 64⟩
  | some c =>
    let lo : Int := if circular then (c : Int) - 16 else max 0 ((c : Int) - 16)
    let hi : Int := if circular then (c : Int) + 16 else min 63 ((c : Int) + 16)
    ⟨lo, (hi + 1 - lo).toNat⟩

/-- The sweep of an axis. -/
def sweepAxis (circular : Bool) (seed : Option Nat) (pass : Nat → Bool) : Option (Nat × Nat) :=
  sweepFrom circular pass 9 (startWindow circular seed)

/-- A run over the eye of lane `k`, which passes at some phase and Vref codes: phase at the present Vref, Vref at the new phase, and phase
again at the new Vref; in a seeded run that last sweep is seeded with the new phase (DEDUCED). Its width is that of the last phase region, and
its height that of the Vref region. -/
def sweepLane (k vref0 : Nat) (seed : Option (Nat × Nat)) (eye : Nat → Nat → Bool) : Option LaneMeas :=
  match sweepAxis true (seed.map (·.1)) (fun p => eye p vref0) with
  | none => none
  | some (phase, _) =>
    match sweepAxis false (seed.map (·.2)) (fun v => eye phase v) with
    | none => none
    | some (vref, height) =>
      (sweepAxis true (seed.map (fun _ => phase)) (fun p => eye p vref)).map (fun r => {
        lane := k, phase := r.1, vref := vref, width := r.2, height := height, read := 0 })

end Sys2Proof.Machine
end

