-- ==== Sys2Proof/Tests/Slice0.lean ====
section
/-! SUPPORT. Tests: values of the spec's own examples, ill-formed commands, and for every obligation with hypotheses a witness for each
of its clauses. Steps are run by evaluation in the kernel. -/

open Sys2Proof Sys2Proof.Machine

namespace Sys2Proof.Tests

set_option Elab.async false

/-! ## Small states -/

def tb : Build := { smallBuild with shelves := 4, keySlots := 2 }

/-- An instance out of reset, with every domain on. -/
def upOf (b : Build) : State :=
  { State.resetOf b with
    resets := ⟨false, false, false, false⟩, pdReq := 2 ^ 24 - 1, pdAck := 2 ^ 24 - 1, straps := { role := .base } }

def up : State := upOf tb

def atStrand (i : Nat) (x : Strand) (s : State) : State := { s with strands := modAt (fun _ => x) i s.strands }

def atRing (p : Nat) (r : Ring) (s : State) : State := { s with rings := modAt (fun _ => r) p s.rings }

def atPort (n : Nat) (p : Port) (s : State) : State := { s with ports := modAt (fun _ => p) n s.ports }

def atShelf (n : Nat) (h : Shelf) (s : State) : State := { s with shelves := modAt (fun _ => h) n s.shelves }

def atCone (n : Nat) (c : Cone) (s : State) : State := { s with cones := modAt (fun _ => c) n s.cones }

/-- Station 5, named "A", is bound to a port. -/
def named (port : Nat) (s : State) : State :=
  { s with stations := modAt (fun _ => { name := 65 :: zeros 15, port := port, quota := 64 }) 5 s.stations }

def put (o n v : Nat) (b : List Byte) : List Byte := b.take o ++ toLe n v ++ b.drop (o + n)

/-- A 64-byte descriptor entry with the given (offset, length, value) fields. -/
def ent (op : Nat) (fs : List (Nat × Nat × Nat)) : List Byte :=
  fs.foldl (fun b f => put f.1 f.2.1 f.2.2 b) (toLe 1 op ++ zeros 63)

/-- A message body with the given fields. -/
def msg (fs : List (Nat × Nat × Nat)) : List Byte := fs.foldl (fun b f => put f.1 f.2.1 f.2.2 b) (zeros 64)

/-- The entry waits at pair 1. -/
def offer (e : List Byte) (s : State) : State := atRing 1 { fetched := [e] } s

def heard (type : Nat) (body : List Byte) (s : State) : State := { s with port := [.message type body] }

def linked (type : Nat) (body : List Byte) (s : State) : State := { s with linkMsgs := [(0, type, body)] }

def aTx (c : StreamCfg) (s : State) : TxStream := { cfg := c, cls := c.cls, credits := s.build.stagingMiB }

def txOf (st : TxStream) (s : State) : State := { s with tx := [(st.cfg.id, st)] }

def rxAt (key : Nat) (st : RxStream) (s : State) : State := { s with rx := [(key, st)] }

def wTx : TxStream := { cfg := { id := 7, cls := 2, localStn := 5, remote := 5 }, cls := 2 }

def wRx : RxStream := { cfg := { id := 7, cls := 2, localStn := 5, remote := 5 }, cls := 2 }

/-- A flit of the given type with the given SEQ and ACK 4095. -/
def flitOf (type seq : Nat) : List Byte :=
  let b : List Byte := padTo 248 (toLe 1 type) ++ toLe 4 (seq + 4095 * 2 ^ 12)
  b ++ toLe 4 (crc32c b)

/-- A head flit with SEQ 0 and ACK 4095. -/
def aFlit : List Byte := flitOf 1 0

/-- A strand in service with this link layer. -/
def onLink (l : Link) : State := atStrand 15 { service := true, state := .fired, link := l } up

/-- A link layer with two flits unacknowledged, SEQ 8 and 9. -/
def twoSent : Link := { txSeq := 10, replay := [⟨8, [], 0, none⟩, ⟨9, [], 0, none⟩] }

/-- A stream of fixed latency, a parcel's first beat for it, and the instance that it is open on. -/
def thruTx : TxStream := { cfg := { id := 7, cls := 1, localStn := 5, remote := 5, codecCtl := 1 }, cls := 1 }
def firstBeat : List Byte := put 12 4 8 (put 0 2 7 (zeros 512))
def thruOn : State := named 7 (txOf thruTx { up with guard := { lockedOk := true } })

/-- A port in the middle of a parcel of stream 7. -/
def midPort (thru : Bool) : Port := { inOpen := true, inSide := 7 * 2 ^ 6 + 2 ^ 18 + 512 * 2 ^ 20, inThru := thru }

/-- A context that the partner's loss has left here. -/
def keptRx : RxStream := { wRx with partnerLost := true }

/-- A port whose incoming parcel holds lookahead space. -/
def aSeek : Seek := { held := 0, waits := true, skips := false, arrival := 2 }

/-- A TOWARD instance with PASS 1. -/
def chained : State := { upOf { tb with testSide := .toward } with test := { pass := true } }

def pads (shift : Option Bool) : TapPads :=
  { tck := true, tms := true, trstN := true, shift := shift, tdi := false, from_ := (true, true, true), wrap := true }

/-! ## Behaviour, with expected values from the spec -/

def ascii9 : List Byte := [0x31, 0x32, 0x33, 0x34, 0x35, 0x36, 0x37, 0x38, 0x39]

/-- What holds of the next state; false where there is none. -/
def after (c : Instr) (s : State) (p : State → Bool) : Bool :=
  match exec c s with
  | .next t => p t
  | _ => false

/-- R270: the value over "123456789". -/
theorem test_crc32c_check : crc32c ascii9 = 0xE3069283 := by decide +kernel

/-- R231: the value over "123456789", and the digest of a 0x01 after zero bytes, as in chapter 6's example. -/
theorem test_crc64_check : crc64 0 ascii9 = 0x6C40DF5F0B497347 ∧ crc64 0 (zeros 31 ++ [1]) = 0x42F0E1EBA9EA3693 := by decide +kernel

/-- The worked flit of chapter 8: header bytes, and trailer word. -/
theorem test_flit_header :
    (flitBody { type := 2, cls := 2, stream := 0x2A7, payload := zeros 240 } (some (0x135, 3, 0)) 0x068).take 8
      = [0xA2, 0x53, 0x81, 0xC7, 0x9A, 0x18, 0x80, 0x06] ∧
    slice (wholeFlit (zeros 248) 0xFFE 0x310 1) 248 4 = [0xFE, 0x0F, 0x31, 0x01] ∧
    slice (wholeFlit (zeros 248) 0x4A1 0xFFD 2) 248 4 = [0xA1, 0xD4, 0xFF, 0x02] := by decide +kernel

/-- Chapter 2's example of a global station address: package 3, SLOT 0x11, instance 1, station 9. -/
theorem test_own_address :
    (State.setReg { upOf { tb with instanceNo := 1 } with straps := { slotId := 0x11, role := .base } } 0x640C 0x80000003).ownBase + 9
      = 0x00712009 := by decide +kernel

/-- The tile of chapter 3: 96 BF16 elements. -/
def tile : List Elem :=
  (List.range 96).map (fun i => (0,
    if i = 0 then 0x3F80 else if i = 1 then 0xBF00 else if i = 2 then 0x40C0 else if i = 31 then 0x4040
    else if i = 64 then 0x41C0 else if i = 65 then 0x4100 else if i = 66 then 0xC000 else if i = 95 then 0x4140 else 0))

def tileWire : List Byte :=
  [5, 0, 0, 0, 0x7F, 0x92, 0x07] ++ zeros 13 ++ [0x50, 0x81, 0x47, 0x09] ++ zeros 13 ++ [0x50]

/-- Chapter 3's example: SPARSE with a STRUCT24 miss, 38 wire bytes, and the same BF16 codes delivered. -/
theorem test_tile_packs :
    let es : List Elem := (convertElems 0 9 0 false 0 0 4 0 tile).1
    modeWith 0 9 9 96 2 es = (1, true) ∧ packRegion 1 9 es = tileWire := by decide +kernel

theorem test_tile_unpacks :
    (convertElems 9 0 0 false 0 0 4 0 (decodeRegion 1 9 96 tileWire).elems).1 = tile := by decide +kernel

/-- Chapter 4's example: outer scale 64, the E4M3 codes, one saturation, and the delivered BF16 codes. -/
theorem test_fp8_example :
    outerScaleExp 3 1 0x40466666 = 6 ∧
    (convertElems 2 3 0 false 0 6 1 0 [(0, 0x40466666), (0, 0xC1100000), (0, 0x38D1B717), (0, 0x3727C5AC)]).1
      = [(0, 0x74), (0, 0xFE), (0, 0x03), (0, 0x00)] ∧
    (convertElems 3 0 0 false 6 0 1 0 [(0, 0x74), (0, 0xFE), (0, 0x03), (0, 0x00)]).1
      = [(0, 0x4040), (0, 0xC0E0), (0, 0x38C0), (0, 0x0000)] := by decide +kernel

/-- The two records of chapter 15's example. -/
theorem test_kiln_record_bytes :
    KilnRecord.bytes { code := 0x0A20, isOpen := true, unit := 0xC8, first := 0x1234567C8E, last := 0x1234567C8E, data := 0x1011, seq := 0x31 }
      = [0x20, 0x0A, 0x91, 0xFF, 0xC8, 0x00, 0x01, 0x00, 0x8E, 0x7C, 0x56, 0x34, 0x12, 0, 0, 0, 0x8E, 0x7C, 0x56, 0x34, 0x12, 0, 0, 0,
         0x11, 0x10, 0, 0, 0x31, 0, 0, 0] := by decide +kernel

theorem test_nested_record_bytes :
    KilnRecord.bytes { code := 0x0122, nested := true, link := 5, unit := 0xC8, first := 0x123456868C, last := 0x123456868C, seq := 0x32 }
      = [0x22, 0x01, 0x85, 0x05, 0xC8, 0x00, 0x01, 0x00, 0x8C, 0x86, 0x56, 0x34, 0x12, 0, 0, 0, 0x8C, 0x86, 0x56, 0x34, 0x12, 0, 0, 0,
         0, 0, 0, 0, 0x32, 0, 0, 0] := by decide +kernel

/-- The SWEPT record frame of chapter 12's example. -/
theorem test_swept_frame :
    ((atStrand 37 { rx := { used := 0x40, map := 0x4000000 } } (upOf { tb with strands := 48 })).sendRec 37 0 2).out
      = [.sideband 0x21 [0x25, 0x08, 0x40, 0x00, 0, 0, 0, 0, 0, 0, 0, 0x04, 0, 0, 0, 0]] := by decide +kernel

/-- The STREAM_OPEN entry of chapter 7's example. -/
theorem test_stream_open_fields :
    streamCfg ((ent 0x10 [(8, 2, 0x22A7), (0xA, 1, 9), (0xB, 1, 1), (0xC, 4, 0x65000C), (0x10, 2, 8), (0x12, 1, 0x90), (0x13, 1, 0x40),
      (0x18, 4, 0x13579BDF), (0x1E, 2, 0x400), (0x24, 2, 0x17)]).drop 8)
      = { id := 0x2A7, cls := 2, localStn := 9, rnd := 1, remote := 0x65000C, bufPages := 8, srcFmt := 0, wireFmt := 9, dlvFmt := 0,
          weight := 4, seed := 0x13579BDF, numCtl := 0x400, stepStage := 0x17 } := by decide +kernel

/-- Pair 3 of chapter 7's example: both rings have 64 entries and the driver's index has wrapped. -/
def pair3 (r : Ring) : State :=
  ((atRing 3 r up).setReg (ringReg 3 0) 6).setReg (ringReg 3 8) 6 |>.setReg (ringReg 3 0x18) 1

/-- Its doorbell: PI 1 with GEN 1 leaves 2 entries pending after index 63. -/
theorem test_doorbell_wraps :
    after (.doorbellReadDone 3 (toLe 8 0x1001 ++ toLe 8 62) false) (pair3 { sqCi := 63, cqPi := 62, reading := true, cqPhase := true })
      (fun t => (t.ring 3).sqPi = 1 && (t.ring 3).sqPiGen && (t.ring 3).fetching ≠ 0 && !(t.ring 3).fault) = true := by decide +kernel

/-- Its NOP: the completion entry at index 63 with PHASE 1. -/
theorem test_nop_completion :
    after .nop (pair3 { sqCi := 1, sqGen := true, cqPi := 63, cqPhase := true, fetched := [ent 0 [(2, 2, 0xA2)]] }) (fun t =>
      (t.ring 3).cqPi = 0 && !(t.ring 3).cqPhase && t.out.any (fun o => match o with
        | .hmWrite _ _ d => d.take 8 = [0xA2, 0x00, 0x00, 0x01, 0x00, 0x00, 0x01, 0x10]
        | _ => false)) = true := by decide +kernel

/-- R32, R41: a parcel for a stream that is not open is logged. -/
theorem test_unknown_stream_logged :
    after (.stIBeat 7 (BitVec.ofNat 128 (2 ^ 18 + 2 ^ 19 + 512 * 2 ^ 20)) []) up
      (fun t => t.kiln.records.map (fun r => r.2.code) = [0x0401] && t.tx = []) = true := by decide +kernel

/-- R274: a strand with no eligible flit sends a GROG flit. -/
theorem test_slot_sends_grog :
    after .flitSlot (atStrand 15 { service := true, state := .fired } up) (fun t => match t.out with
      | [.flit 15 b] => b.length = 256 && fType b = 0 && crcOk b
      | _ => false) = true := by decide +kernel

/-- R205: a SHELF_OPEN takes the shelf it names. -/
theorem test_shelf_opens :
    after .shelfOpen (offer (ent 0x20 [(8, 1, 3), (0xA, 2, 5), (0x10, 8, 1024), (0x18, 8, 512)]) up)
      (fun t => (t.shelf 3).state = .filling && (t.shelf 3).stage = 5 && (t.shelf 3).base = 1024 && (t.shelf 3).len = 512) = true := by
  decide +kernel

/-- R47: a station whose quota fits its bank is made; one page more is turned away. -/
theorem test_station_named :
    after .stationName (offer (ent 0x14 [(8, 1, 63), (9, 1, 7), (0xA, 2, 512), (0xC, 1, 65)]) up)
      (fun t => (t.stations.getD 63 {}).quota = 512 && (t.stations.getD 63 {}).port = 7) = true ∧
    after .stationName (offer (ent 0x14 [(8, 1, 63), (9, 1, 7), (0xA, 2, 513), (0xC, 1, 65)]) up)
      (fun t => (t.stations.getD 63 {}).exists_ = false) = true := by decide +kernel

/-- R1: IDCODE captures the identity. -/
theorem test_idcode : after .idcode up (fun t => t.out = [.tapIr 1, .tapCapture 0x5E0DC1ED] && t.test.ir = 0x01) = true := by decide +kernel

/-- R557: one wrong bit is corrected and logged. -/
theorem test_ecc_corrected : after (.eccError 7 9 1 .unused) up (fun t =>
    t.kiln.records.map (fun r => (r.2.code, r.2.unit, r.2.data)) = [(0x0B01, 7, 9)]) = true := by decide +kernel

/-- R28: a fall of PD_ACK that was not asked for takes that domain alone down. -/
theorem test_domain_lost : after (.pdAckLost 22) up (fun t => t.pdAck.testBit 22 = false && t.pdReq.testBit 22 = false && t.domainOn 21) = true := by
  decide +kernel

/-- R273: the tick ends after the fifth LCLK. -/
theorem test_tick_of_five : (match step { up with phase := 4, fcount := 7 } with
    | .next t => t.fcount = 8 && t.phase = 0
    | _ => false) = true := by decide +kernel

/-- R8, R592: the window is 64 KiB of aligned words. -/
theorem test_offsets_outside_stop :
    (match exec (.registerWrite 0x10000 0) up with
      | .fault .absentUnit => true
      | _ => false) = true ∧
    (match exec (.registerWrite 0x102 0) up with
      | .fault .absentUnit => true
      | _ => false) = true := by decide +kernel

/-- The table gives its rows no bits. -/
theorem test_no_word_is_a_command (n w : Nat) : decodeTableWord n w = none := rfl

/-! ## Ill-formed commands -/

/-- Commands that name the first number beyond a unit limit. -/
def illFormed1 : List Instr :=
  [.pdAckRise 24, .pdAckFall 24, .pdAckLost 24, .stIBeat 8 0 [], .stOBeat 8, .popRequest 8 0 0 0, .ptIBeat 16 true true [], .ptOBeat 16,
   .doorbellReadDone 64 [] false, .submissionFetchDone 64 [] false, .registerWrite 0x10000 0, .registerWrite 2 0, .shadowLoRead 0x10000,
   .shadowLoRead 0x202, .ringEnable 64 1, .ringDisable 64 0, .ringPoll 64, .irqModTimeout 64, .versionCommitApply 4, .openTimeout 4096]

/-- Commands that name the first number beyond a unit limit. -/
def illFormed2 : List Instr :=
  [.encoderIdleEnd 4096, .lookaheadGrant 4, .lookaheadDone 4096, .flitAccept 16 [], .replaySlot 16 [], .ackTimeout 16, .queueStall 4096,
   .sourceScatter 4096, .holdExpired 9, .sourceCombine 4096, .fwdClkLane 16, .vldLaneFail 16, .trkDrift 16, .wedgeStart 1,
   .wedgeStepDone 16 false [], .wedgeFailTimeout 16, .calIntervalDue 16, .calVerifyDone 16 true, .repairSweepDone 16 [], .fillDone 16 0 []]

/-- Commands that name the first number beyond a unit limit. -/
def illFormed3 : List Instr :=
  [.fillTimeout 16 0, .repairTimeout 16, .parkStart 1, .groupWake 1, .coneRefDone 26 [], .bistSegmentDone 16 [] 0 true,
   .eccError 8 0 1 .unused, .stepRepeat 16, .repairSvcRepeat 16, .phyPllLock 1]

/-- One command for each unit limit, with the first number beyond it. -/
def illFormed : List Instr := [illFormed1, illFormed2, illFormed3].flatten

theorem test_ill_formed_refused : illFormed.all (fun c => !wellFormed tb c) = true := by decide +kernel

/-- Each of them stops with the fault of a unit that the build lacks. -/
theorem test_ill_formed_stops : illFormed.all (fun c => match exec c up with
    | .fault .absentUnit => true
    | _ => false) = true := by decide +kernel

/-! ## Lanes -/

/-- Byte 0 of a flit is 0xA2: lane D0 of a V strand carries 0, 1, 0, 0, 0, 1, 0, 1 in UI 0 to 7 (the worked example after R272). -/
theorem test_lane_d0 : (List.range 8).map (flitBit [0xA2] { smallBuild with pers := .V } 0) =
    [false, true, false, false, false, true, false, true] := by decide +kernel

/-- The first eight TRK bits of a frame (R360). -/
theorem test_trk : (List.range 8).map trkBit = [false, false, false, false, false, false, true, false] := by decide +kernel

/-- When the spare replaces data lane 3, lanes 3 to 7 move up one position, position 3 is free, and lane 8 keeps position 9 (R427). -/
theorem test_spare : (List.range 10).map ((({} : RepDir).useSpare 0 3).laneAt 0) =
    [some 0, some 1, some 2, none, some 3, some 4, some 5, some 6, some 7, some 8] := by decide +kernel

/-- In GREENWARE every lane of a strand is low, and with its SG domain off none is driven (R367). -/
theorem test_lane_levels : State.laneLevel up 0 5 0 0 [0xFF] = .low ∧
    State.laneLevel { up with pdAck := 0 } 0 5 0 0 [0xFF] = .undriven := by decide +kernel

/-- Both dies present and powered, EXTEST the instruction, and 1 in the boundary cell of TX lane 5 of strand 0. -/
def bondTest : State :=
  { up with partner := .active, presence := { on := true }, ready := some ⟨1, true, true, false⟩,
            test := { up.test with drives := true, cells := [5] } }

/-- Under EXTEST a TX cell drives its lane from its update value, while the strand may drive (R575). -/
theorem test_extest_lane : bondTest.laneLevel 0 5 0 0 [] = .bit true ∧ bondTest.laneLevel 0 6 0 0 [] = .low ∧
    State.laneLevel { bondTest with presence := {} } 0 5 0 0 [] = .low := by decide +kernel

/-! ## Pads and sweeps -/

/-- R21: the reference build and the small one may be built; 12 strands of a V-instance may not. -/
theorem test_builds : referenceBuild.legal = true ∧ smallBuild.legal = true ∧ { referenceBuild with strands := 12 }.legal = false := by
  decide +kernel

/-- R383: the CRC over "123456789". -/
theorem test_crc16_check : crc16 ascii9 = 0x29B1 := by decide +kernel

/-- R382: a frame with one payload word has 50 bits, and is taken in as sent; with one bit wrong it is discarded. -/
theorem test_frame :
    (frameBits 0x11 [0x34, 0x12]).length = 50 ∧ frameTaken (frameBits 0x11 [0x34, 0x12]) = some (0x11, [0x34, 0x12]) ∧
    frameTaken (modAt (fun b => !b) 20 (frameBits 0x11 [0x34, 0x12])) = none := by decide +kernel

/-- R367: the pull-downs are on in GREENWARE and off in service. -/
theorem test_pull_down : up.pullDown 15 = true ∧ (atStrand 15 { state := .fired, service := true } up).pullDown 15 = false := by
  decide +kernel

/-- R569, R571: with PASS 1 the bonds follow the port and TAP_TDO the retiming bit; RST_AON_N breaks the chain. -/
theorem test_chain :
    chained.testPads (pads (some false)) = ⟨some true, some true, some true, some false⟩ ∧ State.tapTdo { chained with test := { pass := true, retimed := true } } (pads (some false)) = true ∧
    (State.testPads { chained with resets := ⟨true, false, false, false⟩ } (pads none)).tck = some false := by decide +kernel

/-- R387: the checker finds no mismatch in lane 5's own pattern, and three for one wrong bit, which is also among the bits that predict
two later ones. -/
theorem test_checker :
    pointPasses .bisque ((List.range 80).map (fun n => trainBit 5 n)) = true ∧
    pointCount .bisque (modAt (fun b => !b) 40 ((List.range 80).map (fun n => trainBit 5 n))) = 3 := by decide +kernel

/-- R391: of an eye that passes at phases 20 to 31 and Vref codes 10 to 40 the centres are 25 and 25. -/
theorem test_sweep : sweepLane 3 32 none (fun p v => decide (20 ≤ p ∧ p ≤ 31 ∧ 10 ≤ v ∧ v ≤ 40)) = some {
    lane := 3, phase := 25, vref := 25, width := 12, height := 31, read := 0 } := by decide +kernel

/-- The worked record of chapter 15: lane D17 failing in segment 1 gives DATA 0x0000_1011 (R541, R544). -/
theorem test_bist_failure_data :
    (let c : Slice := { strand := 15, row := 0, mine := true, phase := .segments }
     let s : State := { up with bist := { slice := some c } }
     (s.sliceSegment c (List.replicate 18 0 ++ [2 ^ 15]) 19 true).raised.map (fun r => (r.code, r.unit, r.data))) =
      [(0x0A20, 15, 0x1011)] := by decide +kernel

/-- R36: a notification that comes while the block is being read has it read once more. -/
theorem test_watch_during_read :
    after (.doorbellReadDone 3 (zeros 32) false) (pair3 { reading := true, again := true, cqPhase := true }) (fun t =>
      (t.ring 3).reading && t.out == [.doorbellRead 3 0]) = true := by decide +kernel

/-! ## Witnesses of the obligations -/

theorem witness_AonReleaseSamplesStraps :
    ∃ s : State, ∃ _ : BitVec 5, ∃ _ : BitVec 8, ∃ _ : BitVec 2, s.resets.aon = true :=
  ⟨State.reset, 31, 255, 3, by decide +kernel⟩

theorem witness_OtherResetsAssertAndRelease :
    (∃ s : State, s.cfgHeld = false) ∧
    (∃ s : State, s.linkHeld = false) ∧
    (∃ s : State, s.coreHeld = false) ∧
    (∃ s : State, s.resets.link = true) ∧
    (∃ s : State, s.resets.aon = true) ∧
    (∃ s : State, s.resets.aon = false) :=
  ⟨⟨up, by decide +kernel⟩,
   ⟨up, by decide +kernel⟩,
   ⟨up, by decide +kernel⟩,
   ⟨{ up with resets := ⟨false, false, true, false⟩ }, by decide +kernel⟩,
   ⟨State.reset, by decide +kernel⟩,
   ⟨up, by decide +kernel⟩⟩

theorem witness_PowerDomainsAreHandled :
    (∃ _ : State, ∃ d : Nat, d < 23) ∧
    (∃ s : State, ∃ d : Nat, d < 23 ∧ (s.aonHeld = true ∨ s.pdReq.testBit d = false) ∧ s.pdAck.testBit d = true) ∧
    (∃ s : State, ∃ d : Nat, d < 23 ∧ s.aonHeld = false ∧ s.pdAck.testBit d = true ∧ s.pdReq.testBit d = true) ∧
    (∃ s : State, ∃ g : Nat, g < s.build.sgs ∧ s.domainOn g = true) ∧
    (∃ s : State, ∃ d : Nat, d ∈ s.kiln.pdHeld) ∧
    (∃ s : State, ∃ d : Nat, s.test.wash = none ∧ (s.flag 0x6000 d = true ∨ d ∈ s.power.parked)) :=
  ⟨⟨up, 22, by decide +kernel⟩,
   ⟨{ up with pdReq := 2 ^ 22 - 1 }, 22, by decide +kernel⟩,
   ⟨up, 22, by decide +kernel⟩,
   ⟨up, 0, by decide +kernel⟩,
   ⟨{ up with kiln := { pdHeld := [22] } }, 22, by decide +kernel⟩,
   ⟨up.setReg 0x6000 (2 ^ 22), 22, by decide +kernel⟩⟩

theorem witness_PowerWarningAndParking :
    (∃ s : State, s.aonHeld = false ∧ s.power.warn = false) ∧
    (∃ s : State, s.aonHeld = false) ∧
    (∃ s : State, ∃ n : Nat, s.aonHeld = false ∧ s.power.flush = some n) ∧
    (∃ _ : State, ∃ g : Nat, g < 16) ∧
    (∃ s : State, ∃ g : Nat, g < s.build.sgs ∧ s.cfgUp = true ∧ s.initiates = true ∧ s.parkDue g = true ∧ s.mayPark g = true) ∧
    (∃ s : State, ∃ g : Nat, g < s.build.sgs ∧ s.cfgUp = true ∧ s.initiates = true ∧ s.parkDue g = true ∧ s.mayPark g = false ∧ ¬
      g ∈ s.power.blocked) ∧
    (∃ s : State, ∃ g : Nat, g < s.build.sgs ∧ s.cfgUp = true ∧ g ∈ s.power.parked ∧ bit s.parkSet g = false ∧ s.atRest g = true ∧
      s.pdReq.testBit g = false ∧ s.flag 0x6000 g = false ∧ ¬ g ∈ s.kiln.pdHeld ∧ s.requiredOn g = true) :=
  ⟨⟨up, by decide +kernel⟩,
   ⟨up, by decide +kernel⟩,
   ⟨{ up with power := { flush := some 2 } }, 2, by decide +kernel⟩,
   ⟨up, 15, by decide +kernel⟩,
   ⟨(atStrand 0 { service := true, state := .fired } (atStrand 31 { service := true, state := .fired } ((upOf
     { tb with strands := 32 }).setReg 0x600C 2))), 1, by decide +kernel⟩,
   ⟨(atStrand 31 { service := true, state := .fired } ((upOf { tb with strands := 32 }).setReg 0x600C 2)), 1, by decide +kernel⟩,
   ⟨{ up with pdReq := 2 ^ 24 - 2, pdAck := 2 ^ 24 - 2, power := { parked := [0] } }, 0, by decide +kernel⟩⟩

theorem witness_StationParcelsEnter :
    (∃ s : State, ∃ port : Nat, ∃ side : BitVec 128, ∃ _ : List Byte, (port < s.build.ports ∧ s.cfgUp = true ∧ s.intakeReady port
      true = true ∧ (s.ports.getD port {}).inOpen = false ∧ sideSop side.toNat = true ∧ sideEop side.toNat = false ∧ sideBytes
      side.toNat = 512) ∧ (∀ st, s.tx? (sideStream side.toNat) = some st → s.goesThrough st = false)) ∧
    (∃ s : State, ∃ port : Nat, ∃ id : Nat, ∃ side : BitVec 128, ∃ data : List Byte, ∃ b : List Byte, ∃ st : TxStream,
      port < s.build.ports ∧ port < s.ports.length ∧ s.cfgUp = true ∧ s.intakeReady port true = true ∧ (s.ports.getD port {}).inOpen = false ∧
      sideSop side.toNat = true ∧ sideEop side.toNat = false ∧ sideBytes side.toNat = 512 ∧ sideStream side.toNat = id ∧
      data.take 512 = b ∧ s.tx? id = some st ∧ s.goesThrough st = true ∧ st.takes = true ∧ st.fence = none ∧
      st.cfg.localStn = sideStation side.toNat ∧ s.boundTo (sideStation side.toNat) port = true ∧ hMb b = sideMb side.toNat ∧
      hDir b = sideDir side.toNat ∧ s.parcelOk st b (parcelLen (denseSize st.cfg.srcFmt (hElems b)) b) true = true ∧ hAtomic b = false) ∧
    (∃ s : State, ∃ port : Nat, ∃ side : BitVec 128, ∃ _ : List Byte, ∃ q : Port, port < s.build.ports ∧ s.cfgUp = true ∧
      s.intakeReady port false = true ∧ s.ports.getD port {} = q ∧ q.inOpen = true ∧ q.inBad = false ∧ sideSop side.toNat = false
      ∧ sideEop side.toNat = false ∧ sideBytes side.toNat = 512 ∧ sideStation side.toNat = sideStation q.inSide ∧ sideStream
      side.toNat = sideStream q.inSide ∧ sideMb side.toNat = sideMb q.inSide ∧ sideDir side.toNat = sideDir q.inSide ∧ q.inThru = false) ∧
    (∃ s : State, ∃ port : Nat, ∃ side : BitVec 128, ∃ _ : List Byte, ∃ q : Port, port < s.build.ports ∧ s.cfgUp = true ∧
      s.intakeReady port false = true ∧ s.ports.getD port {} = q ∧ q.inOpen = true ∧ q.inBad = false ∧ sideSop side.toNat = false
      ∧ sideEop side.toNat = false ∧ sideBytes side.toNat = 512 ∧ sideStation side.toNat = sideStation q.inSide ∧ sideStream
      side.toNat = sideStream q.inSide ∧ sideMb side.toNat = sideMb q.inSide ∧ sideDir side.toNat = sideDir q.inSide ∧ q.inThru = true) ∧
    (∃ s : State, ∃ port : Nat, ∃ side : BitVec 128, ∃ _ : List Byte, port < s.build.ports ∧ s.cfgUp = true ∧ s.intakeReady port
      true = true ∧ (s.ports.getD port {}).inOpen = false ∧ sideSop side.toNat = true ∧ sideEop side.toNat = true ∧ 0 < sideBytes
      side.toNat ∧ sideBytes side.toNat ≤ 512 ∧ s.inj.armed = false ∧ s.tx? (sideStream side.toNat) = none ∧ port < s.ports.length) ∧
    (∃ s : State, ∃ port : Nat, ∃ side : BitVec 128, ∃ data : List Byte, ∃ st : TxStream, port < s.build.ports ∧ s.cfgUp = true ∧
      s.intakeReady port true = true ∧ (s.ports.getD port {}).inOpen = false ∧ sideSop side.toNat = true ∧ sideEop side.toNat =
      true ∧ 0 < sideBytes side.toNat ∧ sideBytes side.toNat ≤ 512 ∧ s.inj.armed = false ∧ s.tx? (sideStream side.toNat) = some st
      ∧ st.takes = true ∧ st.fence = none ∧ st.cfg.localStn = sideStation side.toNat ∧ s.boundTo (sideStation side.toNat) port =
      true ∧ hMb data = sideMb side.toNat ∧ hDir data = sideDir side.toNat ∧ data.length = sideBytes side.toNat ∧ s.parcelOk st
      data data.length false = true ∧ st.atomicLim = 0 ∧ hAtomic data = false ∧ st.cfg.dispRole = 0 ∧ s.sagChecksD st.cls
      st.looped (s.regN 0x4000) = false ∧ port < s.ports.length) :=
  ⟨⟨up, 7, BitVec.ofNat 128 (2 ^ 18 + 512 * 2 ^ 20), [], by decide +kernel, by intro st h; cases h⟩,
   ⟨thruOn, 7, 7, BitVec.ofNat 128 (5 + 7 * 2 ^ 6 + 2 ^ 18 + 512 * 2 ^ 20), firstBeat, firstBeat, thruTx, by decide +kernel⟩,
   ⟨(atPort 7 (midPort false) up), 7, BitVec.ofNat 128 (7 * 2 ^ 6 + 512 * 2 ^ 20), [], midPort false, by decide +kernel⟩,
   ⟨(atPort 7 (midPort true) up), 7, BitVec.ofNat 128 (7 * 2 ^ 6 + 512 * 2 ^ 20), [], midPort true, by decide +kernel⟩,
   ⟨up, 7, BitVec.ofNat 128 (2 ^ 18 + 2 ^ 19 + 512 * 2 ^ 20), [], by decide +kernel⟩,
   ⟨named 7 (txOf wTx up), 7, BitVec.ofNat 128 (5 + 7 * 2 ^ 6 + 2 ^ 18 + 2 ^ 19 + 48 * 2 ^ 20), put 12 4 8 (put 0 2 7 (zeros 48)),
     wTx, by decide +kernel⟩⟩

theorem witness_PopsAreAnswered :
    (∃ s : State, ∃ port : Nat, ∃ stream : Nat, port < s.build.ports ∧ s.cfgUp = true ∧ s.portUp port = true ∧ s.notWashed = true ∧
      (s.ports.getD port {}).pops.length < 16 ∧ s.popStream port stream = none) ∧
    (∃ s : State, ∃ port : Nat, ∃ stream : Nat, ∃ mb : Nat, ∃ dir : Nat, ∃ key : Nat, ∃ st : RxStream, port < s.build.ports ∧
      s.cfgUp = true ∧ s.portUp port = true ∧ s.notWashed = true ∧ (s.ports.getD port {}).pops.length < 16 ∧
      s.popStream port stream = some (key, st) ∧ st.stall = true ∧ st.serves mb dir = true ∧ st.fence = none) ∧
    (∃ s : State, ∃ port : Nat, ∃ stream : Nat, ∃ mb : Nat, ∃ dir : Nat, ∃ key : Nat, ∃ st : RxStream, ∃ status : Nat,
      port < s.build.ports ∧ s.cfgUp = true ∧ s.portUp port = true ∧ s.notWashed = true ∧ (s.ports.getD port {}).pops.length < 16 ∧
      s.popStream port stream = some (key, st) ∧ st.fence = some status ∧
      st.starves (s.ports.getD port {}).pops ⟨stream, mb, dir⟩ = true) ∧
    (∃ s : State, ∃ port : Nat, ∃ b : Beat, port < s.build.ports ∧ s.cfgUp = true ∧ s.portUp port = true ∧
      (s.ports.getD port {}).offer = some b ∧ b.source = none) ∧
    (∃ s : State, ∃ port : Nat, ∃ b : Beat, ∃ key : Nat, ∃ uid : Nat, port < s.build.ports ∧ s.cfgUp = true ∧ s.portUp port = true ∧
      (s.ports.getD port {}).offer = some b ∧ b.source = some (key, uid)) ∧
    (∃ s : State, ∃ port : Nat, ∃ side : Nat, ∃ rest : List Nat, port < s.build.ports ∧ s.cfgUp = true ∧ s.portUp port = true ∧
      port < s.ports.length ∧ (s.ports.getD port {}).offer = none ∧ (s.ports.getD port {}).outOf = none ∧
      (s.ports.getD port {}).answers = side :: rest) ∧
    (∃ s : State, ∃ port : Nat, (s.ports.getD port {}).offer.isSome = true) ∧
    (∃ s : State, ∃ port : Nat, ∃ key : Nat, ∃ uid : Nat, ∃ n : Nat, ∃ st : RxStream, ∃ p : RxParcel, port < s.ports.length ∧
      s.rx? key = some st ∧ st.parcel? uid = some p ∧ (p.shown s.lclk).complete = true ∧
      (p.shown s.lclk).avail.length - p.taken = n ∧ n ≤ 512) :=
  ⟨⟨up, 7, 4095, by decide +kernel⟩,
   ⟨named 7 (rxAt 7 { wRx with stall := true, parcels := [{ uid := 3, complete := true, checked := true, mb := 1 }] } up), 7, 7, 1, 0, 7,
     { wRx with stall := true, parcels := [{ uid := 3, complete := true, checked := true, mb := 1 }] }, by decide +kernel⟩,
   ⟨named 7 (rxAt 7 { wRx with fence := some 0x22 } up), 7, 7, 0, 0, 7, { wRx with fence := some 0x22 }, 0x22, by decide +kernel⟩,
   ⟨(atPort 7 { offer := some ⟨5, [0], none⟩ } up), 7, ⟨5, [0], none⟩, by decide +kernel⟩,
   ⟨(atPort 7 { offer := some ⟨5, [0], some (7, 3)⟩ } up), 7, ⟨5, [0], some (7, 3)⟩, 7, 3, by decide +kernel⟩,
   ⟨(atPort 7 { answers := [5] } up), 7, 5, [], by decide +kernel⟩,
   ⟨(atPort 7 { offer := some ⟨5, [0], none⟩ } up), 7, by decide +kernel⟩,
   ⟨rxAt 7 { wRx with parcels := [{ uid := 3, complete := true, avail := zeros 512 }] } up, 7, 7, 3, 512,
     { wRx with parcels := [{ uid := 3, complete := true, avail := zeros 512 }] }, { uid := 3, complete := true, avail := zeros 512 },
     by decide +kernel⟩⟩

theorem witness_PassThroughBeats :
    (∃ s : State, ∃ vc : Nat, ∃ _ : Bool, ∃ _ : List Byte, vc < 16 ∧ s.cfgUp = true ∧ s.ptUp = true ∧ ((s.ptIn.getD vc
      none).isSome ∨ s.flag 0x100 1 = false)) ∧
    (∃ s : State, ∃ vc : Nat, ∃ sop : Bool, ∃ bytes : List Byte, ∃ rest : List (Bool × List Byte), vc < 16 ∧ s.cfgUp = true ∧
      s.ptUp = true ∧ s.rx.find? (fun r => r.2.cls == 3 && r.2.cfg.vc == vc && !r.2.packets.isEmpty) = none ∧ s.ptErr.getD vc [] =
      (sop, bytes) :: rest) :=
  ⟨⟨up, 15, true, [], by decide +kernel⟩,
   ⟨{ up with ptErr := modAt (fun _ => [(true, [])]) 15 up.ptErr }, 15, true, [], [], by decide +kernel⟩⟩

theorem witness_MemResponsesReachTheirUse :
    (∃ s : State, ∃ s1 : State, ∃ request : Nat, ∃ ch : Nat, ∃ use : MemUse, ∃ _ : Bool, ∃ _ : List Byte, s.cfgUp = true ∧
      s.inj.armed = false ∧ s.memUse request = some (ch, use) ∧ s1 = { s.start with memOps := eraseKey request s.memOps }) ∧
    (∃ s : State, ∃ s1 : State, ∃ request : Nat, ∃ ch : Nat, ∃ use : MemUse, ∃ _ : Bool, s.cfgUp = true ∧ s.inj.armed = false ∧
      s.memUse request = some (ch, use) ∧ s1 = { s.start with memOps := eraseKey request s.memOps }) :=
  ⟨⟨{ up with memOps := [(9, 3, .fetch 7)] }, { up with memOps := [] }, 9, 3, .fetch 7, true, [], by decide +kernel⟩,
   ⟨{ up with memOps := [(9, 3, .accWrite 1 7)] }, { up with memOps := [] }, 9, 3, .accWrite 1 7, true, by decide +kernel⟩⟩

theorem witness_HostMemoryAnswers :
    (∃ s : State, ∃ s1 : State, ∃ request : Nat, ∃ use : HmReadUse, ∃ _ : List Byte, ∃ _ : Bool, s.cfgUp = true ∧ s.inj.armed =
      false ∧ lookupKey request s.hmReads = some use ∧ s1 = { s.start with hmReads := eraseKey request s.hmReads }) ∧
    (∃ s : State, ∃ request : Nat, ∃ pair : Nat, ∃ d : Nat, s.cfgUp = true ∧ s.inj.armed = false ∧ lookupKey request s.hmWrites =
      some (.completion pair d)) ∧
    (∃ s : State, ∃ request : Nat, s.cfgUp = true ∧ s.inj.armed = false ∧ lookupKey request s.hmWrites = some .event) ∧
    (∃ s : State, ∃ request : Nat, ∃ pair : Nat, s.cfgUp = true ∧ s.inj.armed = false ∧ lookupKey request s.hmWrites = some
      (.message pair)) :=
  ⟨⟨{ up with hmReads := [(9, .parcelSend 2)] }, up, 9, .parcelSend 2, [], true, by decide +kernel⟩,
   ⟨{ up with hmWrites := [(9, .completion 63 2)] }, 9, 63, 2, by decide +kernel⟩,
   ⟨{ up with hmWrites := [(9, .event)] }, 9, by decide +kernel⟩,
   ⟨{ up with hmWrites := [(9, .message 63)] }, 9, 63, by decide +kernel⟩⟩

theorem witness_DoorbellsAndMessages :
    (∃ s : State, ∃ p : Nat, p < 64 ∧ s.cfgUp = true ∧ s.ringOn p = true ∧ s.fetchHeld = false ∧ (s.ring p).reading = false) ∧
    (∃ s : State, ∃ p : Nat, ∃ line : Nat, p < 64 ∧ s.cfgUp = true ∧ s.doorbellAddr p / 64 = line ∧ (∀ q, q < 64 → q ≠ p →
      s.doorbellAddr q / 64 ≠ line) ∧ s.ringOn p = true ∧ s.fetchHeld = false ∧ (s.ring p).reading = false ∧ s.rings.length = 64) ∧
    (∃ s : State, ∃ p : Nat, ∃ line : Nat, p < 64 ∧ s.cfgUp = true ∧ s.doorbellAddr p / 64 = line ∧ (∀ q, q < 64 → q ≠ p →
      s.doorbellAddr q / 64 ≠ line) ∧ s.ringOn p = true ∧ s.fetchHeld = false ∧ (s.ring p).reading = true ∧ s.rings.length = 64) ∧
    (∃ s : State, ∃ p : Nat, p < 64 ∧ s.cfgUp = true ∧ s.ringOn p = true ∧ s.flag (ringReg p 0x18) 1 = true ∧ (s.ring
      p).oldest.isSome = true ∧ s.fld (ringReg p 0x18) 31 16 ≠ 0) ∧
    (∃ s : State, ∃ p : Nat, p < s.rings.length ∧ (∀ m ∈ (s.ring p).msgs, m ≠ []) ∧ (s.ring p).msiAddr ≠ 0 ∧ (s.ring p).msiAddr % 4 = 0 ∧
      (s.ring p).covers = []) ∧
    (∃ s : State, ∃ p : Nat, p < s.rings.length ∧ (∀ m ∈ (s.ring p).msgs, m ≠ []) ∧ (s.ring p).msiAddr ≠ 0 ∧ (s.ring p).msiAddr % 4 = 0 ∧
      (s.ring p).covers ≠ []) :=
  ⟨⟨(up.setReg (ringReg 63 0x18) 1), 63, by decide +kernel⟩,
   ⟨(up.setReg (ringReg 63 0x18) 1).setReg (ringReg 63 0x10) 64, 63, 1, ⟨by decide +kernel, by decide +kernel, by decide +kernel,
     by decide +kernel, by decide +kernel, by decide +kernel, by decide +kernel, by decide +kernel⟩⟩,
   ⟨((atRing 63 { reading := true } up).setReg (ringReg 63 0x18) 1).setReg (ringReg 63 0x10) 64, 63, 1, ⟨by decide +kernel, by decide +kernel, by decide +kernel,
     by decide +kernel, by decide +kernel, by decide +kernel, by decide +kernel, by decide +kernel⟩⟩,
   ⟨(atRing 63 { oldest := some 1 } up).setReg (ringReg 63 0x18) 0x10003, 63, by decide +kernel⟩,
   ⟨(atRing 63 { msiAddr := 4 } up), 63, by decide +kernel⟩,
   ⟨(atRing 63 { msiAddr := 4, msgs := [[8]], covers := [9] } up), 63, by decide +kernel⟩⟩

theorem witness_DoorbellAndFetchReturn :
    (∃ s : State, ∃ p : Nat, ∃ data : List Byte, p < 64 ∧ s.cfgUp = true ∧ s.inj.armed = false ∧ s.ringOn p = true ∧ (s.ring
      p).reading = true ∧ (s.ring p).oldRead = false ∧ s.doorbellBad p (padTo 32 data) = false) ∧
    (∃ s : State, ∃ p : Nat, ∃ data : List Byte, ∃ err : Bool, p < 64 ∧ s.cfgUp = true ∧ s.inj.armed = false ∧ s.ringOn p = true ∧
      (s.ring p).reading = true ∧ (s.ring p).oldRead = false ∧ (err = true ∨ s.doorbellBad p (padTo 32 data) = true)) ∧
    (∃ s : State, ∃ p : Nat, ∃ _ : List Byte, p < 64 ∧ s.cfgUp = true ∧ s.inj.armed = false ∧ (s.ring p).fetching ≠ 0 ∧ (s.ring
      p).stale = false ∧ p < s.rings.length) ∧
    (∃ s : State, ∃ p : Nat, ∃ _ : List Byte, p < 64 ∧ s.cfgUp = true ∧ s.inj.armed = false ∧ (s.ring p).fetching ≠ 0 ∧ (s.ring
      p).stale = false) :=
  ⟨⟨((atRing 63 { reading := true } up).setReg (ringReg 63 0x18) 1), 63, zeros 32, by decide +kernel⟩,
   ⟨((atRing 63 { reading := true } up).setReg (ringReg 63 0x18) 1), 63, [], true, by decide +kernel⟩,
   ⟨(atRing 63 { fetching := 1 } up), 63, [], by decide +kernel⟩,
   ⟨(atRing 63 { fetching := 1 } up), 63, [], by decide +kernel⟩⟩

theorem witness_NvAnswersTheOldest :
    (∃ s : State, ∃ rest : List NvUse, ∃ _ : BitVec 64, s.aonHeld = false ∧ s.inj.armed = false ∧ s.nvOps = .dieId 0 :: rest) ∧
    (∃ s : State, ∃ rest : List NvUse, ∃ last : Bool, ∃ n : Nat, ∃ _ : BitVec 64, s.aonHeld = false ∧ s.inj.armed = false ∧
      s.nvOps = .logWrite last :: rest ∧ s.power.flush = some n ∧ 1 < n) :=
  ⟨⟨{ up with nvOps := [.dieId 0] }, [], 1, by decide +kernel⟩,
   ⟨{ up with nvOps := [.logWrite false], power := { flush := some 2 } }, [], false, 2, 0, by decide +kernel⟩⟩

theorem witness_HeatAndCones :
    (∃ s : State, ∃ temp : Nat, s.aonHeld = false ∧ s.inj.armed = false ∧ temp < 65536) ∧
    (∃ s : State, ∃ frame : Nat, s.aonHeld = false ∧ s.inj.armed = false ∧ bits (frame / 2) 31 24 ≠ crc8 (toLe 3 (frame / 2))) ∧
    (∃ s : State, s.aonHeld = false) ∧
    (∃ s : State, ∃ _ : List Nat, ∃ i : Nat, s.aonHeld = false ∧ s.inj.armed = false ∧ s.cones.length = 26 ∧ i < 4 ∧ (s.cones.getD
      i {}).check = false) ∧
    (∃ s : State, ∃ i : Nat, ∃ _ : List Nat, i < 26 ∧ s.aonHeld = false ∧ s.inj.armed = false ∧ s.cones.length = 26 ∧ (s.cones.getD
      i {}).check = true ∧ s.bist.full = none ∧ s.bist.from_ = none) ∧
    (∃ s : State, ∃ i : Nat, ∃ results : List Nat, i < 20 ∧ s.conePasses i results = true) ∧
    (∃ s : State, ∃ i : Nat, ∃ results : List Nat, 23 ≤ i ∧ s.conePasses i results = true) :=
  ⟨⟨up, 65535, by decide +kernel⟩,
   ⟨up, 2, by decide +kernel⟩,
   ⟨up, by decide +kernel⟩,
   ⟨up, [], 3, by decide +kernel⟩,
   ⟨(atCone 25 { check := true } up), 25, [], by decide +kernel⟩,
   ⟨up, 19, [64896, 2000], by decide +kernel⟩,
   ⟨up, 23, [65536], by decide +kernel⟩⟩

theorem witness_PulsesAndPresence :
    (∃ s : State, s.aonHeld = false) ∧
    (∃ s : State, ∃ p : List Byte, s.aonHeld = false ∧ s.inj.armed = false ∧ bit (field p 4 2) 0 = false ∧ bit (field p 4 2) 2 =
      false ∧ s.pulse.stale = true) ∧
    (∃ s : State, ∃ p : List Byte, s.aonHeld = false ∧ s.inj.armed = false ∧ bit (field p 4 2) 0 = false ∧ bit (field p 4 2) 2 =
      true ∧ s.pulse.stale = true ∧ s.partner = .active) ∧
    (∃ s : State, s.aonHeld = false ∧ s.pulse.winPulse = false ∧ s.pulse.misses = 7 ∧ s.pulse.heatMiss < 7 ∧ s.pulse.stale = false
      ∧ s.partner = .active ∧ s.presence.on = false ∧ s.inj.point = 0) ∧
    (∃ s : State, s.aonHeld = false ∧ s.partner = .unknown ∧ s.presence.on = false) ∧
    (∃ s : State, ∃ edges : Nat, s.aonHeld = false ∧ s.inj.armed = false ∧ s.presence.on = false ∧ (edges < 48 ∨ 80 < edges)) ∧
    (∃ s : State, ∃ edges : Nat, s.aonHeld = false ∧ s.inj.armed = false ∧ s.presence.on = false ∧ 48 ≤ edges ∧ edges ≤ 80 ∧
      s.presence.good < 3) ∧
    (∃ s : State, ∃ edges : Nat, s.aonHeld = false ∧ s.inj.armed = false ∧ s.presence.on = false ∧ 48 ≤ edges ∧ edges ≤ 80 ∧
      s.presence.good = 3) ∧
    (∃ s : State, ∃ edges : Nat, s.aonHeld = false ∧ s.inj.armed = false ∧ s.presence.on = true ∧ (edges < 48 ∨ 80 < edges) ∧
      s.partner = .active) :=
  ⟨⟨up, by decide +kernel⟩,
   ⟨up, zeros 6, by decide +kernel⟩,
   ⟨{ up with partner := .active }, put 4 2 4 (zeros 6), by decide +kernel⟩,
   ⟨{ up with partner := .active, pulse := { misses := 7, heatMiss := 6, stale := false } }, by decide +kernel⟩,
   ⟨up, by decide +kernel⟩,
   ⟨up, 47, by decide +kernel⟩,
   ⟨up, 80, by decide +kernel⟩,
   ⟨{ up with presence := { good := 3 } }, 48, by decide +kernel⟩,
   ⟨{ up with partner := .active, presence := { on := true } }, 81, by decide +kernel⟩⟩

theorem witness_RegisterWriteFollowsAccessCodes :
    (∃ s : State, ∃ off : Nat, ∃ _ : Word, ∃ row : RegRow, ∃ i : Nat, regRow s.build s.role off = some row ∧ i < 32) ∧
    (∃ s : State, ∃ off : Nat, ∃ _ : Word, ∃ row : RegRow, ∃ o : Nat, regRow s.build s.role off = some row ∧ o ≠ off) ∧
    (∃ s : State, ∃ off : Nat, ∃ _ : Word, ∃ row : RegRow, regRow s.build s.role off = some row) :=
  ⟨⟨up, 0x108, 0, (regRow tb .base 0x108).getD { rw := 0, w1c := 0, reset := 0 }, 31, by decide +kernel⟩,
   ⟨up, 0x108, 0, (regRow tb .base 0x108).getD { rw := 0, w1c := 0, reset := 0 }, 0x304, by decide +kernel⟩,
   ⟨up, 0x108, 0, (regRow tb .base 0x108).getD { rw := 0, w1c := 0, reset := 0 }, by decide +kernel⟩⟩

theorem witness_RegisterFileIsCanonical :
    (∃ s : State, ∃ t : State, s.RegsWf ∧ step s = .next t) ∧
    (∃ s : State, ∃ _ : Nat, ∃ _ : Word, s.RegsWf) ∧
    (∃ s : State, ∃ off : Nat, ∃ _ : Word, ∃ o : Nat, s.RegsWf ∧ o ≠ off) ∧
    (∃ s : State, ∃ _ : Nat, ∃ _ : Word, ∃ t : State, s.RegsWf ∧ t = { s with regs := t.regs } ∧ t.RegsWf ∧ (∀ o, t.reg o = s.reg
      o)) :=
  ⟨⟨State.reset, State.reset, ⟨.nil, by decide⟩, rfl⟩,
   ⟨up, 0x108, 0, ⟨.nil, by decide⟩⟩,
   ⟨up, 0x108, 0, 0x304, ⟨⟨.nil, by decide⟩, by decide⟩⟩,
   ⟨up, 0x108, 0, up, ⟨⟨.nil, by decide⟩, rfl, ⟨.nil, by decide⟩, fun _ => rfl⟩⟩⟩

theorem witness_CfgWriteReachesOrIsRecorded :
    (∃ s : State, ∃ off : Nat, ∃ _ : Word, off < 0x10000 ∧ off % 4 = 0 ∧ s.aonHeld = false ∧ s.regReachable off = true) ∧
    (∃ s : State, ∃ off : Nat, ∃ _ : Word, off < 0x10000 ∧ off % 4 = 0 ∧ s.aonHeld = false ∧ s.regReachable off = false ∧
      regExists s.build off = true ∧ s.flag 0x10C 31 = false) ∧
    (∃ s : State, ∃ off : Nat, ∃ _ : Word, off < 0x10000 ∧ off % 4 = 0 ∧ s.aonHeld = true) ∧
    (∃ _ : State, ∃ off : Nat, ∃ _ : Word, ¬ (off < 0x10000 ∧ off % 4 = 0)) :=
  ⟨⟨up, 0x108, 0, by decide +kernel⟩,
   ⟨{ up with pdReq := 2 ^ 22 - 1, pdAck := 2 ^ 22 - 1 }, 0x3C04, 0, by decide +kernel⟩,
   ⟨State.reset, 0xFFFC, 0, by decide +kernel⟩,
   ⟨up, 0x10000, 0, by decide +kernel⟩⟩

theorem witness_PlainRegistersOnlyStore :
    ∃ _ : State, ∃ _ : Word, ∃ off : Nat, off ∈ [0x108, 0x304, 0x308, 0x310, 0x2000, 0x2004, 0x2080, 0x2088, 0x2800, 0x2810,
      0x3400, 0x3800, 0x3804, 0x3808, 0x3810, 0x3C08, 0x3C0C, 0x4808, 0x5008, 0x580C, 0x6000, 0x600C, 0x6020, 0x6030, 0x6038,
      0x603C, 0x6414] :=
  ⟨up, 0, 0x6414, by decide +kernel⟩

theorem witness_PairReadsCaptureTheHighWord :
    (∃ s : State, s.aonHeld = false) ∧
    (∃ s : State, ∃ off : Nat, ∃ v : Nat, off < 0x10000 ∧ off % 4 = 0 ∧ s.aonHeld = false ∧ s.regReachable off = true ∧
      s.pairValue off = some v ∧ regExists s.build off = true) :=
  ⟨⟨up, by decide +kernel⟩,
   ⟨up, 0x40, 0, by decide +kernel⟩⟩

theorem witness_ControlWritesTakeEffect :
    (∃ s : State, ∃ d : Word, s.cfgUp = true ∧ d.getLsbD 0 = true) ∧
    (∃ s : State, ∃ d : Word, s.cfgUp = true ∧ s.flag 0x100 0 = false ∧ d.getLsbD 0 = false) ∧
    (∃ s : State, ∃ d : Word, s.cfgUp = true ∧ s.flag 0x4800 1 = false ∧ d.getLsbD 1 = true) ∧
    (∃ s : State, ∃ d : Word, s.cfgUp = true ∧ bits d.toNat 2 0 = s.relMin ∧ s.relMin ≤ 4) ∧
    (∃ s : State, ∃ d : Word, s.cfgUp = true ∧ bits d.toNat 2 0 ≠ s.relMin ∧ bits d.toNat 2 0 ≤ 4) ∧
    (∃ s : State, ∃ _ : Word, s.aonHeld = false) ∧
    (∃ s : State, ∃ _ : Word, s.aonHeld = false) ∧
    (∃ s : State, ∃ d : Word, s.aonHeld = false ∧ d.getLsbD 0 = true ∧ s.flag 0x6010 0 = false) ∧
    (∃ s : State, ∃ _ : Word, s.aonHeld = false ∧ s.flag 0x7004 1 = true ∧ s.flag 0x6010 0 = true) :=
  ⟨⟨up, 1, by decide +kernel⟩,
   ⟨up, 0, by decide +kernel⟩,
   ⟨up, 2, by decide +kernel⟩,
   ⟨up.setReg 0x5800 4, 4, by decide +kernel⟩,
   ⟨up.setReg 0x5800 3, 4, by decide +kernel⟩,
   ⟨up, 0, by decide +kernel⟩,
   ⟨up, 0, by decide +kernel⟩,
   ⟨up, 1, by decide +kernel⟩,
   ⟨(up.setReg 0x7004 2).setReg 0x6010 1, 0, by decide +kernel⟩⟩

theorem witness_RingEnableAndDisable :
    (∃ s : State, ∃ p : Nat, ∃ _ : Word, 0 < p ∧ p < 64 ∧ s.cfgUp = true ∧ s.ringActive p = false ∧ s.rings.length = 64 ∧ 6 ≤
      s.fld (ringReg p 0) 3 0 ∧ s.fld (ringReg p 0) 3 0 ≤ 12 ∧ 6 ≤ s.fld (ringReg p 8) 3 0 ∧ s.fld (ringReg p 8) 3 0 ≤ 12 ∧
      (s.ring p).fetching = 0) ∧
    (∃ s : State, ∃ n : Nat, s.cfgUp = true ∧ s.ringActive 0 = false ∧ s.rings.length = 64 ∧ 6 ≤ s.fld (ringReg 0 8) 3 0 ∧
      s.fld (ringReg 0 8) 3 0 ≤ 12 ∧ (s.ring 0).sqCi = n ∧ n ≠ 0) ∧
    (∃ s : State, ∃ p : Nat, ∃ _ : Word, p < 64 ∧ s.cfgUp = true ∧ s.ringActive p = false ∧ s.rings.length = 64 ∧ (s.fld (ringReg
      p 8) 3 0 < 6 ∨ 12 < s.fld (ringReg p 8) 3 0)) ∧
    (∃ s : State, ∃ p : Nat, ∃ _ : Word, p < 64 ∧ s.cfgUp = true ∧ s.ringOn p = true ∧ s.rings.length = 64) :=
  ⟨⟨((up.setReg (ringReg 63 0) 12).setReg (ringReg 63 8) 6), 63, 1, by decide +kernel⟩,
   ⟨((atRing 0 { sqCi := 4 } up).setReg (ringReg 0 8) 12), 4, by decide +kernel⟩,
   ⟨(up.setReg (ringReg 63 8) 13), 63, 1, by decide +kernel⟩,
   ⟨(up.setReg (ringReg 63 0x18) 1), 63, 0, by decide +kernel⟩⟩

theorem witness_DiscoveryAndPhyWrites :
    (∃ s : State, ∃ _ : Word, s.cfgUp = true ∧ s.build.pers = .L ∧ s.allGreen true = true) ∧
    (∃ s : State, ∃ d : Word, s.cfgUp = true ∧ s.build.pers = .L ∧ s.allGreen true = false ∧ d.getLsbD 0 ≠ s.flag 0x27C0 0) ∧
    (∃ s : State, ∃ d : Word, s.cfgUp = true ∧ s.allGreen false = true ∧ d.getLsbD 9 = false ∧ d.getLsbD 10 = false ∧ d.getLsbD 11
      = false) ∧
    (∃ s : State, ∃ d : Word, s.cfgUp = true ∧ s.allGreen false = true ∧ s.postBusy = false ∧ s.negDone = true ∧ d.getLsbD 10 =
      false ∧ d.getLsbD 11 = false) ∧
    (∃ s : State, ∃ d : Word, s.cfgUp = true ∧ s.allGreen false = true ∧ d.getLsbD 9 = false ∧ d.getLsbD 11 = false) ∧
    (∃ s : State, ∃ d : Word, s.cfgUp = true ∧ s.allGreen false = true ∧ d.getLsbD 9 = false ∧ d.getLsbD 10 = false) ∧
    (∃ s : State, ∃ _ : Word, s.cfgUp = true ∧ s.tx = [] ∧ s.rx = []) ∧
    (∃ s : State, ∃ _ : Word, s.aonHeld = false) :=
  ⟨⟨up, 1, by decide +kernel⟩,
   ⟨(atStrand 15 { state := .fired } up), 1, by decide +kernel⟩,
   ⟨up, 1, by decide +kernel⟩,
   ⟨{ up with negDone := true }, 0x200, by decide +kernel⟩,
   ⟨up, 0x400, by decide +kernel⟩,
   ⟨up, 0x800, by decide +kernel⟩,
   ⟨up, 1, by decide +kernel⟩,
   ⟨up, 0, by decide +kernel⟩⟩

theorem witness_SaggarWrites :
    (∃ s : State, ∃ d : Word, s.cfgUp = true ∧ s.build.saggar = true ∧ s.flag 0x4000 31 = false ∧ d.getLsbD 11 = false) ∧
    (∃ s : State, ∃ _ : Word, s.cfgUp = true ∧ s.build.saggar = true ∧ s.flag 0x4000 31 = false ∧ s.bisqueOpen = true) :=
  ⟨⟨{ upOf { tb with saggar := true } with straps := { role := .hub } }, 0, by decide +kernel⟩,
   ⟨(atStrand 15 { state := .bisque }
     { upOf { tb with saggar := true } with straps := { role := .hub }, bisque := { strand := some 15 } }), 0x800,
     by decide +kernel⟩⟩

theorem witness_LogAndInjectionWrites :
    (∃ s : State, ∃ d : Word, ∃ r : KilnRecord, s.cfgUp = true ∧ d.getLsbD 31 = false ∧ lookupKey (bits d.toNat 5 0)
      s.kiln.records = some r) ∧
    (∃ s : State, ∃ _ : Word, s.cfgUp = true) ∧
    (∃ s : State, s.cfgUp = true ∧ s.domainOn 22 = true) ∧
    (∃ s : State, ∃ d : Word, s.cfgUp = true ∧ s.domainOn 22 = true ∧ d ≠ 0x5A3C#32) ∧
    (∃ s : State, ∃ d : Word, s.cfgUp = true ∧ s.domainOn 22 = true ∧ s.inj.unlocked = true ∧ s.inj.armed = false ∧ 0 < bits
      d.toNat 5 0 ∧ bits d.toNat 5 0 ≤ 0x34) ∧
    (∃ s : State, s.cfgUp = true) :=
  ⟨⟨{ up with kiln := { records := [(63, { code := 0x101, unit := 0, first := 0, last := 0, seq := 0 })] } }, 63,
     { code := 0x101, unit := 0, first := 0, last := 0, seq := 0 }, by decide +kernel⟩,
   ⟨up, 0x80000000, by decide +kernel⟩,
   ⟨up, by decide +kernel⟩,
   ⟨up, 0, by decide +kernel⟩,
   ⟨{ up with inj := { unlocked := true } }, 0x34, by decide +kernel⟩,
   ⟨up, by decide +kernel⟩⟩

theorem witness_OpcodesRunTheirWork :
    (∃ s : State, ∃ p : Nat, ∃ e : List Byte, s.Offers p e 0x00 []) ∧
    (∃ s : State, ∃ p : Nat, ∃ e : List Byte, s.Offers p e 0x01 [3]) ∧
    (∃ s : State, ∃ p : Nat, ∃ e : List Byte, s.Offers p e 0x10 streamOpenMask) ∧
    (∃ s : State, ∃ p : Nat, ∃ e : List Byte, s.Offers p e 0x11 streamCloseMask) ∧
    (∃ s : State, ∃ p : Nat, ∃ e : List Byte, s.Offers p e 0x12 streamModifyMask) ∧
    (∃ s : State, ∃ p : Nat, ∃ e : List Byte, s.Offers p e 0x13 parcelSendMask) ∧
    (∃ s : State, ∃ p : Nat, ∃ e : List Byte, s.Offers p e 0x14 stationNameMask) ∧
    (∃ s : State, ∃ p : Nat, ∃ e : List Byte, s.Offers p e 0x20 shelfOpenMask) ∧
    (∃ s : State, ∃ p : Nat, ∃ e : List Byte, s.Offers p e 0x21 versionCommitMask) ∧
    (∃ s : State, ∃ p : Nat, ∃ e : List Byte, s.Offers p e 0x22 versionReleaseMask) ∧
    (∃ s : State, ∃ p : Nat, ∃ e : List Byte, s.Offers p e 0x23 skewReleaseMask) ∧
    (∃ s : State, ∃ p : Nat, ∃ e : List Byte, s.Offers p e 0x24 drawStartMask) ∧
    (∃ s : State, ∃ p : Nat, ∃ e : List Byte, s.Offers p e 0x25 drawAckMask) ∧
    (∃ s : State, ∃ p : Nat, ∃ e : List Byte, s.Offers p e 0x26 restoreMask) ∧
    (∃ s : State, ∃ p : Nat, ∃ e : List Byte, s.Offers p e 0x27 accumOpenMask) ∧
    (∃ s : State, ∃ p : Nat, ∃ e : List Byte, s.Offers p e 0x28 scaleMask) ∧
    (∃ s : State, ∃ p : Nat, ∃ e : List Byte, s.Offers p e 0x29 scaleMask) ∧
    (∃ s : State, ∃ p : Nat, ∃ e : List Byte, s.Offers p e 0x30 dispatchLoadMask) ∧
    (∃ s : State, ∃ p : Nat, ∃ e : List Byte, s.Offers p e 0x40 calMask) ∧
    (∃ s : State, ∃ p : Nat, ∃ e : List Byte, s.Offers p e 0x41 bistSliceMask) ∧
    (∃ s : State, ∃ p : Nat, ∃ e : List Byte, s.Offers p e 0x42 bistFullMask) ∧
    (∃ s : State, ∃ p : Nat, ∃ e : List Byte, s.Offers p e 0x43 repairMask) ∧
    (∃ s : State, ∃ p : Nat, ∃ e : List Byte, s.Offers p e 0x50 logDrainMask) ∧
    (∃ s : State, ∃ p : Nat, ∃ e : List Byte, s.Offers p e 0x60 keyLoadMask) ∧
    (∃ s : State, ∃ p : Nat, ∃ e : List Byte, s.Offers p e 0x61 []) :=
  ⟨⟨offer (ent 0 []) up, 1, ent 0 [], by unfold State.Offers; decide +kernel⟩,
   ⟨offer (ent 1 []) up, 1, ent 1 [], by unfold State.Offers; decide +kernel⟩,
   ⟨offer (ent 16 []) up, 1, ent 16 [], by unfold State.Offers; decide +kernel⟩,
   ⟨offer (ent 17 []) up, 1, ent 17 [], by unfold State.Offers; decide +kernel⟩,
   ⟨offer (ent 18 []) up, 1, ent 18 [], by unfold State.Offers; decide +kernel⟩,
   ⟨offer (ent 19 []) up, 1, ent 19 [], by unfold State.Offers; decide +kernel⟩,
   ⟨offer (ent 20 []) up, 1, ent 20 [], by unfold State.Offers; decide +kernel⟩,
   ⟨offer (ent 32 []) up, 1, ent 32 [], by unfold State.Offers; decide +kernel⟩,
   ⟨offer (ent 33 []) up, 1, ent 33 [], by unfold State.Offers; decide +kernel⟩,
   ⟨offer (ent 34 []) up, 1, ent 34 [], by unfold State.Offers; decide +kernel⟩,
   ⟨offer (ent 35 []) up, 1, ent 35 [], by unfold State.Offers; decide +kernel⟩,
   ⟨offer (ent 36 []) up, 1, ent 36 [], by unfold State.Offers; decide +kernel⟩,
   ⟨offer (ent 37 []) up, 1, ent 37 [], by unfold State.Offers; decide +kernel⟩,
   ⟨offer (ent 38 []) up, 1, ent 38 [], by unfold State.Offers; decide +kernel⟩,
   ⟨offer (ent 39 []) up, 1, ent 39 [], by unfold State.Offers; decide +kernel⟩,
   ⟨offer (ent 40 []) up, 1, ent 40 [], by unfold State.Offers; decide +kernel⟩,
   ⟨offer (ent 41 []) up, 1, ent 41 [], by unfold State.Offers; decide +kernel⟩,
   ⟨offer (ent 48 []) up, 1, ent 48 [], by unfold State.Offers; decide +kernel⟩,
   ⟨offer (ent 64 []) up, 1, ent 64 [], by unfold State.Offers; decide +kernel⟩,
   ⟨offer (ent 65 []) up, 1, ent 65 [], by unfold State.Offers; decide +kernel⟩,
   ⟨offer (ent 66 []) up, 1, ent 66 [], by unfold State.Offers; decide +kernel⟩,
   ⟨offer (ent 67 []) up, 1, ent 67 [], by unfold State.Offers; decide +kernel⟩,
   ⟨offer (ent 80 []) up, 1, ent 80 [], by unfold State.Offers; decide +kernel⟩,
   ⟨offer (ent 96 []) up, 1, ent 96 [], by unfold State.Offers; decide +kernel⟩,
   ⟨offer (ent 97 []) up, 1, ent 97 [], by unfold State.Offers; decide +kernel⟩⟩

theorem witness_EntriesTurnedAway :
    (∃ s : State, ∃ p : Nat, ∃ e : List Byte, s.cfgUp = true ∧ s.nextEntry = some (p, e) ∧ s.flag 0x7004 0 = false ∧ s.flag 0x7004
      1 = false ∧ reservedByte 0 headerMask e = none ∧ byteAt e 0 = 0x00) ∧
    (∃ s : State, ∃ p : Nat, ∃ e : List Byte, ∃ off : Nat, s.cfgUp = true ∧ s.nextEntry = some (p, e) ∧ s.flag 0x7004 0 = false ∧
      s.flag 0x7004 1 = false ∧ byteAt e 0 = 0x00 ∧ reservedByte 0 headerMask e = some off) ∧
    (∃ s : State, ∃ p : Nat, ∃ e : List Byte, s.cfgUp = true ∧ s.nextEntry = some (p, e) ∧ s.flag 0x7004 0 = false ∧ s.flag 0x7004
      1 = false ∧ opcodes.contains (byteAt e 0) = false) ∧
    (∃ s : State, ∃ p : Nat, ∃ e : List Byte, ∃ off : Nat, s.cfgUp = true ∧ s.nextEntry = some (p, e) ∧ s.flag 0x7004 0 = false ∧
      s.flag 0x7004 1 = false ∧ byteAt e 0 = 0x10 ∧ reservedByte 0 (headerMask ++ streamOpenMask) e = some off) ∧
    (∃ s : State, ∃ p : Nat, ∃ e : List Byte, s.cfgUp = true ∧ s.nextEntry = some (p, e) ∧ byteAt e 0 = 0x10 ∧ s.flag 0x7004 0 =
      true) ∧
    (∃ s : State, ∃ p : Nat, ∃ e : List Byte, s.cfgUp = true ∧ s.nextEntry = some (p, e) ∧ byteAt e 0 = 0x10 ∧ s.flag 0x7004 0 =
      false ∧ s.flag 0x7004 1 = true) :=
  ⟨⟨offer (ent 0 []) up, 1, ent 0 [], by decide +kernel⟩,
   ⟨offer (ent 0 [(1, 1, 2)]) up, 1, ent 0 [(1, 1, 2)], 1, by decide +kernel⟩,
   ⟨offer (ent 2 []) up, 1, ent 2 [], by decide +kernel⟩,
   ⟨offer (ent 0x10 [(63, 1, 1)]) up, 1, ent 0x10 [(63, 1, 1)], 63, by decide +kernel⟩,
   ⟨offer (ent 0x10 []) (up.setReg 0x7004 1), 1, ent 0x10 [], by decide +kernel⟩,
   ⟨offer (ent 0x10 []) (up.setReg 0x7004 2), 1, ent 0x10 [], by decide +kernel⟩⟩

theorem witness_CompletionEntryIsWritten :
    (∃ s : State, ∃ id : Nat, ∃ status : Nat, ∃ d : Desc, ∃ _ : List Byte, s.desc? id = some d ∧ d.written = false ∧
      d.pair < s.rings.length ∧ 4 ≤ d.entry.length ∧ status < 256 ∧ s.ringOn d.pair = false) ∧
    (∃ s : State, ∃ id : Nat, ∃ status : Nat, ∃ d : Desc, ∃ _ : List Byte, s.desc? id = some d ∧ d.written = false ∧
      d.pair < s.rings.length ∧ 4 ≤ d.entry.length ∧ status < 256 ∧ s.ringOn d.pair = true ∧ ∀ m ∈ (s.ring d.pair).msgs, m ≠ []) :=
  ⟨⟨{ up with descs := [{ id := 4, pair := 63, entry := ent 0 [] }] }, 4, 255, { id := 4, pair := 63, entry := ent 0 [] }, [],
     by decide +kernel⟩,
   ⟨State.setReg { atRing 63 { msgs := [[5]] } up with descs := [{ id := 4, pair := 63, entry := ent 0 [] }] } (ringReg 63 0x18) 1, 4, 0,
     { id := 4, pair := 63, entry := ent 0 [] }, [], by decide +kernel⟩⟩

theorem witness_StationsAndStreamDescriptors :
    (∃ s : State, ∃ p : Nat, ∃ stn : Nat, ∃ e : List Byte, ∃ t : Station, s.Offers p e 0x14 stationNameMask ∧ byteAt e 8 % 64 = stn ∧
      s.stations.getD stn {} = t ∧ ((∃ i j, i < j ∧ j < 16 ∧ byteAt e (0xC + i) = 0
      ∧ byteAt e (0xC + j) ≠ 0) ∨ (∃ i, i < 16 ∧ byteAt e (0xC + i) ≠ 0 ∧ (byteAt e (0xC + i) < 0x20 ∨ 0x7E < byteAt e (0xC + i))
      ∧ ∀ j < i, byteAt e (0xC + j) ≠ 0))) ∧
    (∃ s : State, ∃ p : Nat, ∃ e : List Byte, ∃ stn : Nat, ∃ port : Nat, ∃ quota : Nat, ∃ name : List Byte, s.Offers p e 0x14
      stationNameMask ∧ byteAt e 8 = stn ∧ stn < 64 ∧ byteAt e 9 = port ∧ port < s.build.ports ∧ port < 64 ∧ field e 0xA 2 = quota
      ∧ slice e 0xC 16 = name ∧ nameOk name = true ∧ allZero name = false ∧ quota ≤ s.bankFree stn port ∧
      s.pagesHeld stn + (s.taken p e).pagesLater stn ≤ quota ∧ port ≠ (s.stations.getD stn {}).port ∧ (∀ x ∈ s.tx, x.2.cfg.localStn ≠ stn) ∧
      (∀ x ∈ s.rx, x.2.cfg.station ≠ stn) ∧ ∀ c ∈ (s.taken p e).opensLater, c.localStn ≠ stn ∧
        ((s.taken p e).loops c = true → c.station ≠ stn)) ∧
    (∃ s : State, ∃ p : Nat, ∃ e : List Byte, ∃ stn : Nat, ∃ port : Nat, ∃ quota : Nat, ∃ name : List Byte, s.Offers p e 0x14
      stationNameMask ∧ byteAt e 8 = stn ∧ stn < 64 ∧ byteAt e 9 = port ∧ port < s.build.ports ∧ port < 64 ∧ field e 0xA 2 = quota
      ∧ slice e 0xC 16 = name ∧ nameOk name = true ∧ allZero name = false ∧ quota ≤ s.bankFree stn port ∧
      s.pagesHeld stn + (s.taken p e).pagesLater stn ≤ quota ∧ port = (s.stations.getD stn {}).port) ∧
    (∃ s : State, ∃ p : Nat, ∃ e : List Byte, s.Offers p e 0x10 streamOpenMask ∧ (s.taken p e).loops (streamCfg (e.drop 8)) =
      false ∧ ((s.taken p e).loading (streamCfg (e.drop 8)).dispTable || s.tableWaits.any (fun w => w.1 == (streamCfg (e.drop 8)).dispTable))
      = false ∧ firstFail ((s.taken p e).openChecks (streamCfg (e.drop 8)) false) = none) ∧
    (∃ s : State, ∃ p : Nat, ∃ e : List Byte, ∃ id : Nat, ∃ st : TxStream, s.Offers p e 0x11 streamCloseMask ∧ field e 8 2 = id ∧
      id < 4096 ∧ s.tx? id = some st ∧ st.phase = .live ∧ st.cfg.dispRole = 0 ∧ st.looped = false ∧ s.negDone = true ∧ st.queue ≠
      []) ∧
    (∃ s : State, ∃ p : Nat, ∃ e : List Byte, ∃ id : Nat, ∃ st : TxStream, s.Offers p e 0x12 streamModifyMask ∧ field e 8 2 = id +
      4096 ∧ id < 4096 ∧ s.tx? id = some st ∧ st.phase = .live ∧ s.negDone = true ∧ byteAt e 0xA = 0 ∧ byteAt e 0xB = 0 ∧ field e
      0xC 4 = 0 ∧ field e 0x10 4 = 0 ∧ field e 0x18 8 % 64 = 0 ∧ s.queries = [] ∧ st.queue.any (·.started) = false) ∧
    (∃ s : State, ∃ p : Nat, ∃ e : List Byte, ∃ id : Nat, ∃ st : TxStream, s.Offers p e 0x12 streamModifyMask ∧ field e 8 2 = id +
      4096 ∧ id < 4096 ∧ s.tx? id = some st ∧ st.phase = .live ∧ s.negDone = true ∧ byteAt e 0xA = 0 ∧ byteAt e 0xB = 0 ∧ field e
      0xC 4 = 0 ∧ field e 0x10 4 = 0 ∧ field e 0x18 8 % 64 = 0 ∧ s.queries = [] ∧ st.queue.any (·.started) = true) ∧
    (∃ s : State, ∃ p : Nat, ∃ e : List Byte, ∃ id : Nat, ∃ st : TxStream, s.Offers p e 0x13 parcelSendMask ∧ field e 8 2 % 4096 =
      id ∧ s.tx? id = some st ∧ st.takes = true ∧ st.fence = none ∧ s.negDone = true ∧ field e 0x18 8 % 64 = 0 ∧ 32 ≤ field e 0x10
      8) :=
  ⟨⟨offer (ent 0x14 [(8, 1, 5), (0xD, 1, 65)]) (named 0 up), 1, 5, ent 0x14 [(8, 1, 5), (0xD, 1, 65)],
     { name := 65 :: zeros 15, port := 0, quota := 64 }, ⟨by unfold State.Offers; decide +kernel, by decide +kernel, by decide +kernel, .inl ⟨0, 1,
     by decide +kernel⟩⟩⟩,
   ⟨offer (ent 0x14 [(8, 1, 63), (9, 1, 7), (0xA, 2, 512), (0xC, 1, 65)]) (up), 1, ent 0x14 [(8, 1, 63), (9, 1, 7), (0xA, 2, 512),
     (0xC, 1, 65)], 63, 7, 512, 65 :: zeros 15, by unfold State.Offers; decide +kernel⟩,
   ⟨offer (ent 0x14 [(8, 1, 5), (9, 1, 7), (0xA, 2, 0), (0xC, 1, 66)]) (named 7 (txOf wTx up)), 1, ent 0x14 [(8, 1, 5), (9, 1, 7),
     (0xA, 2, 0), (0xC, 1, 66)], 5, 7, 0, 66 :: zeros 15, by unfold State.Offers; decide +kernel⟩,
   ⟨offer (ent 0x10 [(8, 2, 0x2007), (10, 1, 5), (12, 4, 5), (16, 2, 8), (19, 1, 0x10)]) (named 0
     { up with negDone := true, record := some (put 1 1 15 (put 0x24 4 1048576 (put 0x28 2 8 (zeros 4 ++ List.replicate 16 255 ++ zeros 80)))) }),
     1, ent 0x10 [(8, 2, 0x2007), (10, 1, 5), (12, 4, 5), (16, 2, 8), (19, 1, 0x10)], by unfold State.Offers; decide +kernel⟩,
   ⟨offer (ent 0x11 [(8, 2, 7)]) (txOf { wTx with queue := [{ source := .host 0 }] } { up with negDone := true }), 1, ent 0x11
     [(8, 2, 7)], 7, { wTx with queue := [{ source := .host 0 }] }, by unfold State.Offers; decide +kernel⟩,
   ⟨offer (ent 0x12 [(8, 2, 4103)]) (txOf wTx { up with negDone := true }), 1, ent 0x12 [(8, 2, 4103)], 7, wTx,
     by unfold State.Offers; decide +kernel⟩,
   ⟨offer (ent 0x12 [(8, 2, 4103)]) (txOf { wTx with queue := [{ source := .host 0, started := true }] } { up with negDone := true }), 1,
     ent 0x12 [(8, 2, 4103)], 7, { wTx with queue := [{ source := .host 0, started := true }] }, by unfold State.Offers; decide +kernel⟩,
   ⟨offer (ent 0x13 [(8, 2, 7), (0x10, 8, 32)]) (txOf wTx { up with negDone := true }), 1, ent 0x13 [(8, 2, 7), (0x10, 8, 32)], 7,
     wTx, by unfold State.Offers; decide +kernel⟩⟩

theorem witness_ShelfDescriptors :
    (∃ a : Nat, ∃ b : Nat, a < 65536 ∧ b < 65536) ∧
    (∃ a : Nat, ∃ b : Nat, a < 65536 ∧ b < 65536 ∧ ((a : Int) - b) % 65536 = 32768) ∧
    (∃ s : State, ∃ p : Nat, ∃ e : List Byte, s.Offers p e 0x20 shelfOpenMask ∧ s.StageFree (opStage e) ∧ s.hasShelves = true ∧ opShelf e < s.shelves.length
      ∧ opShelf e ≠ 0xFF ∧ (s.shelf (opShelf e)).state = .free ∧ shelfFmt (opFmt e) = true ∧ s.currentOf (opStage e) = none ∧
      s.shelfOf (opStage e) (opVersion e) = none ∧ opBase e % 512 = 0 ∧ opLen e % 512 = 0 ∧ 0 < opLen e ∧ opBase e + opLen e ≤ 2 ^
      48 ∧ s.hitsRegion (opBase e) (opLen e) = false ∧ (s.openBlockers e) = []) ∧
    (∃ s : State, ∃ p : Nat, ∃ e : List Byte, s.Offers p e 0x21 versionCommitMask ∧ ¬ s.StageFree (field e 8 2)) ∧
    (∃ s : State, ∃ p : Nat, ∃ e : List Byte, s.Offers p e 0x20 shelfOpenMask ∧ ¬ s.StageFree (opStage e)) ∧
    (∃ s : State, ∃ p : Nat, ∃ e : List Byte, ∃ i : Nat, s.Offers p e 0x21 versionCommitMask ∧ s.StageFree (field e 8 2) ∧ s.hasShelves = true ∧ s.shelfOf
      (field e 8 2) (field e 0xA 2) = some i ∧ (s.shelf i).state = .filling ∧ (s.shelf i).fillErr = false ∧ s.currentOf (field e 8
      2) = none) ∧
    (∃ s : State, ∃ i : Nat, ∃ h : Shelf, i < s.build.shelves ∧ i < s.shelves.length ∧ s.cfgUp = true ∧ s.shelf i = h ∧ h.state =
      .filling ∧ h.fillErr = false ∧ h.fillOut = 0 ∧ h.commits ≠ [] ∧ s.currentOf h.stage = none) ∧
    (∃ s : State, ∃ p : Nat, ∃ e : List Byte, s.Offers p e 0x22 versionReleaseMask ∧ s.hasShelves = true ∧ byteAt e 8 = 0 ∧ byteAt
      e 9 = 0 ∧ (s.bindingOf (field e 0xA 2) (field e 0xC 2)).isSome = true) ∧
    (∃ s : State, ∃ p : Nat, ∃ e : List Byte, ∃ id : Nat, ∃ key : Nat, ∃ st : RxStream, ∃ q : RxParcel, s.Offers p e 0x23
      skewReleaseMask ∧ field e 8 2 = id ∧ id < 4096 ∧ byteAt e 0xA = 1 ∧ s.rxOf id = some (key, st) ∧ st.cfg.shelfRole ≠ 1 ∧
      st.parcels.find? (fun x => x.hold == 1 && !x.gone) = some q) ∧
    (∃ s : State, ∃ d : Nat, ∃ x : Desc, s.cfgUp = true ∧ d ∈ s.shelfWaits ∧ s.desc? d = some x) :=
  ⟨⟨65535, 0, by decide +kernel⟩,
   ⟨32768, 0, by decide +kernel⟩,
   ⟨offer (ent 0x20 [(8, 1, 3), (0x10, 8, 2 ^ 48 - 512), (0x18, 8, 512)]) (up), 1, ent 0x20 [(8, 1, 3), (0x10, 8, 2 ^ 48 - 512),
     (0x18, 8, 512)], by unfold State.Offers State.StageFree; decide +kernel⟩,
   ⟨offer (ent 0x21 []) (atShelf 3 { state := .filling, commits := [0] } up), 1, ent 0x21 [],
     by unfold State.Offers State.StageFree; decide +kernel⟩,
   ⟨offer (ent 0x20 []) { up with commitWaits := [(0, 0)] }, 1, ent 0x20 [], by unfold State.Offers State.StageFree; decide +kernel⟩,
   ⟨offer (ent 0x21 []) (atShelf 3 { state := .filling } up), 1, ent 0x21 [], 3, by unfold State.Offers State.StageFree; decide +kernel⟩,
   ⟨(atShelf 3 { state := .filling, commits := [0] } up), 3, { state := .filling, commits := [0] }, by decide +kernel⟩,
   ⟨offer (ent 0x22 []) ({ up with bindings := [⟨0, 0, 3⟩] }), 1, ent 0x22 [], by unfold State.Offers; decide +kernel⟩,
   ⟨offer (ent 0x23 [(8, 2, 7), (0xA, 1, 1)]) (rxAt 7 { wRx with parcels := [{ hold := 1 }] } up), 1, ent 0x23 [(8, 2, 7), (0xA,
     1, 1)], 7, 7, { wRx with parcels := [{ hold := 1 }] }, { hold := 1 }, by unfold State.Offers; decide +kernel⟩,
   ⟨{ up with shelfWaits := [4], descs := [{ id := 4, pair := 63, entry := ent 0 [] }] }, 4,
     { id := 4, pair := 63, entry := ent 0 [] }, by decide +kernel⟩⟩

theorem witness_DrawRestoreAndAccumDescriptors :
    (∃ s : State, ∃ p : Nat, ∃ e : List Byte, s.Offers p e 0x24 drawStartMask ∧ s.role = .base ∧ byteAt e 8 < 64 ∧ byteAt e 9 = 3
      ∧ byteAt e 0xA = 0 ∧ field e 0xC 2 = 0 ∧ field e 0xE 2 = 0 ∧ s.draw? (byteAt e 8) = none ∧ (s.taken p e).drawsLater (byteAt e 8) = false ∧ field e 0x18 8 % 512 = 0 ∧ 0 <
      field e 0x20 8 ∧ field e 0x20 8 % 512 = 0 ∧ field e 0x18 8 + field e 0x20 8 ≤ 2 ^ 48 ∧ field e 0x28 8 % 64 = 0 ∧ field e
      0x30 8 % 64 = 0) ∧
    (∃ s : State, ∃ p : Nat, ∃ i : Nat, ∃ e : List Byte, ∃ vd : Nat, s.Offers p e 0x25 drawAckMask ∧ s.hasShelves = true ∧ byteAt
      e 8 = 0 ∧ byteAt e 9 = i ∧ i < s.shelves.length ∧ (s.shelf i).vdigest = some vd ∧ field e 0x10 8 = vd ∧ byteAt e 0xA = 0 ∧
      byteAt e 0xB = 0 ∧ byteAt e 0xC = s.fld 0x5800 15 8) ∧
    (∃ s : State, ∃ id : Nat, ∃ d : Draw, s.cfgUp = true ∧ s.draw? id = some d ∧ d.keeper = 0 ∧ d.phase = .running ∧ d.ackNext <
      d.next) ∧
    (∃ s : State, ∃ p : Nat, ∃ e : List Byte, s.Offers p e 0x26 restoreMask ∧ s.role = .base ∧ byteAt e 8 = 3 ∧ byteAt e 9 = 0 ∧
      byteAt e 0xA = 0 ∧ field e 0xC 2 = 0 ∧ field e 0x10 8 = 0 ∧ field e 0x18 8 % 512 = 0 ∧ 0 < field e 0x20 8 ∧ field e 0x20 8 %
      512 = 0 ∧ field e 0x18 8 + field e 0x20 8 ≤ 2 ^ 48 ∧ s.shelvesWhere (fun h => h.state != .free && overlap h.base h.len
      (field e 0x18 8) (field e 0x20 8)) = [] ∧ s.hitsRegion (field e 0x18 8) (field e 0x20 8) = false) ∧
    (∃ s : State, ∃ p : Nat, ∃ e : List Byte, s.Offers p e 0x27 accumOpenMask ∧ s.role = .base ∧ s.regions.length ≠ 64 ∧ 0 <
      byteAt e 8 ∧ byteAt e 8 ≤ 64 ∧ s.region? (byteAt e 8) = none ∧ bit (byteAt e 9) 3 = false ∧ 0 < byteAt e 0xA ∧ byteAt e 0xA
      ≤ 16 ∧ 128 ≤ field e 0xC 4 ∧ field e 0xC 4 ≤ 2 ^ 28 ∧ field e 0xC 4 % 128 = 0 ∧ 0 < byteAt e 0xB ∧ byteAt e 0xB ≤ 64 ∧ field
      e 0x10 8 % 512 = 0 ∧ field e 0x10 8 + 4 * field e 0xC 4 * byteAt e 0xB ≤ 2 ^ 48 ∧ s.hitsRegion (field e 0x10 8) (4 * field e
      0xC 4 * byteAt e 0xB) = false) :=
  ⟨⟨offer (ent 0x24 [(8, 1, 63), (9, 1, 3), (0x18, 8, 2 ^ 48 - 512), (0x20, 8, 512)]) (up), 1, ent 0x24 [(8, 1, 63), (9, 1, 3),
     (0x18, 8, 2 ^ 48 - 512), (0x20, 8, 512)], by unfold State.Offers; decide +kernel⟩,
   ⟨offer (ent 0x25 [(9, 1, 3)]) (atShelf 3 { vdigest := some 0 } up), 1, 3, ent 0x25 [(9, 1, 3)], 0,
     by unfold State.Offers; decide +kernel⟩,
   ⟨{ up with draws := [{ id := 63, desc := 4, shelf := none, base := 0, len := 512, stage := 0, version := 0, keeper := 0, stream := 7, next := 1 }] },
     63,
     { id := 63, desc := 4, shelf := none, base := 0, len := 512, stage := 0, version := 0, keeper := 0, stream := 7, next := 1 },
     by decide +kernel⟩,
   ⟨offer (ent 0x26 [(8, 1, 3), (0x18, 8, 2 ^ 48 - 512), (0x20, 8, 512)]) (up), 1, ent 0x26 [(8, 1, 3), (0x18, 8, 2 ^ 48 - 512),
     (0x20, 8, 512)], by unfold State.Offers; decide +kernel⟩,
   ⟨offer (ent 0x27 [(8, 1, 64), (0xA, 1, 16), (0xB, 1, 64), (0xC, 4, 128)]) (up), 1, ent 0x27 [(8, 1, 64), (0xA, 1, 16), (0xB, 1,
     64), (0xC, 4, 128)], by unfold State.Offers; decide +kernel⟩⟩

theorem witness_ImageTableKeyAndLogDescriptors :
    (∃ s : State, ∃ p : Nat, ∃ e : List Byte, s.Offers p e 0x28 scaleMask ∧ byteAt e 8 = 0 ∧ field e 0x10 8 % 64 = 0 ∧ s.tx = [] ∧
      s.rx = [] ∧ 32 ≤ field e 0x18 8) ∧
    (∃ s : State, ∃ p : Nat, ∃ e : List Byte, s.Offers p e 0x29 scaleMask ∧ byteAt e 8 = 0 ∧ field e 0x10 8 % 64 = 0 ∧ 32 ≤ field
      e 0x18 8 ∧ lookupKey s.nextDesc s.reads = none) ∧
    (∃ s : State, ∃ p : Nat, ∃ e : List Byte, s.Offers p e 0x30 dispatchLoadMask ∧ 0 < byteAt e 8 ∧ byteAt e 8 ≤
      s.build.dispTables ∧ byteAt e 9 = 1 ∧ field e 0xA 2 = 0 ∧ field e 0xC 2 = 0 ∧ field e 0xE 2 = 0 ∧ field e 0x10 2 = 0 ∧ field
      e 0x14 4 = 0 ∧ field e 0x18 8 % 64 = 0 ∧ (s.taken p e).loading (byteAt e 8) = false ∧ s.tableWaits = [] ∧ s.table? (byteAt e 8) = none ∧ lookupKey (byteAt e 8) s.emptied = none) ∧
    (∃ s : State, ∃ p : Nat, ∃ e : List Byte, s.Offers p e 0x60 keyLoadMask ∧ byteAt e 8 < s.build.keySlots ∧ byteAt e 8 < 8 ∧ 0 <
      byteAt e 9 ∧ byteAt e 9 ≤ 64 ∧ field e 0x10 8 % 8 = 0) ∧
    (∃ s : State, ∃ p : Nat, ∃ k : Nat, ∃ e : List Byte, s.Offers p e 0x60 keyLoadMask ∧ byteAt e 8 = k + 128 ∧ k < 8 ∧ k <
      s.build.keySlots ∧ byteAt e 9 = 0 ∧ field e 0x10 8 = 0) ∧
    (∃ s : State, ∃ p : Nat, ∃ i : Nat, ∃ e : List Byte, ∃ r : KilnRecord, s.Offers p e 0x50 logDrainMask ∧ field e 0x10 8 % 64 =
      0 ∧ 0 < field e 0x18 4 ∧ field e 0x18 4 ≤ 64 ∧ s.kiln.records = [(i, r)]) :=
  ⟨⟨offer (ent 0x28 [(0x18, 8, 32)]) (up), 1, ent 0x28 [(0x18, 8, 32)], by unfold State.Offers; decide +kernel⟩,
   ⟨offer (ent 0x29 [(0x18, 8, 32)]) (up), 1, ent 0x29 [(0x18, 8, 32)], by unfold State.Offers; decide +kernel⟩,
   ⟨offer (ent 0x30 [(8, 1, 8), (9, 1, 1)]) (up), 1, ent 0x30 [(8, 1, 8), (9, 1, 1)], by unfold State.Offers; decide +kernel⟩,
   ⟨offer (ent 0x60 [(8, 1, 1), (9, 1, 64)]) (up), 1, ent 0x60 [(8, 1, 1), (9, 1, 64)], by unfold State.Offers; decide +kernel⟩,
   ⟨offer (ent 0x60 [(8, 1, 129)]) (up), 1, 1, ent 0x60 [(8, 1, 129)], by unfold State.Offers; decide +kernel⟩,
   ⟨offer (ent 0x50 [(0x18, 4, 64)])
     ({ up with kiln := { records := [(63, { code := 0x101, unit := 0, first := 0, last := 0, seq := 0 })] } }), 1, 63, ent 0x50
     [(0x18, 4, 64)], { code := 0x101, unit := 0, first := 0, last := 0, seq := 0 }, by unfold State.Offers; decide +kernel⟩⟩

theorem witness_StrandDescriptors :
    (∃ s : State, ∃ p : Nat, ∃ i : Nat, ∃ e : List Byte, s.Offers p e 0x40 calMask ∧ byteAt e 8 = i ∧ byteAt e 9 = 0 ∧ i <
      s.linkStrands ∧ s.partnerStatus = none ∧ ((s.strand i).state = .fired ∨ (s.strand i).state = .crazed) ∧ s.calReqs = [] ∧ i <
      s.strands.length) ∧
    (∃ s : State, ∃ p : Nat, ∃ i : Nat, ∃ e : List Byte, s.Offers p e 0x41 bistSliceMask ∧ byteAt e 8 = i ∧ i < s.linkStrands ∧
      field e 10 2 ≤ 64 ∧ ((s.strand i).state = .fired ∨ (s.strand i).state = .crazed) ∧ s.isMember i = false ∧ s.tstOn = true) ∧
    (∃ s : State, ∃ p : Nat, ∃ i : Nat, ∃ e : List Byte, s.Offers p e 0x42 bistFullMask ∧ byteAt e 8 = i ∧ byteAt e 9 = 0 ∧ i <
      s.linkStrands ∧ s.tstOn = true ∧ (s.strand i).state = .greenware ∧ (s.strand i).sub = .none ∧ s.domainOn (i / 16) = true ∧
      s.bist.full = none ∧ i < s.strands.length) ∧
    (∃ s : State, ∃ p : Nat, ∃ i : Nat, ∃ e : List Byte, s.Offers p e 0x43 repairMask ∧ byteAt e 8 = i ∧ i < s.linkStrands ∧
      byteAt e 9 = 0 ∧ byteAt e 10 = 0 ∧ field e 0x0C 2 = 0 ∧ s.partnerStatus = none ∧ ((s.strand i).state = .fired ∨ (s.strand
      i).state = .crazed)) :=
  ⟨⟨offer (ent 0x40 [(8, 1, 15)]) (atStrand 15 { state := .fired } up), 1, 15, ent 0x40 [(8, 1, 15)],
     by unfold State.Offers; decide +kernel⟩,
   ⟨offer (ent 0x41 [(8, 1, 15), (10, 2, 64)]) (atStrand 15 { state := .crazed } up), 1, 15, ent 0x41 [(8, 1, 15), (10, 2, 64)],
     by unfold State.Offers; decide +kernel⟩,
   ⟨offer (ent 0x42 [(8, 1, 15)]) (atStrand 15 { state := .greenware } up), 1, 15, ent 0x42 [(8, 1, 15)],
     by unfold State.Offers; decide +kernel⟩,
   ⟨offer (ent 0x43 [(8, 1, 15)]) (atStrand 15 { state := .fired } up), 1, 15, ent 0x43 [(8, 1, 15)],
     by unfold State.Offers; decide +kernel⟩⟩

theorem witness_FenceWaitsForEarlierDescriptors :
    (∃ s : State, ∃ p : Nat, ∃ e : List Byte, s.Offers p e 0x01 [3] ∧ byteAt e 8 = 0 ∧ s.fences = [] ∧ (∀ d ∈ s.descs, d.pair ≠ p)
      ∧ (∀ d ∈ s.descs, d.id < s.nextDesc)) ∧
    (∃ s : State, ∃ p : Nat, ∃ e : List Byte, s.Offers p e 0x01 [3] ∧ byteAt e 8 = 0 ∧ s.fences = [] ∧ (∃ d ∈ s.descs, d.pair = p)
      ∧ (∀ d ∈ s.descs, d.id < s.nextDesc)) :=
  ⟨⟨offer (ent 1 []) (up), 1, ent 1 [], by unfold State.Offers; decide +kernel⟩,
   ⟨offer (ent 1 []) ({ up with descs := [{ id := 4, pair := 1, entry := ent 0 [] }], nextDesc := 5 }), 1, ent 1 [],
     by unfold State.Offers; decide +kernel⟩⟩

theorem witness_StreamsOpenAndClose :
    (∃ s : State, ∃ body : List Byte, ∃ rest : List PortItem, s.cfgUp = true ∧ s.port = .message 0x10 body :: rest ∧ firstFail
      (State.acceptChecks { s.start with port := rest } (streamCfg body) false) = none) ∧
    (∃ s : State, ∃ body : List Byte, ∃ rest : List PortItem, ∃ id : Nat, ∃ d : Nat, ∃ st : TxStream, s.cfgUp = true ∧ s.inj.armed
      = false ∧ s.port = .message 0x11 body :: rest ∧ bits (field body 0 2) 11 0 = id ∧ s.tx? id = some st ∧ st.phase = .opening d
      ∧ byteAt body 2 = 0) ∧
    (∃ s : State, ∃ body : List Byte, ∃ rest : List PortItem, ∃ id : Nat, ∃ d : Nat, ∃ st : TxStream, s.cfgUp = true ∧ s.inj.armed
      = false ∧ s.port = .message 0x11 body :: rest ∧ bits (field body 0 2) 11 0 = id ∧ s.tx? id = some st ∧ st.phase = .opening d
      ∧ byteAt body 2 ≠ 0) ∧
    (∃ s : State, ∃ id : Nat, ∃ d : Nat, ∃ st : TxStream, s.cfgUp = true ∧ s.inj.armed = false ∧ id < 4096 ∧ s.tx? id = some st ∧
      st.phase = .opening d) ∧
    (∃ s : State, ∃ body : List Byte, ∃ rest : List PortItem, ∃ id : Nat, ∃ st : RxStream, s.cfgUp = true ∧ s.port = .message 0x12
      body :: rest ∧ bits (field body 0 2) 11 0 = id ∧ bit (field body 0 2) 12 = false ∧ s.rx? id = some st ∧ bit (field body 0 2)
      13 = false ∧ st.closing = none ∧ st.fence = none ∧ st.partnerLost = false ∧ st.empty = false) ∧
    (∃ s : State, ∃ body : List Byte, ∃ rest : List PortItem, ∃ id : Nat, ∃ st : RxStream, s.cfgUp = true ∧ s.port = .message 0x12
      body :: rest ∧ bits (field body 0 2) 11 0 = id ∧ bit (field body 0 2) 12 = false ∧ s.rx? id = some st ∧ st.kept = true) ∧
    (∃ s : State, ∃ body : List Byte, ∃ rest : List PortItem, ∃ id : Nat, ∃ st : RxStream, s.cfgUp = true ∧ s.port = .message 0x12
      body :: rest ∧ bits (field body 0 2) 11 0 = id ∧ bit (field body 0 2) 12 = false ∧ s.rx? id = some st ∧ st.kept = false ∧
      bit (field body 0 2) 13 = true) ∧
    (∃ s : State, ∃ body : List Byte, ∃ rest : List PortItem, ∃ id : Nat, ∃ st : TxStream, s.cfgUp = true ∧ s.port = .message 0x12
      body :: rest ∧ bits (field body 0 2) 11 0 = id ∧ bit (field body 0 2) 12 = true ∧ s.tx? id = some st ∧ st.looped = false ∧
      st.phase = .live) ∧
    (∃ s : State, ∃ body : List Byte, ∃ rest : List PortItem, ∃ id : Nat, ∃ st : TxStream, ∃ d : Nat, s.cfgUp = true ∧ s.port = .message 0x12
      body :: rest ∧ bits (field body 0 2) 11 0 = id ∧ bit (field body 0 2) 12 = true ∧ s.tx? id = some st ∧ st.looped = false ∧
      st.phase = .opening d) ∧
    (∃ s : State, ∃ body : List Byte, ∃ rest : List PortItem, ∃ id : Nat, ∃ st : TxStream, ∃ d : Option Nat, s.cfgUp = true ∧
      s.port = .message 0x13 body :: rest ∧ bits (field body 0 2) 11 0 = id ∧ bit (field body 0 2) 12 = true ∧ s.tx? id = some st
      ∧ st.phase = .closing d true ∧ st.looped = false) ∧
    (∃ s : State, ∃ body : List Byte, ∃ rest : List PortItem, ∃ id : Nat, ∃ d : Nat, ∃ st : RxStream, s.cfgUp = true ∧ s.port =
      .message 0x13 body :: rest ∧ bits (field body 0 2) 11 0 = id ∧ bit (field body 0 2) 12 = false ∧ s.rx? id = some st ∧
      st.closing = some d) :=
  ⟨⟨heard 0x10 (msg [(0, 2, 0x2007), (2, 1, 5), (4, 4, 5), (8, 2, 8), (11, 1, 0x10)]) (named 0 up), msg [(0, 2, 0x2007), (2, 1,
     5), (4, 4, 5), (8, 2, 8), (11, 1, 0x10)], [], by decide +kernel⟩,
   ⟨heard 0x11 (msg [(0, 2, 7)]) (txOf { wTx with phase := .opening 4 } up), msg [(0, 2, 7)], [], 7, 4,
     { wTx with phase := .opening 4 }, by decide +kernel⟩,
   ⟨heard 0x11 (msg [(0, 2, 7), (2, 1, 0x11)]) (txOf { wTx with phase := .opening 4 } up), msg [(0, 2, 7), (2, 1, 0x11)], [], 7,
     4, { wTx with phase := .opening 4 }, by decide +kernel⟩,
   ⟨txOf { cfg := { id := 4095 }, cls := 2, phase := .opening 4 } up, 4095, 4,
     { cfg := { id := 4095 }, cls := 2, phase := .opening 4 }, by decide +kernel⟩,
   ⟨heard 0x12 (msg [(0, 2, 7)]) (rxAt 7 { wRx with busy := true } up), msg [(0, 2, 7)], [], 7, { wRx with busy := true },
     by decide +kernel⟩,
   ⟨heard 0x12 (msg [(0, 2, 7)]) (rxAt 7 keptRx up), msg [(0, 2, 7)], [], 7, keptRx, by decide +kernel⟩,
   ⟨heard 0x12 (msg [(0, 2, 0x2007)]) (rxAt 7 { wRx with busy := true } up), msg [(0, 2, 0x2007)], [], 7,
     { wRx with busy := true }, by decide +kernel⟩,
   ⟨heard 0x12 (msg [(0, 2, 0x1007)]) (txOf wTx up), msg [(0, 2, 0x1007)], [], 7, wTx, by decide +kernel⟩,
   ⟨heard 0x12 (msg [(0, 2, 0x1007)]) (txOf { wTx with phase := .opening 4 } up), msg [(0, 2, 0x1007)], [], 7,
     { wTx with phase := .opening 4 }, 4, by decide +kernel⟩,
   ⟨heard 0x13 (msg [(0, 2, 0x1007)]) (txOf { wTx with phase := .closing none true } up), msg [(0, 2, 0x1007)], [], 7,
     { wTx with phase := .closing none true }, none, by decide +kernel⟩,
   ⟨heard 0x13 (msg [(0, 2, 7)]) (rxAt 7 { wRx with closing := some 4 } up), msg [(0, 2, 7)], [], 7, 4,
     { wRx with closing := some 4 }, by decide +kernel⟩⟩

theorem witness_StreamMessagesAct :
    (∃ s : State, ∃ body : List Byte, ∃ rest : List PortItem, ∃ id : Nat, ∃ st : RxStream, s.cfgUp = true ∧ s.port = .message 0x14
      body :: rest ∧ bits (field body 0 2) 11 0 = id ∧ s.rx? id = some st) ∧
    (∃ s : State, ∃ body : List Byte, ∃ rest : List PortItem, ∃ id : Nat, ∃ st : RxStream, s.cfgUp = true ∧ s.port = .message 0x20
      body :: rest ∧ bits (field body 0 2) 11 0 = id ∧ s.rx? id = some st ∧ st.cls = 1) ∧
    (∃ s : State, ∃ body : List Byte, ∃ rest : List PortItem, ∃ id : Nat, ∃ d : Draw, s.cfgUp = true ∧ s.port = .message 0x18 body
      :: rest ∧ byteAt body 2 % 64 = id ∧ s.draw? id = some d ∧ d.phase = .running ∧ d.keeper = 0 ∧ field body 0 2 % 4096 =
      d.stream ∧ bit (byteAt body 1) 4 = false ∧ field body 4 4 = d.ackNext ∧ d.ackNext < d.next) ∧
    (∃ s : State, ∃ body : List Byte, ∃ rest : List PortItem, ∃ id : Nat, ∃ index : Nat, ∃ d : Draw, s.cfgUp = true ∧ s.port =
      .message 0x19 body :: rest ∧ byteAt body 2 % 64 = id ∧ s.draw? id = some d ∧ d.phase = .running ∧ d.keeper = 0 ∧ field body
      0 2 % 4096 = d.stream ∧ field body 4 4 = index ∧ d.badSeen.contains index = false) ∧
    (∃ s : State, ∃ body : List Byte, ∃ rest : List PortItem, ∃ id : Nat, ∃ index : Nat, ∃ d : Draw, s.cfgUp = true ∧ s.port =
      .message 0x19 body :: rest ∧ byteAt body 2 % 64 = id ∧ s.draw? id = some d ∧ d.phase = .running ∧ d.keeper = 0 ∧ field body
      0 2 % 4096 = d.stream ∧ field body 4 4 = index ∧ d.badSeen.contains index = true) :=
  ⟨⟨heard 0x14 (msg [(0, 2, 7)]) (rxAt 7 wRx up), msg [(0, 2, 7)], [], 7, wRx, by decide +kernel⟩,
   ⟨heard 0x20 (msg [(0, 2, 7)]) (rxAt 7 { wRx with cls := 1 } up), msg [(0, 2, 7)], [], 7, { wRx with cls := 1 },
     by decide +kernel⟩,
   ⟨heard 0x18 (msg [(0, 2, 7), (2, 1, 63)])
     ({ up with draws := [{ id := 63, desc := 4, shelf := none, base := 0, len := 512, stage := 0, version := 0, keeper := 0, stream := 7, next := 1 }] }),
     msg [(0, 2, 7), (2, 1, 63)], [], 63,
     { id := 63, desc := 4, shelf := none, base := 0, len := 512, stage := 0, version := 0, keeper := 0, stream := 7, next := 1 },
     by decide +kernel⟩,
   ⟨heard 0x19 (msg [(0, 2, 7), (2, 1, 63)])
     ({ up with draws := [{ id := 63, desc := 4, shelf := none, base := 0, len := 512, stage := 0, version := 0, keeper := 0, stream := 7, next := 1 }] }),
     msg [(0, 2, 7), (2, 1, 63)], [], 63, 0,
     { id := 63, desc := 4, shelf := none, base := 0, len := 512, stage := 0, version := 0, keeper := 0, stream := 7, next := 1 },
     by decide +kernel⟩,
   ⟨heard 0x19 (msg [(0, 2, 7), (2, 1, 63)])
     ({ up with draws := [{ id := 63, desc := 4, shelf := none, base := 0, len := 512, stage := 0, version := 0, keeper := 0, stream := 7, next := 1, badSeen := [0] }] }),
     msg [(0, 2, 7), (2, 1, 63)], [], 63, 0,
     { id := 63, desc := 4, shelf := none, base := 0, len := 512, stage := 0, version := 0, keeper := 0, stream := 7, next := 1, badSeen := [0] },
     by decide +kernel⟩⟩

theorem witness_FlitsEnterTheirParcels :
    (∃ s : State, ∃ strand : Nat, ∃ key : Nat, ∃ body : List Byte, ∃ rest : List PortItem, ∃ st : RxStream, s.cfgUp = true ∧
      s.port = .flit strand key body :: rest ∧ fType body = 1 ∧ s.rx? key = some st ∧ st.current = none ∧ st.fence = none) ∧
    (∃ s : State, ∃ strand : Nat, ∃ key : Nat, ∃ body : List Byte, ∃ rest : List PortItem, s.cfgUp = true ∧ s.port = .flit strand
      key body :: rest ∧ fType body = 1 ∧ s.rx? key = none ∧ s.ghosts.contains key = false) ∧
    (∃ s : State, ∃ strand : Nat, ∃ key : Nat, ∃ body : List Byte, ∃ rest : List PortItem, ∃ st : RxStream, ∃ p : RxParcel,
      s.cfgUp = true ∧ s.port = .flit strand key body :: rest ∧ fType body = 2 ∧ s.ghosts.contains key = false ∧ s.rx? key = some
      st ∧ st.current = some p ∧ p.cls ≠ fClass body) ∧
    (∃ s : State, ∃ strand : Nat, ∃ key : Nat, ∃ body : List Byte, ∃ rest : List PortItem, ∃ st : RxStream, ∃ p : RxParcel,
      s.cfgUp = true ∧ s.port = .flit strand key body :: rest ∧ fType body = 2 ∧ s.ghosts.contains key = false ∧ s.rx? key = some
      st ∧ st.current = some p ∧ p.cls = fClass body ∧ fAbort body = false) ∧
    (∃ s : State, ∃ strand : Nat, ∃ key : Nat, ∃ body : List Byte, ∃ rest : List PortItem, ∃ st : RxStream, ∃ p : RxParcel,
      s.cfgUp = true ∧ s.port = .flit strand key body :: rest ∧ fType body = 2 ∧ s.ghosts.contains key = false ∧ s.rx? key = some
      st ∧ st.current = some p ∧ p.cls = fClass body ∧ fAbort body = true) ∧
    (∃ s : State, ∃ strand : Nat, ∃ key : Nat, ∃ body : List Byte, ∃ rest : List PortItem, ∃ st : RxStream, s.cfgUp = true ∧
      s.port = .flit strand key body :: rest ∧ fType body = 3 ∧ s.rx? key = some st ∧ st.cls ≠ 3) ∧
    (∃ s : State, ∃ strand : Nat, ∃ key : Nat, ∃ body : List Byte, ∃ rest : List PortItem, ∃ st : RxStream, s.cfgUp = true ∧
      s.port = .flit strand key body :: rest ∧ fType body = 3 ∧ s.rx? key = some st ∧ st.cls = 3 ∧ fFirst body = true ∧ st.packets = [] ∧
      st.fence = none ∧ (s.sagOn = false ∨ st.looped = true)) :=
  ⟨⟨{ (rxAt 7 wRx up) with port := [.flit 15 7 (padTo 248 (toLe 8 (1)))] }, 15, 7, padTo 248 (toLe 8 (1)), [], wRx,
     by decide +kernel⟩,
   ⟨{ (up) with port := [.flit 15 7 (padTo 248 (toLe 8 (1)))] }, 15, 7, padTo 248 (toLe 8 (1)), [], by decide +kernel⟩,
   ⟨{ (rxAt 7 { wRx with parcels := [{ uid := 3, cls := 2 }], busy := true } up) with port := [.flit 15 7 (padTo 248 (toLe 8 (2)))] }, 15,
     7, padTo 248 (toLe 8 (2)), [], { wRx with parcels := [{ uid := 3, cls := 2 }], busy := true }, { uid := 3, cls := 2 }, by decide +kernel⟩,
   ⟨{ (rxAt 7 { wRx with parcels := [{ uid := 3 }], busy := true } up) with port := [.flit 15 7 (padTo 248 (toLe 8 (2)))] }, 15,
     7, padTo 248 (toLe 8 (2)), [], { wRx with parcels := [{ uid := 3 }], busy := true }, { uid := 3 }, by decide +kernel⟩,
   ⟨{ (rxAt 7 { wRx with parcels := [{ uid := 3 }], busy := true } up) with port := [.flit 15 7 (padTo 248 (toLe 8 (2 + 2 ^ 29)))] },
     15, 7, padTo 248 (toLe 8 (2 + 2 ^ 29)), [], { wRx with parcels := [{ uid := 3 }], busy := true }, { uid := 3 },
     by decide +kernel⟩,
   ⟨{ (rxAt 7 wRx up) with port := [.flit 15 7 (padTo 248 (toLe 8 (3 + 2 ^ 27)))] }, 15, 7, padTo 248 (toLe 8 (3 + 2 ^ 27)), [],
     wRx, by decide +kernel⟩,
   ⟨{ (rxAt 7 { wRx with cls := 3 } up) with port := [.flit 15 7 (padTo 248 (toLe 8 (3 + 2 ^ 27)))] }, 15, 7, padTo 248 (toLe 8 (3 + 2 ^ 27)),
     [], { wRx with cls := 3 }, by decide +kernel⟩⟩

theorem witness_StreamWaitsEnd :
    (∃ s : State, ∃ id : Nat, ∃ key : Nat, ∃ st : RxStream, s.cfgUp = true ∧ id < 4096 ∧ s.rxOf id = some (key, st) ∧ st.stall =
      false ∧ s.stallTest st = true) ∧
    (∃ s : State, ∃ id : Nat, ∃ st : TxStream, ∃ p : TxParcel, ∃ ps : List TxParcel, s.cfgUp = true ∧ id < 4096 ∧ s.tx? id = some
      st ∧ st.queue = p :: ps) ∧
    (∃ s : State, ∃ id : Nat, ∃ st : TxStream, ∃ p : TxParcel, ∃ ps : List TxParcel, s.cfgUp = true ∧ id < 4096 ∧ s.tx? id = some
      st ∧ st.queue = p :: ps ∧ p.held ≠ 0 ∧ p.laDone = false ∧ p.regionIn st.cfg.srcFmt = true) ∧
    (∃ s : State, ∃ slice : Nat, ∃ arrival : Nat, ∃ id : Nat, ∃ region : Nat, ∃ st : TxStream, ∃ l : List (Nat × Nat × Nat),
      s.cfgUp = true ∧ slice < 4 ∧ s.laWaits slice = (arrival, id, region) :: l ∧ region + s.lookaheadUsed slice ≤ 1048576 ∧ s.tx?
      id = some st ∧ ∃ port k, port < s.ports.length ∧ (s.ports.getD port {}).inSeek = some k) :=
  ⟨⟨(atPort 7 { pops := [⟨7, 0, 0⟩] } (named 7 (rxAt 7 wRx up))), 7, 7, wRx, by decide +kernel⟩,
   ⟨txOf { wTx with queue := [{ source := .host 0 }] } up, 7, { wTx with queue := [{ source := .host 0 }] },
     { source := .host 0 }, [], by decide +kernel⟩,
   ⟨txOf { wTx with queue := [{ source := .host 0, held := 16, src := put 12 4 8 (zeros 48) }] } up, 7,
     { wTx with queue := [{ source := .host 0, held := 16, src := put 12 4 8 (zeros 48) }] },
     { source := .host 0, held := 16, src := put 12 4 8 (zeros 48) }, [], by decide +kernel⟩,
   ⟨atPort 6 { inSeek := some aSeek } (named 7 (txOf
     { wTx with queue := [{ source := .host 0, held := 1048560, waitsLa := true, arrival := 2, src := put 12 4 8 (zeros 48) }] }
     up)), 3, 2, 7, 16,
     { wTx with queue := [{ source := .host 0, held := 1048560, waitsLa := true, arrival := 2, src := put 12 4 8 (zeros 48) }] },
     [], by decide +kernel, by decide +kernel, by decide +kernel, by decide +kernel, by decide +kernel, 6, aSeek, by decide +kernel⟩⟩

theorem witness_ScatterHoldAndCombine :
    (∃ s : State, ∃ id : Nat, ∃ st : TxStream, ∃ t : DispTable, ∃ p : TxParcel, ∃ ps : List TxParcel, ∃ x : RxStream, s.cfgUp =
      true ∧ id < 4096 ∧ s.tx? id = some st ∧ s.table? st.cfg.dispTable = some t ∧ st.queue = p :: ps ∧ st.cfg.dispRole = 1 ∧
      p.complete = true ∧ st.fence = none ∧ sourceCharge st.cfg p.src ≤ st.credits ∧ (st.kept.map (fun k => k.marks.length)).foldl
      (· + ·) 0 + hTags p.src ≤ 4096 ∧ (st.openPairs.contains (hMb p.src, hDir p.src) = true ∨ 0 < st.pairCred) ∧ t.window = none
      ∧ s.rx? (4096 + id) = some x ∧ s.headBlocked st = false) ∧
    (∃ s : State, ∃ id : Nat, ∃ st : TxStream, ∃ t : DispTable, ∃ p : SrcParcel, ∃ ps : List SrcParcel, ∃ x : RxStream, s.cfgUp =
      true ∧ id < 4096 ∧ s.tx? id = some st ∧ s.table? st.cfg.dispTable = some t ∧ st.kept = p :: ps ∧ p.ready = true ∧ s.rx?
      (4096 + id) = some x ∧ s.flag 0x4800 1 = false) ∧
    (∃ s : State, ∃ id : Nat, ∃ st : TxStream, ∃ t : DispTable, ∃ p : SrcParcel, ∃ ps : List SrcParcel, ∃ x : RxStream, s.cfgUp =
      true ∧ id < 4096 ∧ s.tx? id = some st ∧ s.table? st.cfg.dispTable = some t ∧ st.kept = p :: ps ∧ p.ready = true ∧ s.rx?
      (4096 + id) = some x ∧ s.flag 0x4800 1 = true) ∧
    (∃ s : State, ∃ n : Nat, ∃ t : DispTable, s.cfgUp = true ∧ n ≤ s.build.dispTables ∧ s.table? n = some t ∧ t.num = n ∧
      t.holdFrom.isSome = true ∧ t.window = none) :=
  ⟨⟨{ rxAt 4103 wRx (txOf { cfg := { id := 7, cls := 2, dispCtl := 1 + 7 * 4 }, cls := 2, credits := 1000000, openPairs := [(0, 0)], queue := [{ source := .station 0, complete := true, src := put 12 4 32 (zeros 32) }] } up) with tables := [(8, { num := 8, cur := ⟨32, 0, 0, none, 0, 0, []⟩, holdFrom := some 0 })] },
     7,
     { cfg := { id := 7, cls := 2, dispCtl := 1 + 7 * 4 }, cls := 2, credits := 1000000, openPairs := [(0, 0)], queue := [{ source := .station 0, complete := true, src := put 12 4 32 (zeros 32) }] },
     { num := 8, cur := ⟨32, 0, 0, none, 0, 0, []⟩, holdFrom := some 0 },
     { source := .station 0, complete := true, src := put 12 4 32 (zeros 32) }, [], wRx, by decide +kernel⟩,
   ⟨{ rxAt 4103 wRx (txOf { cfg := { id := 7, cls := 2, dispCtl := 1 + 7 * 4 }, cls := 2, kept := [{ pseq := 0, bytes := [], cells := 0, mb := 0, dir := 0, row0 := 0, marks := [] }] } up) with tables := [(8, { num := 8, cur := ⟨32, 0, 0, none, 0, 0, []⟩, holdFrom := some 0 })] },
     7,
     { cfg := { id := 7, cls := 2, dispCtl := 1 + 7 * 4 }, cls := 2, kept := [{ pseq := 0, bytes := [], cells := 0, mb := 0, dir := 0, row0 := 0, marks := [] }] },
     { num := 8, cur := ⟨32, 0, 0, none, 0, 0, []⟩, holdFrom := some 0 },
     { pseq := 0, bytes := [], cells := 0, mb := 0, dir := 0, row0 := 0, marks := [] }, [], wRx, by decide +kernel⟩,
   ⟨{ rxAt 4103 wRx (txOf { cfg := { id := 7, cls := 2, dispCtl := 1 + 7 * 4 }, cls := 2, kept := [{ pseq := 0, bytes := [], cells := 0, mb := 0, dir := 0, row0 := 0, marks := [] }] } (up.setReg 0x4800 2)) with tables := [(8, { num := 8, cur := ⟨32, 0, 0, none, 0, 0, []⟩, holdFrom := some 0 })] },
     7,
     { cfg := { id := 7, cls := 2, dispCtl := 1 + 7 * 4 }, cls := 2, kept := [{ pseq := 0, bytes := [], cells := 0, mb := 0, dir := 0, row0 := 0, marks := [] }] },
     { num := 8, cur := ⟨32, 0, 0, none, 0, 0, []⟩, holdFrom := some 0 },
     { pseq := 0, bytes := [], cells := 0, mb := 0, dir := 0, row0 := 0, marks := [] }, [], wRx, by decide +kernel⟩,
   ⟨{ up with tables := [(8, { num := 8, cur := ⟨32, 0, 0, none, 0, 0, []⟩, holdFrom := some 0 })] }, 8,
     { num := 8, cur := ⟨32, 0, 0, none, 0, 0, []⟩, holdFrom := some 0 }, by decide +kernel⟩⟩

theorem witness_FlitSlotsAndCreditsDue :
    (∃ s : State, s.cfgUp = true ∧ (∀ i < s.build.strands, s.hasSlot i = false) ∧ s.guard.sets = [] ∧ s.tx = []) ∧
    (∃ s : State, s.cfgUp = true ∧ s.build.strands = 1 ∧ (s.strand 0).service = true ∧ (s.strand 0).state = .fired ∧ (s.strand
      0).link.resend = 0 ∧ (s.strand 0).link.waitMode = false ∧ (s.strand 0).link.replay.length < s.linkDepth ∧ (s.strand
      0).link.carryOut = [] ∧ s.mgmt = [] ∧ s.credWanted = false ∧ s.guard.sets = [] ∧ s.tx = []) ∧
    (∃ s : State, ∃ key : Nat, ∃ id : Nat, ∃ cells : Nat, ∃ pairs : Nat, s.cfgUp = true ∧ s.build.strands = 1 ∧
      (s.strand 0).service = true ∧ (s.strand 0).state = .fired ∧ (s.strand 0).link.resend = 0 ∧ (s.strand 0).link.waitMode = false ∧
      (s.strand 0).link.replay.length < s.linkDepth ∧ (s.strand 0).link.carryOut = [] ∧ s.mgmt = [] ∧ s.guard.sets = [] ∧ s.tx = [] ∧
      s.credDue = true ∧ s.creditsDue = [(key, id, cells, pairs)]) ∧
    (∃ s : State, s.cfgUp = true ∧ s.creditsDue ≠ []) ∧
    (∃ s : State, s.cfgUp = true ∧ s.creditsDue = []) :=
  ⟨⟨up, by decide +kernel⟩,
   ⟨(atStrand 0 { service := true, state := .fired } (upOf { tb with strands := 1 })), by decide +kernel⟩,
   ⟨rxAt 7 { wRx with dueCells := 9 } { atStrand 0 { service := true, state := .fired } (upOf { tb with strands := 1 }) with credDue := true },
     7, 7, 9, 0, by decide +kernel⟩,
   ⟨rxAt 7 { wRx with dueCells := 1 } up, by decide +kernel⟩,
   ⟨up, by decide +kernel⟩⟩

theorem witness_FlitsAreReceived :
    (∃ s : State, ∃ i : Nat, ∃ flit : List Byte, s.cfgUp = true ∧ i < s.build.strands ∧ s.linkHeld = false ∧ s.linkLive i = true ∧
      (s.strand i).state ≠ .bisque ∧ s.inj.armed = false ∧ (∀ m ∈ s.linkMsgs, m.2.1 ≠ 1) ∧ (s.strand i).link.discard = none ∧
      crcOk (padTo 256 flit) = false) ∧
    (∀ seq grog, seq = 0 ∨ seq = 5 → ∃ s : State, ∃ i : Nat, ∃ flit : List Byte, ∃ ack : Nat, ∃ kind : Nat,
      s.cfgUp = true ∧ i < s.build.strands ∧ s.linkHeld = false ∧ s.linkLive i = true ∧ (s.strand i).state ≠ .bisque ∧ s.inj.armed = false ∧
      (∀ m ∈ s.linkMsgs, m.2.1 ≠ 1) ∧ (s.strand i).link.discard = none ∧ crcOk (padTo 256 flit) = true ∧
      flitTrailer (padTo 256 flit) = (seq, ack, kind) ∧ ((s.start.applyAck i ack kind).strand i).link.discard = none ∧
      ((s.start.applyAck i ack kind).strand i).link.rxSeq = 0 ∧ (fType (padTo 256 flit) = 0 ↔ grog = true) ∧
      (grog = true → layoutOk (padTo 256 flit) = true)) ∧
    (∀ kind, kind < 4 → ∃ s : State, ∃ i : Nat, ∃ ack : Nat, s.inj.armed = false ∧ (s.strand i).link.ackedBy ack = none) ∧
    (∀ wait, ∃ s : State, ∃ i : Nat, ∃ ack : Nat, ∃ n : Nat, s.inj.armed = false ∧ (s.strand i).link.ackedBy ack = some n ∧
      (s.strand i).link.waitMode = wait ∧ (s.strand i).link.replay.drop n ≠ []) ∧
    (∃ s : State, ∃ i : Nat, ∃ ack : Nat, ∃ n : Nat, s.inj.armed = false ∧ (s.strand i).link.ackedBy ack = some n ∧
      (s.strand i).link.replay.drop n = []) ∧
    (∀ again, ∃ s : State, ∃ i : Nat, ∃ ack : Nat, ∃ l : Link, s.inj.armed = false ∧ (s.strand i).link = l ∧ l.ackedBy ack = some 0 ∧
      l.replay ≠ [] ∧ (l.nakCount ≠ 0 ∧ l.nakSeq = (ack + 1) % 4096 ∧ 3 ≤ l.nakCount + 1 ↔ again = true)) ∧
    (∃ s : State, ∃ i : Nat, ∃ d : Nat, ∃ flit : List Byte, s.cfgUp = true ∧ i < s.build.strands ∧ s.linkHeld = false ∧ s.linkLive
      i = true ∧ s.inj.armed = false ∧ (∀ m ∈ s.linkMsgs, m.2.1 ≠ 1) ∧ (s.strand i).link.discard = some d ∧ crcOk (padTo 256 flit)
      = false) ∧
    (∃ s : State, ∃ i : Nat, ∃ d : Nat, ∃ flit : List Byte, s.cfgUp = true ∧ i < s.build.strands ∧ s.linkHeld = false ∧ s.linkLive
      i = true ∧ s.inj.armed = false ∧ (∀ m ∈ s.linkMsgs, m.2.1 ≠ 1) ∧ (s.strand i).link.discard = some d ∧ crcOk (padTo 256 flit)
      = true ∧ (flitTrailer (padTo 256 flit)).1 = (s.strand i).link.rxSeq) ∧
    (∃ s : State, ∃ i : Nat, ∃ d : Nat, ∃ flit : List Byte, ∃ seq : Nat, ∃ ack : Nat, ∃ kind : Nat, s.cfgUp = true ∧ i < s.build.strands ∧
      s.linkHeld = false ∧ s.linkLive i = true ∧ s.inj.armed = false ∧ (∀ m ∈ s.linkMsgs, m.2.1 ≠ 1) ∧ (s.strand i).link.discard = some d ∧
      crcOk (padTo 256 flit) = true ∧ flitTrailer (padTo 256 flit) = (seq, ack, kind) ∧ seq ≠ (s.strand i).link.rxSeq) ∧
    (∃ s : State, ∃ i : Nat, s.cfgUp = true ∧ i < s.build.strands ∧ s.linkHeld = false ∧ (s.strand
      i).link.replay ≠ [] ∧ (s.strand i).link.waitMode = false) :=
  ⟨⟨onLink {}, 15, [1], by decide +kernel⟩,
   fun seq grog h => ⟨onLink {}, 15, flitOf (if grog then 0 else 1) seq, 4095, 0,
     by rcases h with rfl | rfl <;> cases grog <;> decide +kernel⟩,
   fun _ _ => ⟨onLink twoSent, 15, 10, by decide +kernel⟩,
   fun wait => ⟨onLink { twoSent with waitMode := wait }, 15, 8, 1, by cases wait <;> decide +kernel⟩,
   ⟨onLink twoSent, 15, 9, 2, by decide +kernel⟩,
   fun again => ⟨onLink { twoSent with nakSeq := 8, nakCount := if again then 2 else 1 }, 15, 7,
     { twoSent with nakSeq := 8, nakCount := if again then 2 else 1 }, by cases again <;> decide +kernel⟩,
   ⟨onLink { discard := some 3 }, 15, 3, [1], by decide +kernel⟩,
   ⟨onLink { discard := some 3 }, 15, 3, aFlit, by decide +kernel⟩,
   ⟨onLink { discard := some 3 }, 15, 3, flitOf 1 5, 5, 4095, 0, by decide +kernel⟩,
   ⟨onLink { replay := [⟨0, [], 0, none⟩] }, 15, by decide +kernel⟩⟩

theorem witness_MessagesAndMerge :
    (∃ s : State, ∃ k : Nat, ∃ body : List Byte, ∃ rest : List (Nat × Nat × List Byte), s.cfgUp = true ∧ s.linkMsgs = (k, 1, body)
      :: rest) ∧
    (∃ s : State, ∃ k : Nat, ∃ i : Nat, ∃ b : Nat, ∃ body : List Byte, ∃ rest : List (Nat × Nat × List Byte), ∃ r : Svc × Bool,
      s.cfgUp = true ∧ s.linkMsgs = (k, 2, body) :: rest ∧ byteAt body 0 = i ∧ i < s.build.strands ∧ i < s.strands.length ∧
      (s.strand i).state ≠ .shard ∧ (s.strand i).service = false ∧ bit (byteAt body 1) 0 = true ∧ s.rowBoundary (field body 2 2 %
      4096) = some b ∧ meetSvc (s.strand i).join b 0 true = r) ∧
    (∃ s : State, ∃ i : Nat, ∃ f : HeldFlit, s.cfgUp = true ∧ s.heldFlits = [(i, f)] ∧ s.lockStep f = false) ∧
    (∃ s : State, ∃ i : Nat, ∃ r : Nat, ∃ f : HeldFlit, s.cfgUp = true ∧ s.heldFlits = [(i, f)] ∧ s.lockStep f = true ∧
      (s.lockSet (fStream f.body)).all (s.reached f.row) = true ∧ f.ready = some r ∧ s.lclk = f.row + s.releaseK) :=
  ⟨⟨linked 1 [] up, 0, [], [], by decide +kernel⟩,
   ⟨linked 2 (msg [(0, 1, 15), (1, 1, 1)]) up, 0, 15, 0, msg [(0, 1, 15), (1, 1, 1)], [],
     ({ row := 0, mine := true, theirs := true }, true), by decide +kernel⟩,
   ⟨(atStrand 15 { link := { queue := [{ row := 0, body := [] }] } } up), 15, { row := 0, body := [] }, by decide +kernel⟩,
   ⟨{ rxAt 7 { cfg := { id := 7, cls := 1, setFirst := 14, setCount := 1 }, cls := 1 } (atStrand 15 { link := { queue := [{ row := 20, body := padTo 248 (toLe 8 (1 + 1 * 2 ^ 4 + 7 * 2 ^ 7)), ready := some 5 }] } } up) with fcount := 9, phase := 3 },
     15, 5, { row := 20, body := padTo 248 (toLe 8 (1 + 1 * 2 ^ 4 + 7 * 2 ^ 7)), ready := some 5 }, by decide +kernel⟩⟩

theorem witness_FramesAndLaneDetectors :
    (∃ s : State, ∃ _ : List Nat, s.aonHeld = false ∧ s.guard.lastFrame = none) ∧
    (∃ s : State, ∃ _ : List Nat, s.aonHeld = false ∧ s.cfgUp = true ∧ s.guard.lastFrame ≠ none) ∧
    (∃ s : State, ∃ _ : List Nat, s.aonHeld = false ∧ s.inj.armed = false ∧ s.cfgUp = true) ∧
    (∃ s : State, ∃ strands : List Nat, s.cfgUp = true ∧ s.armedStrands.filter strands.contains = []) ∧
    (∃ s : State, ∃ strands : List Nat, s.cfgUp = true ∧ s.armedStrands.filter strands.contains ≠ [] ∧
      (s.armedStrands.filter strands.contains).length = s.armedStrands.length ∧ (s.partner = .active ∨ s.partner = .present)) ∧
    (∃ s : State, ∃ strands : List Nat, s.cfgUp = true ∧ s.armedStrands.filter strands.contains ≠ [] ∧
      (s.armedStrands.filter strands.contains).length = s.armedStrands.length ∧ s.partner ≠ .active ∧ s.partner ≠ .present) ∧
    (∃ s : State, ∃ strands : List Nat, s.cfgUp = true ∧ s.armedStrands.filter strands.contains ≠ [] ∧
      (s.armedStrands.filter strands.contains).length ≠ s.armedStrands.length ∧ s.presence.on = false) ∧
    (∃ s : State, ∃ strands : List Nat, s.cfgUp = true ∧ s.armedStrands.filter strands.contains ≠ [] ∧
      (s.armedStrands.filter strands.contains).length ≠ s.armedStrands.length ∧ s.presence.on = true) ∧
    (∃ s : State, ∃ i : Nat, s.cfgUp = true ∧ i < s.build.strands ∧ i < s.strands.length ∧ (s.strand i).watched = true) ∧
    (∃ s : State, ∃ i : Nat, s.cfgUp = true ∧ i < s.build.strands ∧ i < s.strands.length ∧ (s.strand i).watched = false ∧
      (s.strand i).tracked = false) ∧
    (∃ s : State, ∃ i : Nat, s.cfgUp = true ∧ i < s.build.strands ∧ i < s.strands.length ∧ (s.strand i).tracked = true ∧
      ((s.strand i).state = .fired ∨ (s.strand i).state = .crazed) ∧ (s.strand i).dueAt = none ∧ (s.strand i).sub ≠ .cal) ∧
    (∃ s : State, ∃ i : Nat, s.cfgUp = true ∧ i < s.build.strands ∧ i < s.strands.length ∧ (s.strand i).tracked = true ∧
      (s.strand i).state = .bisque ∧ (s.strand i).sub = .none) ∧
    (∃ s : State, ∃ i : Nat, i < s.strands.length ∧ ((s.strand i).state = .fired ∨ (s.strand i).state = .crazed) ∧
      (s.strand i).sub ≠ .hold ∧ (s.strand i).sub ≠ .fill) :=
  ⟨⟨{ up with resets := ⟨false, true, false, false⟩ }, [], by decide +kernel⟩,
   ⟨{ up with guard := { lastFrame := some 0 } }, [], by decide +kernel⟩,
   ⟨up, [], by decide +kernel⟩,
   ⟨(atStrand 15 { state := .fired, armed := true } up), [14], by decide +kernel⟩,
   ⟨(atStrand 15 { state := .fired, armed := true } { up with partner := .active }), [15], by decide +kernel⟩,
   ⟨(atStrand 15 { state := .fired, armed := true } { up with partner := .lost }), [15], by decide +kernel⟩,
   ⟨(atStrand 14 { state := .fired, armed := true } (atStrand 15 { state := .fired, armed := true } { up with presence := { on := false } })),
     [15], by decide +kernel⟩,
   ⟨(atStrand 14 { state := .fired, armed := true } (atStrand 15 { state := .fired, armed := true } { up with presence := { on := true } })),
     [15], by decide +kernel⟩,
   ⟨(atStrand 15 { state := .fired, armed := true } up), 15, by decide +kernel⟩,
   ⟨up, 15, by decide +kernel⟩,
   ⟨(atStrand 15 { state := .fired, armed := true } up), 15, by decide +kernel⟩,
   ⟨(atStrand 15 { state := .bisque, armed := true } up), 15, by decide +kernel⟩,
   ⟨(atStrand 15 { state := .crazed } up), 15, by decide +kernel⟩⟩

theorem witness_SidebandAndBisque :
    (∃ type : Nat, ∃ payload : List Byte, type < 256 ∧ payload.length % 2 = 0 ∧ payload.length ≤ 16) ∧
    (∃ s : State, ∃ _ : List Byte, s.aonHeld = false) ∧
    (∃ s : State, ∃ _ : List Byte, s.aonHeld = false ∧ s.inj.armed = false) ∧
    (∃ s : State, ∃ _ : List Byte, ∃ w : Nat, s.aonHeld = false ∧ s.bisque.said = some w) ∧
    (∃ s : State, ∃ p : List Byte, ∃ i : Nat, s.aonHeld = false ∧ s.inj.armed = false ∧ s.bisqueTraining = some i ∧ bits (field p
      0 2) 15 8 = i ∧ bit (field p 0 2) 5 = true) ∧
    (∃ s : State, ∃ p : List Byte, ∃ i : Nat, s.aonHeld = false ∧ s.inj.armed = false ∧ s.bisqueTraining = some i ∧ bits (field p
      0 2) 15 8 = i ∧ bit (field p 0 2) 5 = false ∧ bit (field p 0 2) 4 = true) ∧
    (∃ s : State, ∃ i : Nat, ∃ restart : Bool, s.cfgUp = true ∧ s.test.ir ≠ 0 ∧ s.bisqueChoice = some i ∧ s.bisqueReady i = true ∧
      s.inService = [] ∧ s.bisque.quiet = restart ∧ i < s.strands.length) ∧
    (∃ s : State, ∃ i : Nat, s.cfgUp = true ∧ s.inj.armed = false ∧ s.bisqueTraining = some i ∧ s.bisque.own < 4) ∧
    (∃ s : State, ∃ i : Nat, s.cfgUp = true ∧ s.inj.armed = false ∧ s.bisqueTraining = some i) ∧
    (∃ s : State, s.cfgUp = true ∧ s.bisqueOpen = true) :=
  ⟨⟨255, zeros 16, by decide +kernel⟩,
   ⟨up, zeros 8, by decide +kernel⟩,
   ⟨up, zeros 8, by decide +kernel⟩,
   ⟨{ up with bisque := { said := some 5 } }, zeros 8, 5, by decide +kernel⟩,
   ⟨(atStrand 15 { sub := .cal } { up with bisque := { strand := some 15 } }), put 0 2 (15 * 256 + 32) (zeros 8), 15,
     by decide +kernel⟩,
   ⟨(atStrand 15 { sub := .cal } { up with bisque := { strand := some 15 } }), put 0 2 (15 * 256 + 16) (zeros 8), 15,
     by decide +kernel⟩,
   ⟨({ up with phyReady := 1, presence := { on := true }, exch := { done := true }, ready := some ⟨1, true, true, false⟩ }).setReg
     0x2080 1, 0, false, by decide +kernel⟩,
   ⟨(atStrand 15 { sub := .cal } { up with bisque := { strand := some 15, own := 3 } }), 15, by decide +kernel⟩,
   ⟨(atStrand 15 { sub := .cal } { up with bisque := { strand := some 15 } }), 15, by decide +kernel⟩,
   ⟨(atStrand 15 { state := .bisque } { up with bisque := { strand := some 15 } }), by decide +kernel⟩⟩

theorem witness_TimeIsAligned :
    (∃ s : State, ∃ k : Nat, ∃ registered : Nat, ∃ body : List Byte, ∃ rest : List (Nat × Nat × List Byte), ∃ d : Int, s.cfgUp =
      true ∧ s.inj.armed = false ∧ s.linkMsgs = (k, 0x28, body) :: rest ∧ d = (registered : Int) - (5 * (field body 0 8 : Int) +
      bits (byteAt body 8) 2 0) - 1 ∧ d % 5 ≠ 0) ∧
    (∃ s : State, ∃ k : Nat, ∃ registered : Nat, ∃ body : List Byte, ∃ rest : List (Nat × Nat × List Byte), ∃ d : Int, s.cfgUp =
      true ∧ s.inj.armed = false ∧ s.linkMsgs = (k, 0x28, body) :: rest ∧ d = (registered : Int) - (5 * (field body 0 8 : Int) +
      bits (byteAt body 8) 2 0) - 1 ∧ d = 0 ∧ bit (byteAt body 8) 3 = true) ∧
    (∃ s : State, ∃ k : Nat, ∃ registered : Nat, ∃ body : List Byte, ∃ rest : List (Nat × Nat × List Byte), ∃ d : Int, s.cfgUp =
      true ∧ s.inj.armed = false ∧ s.linkMsgs = (k, 0x28, body) :: rest ∧ d = (registered : Int) - (5 * (field body 0 8 : Int) +
      bits (byteAt body 8) 2 0) - 1 ∧ d % 5 = 0 ∧ bit (byteAt body 8) 3 = false) ∧
    (∃ s : State, s.cfgUp = true ∧ s.bisqueOpen = true ∧ s.bisque.waitSeen = false ∧ s.aligned = false) ∧
    (∃ s : State, ∃ ahead : Nat, s.aonHeld = false ∧ s.flag 0x2080 3 = true ∧ ahead = (s.regN 0x20A0 + 2 ^ 32 - s.now % 2 ^ 32) %
      2 ^ 32) :=
  ⟨⟨linked 0x28 (msg []) (up), 0, 2, msg [], [], 1, by decide +kernel⟩,
   ⟨linked 0x28 (msg [(8, 1, 8)]) (up), 0, 1, msg [(8, 1, 8)], [], 0, by decide +kernel⟩,
   ⟨linked 0x28 (msg []) (up), 0, 6, msg [], [], 5, by decide +kernel⟩,
   ⟨(atStrand 15 { state := .bisque } { up with bisque := { strand := some 15 } }), by decide +kernel⟩,
   ⟨up.setReg 0x2080 8, 0, by decide +kernel⟩⟩

theorem witness_WedgingAdvances :
    (∃ s : State, ∃ g : Nat, ∃ i : Nat, s.cfgUp = true ∧ g < s.build.sgs ∧ s.test.ir ≠ 0 ∧ (s.groupStrands g).any (fun i =>
      (s.strand i).waking) = false ∧ s.wedgeNext g = some i ∧ s.wedgeReady = true ∧ s.wireRoom 1 = true) ∧
    (∃ s : State, ∃ i : Nat, ∃ step : Nat, ∃ _ : List LaneMeas, s.cfgUp = true ∧ s.inj.armed = false ∧ i < s.build.strands ∧
      (s.strand i).wedging = true ∧ (s.strand i).step = step ∧ (step = 1 ∨ step = 5) ∧ (s.strand i).own < step ∧ (s.strand
      i).quick = false) ∧
    (∃ s : State, ∃ i : Nat, ∃ step : Nat, ∃ _ : List LaneMeas, s.cfgUp = true ∧ s.inj.armed = false ∧ i < s.build.strands ∧
      (s.strand i).wedging = true ∧ (s.strand i).step = step ∧ (step = 1 ∨ step = 5) ∧ (s.strand i).own < step ∧ (s.strand
      i).quick = false ∧ step = 1) ∧
    (∃ s : State, ∃ i : Nat, ∃ step : Nat, ∃ _ : List LaneMeas, s.cfgUp = true ∧ s.inj.armed = false ∧ i < s.build.strands ∧
      (s.strand i).wedging = true ∧ (s.strand i).step = step ∧ (step = 1 ∨ step = 5) ∧ (s.strand i).own < step ∧ (s.strand
      i).quick = false) ∧
    (∃ s : State, ∃ k : Nat, ∃ i : Nat, ∃ step : Nat, ∃ body : List Byte, ∃ rest : List (Nat × Nat × List Byte), s.cfgUp = true ∧
      s.linkMsgs = (k, 0x29, body) :: rest ∧ byteAt body 0 = i ∧ i < s.build.strands ∧ bits (byteAt body 1) 3 0 = step ∧ 1 ≤ step
      ∧ step ≤ 6 ∧ bit (byteAt body 1) 4 = true ∧ bit (byteAt body 1) 5 = false ∧ (s.strand i).wedging = true ∧ (s.strand i).step
      ≠ 0) ∧
    (∃ s : State, ∃ i : Nat, ∃ b : List Byte, s.cfgUp = true ∧ i < s.build.strands ∧ (s.strand i).said = some b) ∧
    (∃ s : State, ∃ k : Nat, ∃ i : Nat, ∃ c : CalRun, ∃ body : List Byte, ∃ rest : List (Nat × Nat × List Byte), s.cfgUp = true ∧ s.linkMsgs =
      (k, 0x2B, body) :: rest ∧ byteAt body 0 = i ∧ i < s.build.strands ∧ i < s.strands.length ∧ (s.strand i).wedging = false ∧
      s.cal = some c ∧ c.strand = i ∧ c.phase ≠ .agreed ∧ c.applied = false ∧ c.restored = false ∧ c.failed = false) :=
  ⟨⟨({ up with phyReady := 1, presence := { on := true }, exch := { done := true }, ready := some ⟨1, true, true, false⟩, negDone := true, trusted := true, peerTime := some (true, true), bisque := { strand := some 15 }, strands := modAt (fun _ => { state := .bisque }) 15 up.strands }).setReg
     0x2080 1, 0, 0, by decide +kernel⟩,
   ⟨(atStrand 15 { wedging := true, step := 5, own := 4 } up), 15, 5, [], by decide +kernel⟩,
   ⟨(atStrand 15 { wedging := true, step := 1, own := 0 } up), 15, 1, [], by decide +kernel⟩,
   ⟨(atStrand 15 { wedging := true, step := 5, own := 4 } up), 15, 5, [], by decide +kernel⟩,
   ⟨linked 0x29 (msg [(0, 1, 15), (1, 1, 22)]) (atStrand 15 { wedging := true, step := 6, own := 0 } up), 0, 15, 6, msg [(0, 1,
     15), (1, 1, 22)], [], by decide +kernel⟩,
   ⟨(atStrand 15 { said := some [] } up), 15, [], by decide +kernel⟩,
   ⟨linked 0x2B (msg [(0, 1, 15)]) { atStrand 15 { sub := .cal } up with
       cal := some { strand := 15, row := 0, mine := true, phase := .running } }, 0, 15,
     { strand := 15, row := 0, mine := true, phase := .running }, msg [(0, 1, 15)], [], by decide +kernel⟩⟩

theorem witness_CalibrationAdvances :
    (∃ s : State, ∃ i : Nat, s.cfgUp = true ∧ i < s.build.strands ∧ s.fld 0x2004 15 0 ≠ 0 ∧ ((s.strand i).state = .fired ∨
      (s.strand i).state = .crazed) ∧ (s.strand i).dueAt = none) ∧
    (∃ s : State, ∃ i : Nat, ∃ row : Nat, ∃ l : List Nat, s.cfgUp = true ∧ s.cal = none ∧ s.calQueue = i :: l ∧ (s.strand i).leave = none ∧
      row = boundaryFrom (s.lclk + 64) ∧ s.mayTake i row = true) ∧
    (∃ s : State, ∃ i : Nat, ∃ row : Nat, ∃ l : List Nat, s.cfgUp = true ∧ s.cal = none ∧ s.calQueue = i :: l ∧ (s.strand i).leave = none ∧
      row = boundaryFrom (s.lclk + 64) ∧ s.mayTake i row = false ∧ s.isMember i = true ∧ 64 ≤ (s.strand i).waited) ∧
    (∃ s : State, ∃ k : Nat, ∃ i : Nat, ∃ row : Nat, ∃ body : List Byte, ∃ rest : List (Nat × Nat × List Byte), s.cfgUp = true ∧
      s.linkMsgs = (k, 0x2A, body) :: rest ∧ byteAt body 0 = i ∧ i < s.build.strands ∧ s.rowBoundary (field body 2 2 % 4096) =
      some row ∧ bit (byteAt body 4) 0 = false ∧ s.cal = none) ∧
    (∃ s : State, ∃ c : CalRun, ∃ first : List LaneMeas, s.cfgUp = true ∧ s.inj.armed = false ∧ s.cal = some c ∧ c.phase =
      .running ∧ s.fld 0x2000 6 5 = 1 ∧ s.fld 0x2000 8 7 ≠ 0 ∧ (first.filter s.short) = []) ∧
    (∃ s : State, ∃ c : CalRun, ∃ _ : List LaneMeas, s.cfgUp = true ∧ s.inj.armed = false ∧ s.cal = some c ∧ c.phase = .running ∧
      s.fld 0x2000 6 5 ≠ 0) ∧
    (∃ s : State, ∃ c : CalRun, s.cfgUp = true ∧ s.cal = some c ∧ c.phase = .pend ∧ s.fld 0x2000 8 7 = 2) ∧
    (∃ s : State, ∃ i : Nat, ∃ c : CalRun, ∃ _ : Bool, s.cfgUp = true ∧ i < s.build.strands ∧ s.inj.armed = false ∧ s.runOf i =
      some c ∧ c.phase = .verify ∧ c.own = 0) :=
  ⟨⟨(atStrand 15 { state := .crazed } up).setReg 0x2004 1, 15, by decide +kernel⟩,
   ⟨(atStrand 15 { service := true, state := .fired, dueAt := some 0 } up), 15, boundaryFrom 64, [], by decide +kernel⟩,
   ⟨rxAt 7 { cfg := { id := 7, cls := 1, setFirst := 15, setCount := 1 }, cls := 1 }
       (atStrand 15 { service := true, state := .fired, dueAt := some 0, waited := 64 } up), 15, boundaryFrom 64, [], by decide +kernel⟩,
   ⟨linked 0x2A (msg [(0, 1, 15)]) (up), 0, 15, 0, msg [(0, 1, 15)], [], by decide +kernel⟩,
   ⟨({ up with cal := some { strand := 15, row := 0, mine := true, phase := .running } }).setReg 0x2000 0xA0,
     { strand := 15, row := 0, mine := true, phase := .running }, [], by decide +kernel⟩,
   ⟨({ up with cal := some { strand := 15, row := 0, mine := true, phase := .running } }).setReg 0x2000 0x60,
     { strand := 15, row := 0, mine := true, phase := .running }, [], by decide +kernel⟩,
   ⟨({ up with cal := some { strand := 15, row := 0, mine := true, phase := .pend } }).setReg 0x2000 0x100,
     { strand := 15, row := 0, mine := true, phase := .pend }, by decide +kernel⟩,
   ⟨{ up with cal := some { strand := 15, row := 0, mine := true, phase := .verify } }, 15,
     { strand := 15, row := 0, mine := true, phase := .verify }, true, by decide +kernel⟩⟩

theorem witness_RepairAdvances :
    (∃ s : State, ∃ _ : List Byte, s.aonHeld = false ∧ s.inj.armed = false ∧ s.exch.got = false) ∧
    (∃ s : State, ∃ p : List Byte, s.aonHeld = false ∧ s.inj.armed = false ∧ bits (field p 0 2) 12 10 = 0 ∧ bits (field p 0 2) 7 0
      < s.build.strands ∧ s.exch.got = false ∧ s.exch.sum = true ∧ 0 < s.exch.left) ∧
    (∃ s : State, ∃ _ : List Byte, s.aonHeld = false ∧ s.inj.armed = false) ∧
    (∃ s : State, s.aonHeld = false ∧ s.presence.on = true ∧ s.exch.done = false ∧ s.exch.peerGot = false ∧ s.recordsUnread =
      false) ∧
    (∃ s : State, ∃ i : Nat, ∃ v : Svc, s.aonHeld = false ∧ i < s.build.strands ∧ (s.strand i).join = some v ∧ (s.strand i).leave
      = none ∧ v.side = true ∧ s.lclk < v.row) ∧
    (∃ s : State, ∃ i : Nat, ∃ r : Repair, ∃ _ : List Nat, s.cfgUp = true ∧ s.inj.armed = false ∧ i < s.build.strands ∧ (s.strand
      i).rep = some r ∧ r.mine = 1 ∧ r.swept = true ∧ r.skip = false) ∧
    (∃ s : State, ∃ i : Nat, ∃ r : Repair, ∃ _ : List Nat, ∃ g : Nat, s.cfgUp = true ∧ s.inj.armed = false ∧ i < s.build.strands ∧
      (s.strand i).rep = some r ∧ g ∈ r.fills ∧ (s.strand i).sub = .fill ∧ g < s.build.groups ∧ bit (s.strand i).rx.lost g = false) ∧
    (∃ s : State, ∃ i : Nat, ∃ r : Repair, ∃ _ : List Nat, s.cfgUp = true ∧ s.inj.armed = false ∧ i < s.build.strands ∧ (s.strand
      i).rep = some r ∧ s.inj.point ≠ 0x0C) :=
  ⟨⟨up, zeros 8, by decide +kernel⟩,
   ⟨{ up with exch := { sum := true, left := 1 } }, put 0 2 15 (zeros 8), by decide +kernel⟩,
   ⟨up, zeros 8, by decide +kernel⟩,
   ⟨{ up with presence := { on := true } }, by decide +kernel⟩,
   ⟨(atStrand 15 { join := some { row := 5, side := true } } up), 15, { row := 5, side := true }, by decide +kernel⟩,
   ⟨(atStrand 15 { rep := some { cause := .bist, mine := 1, swept := true, fills := [3] } } up), 15,
     { cause := .bist, mine := 1, swept := true, fills := [3] }, [], by decide +kernel⟩,
   ⟨(atStrand 15 { sub := .fill, rep := some { cause := .bist, mine := 2, peer := 2, swept := true, fills := [3] } } up), 15,
     { cause := .bist, mine := 2, peer := 2, swept := true, fills := [3] }, [], 3, by decide +kernel⟩,
   ⟨(atStrand 15 { rep := some { cause := .bist, mine := 1, swept := true, fills := [3] } } up), 15,
     { cause := .bist, mine := 1, swept := true, fills := [3] }, [], by decide +kernel⟩⟩

theorem witness_DiscoveryMessages :
    (∃ s : State, ∃ _ : List Byte, s.aonHeld = false) ∧
    (∃ s : State, ∃ _ : List Byte, s.aonHeld = false ∧ s.inj.armed = false) ∧
    (∃ s : State, ∃ k : Nat, ∃ b : List Byte, ∃ rest : List (Nat × Nat × List Byte), s.cfgUp = true ∧ s.inj.armed = false ∧
      s.linkMsgs = (k, 0x30, b) :: rest ∧ s.peerBlock = none ∧ s.attRequired = false ∧ s.disc.negFail = false ∧ bit (byteAt b 6) 2
      = (s.build.pers == .L) ∧ 2 ≤ byteAt b 2) ∧
    (∃ s : State, ∃ k : Nat, ∃ b : List Byte, ∃ rest : List (Nat × Nat × List Byte), s.cfgUp = true ∧ s.inj.armed = false ∧
      s.linkMsgs = (k, 0x30, b) :: rest ∧ s.peerBlock = some b) ∧
    (∃ s : State, ∃ k : Nat, ∃ body : List Byte, ∃ r : List Byte, ∃ rest : List (Nat × Nat × List Byte), s.cfgUp = true ∧
      s.inj.armed = false ∧ s.linkMsgs = (k, 0x31, body) :: rest ∧ s.record = some r ∧ s.disc.negFail = false ∧ field body 0 4 =
      crc32c r) ∧
    (∃ s : State, ∃ c : Nat, ∃ r : List Byte, s.cfgUp = true ∧ s.inj.fired = 0 ∧ s.record = some r ∧ s.disc.peerCrc = some c ∧ c ≠
      crc32c r ∧ s.negDone = false ∧ s.disc.negFail = false) ∧
    (∃ s : State, ∃ k : Nat, ∃ body : List Byte, ∃ x : List Byte, ∃ rest : List (Nat × Nat × List Byte), s.cfgUp = true ∧
      s.linkMsgs = (k, 0x32, body) :: rest ∧ s.peerBlock = some x) ∧
    (∃ s : State, ∃ k : Nat, ∃ body : List Byte, ∃ rest : List (Nat × Nat × List Byte), s.cfgUp = true ∧ s.inj.armed = false ∧
      s.linkMsgs = (k, 0x33, body) :: rest ∧ s.sag.nonce = some (body.take 16) ∧ s.attMac (s.fld 0x4000 5 3) (body.take 16)
      (s.peerBlock.getD []) s.dieId = some (slice body 16 32)) ∧
    (∃ s : State, ∃ k : Nat, ∃ body : List Byte, ∃ rest : List (Nat × Nat × List Byte), s.cfgUp = true ∧ s.inj.armed = false ∧
      s.linkMsgs = (k, 0x33, body) :: rest ∧ s.sag.nonce = some (body.take 16) ∧ s.attMac (s.fld 0x4000 5 3) (body.take 16)
      (s.peerBlock.getD []) s.dieId ≠ some (slice body 16 32)) ∧
    (∃ s : State, s.cfgUp = true ∧ s.sag.nonce ≠ none) ∧
    (∃ s : State, ∃ k : Nat, ∃ i : Nat, ∃ r : List Byte, ∃ rest : List (Nat × Nat × List Byte), s.cfgUp = true ∧ s.linkMsgs = (k,
      0x34, r) :: rest ∧ s.disc.topo.find? (fun p => topoKey p.2 == topoKey r) = none ∧ (List.range 64).find? (fun i => (lookupKey
      i s.disc.topo).isNone) = some i) ∧
    (∃ s : State, ∃ k : Nat, ∃ b : List Byte, ∃ rest : List (Nat × Nat × List Byte), s.cfgUp = true ∧ s.inj.armed = false ∧
      s.linkMsgs = (k, 0x35, b) :: rest) :=
  ⟨⟨up, zeros 6, by decide +kernel⟩,
   ⟨up, zeros 16, by decide +kernel⟩,
   ⟨linked 0x30 (msg [(2, 1, 2), (6, 1, 4)]) (up), 0, msg [(2, 1, 2), (6, 1, 4)], [], by decide +kernel⟩,
   ⟨linked 0x30 (msg [(2, 1, 2), (6, 1, 4)]) ({ up with peerBlock := some (msg [(2, 1, 2), (6, 1, 4)]) }), 0, msg [(2, 1, 2), (6,
     1, 4)], [], by decide +kernel⟩,
   ⟨linked 0x31 (toLe 4 (crc32c [1])) { up with record := some [1] }, 0, toLe 4 (crc32c [1]), [1], [], by decide +kernel⟩,
   ⟨{ up with record := some [1], disc := { peerCrc := some 5 } }, 5, [1], by decide +kernel⟩,
   ⟨linked 0x32 [] { up with peerBlock := some [] }, 0, [], [], [], by decide +kernel⟩,
   ⟨linked 0x33 (zeros 16 ++ hmacSha256 [1] (zeros 24)) { up with keys := [some [1]], sag := { nonce := some (zeros 16) } }, 0,
     zeros 16 ++ hmacSha256 [1] (zeros 24), [], by decide +kernel⟩,
   ⟨linked 0x33 (zeros 48) { up with sag := { nonce := some (zeros 16) } }, 0, zeros 48, [], by decide +kernel⟩,
   ⟨{ up with sag := { nonce := some (zeros 16) } }, by decide +kernel⟩,
   ⟨linked 0x34 (zeros 32) { up with disc := { topo := (List.range 63).map (fun i => (i, toLe 32 (i + 1))) } }, 0, 63, zeros 32,
     [], by decide +kernel⟩,
   ⟨linked 0x35 [] up, 0, [], [], by decide +kernel⟩⟩

theorem witness_SelfTestAndMemoryErrors :
    (∃ s : State, ∃ k : Nat, ∃ i : Nat, ∃ row : Nat, ∃ body : List Byte, ∃ rest : List (Nat × Nat × List Byte), s.cfgUp = true ∧
      s.linkMsgs = (k, 0x38, body) :: rest ∧ byteAt body 0 = i ∧ i < s.build.strands ∧ s.rowBoundary (field body 2 2 % 4096) =
      some row ∧ bit (byteAt body 1) 0 = false ∧ s.bist.slice = none) ∧
    (∃ s : State, ∃ i : Nat, ∃ _ : Nat, ∃ _ : List Nat, ∃ _ : Bool, ∃ c : Slice, s.cfgUp = true ∧ i < s.build.strands ∧
      s.bist.slice = some c ∧ c.strand = i ∧ c.phase = .segments) ∧
    (∃ s : State, ∃ i : Nat, ∃ _ : Nat, ∃ _ : List Nat, ∃ _ : Bool, ∃ f : FullRun, ∃ seg : Nat, s.cfgUp = true ∧ i <
      s.build.strands ∧ s.bist.slice = none ∧ s.bist.full = some f ∧ lookupKey i f.left = some seg ∧ f.running.contains i = true) ∧
    (∃ s : State, ∃ c : Slice, s.cfgUp = true ∧ s.bist.slice = some c ∧ c.phase = .restore) ∧
    (∃ s : State, ∃ f : FullRun, s.cfgUp = true ∧ s.bist.full = some f ∧ f.left = [] ∧ f.cones = [] ∧ f.fails = [] ∧ f.found = 0 ∧
      f.short = false) ∧
    (∃ s : State, ∃ memory : Nat, ∃ _ : Nat, ∃ _ : EccObject, s.cfgUp = true ∧ s.inj.armed = false ∧ memory < 8) ∧
    (∃ s : State, ∃ i : Nat, ∃ c : Slice, s.cfgUp = true ∧ s.inj.armed = false ∧ i < s.build.strands ∧ s.bist.slice = some c ∧
      c.strand = i ∧ c.phase = .segments) ∧
    (∃ s : State, ∃ memory : Nat, ∃ id : Nat, ∃ st : TxStream, ∃ p : TxParcel, ∃ rest : List TxParcel, s.cfgUp = true ∧
      s.inj.armed = false ∧ s.tx? id = some st ∧ memory < 4 ∧ st.queue = p :: rest ∧ p.started = true) ∧
    (∃ s : State, ∃ memory : Nat, ∃ id : Nat, ∃ st : TxStream, s.cfgUp = true ∧ s.inj.armed = false ∧ s.tx? id = some st ∧
      4 ≤ memory ∧ memory < 8 ∧ st.cfg.histScaled = false) ∧
    (∃ s : State, ∃ memory : Nat, s.cfgUp = true ∧ s.inj.armed = false ∧ 4 ≤ memory ∧ memory < 8) :=
  ⟨⟨linked 0x38 (msg [(0, 1, 15)]) (up), 0, 15, 0, msg [(0, 1, 15)], [], by decide +kernel⟩,
   ⟨{ up with bist := { slice := some { strand := 15, row := 0, mine := true, phase := .segments } } }, 15, 0, [], true,
     { strand := 15, row := 0, mine := true, phase := .segments }, by decide +kernel⟩,
   ⟨{ up with bist := { full := some { desc := 4, left := [(15, 1)] } } }, 15, 0, [], true, { desc := 4, left := [(15, 1)] }, 1,
     by decide +kernel⟩,
   ⟨{ up with bist := { slice := some { strand := 15, row := 0, mine := true, phase := .restore } } },
     { strand := 15, row := 0, mine := true, phase := .restore }, by decide +kernel⟩,
   ⟨{ up with bist := { full := some { desc := 4, left := [] } } }, { desc := 4, left := [] }, by decide +kernel⟩,
   ⟨up, 7, 0, .unused, by decide +kernel⟩,
   ⟨{ up with bist := { slice := some { strand := 15, row := 0, mine := true, phase := .segments } } }, 15,
     { strand := 15, row := 0, mine := true, phase := .segments }, by decide +kernel⟩,
   ⟨txOf { wTx with queue := [{ source := .host 0, started := true }] } up, 3, 7,
     { wTx with queue := [{ source := .host 0, started := true }] }, { source := .host 0, started := true }, [], by decide +kernel⟩,
   ⟨txOf wTx up, 4, 7, wTx, by decide +kernel⟩,
   ⟨up, 7, by decide +kernel⟩⟩

theorem witness_TestPortInstructions :
    (∃ s : State, s.build.testSide = .none) ∧
    (∃ s : State, s.build.testSide = .toward ∧ (s.resets.aon = true ∨ s.test.pass = false)) ∧
    (∃ s : State, ∃ p : TapPads, s.build.testSide = .toward ∧ s.resets.aon = false ∧ s.test.pass = true ∧ p.shift.isSome = true) ∧
    (∃ s : State, ∃ p : TapPads, p.shift = none ∨ s.resets.aon = true) ∧
    (∃ s : State, ∃ p : TapPads, ∃ b : Bool, p.shift = some b ∧ s.resets.aon = false ∧ s.test.pass = false) ∧
    (∃ toward : Bool, ∃ t : Test, toward = true ∧ t.pass = true) ∧
    (∃ s : State, s.aonHeld = false) ∧
    (∃ s : State, s.aonHeld = false ∧ s.flag 0x7004 1 = true ∧ s.flag 0x7004 0 = false) ∧
    (∃ s : State, s.aonHeld = false ∧ s.flag 0x7004 1 = false) ∧
    (∃ s : State, s.aonHeld = false ∧ s.flag 0x7004 0 = true) :=
  ⟨⟨upOf { tb with testSide := .none }, by decide +kernel⟩,
   ⟨upOf { tb with testSide := .toward }, by decide +kernel⟩,
   ⟨chained, pads (some true), by decide +kernel⟩,
   ⟨up, pads none, by decide +kernel⟩,
   ⟨up, pads (some true), true, by decide +kernel⟩,
   ⟨true, { pass := true }, by decide +kernel⟩,
   ⟨up, by decide +kernel⟩,
   ⟨up.setReg 0x7004 2, by decide +kernel⟩,
   ⟨up, by decide +kernel⟩,
   ⟨up.setReg 0x7004 1, by decide +kernel⟩⟩

theorem witness_WashStartsAndEnds :
    (∃ s : State, s.aonHeld = false ∧ s.cfgHeld = false ∧ s.test.wash = none) ∧
    (∃ s : State, ∃ w : Wash, s.aonHeld = false ∧ s.cfgHeld = false ∧ s.test.wash = some w) ∧
    (∃ s : State, s.aonHeld = false ∧ s.cfgHeld = true ∧ s.test.held = true ∧ s.test.wash = none) ∧
    (∃ s : State, ∃ p : Nat, ∃ e : List Byte, s.cfgUp = true ∧ s.nextEntry = some (p, e) ∧ byteAt e 0 = 0x61 ∧ reservedByte 0
      headerMask e = none ∧ s.test.wash = none) ∧
    (∃ s : State, ∃ p : Nat, ∃ e : List Byte, ∃ w : Wash, s.cfgUp = true ∧ s.nextEntry = some (p, e) ∧ byteAt e 0 = 0x61 ∧
      reservedByte 0 headerMask e = none ∧ s.test.wash = some w) ∧
    (∃ s : State, ∃ d : Word, s.aonHeld = false ∧ d.getLsbD 0 = false) ∧
    (∃ s : State, ∃ w : Wash, s.aonHeld = false ∧ s.test.wash = some w ∧ w.waiting = true) ∧
    (∃ s : State, ∃ w : Wash, s.aonHeld = false ∧ s.test.wash = some w ∧ w.waiting = true ∧ s.washWaits = true) ∧
    (∃ s : State, ∃ w : Wash, s.aonHeld = false ∧ s.test.wash = some w ∧ s.washUp w = false) ∧
    (∀ lost, ∃ s : State, ∃ w : Wash, s.aonHeld = false ∧ s.test.wash = some w ∧ (w.waiting = false ∨ s.washWaits = false) ∧
      s.washUp w = true ∧ w.lost = lost) :=
  ⟨⟨up, by decide +kernel⟩,
   ⟨{ up with test := { wash := some { began := 0 } } }, { began := 0 }, by decide +kernel⟩,
   ⟨{ up with resets := ⟨false, true, false, false⟩, test := { held := true } }, by decide +kernel⟩,
   ⟨offer (ent 0x61 []) (up), 1, ent 0x61 [], by decide +kernel⟩,
   ⟨offer (ent 0x61 []) ({ up with test := { wash := some { began := 0 } } }), 1, ent 0x61 [], { began := 0 }, by decide +kernel⟩,
   ⟨up, 0, by decide +kernel⟩,
   ⟨{ up with test := { wash := some { began := 0 } } }, { began := 0 }, by decide +kernel⟩,
   ⟨{ up with test := { wash := some { began := 0, owed := [4] } }, descs := [{ id := 4, pair := 63, entry := ent 0 [], written := true }] },
     { began := 0, owed := [4] }, by decide +kernel⟩,
   ⟨{ up with pdAck := 0, test := { wash := some { began := 0 } } }, { began := 0 }, by decide +kernel⟩,
   fun lost => ⟨{ up with test := { wash := some { began := 0, lost := lost } } }, { began := 0, lost := lost },
     by cases lost <;> decide +kernel⟩⟩

theorem witness_StepRunsTheFrontCommand :
    (∃ s : State, ∃ c : Instr, ∃ cs : List Instr, s.pending = c :: cs) ∧
    (∃ s : State, s.pending = [] ∧ s.resets.aon = true) ∧
    (∃ s : State, s.pending = [] ∧ s.resets.aon = false ∧ s.phase < 4) ∧
    (∃ s : State, s.pending = [] ∧ s.resets.aon = false ∧ 4 ≤ s.phase) :=
  ⟨⟨{ up with pending := [.nop] }, .nop, [], by decide +kernel⟩,
   ⟨State.reset, by decide +kernel⟩,
   ⟨{ up with phase := 3 }, by decide +kernel⟩,
   ⟨{ up with phase := 4 }, by decide +kernel⟩⟩

theorem witness_EveryStepKeepsIrqDriven :
    ∃ s : State, ∃ t : State, s.IrqDriven ∧ step s = .next t :=
  ⟨State.reset, State.reset, ⟨by unfold State.IrqDriven; decide +kernel, rfl⟩⟩

theorem witness_WellFormedCommandsComplete :
    (∃ c : Instr, ∃ s : State, wellFormed s.build c = true) ∧
    (∃ c : Instr, ∃ s : State, ∃ t : State, exec c s = .next t) ∧
    (∃ c : Instr, ∃ s : State, ∃ f : Fault, exec c s = .fault f) :=
  ⟨⟨.nop, up, by decide +kernel⟩,
   ⟨.rstAonNAssert, up, _, rfl⟩,
   ⟨.registerWrite 0x10000 0, up, .absentUnit, rfl⟩⟩

theorem witness_SettlingKeeps :
    (∃ s : State, ∃ u : State, ∃ t : State, (t = s.finish u ∨ t = s.finishLight u)) ∧
    (∃ _ : State, ∃ u : State, u.raised = [] ∧ u.events = []) :=
  ⟨⟨up, up, up.finish up, .inl rfl⟩,
   ⟨up, up, by decide +kernel⟩⟩

theorem witness_FlitsCarryTheirFields :
    (∃ body : List Byte, ∃ seq : Nat, ∃ ack : Nat, ∃ type : Nat, body.length = 248 ∧ seq < 4096 ∧ ack < 4096 ∧ type < 4) ∧
    (∃ f : FlitOut, ∃ stream : Nat, ∃ cells : Nat, ∃ pairs : Nat, ∃ row : Nat, ∃ b : List Byte, f.type < 16 ∧ f.cls < 8 ∧ f.stream
      < 4096 ∧ f.payload.length ≤ 240 ∧ stream < 4096 ∧ cells < 128 ∧ pairs < 4 ∧ row < 4096 ∧ b = flitBody f (some (stream,
      cells, pairs)) row) :=
  ⟨⟨zeros 248, 4095, 4095, 3, by decide +kernel⟩,
   ⟨{ type := 15, cls := 7, stream := 4095, payload := zeros 240 }, 4095, 127, 3, 4095, flitBody
     { type := 15, cls := 7, stream := 4095, payload := zeros 240 } (some (4095, 127, 3)) 4095, by decide +kernel⟩⟩

theorem witness_RegionsDecodeToWhatWasPacked :
    ∃ mode : Nat, ∃ f : Nat, ∃ es : List Elem, mode ≤ 3 ∧ f ≤ 0xD ∧ (∀ p ∈ es, p.1 < 256 ∧ p.2 < 2 ^ elemBits f ∧ (isMx f = false
      → p.1 = 0)) ∧ (∀ i, i < es.length → (es.getD i (0, 0)).1 = (es.getD (i / 32 * 32) (0, 0)).1) ∧ (mode = 2 → s24Eligible es =
      true) :=
  ⟨2, 0xD, List.replicate 32 (0, 0), by decide +kernel⟩

theorem witness_LoggedCodesMakeOrUpdateRecords :
    (∃ s : State, ∃ g : Logged, ∃ r : Raised, g.state = s ∧ r.code < 0x1000) ∧
    (∃ s : State, ∃ g : Logged, ∃ r : Raised, ∃ i : Nat, ∃ old : KilnRecord, g.state = s ∧ r.code < 0x1000 ∧ s.cfgUp = true ∧
      s.kiln.find r = some (i, old)) ∧
    (∃ s : State, ∃ g : Logged, ∃ r : Raised, ∃ i : Nat, g.state = s ∧ r.code < 0x1000 ∧ s.cfgUp = true ∧ s.kiln.find r = none ∧ i
      < 64 ∧ lookupKey i s.kiln.records = none ∧ (∀ j < i, (lookupKey j s.kiln.records).isSome = true)) :=
  ⟨⟨up, ⟨up, [], []⟩, { code := 0xFFF, unit := 0 }, ⟨rfl, by decide +kernel⟩⟩,
   ⟨{ up with kiln := { records := [(63, { code := 0x101, unit := 0, first := 0, last := 0, seq := 0 })] } },
     ⟨{ up with kiln := { records := [(63, { code := 0x101, unit := 0, first := 0, last := 0, seq := 0 })] } }, [], []⟩,
     { code := 0x101, unit := 0, data := 0 }, 63, { code := 0x101, unit := 0, first := 0, last := 0, seq := 0 }, ⟨rfl,
     by decide +kernel⟩⟩,
   ⟨{ up with kiln := { records := (List.range 63).map (fun i => (i, { code := 0x200, unit := i, first := 0, last := 0, seq := 0 })) } },
     ⟨{ up with kiln := { records := (List.range 63).map (fun i => (i, { code := 0x200, unit := i, first := 0, last := 0, seq := 0 })) } },
     [], []⟩, { code := 0x101, unit := 0, data := 0 }, 63, ⟨rfl, by decide +kernel⟩⟩⟩
end Sys2Proof.Tests
end

/-! # Proofs: how a command ends, and the canonical register file

The ways a command can end are said once (`Ends`, `exec_ends`); that every step keeps the register file canonical follows from them. -/

namespace Sys2Proof.Machine

/-! ## How a command ends -/

/-- What a frame boundary leaves of the state it has settled in: escalations are counted anew (R552). -/
def State.recount (t : State) : State := { t with kiln := { t.kiln with frameEsc := 0 } }

theorem State.recount_wf {t : State} (h : t.RegsWf) : t.recount.RegsWf := h

/-- The ways a command that begins in `s` can end: all its work settles, or none but its own; a frame boundary recounts escalations
besides; and a unit that the build lacks is a fault (log entry 5). -/
inductive Ends (s : State) : Host.Outcome State Fault Refusal → Prop
  | finish (u : State) : Ends s (.next (s.start.finish u))
  | light (u : State) : Ends s (.next (s.start.finishLight u))
  | boundary (u : State) : Ends s (.next (s.start.finish u).recount)
  | absent : Ends s (.fault .absentUnit)

theorem Ends.named {s : State} {r : Host.Outcome State Fault Refusal} (n i : Nat) (h : Ends s r) : Ends s (named n i r) := by
  unfold Machine.named
  split
  · exact h
  · exact .absent

theorem Ends.access {s : State} {r : Host.Outcome State Fault Refusal} (off : Nat) (h : Ends s r) : Ends s (access off r) := by
  unfold Machine.access
  split
  · exact h.named _ _
  · exact .absent

/-- Every command ends in one of these ways. The cases stand by the wrapper through which the command's meaning runs. -/
theorem exec_ends (c : Instr) (s : State) : Ends s (exec c s) := by
  cases c with
  | rstAonNAssert | rstAonNRelease | rstCfgNAssert | rstCfgNRelease | rstLinkNAssert | rstLinkNRelease | rstCoreNAssert
  | rstCoreNRelease | pwrWarnRise | pwrWarnFall | brownoutFlushTimeout | lclkLockLoss | lclkLockSettled | memRdData | memWack
  | hmReadDone | completionAck | hmWriteAck | nvResponse | stopFetch | holdI | fence | stationName | streamOpen | streamClose
  | streamModify | parcelSend | shelfOpen | shelfOpenTimeout | versionCommit | versionRelease | skewRelease | drawStart | drawAck
  | restore | accumOpen | scaleSave | scaleLoad | dispatchLoad | calRequest | bistSlice | bistFull | repairCmd | logDrain | keyLoad
  | wash | openRequest | openAnswer | closeMessage | closeAnswer | modifyMessage | demoteMessage | flitSlot | xreplay
  | serviceMessage | mergeRelease | parcelHeadReceive | parcelBodyReceive | passReceive | chunkOk | chunkBad | drawAckTimeout
  | relMinWrite | capEnWrite | fReleaseRow | fwdClkStop | presenceWindow | termEnWrite | linkReady | bqStep | bisqueStart
  | bisqueStepDone | bisqueTimeout | bisqueRestart | bisqueFlitSlot | timeMessage | timeAdjust | stepMessage | vrefEye | calSchedule
  | calMessage | calRunDone | calBudgetTimeout | calIdleApply | repairSum | repairRec | repairSvc | earlyId | identMessage
  | agreeMessage | agreeTimeout | attChal | attResp | attTimeout | pkgMessage | postWrite | topoClr | reneg | dieKindWrite | pkgWrite
  | attRetry | saggarLock | pulseFrame | pulseWindowEnd | partnerAbsent | downWrite | pdOffRequest | parkRequest | mmClr
  | testMessage | bistSliceEnd | bistFullDone | logFree | logFreeAll | injUnlock | injArm | tapWash | washStart | washRelease
  | washAckWaitEnd | washDone => exact .finish _
  | pdAckRise | pdAckFall | pdAckLost | stIBeat | stOBeat | popRequest | ptIBeat | ptOBeat | ringEnable | ringDisable
  | versionCommitApply | openTimeout | flitAccept | replaySlot | ackTimeout | sourceScatter | holdExpired | sourceCombine
  | fwdClkLane | vldLaneFail | wedgeStart | wedgeStepDone | wedgeFailTimeout | calVerifyDone | repairSweepDone | fillDone
  | fillTimeout | repairTimeout | parkStart | groupWake | coneRefDone | bistSegmentDone | eccError | phyPllLock =>
    exact Ends.named _ _ (.finish _)
  | hmWatch | heatInFrame | heatInStale | fcountLoRead | nop | badOpcode | credFlitDue | sbFrameDiscard | linkReadySend | timeWait
  | repairSumResend | earlyIdSend | topoMessage | pulseStart | coneSample | injUnlockLapse | tapTrstN | extest | idcode | sample
  | pcfg | scan | bypass | bqStepRepeat | testLogicReset => exact .light _
  | doorbellReadDone | submissionFetchDone | ringPoll | irqModTimeout | encoderIdleEnd | lookaheadGrant | lookaheadDone
  | queueStall | trkDrift | calIntervalDue | stepRepeat | repairSvcRepeat => exact Ends.named _ _ (.light _)
  | registerWrite => exact Ends.access _ (.finish _)
  | shadowLoRead => exact Ends.access _ (.light _)
  | frameBoundary => exact .boundary _

/-- However a command ends, it leaves the register file canonical. -/
theorem Ends.regsWf {s t : State} (h : Ends s (.next t)) : t.RegsWf := by
  generalize ho : Host.Outcome.next t = o at h
  cases h with
  | finish u => rw [Host.Outcome.next.inj ho]; exact State.finish_wf _ u
  | light u => rw [Host.Outcome.next.inj ho]; exact State.finishLight_wf _ u
  | boundary u => rw [Host.Outcome.next.inj ho]; exact State.recount_wf (State.finish_wf _ u)
  | absent => cases ho

/-! ## One step -/

theorem step_of_cons {s : State} {c : Instr} {cs : List Instr} (h : s.pending = c :: cs) :
    step s = exec c { s with pending := cs } := by
  simp [step, h]

theorem step_of_nil {s : State} (h : s.pending = []) : step s = .next (idle s) := by
  simp [step, h]

theorem idle_of_aon {s : State} (h : s.resets.aon = true) : idle s = s := by
  simp [idle, h]

theorem idle_of_running {s : State} (h : s.resets.aon = false) : idle s = s.passLclk := by
  simp [idle, h]

theorem State.passLclk_wf {s : State} (h : s.RegsWf) : s.passLclk.RegsWf := by
  unfold State.passLclk
  split <;> exact h

theorem idle_wf {s : State} (h : s.RegsWf) : (idle s).RegsWf := by
  unfold idle
  split
  · exact h
  · exact State.passLclk_wf h

/-- Every step keeps the register file canonical. -/
theorem step_keeps_regsWf {s t : State} (h : s.RegsWf) (hstep : step s = .next t) : t.RegsWf := by
  cases hp : s.pending with
  | nil =>
    rw [step_of_nil hp] at hstep
    cases hstep
    exact idle_wf h
  | cons c cs =>
    have hends := exec_ends c { s with pending := cs }
    rw [← step_of_cons hp, hstep] at hends
    exact hends.regsWf

/-! ## Canonical register files are equal where their registers are -/

/-- A list of pairs with rising keys holds a pair exactly where its lookup finds it. -/
theorem Rising.mem_iff_lookupKey {β : Type} {l : List (Nat × β)} (h : Rising l) (p : Nat × β) :
    p ∈ l ↔ lookupKey p.1 l = some p.2 := by
  induction l with
  | nil => simp [lookupKey]
  | cons q l ih =>
    obtain ⟨hq, hl⟩ := List.pairwise_cons.mp h
    by_cases hk : q.1 = p.1
    · have hp : p ∉ l := fun hp => by have := hq p hp; omega
      simp [lookupKey, hk, hp, Prod.ext_iff, eq_comm]
    · have hne : p ≠ q := fun e => hk (by rw [e])
      simp [lookupKey, hk, hne, ih hl]

theorem Rising.nodup {β : Type} {l : List (Nat × β)} (h : Rising l) : l.Nodup :=
  List.Pairwise.imp (fun hab e => by rw [e] at hab; omega) h

/-- Lists of pairs with rising keys and the same pairs are the same list. -/
theorem Rising.eq_of_mem_iff {β : Type} {l m : List (Nat × β)} (hl : Rising l) (hm : Rising m) (h : ∀ p, p ∈ l ↔ p ∈ m) :
    l = m := by
  have hperm : l.Perm m := (List.perm_ext_iff_of_nodup hl.nodup hm.nodup).mpr h
  exact hperm.eq_of_pairwise (fun a b _ _ hab hba => absurd hab (by omega)) hl hm

/-- A canonical register file lists a register exactly where it holds the word and the word is not its reset value. -/
theorem State.RegsWf.mem_iff {s : State} (h : s.RegsWf) (p : Nat × Word) :
    p ∈ s.regs ↔ s.reg p.1 = p.2 ∧ p.2 ≠ regReset s.build s.role p.1 := by
  obtain ⟨hrise, hreset⟩ := h
  constructor
  · intro hp
    have hlook := (hrise.mem_iff_lookupKey p).mp hp
    exact ⟨by simp [State.reg, hlook], hreset p hp⟩
  · rintro ⟨hreg, hne⟩
    refine (hrise.mem_iff_lookupKey p).mpr ?_
    cases hlook : lookupKey p.1 s.regs with
    | none => exact absurd (by simpa [State.reg, hlook] using hreg.symm) hne
    | some w => simpa [State.reg, hlook] using hreg

/-- States that differ in their register files at most, both canonical, are equal where all registers read the same. -/
theorem State.RegsWf.eq_of_reg_eq {s t : State} (hs : s.RegsWf) (ht : t.RegsWf) (hframe : t = { s with regs := t.regs })
    (hreg : ∀ o, t.reg o = s.reg o) : t = s := by
  have hbuild : t.build = s.build := by rw [hframe]
  have hrole : t.role = s.role := by rw [hframe]; rfl
  have hregs : t.regs = s.regs := ht.1.eq_of_mem_iff hs.1 fun p => by
    rw [ht.mem_iff, hs.mem_iff, hreg, hbuild, hrole]
  rw [hframe, hregs]

/-- Settles O17: every way a command can end leaves a canonical register file, and a canonical file is determined by what its
registers read. -/
theorem registerFileIsCanonical : Obligations.RegisterFileIsCanonical := by
  unfold Obligations.RegisterFileIsCanonical
  refine ⟨fun s t => step_keeps_regsWf, fun s off w hs => ⟨?_, ?_, ?_, ?_⟩⟩
  · exact s.reg_setReg_same off w
  · exact fun o => s.reg_setReg_other off o w
  · exact s.setReg_wf off w hs
  · exact fun t hframe ht hreg => hs.eq_of_reg_eq ht hframe hreg

end Sys2Proof.Machine

/-! # Proofs: what a write to a register stores -/

namespace Sys2Proof.Machine

/-! ## Disjoint masks -/

/-- Numbers without a common bit add without a carry. -/
theorem add_eq_or_of_and_eq_zero {a b : Nat} (h : a &&& b = 0) : a + b = a ||| b := by
  have hlt : a < 2 ^ (a + b) ∧ b < 2 ^ (a + b) := by
    have := Nat.lt_two_pow_self (n := a + b)
    omega
  obtain ⟨ha, hb⟩ := hlt
  have hx : (BitVec.ofNat (a + b) a).toNat = a := Nat.mod_eq_of_lt ha
  have hy : (BitVec.ofNat (a + b) b).toNat = b := Nat.mod_eq_of_lt hb
  have hand : BitVec.ofNat (a + b) a &&& BitVec.ofNat (a + b) b = 0#(a + b) := by
    rw [← BitVec.ofNat_and, h]
  have hadd := congrArg BitVec.toNat (BitVec.add_eq_or_of_and_eq_zero _ _ hand)
  rwa [BitVec.toNat_add_of_and_eq_zero hand, BitVec.toNat_or, hx, hy] at hadd

/-- Taking the bits of a mask out of a number that has them all clears them. -/
theorem sub_eq_ldiff_of_and_eq {a b : Nat} (h : a &&& b = b) : a - b = Nat.ldiff a b := by
  have hdisj : Nat.ldiff a b &&& b = 0 := Nat.eq_of_testBit_eq fun i => by simp [Nat.testBit_ldiff]
  have hor : Nat.ldiff a b ||| b = a := Nat.eq_of_testBit_eq fun i => by
    have hi := congrArg (Nat.testBit · i) h
    simp only [Nat.testBit_and] at hi
    simp only [Nat.testBit_or, Nat.testBit_ldiff]
    cases ha : a.testBit i <;> simp_all
  have hsum : Nat.ldiff a b + b = a := by rw [add_eq_or_of_and_eq_zero hdisj, hor]
  omega

/-! ## What a write stores (R7) -/

/-- The access masks of a register are 32 bits wide, and no bit is both RW and RW1C. -/
def RegRow.MasksOk (row : RegRow) : Prop := row.rw < 2 ^ 32 ∧ row.w1c < 2 ^ 32 ∧ row.rw &&& row.w1c = 0

/-- The bits of a register that are neither RW nor RW1C. -/
theorem RegRow.MasksOk.testBit_rest {row : RegRow} (h : row.MasksOk) (i : Nat) :
    (0xFFFFFFFF - row.rw - row.w1c).testBit i = (decide (i < 32) && !row.rw.testBit i && !row.w1c.testBit i) := by
  obtain ⟨hrw, hw1c, hdisj⟩ := h
  have hor : row.rw ||| row.w1c < 2 ^ 32 := Nat.or_lt_two_pow hrw hw1c
  have hsum : 0xFFFFFFFF - row.rw - row.w1c = 2 ^ 32 - ((row.rw ||| row.w1c) + 1) := by
    rw [← add_eq_or_of_and_eq_zero hdisj]; omega
  rw [hsum, Nat.testBit_two_pow_sub_succ hor]
  simp [Bool.and_assoc]

/-- The RW1C bits of a register that are not written 1. -/
theorem testBit_sub_and (w1c data i : Nat) : (w1c - (w1c &&& data)).testBit i = (w1c.testBit i && !data.testBit i) := by
  rw [sub_eq_ldiff_of_and_eq (by rw [← Nat.and_assoc, Nat.and_self]), Nat.testBit_ldiff, Nat.testBit_and]
  cases w1c.testBit i <;> simp

/-- The stored word, bit by bit: the data where the bit is RW, and elsewhere the old bit unless it is RW1C and written 1 (R7). -/
theorem RegRow.MasksOk.testBit_writtenWord {row : RegRow} (h : row.MasksOk) (old data : Nat) {i : Nat} (hi : i < 32) :
    (writtenWord row old data).testBit i =
      if row.rw.testBit i then data.testBit i else old.testBit i && !(row.w1c.testBit i && data.testBit i) := by
  have hdisj (j : Nat) : (row.rw.testBit j && row.w1c.testBit j) = false := by
    rw [← Nat.testBit_and, h.2.2, Nat.zero_testBit]
  have hfirst : (old &&& (0xFFFFFFFF - row.rw - row.w1c)) &&& (data &&& row.rw) = 0 := Nat.eq_of_testBit_eq fun j => by
    simp only [Nat.testBit_and, h.testBit_rest, Nat.zero_testBit]
    cases row.rw.testBit j <;> simp
  have hsecond : ((old &&& (0xFFFFFFFF - row.rw - row.w1c)) ||| (data &&& row.rw)) &&&
      (old &&& (row.w1c - (row.w1c &&& data))) = 0 := Nat.eq_of_testBit_eq fun j => by
    have hj := hdisj j
    simp only [Nat.testBit_and, Nat.testBit_or, h.testBit_rest, testBit_sub_and, Nat.zero_testBit]
    cases hr : row.rw.testBit j <;> cases hw : row.w1c.testBit j <;> simp_all
  have hbit := hdisj i
  rw [writtenWord, add_eq_or_of_and_eq_zero hfirst, add_eq_or_of_and_eq_zero hsecond]
  simp only [Nat.testBit_or, Nat.testBit_and, h.testBit_rest, testBit_sub_and, hi]
  cases hr : row.rw.testBit i <;> cases hw : row.w1c.testBit i <;> simp_all

/-- Every row of a table has sound masks, so every register found in it has. -/
theorem tableRow_masksOk {t : List (Nat × Nat × Nat × Nat)}
    (ht : ∀ r ∈ t, r.2.1 < 2 ^ 32 ∧ r.2.2.1 < 2 ^ 32 ∧ r.2.1 &&& r.2.2.1 = 0) {off : Nat} {row : RegRow}
    (h : tableRow t off = some row) : row.MasksOk := by
  obtain ⟨r, hr, rfl⟩ := Option.map_eq_some_iff.mp h
  exact ht r (List.mem_of_find?_eq_some hr)

theorem regTable_masksOk : ∀ r ∈ regTable, r.2.1 < 2 ^ 32 ∧ r.2.2.1 < 2 ^ 32 ∧ r.2.1 &&& r.2.2.1 = 0 := by decide

theorem sagTable_masksOk : ∀ r ∈ sagTable, r.2.1 < 2 ^ 32 ∧ r.2.2.1 < 2 ^ 32 ∧ r.2.1 &&& r.2.2.1 = 0 := by decide

/-- A stored register, if there is one, has sound masks. -/
def MasksIn (o : Option RegRow) : Prop := ∀ row, o = some row → row.MasksOk

theorem masksIn_none : MasksIn none := fun _ h => nomatch h

theorem masksIn_some {rw w1c reset : Nat} (hrw : rw < 2 ^ 32) (hw1c : w1c < 2 ^ 32) (hdisj : rw &&& w1c = 0) :
    MasksIn (some ⟨rw, w1c, reset⟩) := fun _ e => Option.some.inj e ▸ ⟨hrw, hw1c, hdisj⟩

/-- A register without RW1C bits has sound masks where its RW mask fits. -/
theorem masksIn_rw {rw reset : Nat} (h : rw < 2 ^ 32) : MasksIn (some ⟨rw, 0, reset⟩) :=
  masksIn_some h (Nat.two_pow_pos 32) (Nat.and_zero rw)

theorem masksIn_ite {c : Prop} [Decidable c] {x y : Option RegRow} (hx : MasksIn x) (hy : MasksIn y) :
    MasksIn (if c then x else y) := by
  split
  · exact hx
  · exact hy

/-- The masks of every stored register are sound (R607): one case for each region of the window. -/
theorem regRow_masksIn (b : Build) (role : Role) (off : Nat) : MasksIn (regRow b role off) := by
  unfold regRow
  refine masksIn_ite ?ring <| masksIn_ite ?cone <| masksIn_ite ?calCtl <| masksIn_ite ?phyCtl <| masksIn_ite ?discCtl <|
    masksIn_ite ?dieId <| masksIn_ite ?scratch <| masksIn_ite ?saggar ?single
  case ring =>
    exact masksIn_ite (masksIn_rw (by split <;> decide)) <| masksIn_ite (masksIn_rw (by split <;> decide)) <|
      masksIn_ite (masksIn_rw (by decide)) <| masksIn_ite (masksIn_rw (by decide)) <| masksIn_ite (masksIn_rw (by decide)) <|
      masksIn_ite (masksIn_rw (by decide)) masksIn_none
  case cone =>
    exact masksIn_ite masksIn_none <| masksIn_ite (masksIn_rw (by decide)) <|
      masksIn_ite (masksIn_some (by decide) (by decide) (by decide)) masksIn_none
  case calCtl => exact masksIn_rw (by decide)
  case phyCtl => exact masksIn_rw (by split <;> decide)
  case discCtl => exact masksIn_rw (by decide)
  case dieId => exact masksIn_ite (masksIn_rw (by decide)) masksIn_none
  case scratch => exact masksIn_ite (masksIn_rw (by decide)) masksIn_none
  case saggar =>
    refine masksIn_ite masksIn_none <| masksIn_ite ?_ fun _ => tableRow_masksOk sagTable_masksOk
    exact masksIn_ite (masksIn_rw (by decide)) <| masksIn_ite (masksIn_rw (by decide)) <|
      masksIn_ite (masksIn_rw (by decide)) masksIn_none
  case single => exact fun _ => tableRow_masksOk regTable_masksOk

/-! ## A write to a stored register -/

theorem State.plainWrite_stored {s : State} {off : Nat} {row : RegRow} (h : regRow s.build s.role off = some row) (d : Word) :
    s.plainWrite off d = s.setReg off (BitVec.ofNat 32 (writtenWord row (s.regN off) (writeRule off (s.regN off) d.toNat))) := by
  simp [State.plainWrite, h]

/-- Storing a word changes the register file alone. -/
theorem State.setReg_frame (s : State) (off : Nat) (w : Word) : s.setReg off w = { s with regs := (s.setReg off w).regs } := rfl

/-- A bit of a word just stored. -/
theorem State.flag_setReg_same (s : State) (off v : Nat) {i : Nat} (hi : i < 32) :
    (s.setReg off (BitVec.ofNat 32 v)).flag off i = v.testBit i := by
  rw [State.flag, State.reg_setReg_same, BitVec.getLsbD_ofNat]
  simp [hi]

/-- Settles O16: the stored word is `writtenWord` of the register's row, whose masks are disjoint, so each bit of it follows its own
access code. -/
theorem registerWriteFollowsAccessCodes : Obligations.RegisterWriteFollowsAccessCodes := by
  unfold Obligations.RegisterWriteFollowsAccessCodes
  intro s off d row hrow
  have hmasks : row.MasksOk := regRow_masksIn _ _ _ row hrow
  rw [State.plainWrite_stored hrow]
  refine ⟨fun i hi => ?_, fun o => s.reg_setReg_other off o _, s.setReg_frame off _⟩
  rw [s.flag_setReg_same off _ hi, hmasks.testBit_writtenWord _ _ hi]
  rfl

/-! ## Registers whose writes have no behaviour -/

/-- The single registers a write of which does more than store (`State.writeReg`). -/
def behavedOffsets : List Nat := [0x100, 0x27C0, 0x3200, 0x3814, 0x3C00, 0x3C04, 0x4800, 0x5800, 0x6010, 0x6040, 0x6400, 0x640C, 0x7000]

/-- Outside those, the ring pairs and the Saggar, a write only stores. -/
theorem State.writeReg_plain (s : State) {off : Nat} (d : Word) (single : off ∉ behavedOffsets) (ring : ¬(0x400 ≤ off ∧ off < 0xC00))
    (saggar : ¬(0x4000 ≤ off ∧ off < 0x4800)) : s.writeReg off d = s.plainWrite off d := by
  simp only [behavedOffsets, List.mem_cons, List.not_mem_nil, or_false, not_or] at single
  simp only [State.writeReg, single, ring, saggar, if_false]

/-- Settles O19: none of these offsets is among those whose writes behave. -/
theorem plainRegistersOnlyStore : Obligations.PlainRegistersOnlyStore := by
  unfold Obligations.PlainRegistersOnlyStore
  intro s d off hoff
  have hplain : off ∉ behavedOffsets ∧ ¬(0x400 ≤ off ∧ off < 0xC00) ∧ ¬(0x4000 ≤ off ∧ off < 0x4800) := by
    revert off
    decide
  obtain ⟨single, ring, saggar⟩ := hplain
  exact s.writeReg_plain d single ring saggar

end Sys2Proof.Machine

/-! # Proofs: entries that are turned away, one step, and the reset state -/

namespace Sys2Proof.Machine

/-! ## What the acceptance engine does with an entry (R249, R9, R10, R578, R580) -/

section
variable {s : State} {pair : Nat} {e : List Byte} {accepts : Nat → Bool} (mask : List Nat) (run_ : Nat → List Byte → State → State)
  (hnext : s.nextEntry = some (pair, e)) (hacc : accepts (byteAt e 0) = true)
include hnext hacc

/-- A key wash in progress aborts every entry but a WASH. -/
theorem State.accept_aborted (hbusy : s.flag 0x7004 0 = true) (hop : byteAt e 0 ≠ 0x61) :
    s.accept accepts mask run_ = (s.takeEntry pair e).complete s.nextDesc 0x60 := by
  simp [State.accept, hnext, hacc, hbusy, hop]

/-- A washed block fences the assigned opcodes but a few. -/
theorem State.accept_fenced (hbusy : s.flag 0x7004 0 = false) (hwashed : s.flag 0x7004 1 = true)
    (hop : opcodes.contains (byteAt e 0) = true) (hnot : washedOpcodes.contains (byteAt e 0) = false) :
    s.accept accepts mask run_ = (s.takeEntry pair e).complete s.nextDesc 0x22 := by
  simp only [State.accept, hnext, hacc, hbusy, hwashed, hop, hnot]
  rfl

variable (hbusy : s.flag 0x7004 0 = false) (hwashed : s.flag 0x7004 1 = false)
include hbusy hwashed

/-- An unassigned opcode completes with BAD_OPCODE. -/
theorem State.accept_badOpcode (hop : opcodes.contains (byteAt e 0) = false) :
    s.accept accepts mask run_ = (s.takeEntry pair e).complete s.nextDesc 0x10 := by
  simp only [State.accept, hnext, hacc, hbusy, hwashed, hop]
  rfl

/-- A reserved bit of an assigned opcode's entry completes it with BAD_FIELD. -/
theorem State.accept_badField {off : Nat} (hop : opcodes.contains (byteAt e 0) = true)
    (hres : reservedByte 0 (headerMask ++ mask) e = some off) :
    s.accept accepts mask run_ = (s.takeEntry pair e).complete s.nextDesc 0x11 [] off := by
  simp only [State.accept, hnext, hacc, hbusy, hwashed, hop, hres]
  rfl

/-- An entry that nothing turns away begins. -/
theorem State.accept_runs (hop : opcodes.contains (byteAt e 0) = true) (hres : reservedByte 0 (headerMask ++ mask) e = none) :
    s.accept accepts mask run_ = run_ s.nextDesc e (s.takeEntry pair e) := by
  simp only [State.accept, hnext, hacc, hbusy, hwashed, hop, hres]
  rfl

end

theorem exec_nop (s : State) :
    exec .nop s = runUpLight (fun s => s.accept (· == 0x00) [] (fun id _ s => s.complete id 0 (toLe 8 s.now))) s := rfl

theorem exec_badOpcode (s : State) :
    exec .badOpcode s = runUpLight (fun s => s.accept (fun o => !opcodes.contains o) [] (fun id _ s => s.complete id 0x10)) s := rfl

theorem exec_streamOpen (s : State) :
    exec .streamOpen s = runUp (fun s => s.accept (· == 0x10) streamOpenMask (fun id e s => s.streamOpen id e)) s := rfl

/-- Settles O27: each entry meets one of the branches of acceptance before its own meaning. -/
theorem entriesTurnedAway : Obligations.EntriesTurnedAway := by
  unfold Obligations.EntriesTurnedAway
  intro s p e hup hnext
  have hnext' : s.start.nextEntry = some (p, e) := hnext
  refine ⟨fun hbusy hwashed => ⟨fun hres hop => ?nop, fun off hop hres => ?nopField, fun hop => ?badOpcode,
    fun off hop hres => ?openField⟩, fun hop hbusy => ?aborted, fun hop hbusy hwashed => ?fenced⟩
  case nop =>
    rw [exec_nop, runUpLight_up _ s hup, State.accept_runs _ _ hnext' (by simp [hop]) hbusy hwashed (by rw [hop]; decide)
      (by simpa using hres)]
    rfl
  case nopField =>
    rw [exec_nop, runUpLight_up _ s hup, State.accept_badField _ _ hnext' (by simp [hop]) hbusy hwashed (by rw [hop]; decide)
      (by simpa using hres)]
    rfl
  case badOpcode =>
    rw [exec_badOpcode, runUpLight_up _ s hup, State.accept_badOpcode _ _ hnext' (by simpa using hop) hbusy hwashed hop]
    rfl
  case openField =>
    rw [exec_streamOpen, runUp_up _ s hup, State.accept_badField _ _ hnext' (by simp [hop]) hbusy hwashed (by rw [hop]; decide) hres]
    rfl
  case aborted =>
    rw [exec_streamOpen, runUp_up _ s hup, State.accept_aborted _ _ hnext' (by simp [hop]) hbusy (by simp [hop])]
    rfl
  case fenced =>
    rw [exec_streamOpen, runUp_up _ s hup, State.accept_fenced _ _ hnext' (by simp [hop]) hbusy hwashed (by rw [hop]; decide)
      (by rw [hop]; decide)]
    rfl

/-! ## One LCLK cycle -/

theorem State.passLclk_of_lt {s : State} (h : s.phase < 4) : s.passLclk = { s with phase := s.phase + 1 } := by
  rw [State.passLclk, if_pos (by omega)]

theorem State.passLclk_of_ge {s : State} (h : 4 ≤ s.phase) : s.passLclk = { s with phase := 0, fcount := s.fcount + 1 } := by
  rw [State.passLclk, if_neg (by omega)]

/-- Settles O53, by the two cases of the queue and, on an empty one, the AON reset and the phase. -/
theorem stepRunsTheFrontCommand : Obligations.StepRunsTheFrontCommand := by
  unfold Obligations.StepRunsTheFrontCommand
  refine ⟨fun s c cs => step_of_cons, fun s hp ha => ?_, fun s hp ha hph => ?_, fun s hp ha hph => ?_⟩
  · rw [step_of_nil hp, idle_of_aon ha]
  · rw [step_of_nil hp, idle_of_running ha, State.passLclk_of_lt hph]
  · rw [step_of_nil hp, idle_of_running ha, State.passLclk_of_ge hph]

/-! ## The reset state -/

/-- In AON reset IRQ_N is high. -/
theorem State.resetOf_irqDriven (b : Build) : (State.resetOf b).IrqDriven := rfl

/-- At reset every register holds its reset value, and the file lists none. -/
theorem State.resetOf_regsWf (b : Build) : (State.resetOf b).RegsWf := ⟨List.Pairwise.nil, fun _ hp => nomatch hp⟩

/-- Settles O54: the fields by the definition of the reset state, the registers read from it by evaluation, and the two invariants for
every build's reset state. -/
theorem resetIsTheStatedState : Obligations.ResetIsTheStatedState := by
  unfold Obligations.ResetIsTheStatedState
  refine ⟨rfl, rfl, rfl, rfl, rfl, rfl, rfl, rfl, rfl, rfl, rfl, rfl, fun x hx => ?_, rfl, ?_, ?_, ?_, State.resetOf_irqDriven _,
    State.resetOf_regsWf _⟩
  · rw [List.eq_of_mem_replicate hx]
  · decide
  · decide
  · decide

end Sys2Proof.Machine

/-! # Proofs: what every step keeps -/

namespace Sys2Proof.Machine

/-! ## IRQ_N (R41, R505, R553) -/

/-- IRQ_N as it is driven is driven by the summary bit and its mask. -/
theorem State.driveIrq_irqDriven (s : State) : s.driveIrq.IrqDriven := rfl

theorem State.finish_irqDriven (s u : State) : (s.finish u).IrqDriven := by
  unfold State.finish
  exact State.driveIrq_irqDriven _

theorem State.finishLight_irqDriven (s u : State) : (s.finishLight u).IrqDriven := by
  unfold State.finishLight
  exact State.driveIrq_irqDriven _

theorem State.recount_irqDriven {t : State} (h : t.IrqDriven) : t.recount.IrqDriven := h

/-- However a command ends, it drives IRQ_N last. -/
theorem Ends.irqDriven {s t : State} (h : Ends s (.next t)) : t.IrqDriven := by
  generalize ho : Host.Outcome.next t = o at h
  cases h with
  | finish u => rw [Host.Outcome.next.inj ho]; exact State.finish_irqDriven _ u
  | light u => rw [Host.Outcome.next.inj ho]; exact State.finishLight_irqDriven _ u
  | boundary u => rw [Host.Outcome.next.inj ho]; exact State.recount_irqDriven (State.finish_irqDriven _ u)
  | absent => cases ho

theorem State.passLclk_irqDriven {s : State} (h : s.IrqDriven) : s.passLclk.IrqDriven := by
  unfold State.passLclk
  split <;> exact h

theorem idle_irqDriven {s : State} (h : s.IrqDriven) : (idle s).IrqDriven := by
  unfold idle
  split
  · exact h
  · exact State.passLclk_irqDriven h

/-- Settles O55: a command drives IRQ_N at its end, and an LCLK cycle changes nothing that IRQ_N depends on. -/
theorem everyStepKeepsIrqDriven : Obligations.EveryStepKeepsIrqDriven := by
  unfold Obligations.EveryStepKeepsIrqDriven
  intro s t h hstep
  cases hp : s.pending with
  | nil =>
    rw [step_of_nil hp] at hstep
    cases hstep
    exact idle_irqDriven h
  | cons c cs =>
    have hends := exec_ends c { s with pending := cs }
    rw [← step_of_cons hp, hstep] at hends
    exact hends.irqDriven

/-! ## The queue, the build and the fault (R21, R37) -/

theorem State.recount_pending (t : State) : t.recount.pending = t.pending := rfl
theorem State.recount_build (t : State) : t.recount.build = t.build := rfl

/-- However a command ends, the queue and the build are as it found them. -/
theorem Ends.queue_build {s t : State} (h : Ends s (.next t)) : t.pending = s.pending ∧ t.build = s.build := by
  generalize ho : Host.Outcome.next t = o at h
  cases h with
  | finish u => rw [Host.Outcome.next.inj ho]; exact ⟨State.finish_pending _ u, State.finish_build _ u⟩
  | light u => rw [Host.Outcome.next.inj ho]; exact ⟨State.finishLight_pending _ u, State.finishLight_build _ u⟩
  | boundary u =>
    rw [Host.Outcome.next.inj ho, State.recount_pending, State.recount_build]
    exact ⟨State.finish_pending _ u, State.finish_build _ u⟩
  | absent => cases ho

theorem Ends.fault_eq {s : State} {f : Fault} (h : Ends s (.fault f)) : f = .absentUnit := by
  cases h
  rfl

theorem Ends.not_refused {s : State} {r : Refusal} : ¬ Ends s (.refused r) := nofun

/-- The outcome is no fault. -/
def Runs (o : Host.Outcome State Fault Refusal) : Prop := ∀ f, o ≠ .fault f

theorem runs_next (t : State) : Runs (.next t) := fun _ h => nomatch h

/-- A command that names one unit runs where that unit exists. -/
theorem runs_named {n i : Nat} {t : State} (h : [(i, n)].all (fun p => decide (p.1 < p.2)) = true) : Runs (named n i (.next t)) := by
  rw [named_present n i _ (by simpa using h)]
  exact runs_next t

/-- A CFG access runs where its offset is a word of the window. -/
theorem runs_access {off : Nat} {t : State}
    (h : [(off, 0x10000), (off % 4, 1)].all (fun p => decide (p.1 < p.2)) = true) : Runs (access off (.next t)) := by
  obtain ⟨hoff, halign⟩ : off < 0x10000 ∧ off % 4 = 0 := by simpa using h
  rw [access, if_pos halign, named_present _ _ _ hoff]
  exact runs_next t

/-- A well-formed command names only what its wrapper looks for. -/
theorem exec_runs {c : Instr} {s : State} (h : wellFormed s.build c = true) : Runs (exec c s) := by
  cases c with
  | pdAckRise | pdAckFall | pdAckLost | stIBeat | stOBeat | popRequest | ptIBeat | ptOBeat | ringEnable | ringDisable
  | versionCommitApply | openTimeout | flitAccept | replaySlot | ackTimeout | sourceScatter | holdExpired | sourceCombine
  | fwdClkLane | vldLaneFail | wedgeStart | wedgeStepDone | wedgeFailTimeout | calVerifyDone | repairSweepDone | fillDone
  | fillTimeout | repairTimeout | parkStart | groupWake | coneRefDone | bistSegmentDone | eccError | phyPllLock
  | doorbellReadDone | submissionFetchDone | ringPoll | irqModTimeout | encoderIdleEnd | lookaheadGrant | lookaheadDone
  | queueStall | trkDrift | calIntervalDue | stepRepeat | repairSvcRepeat => exact runs_named h
  | registerWrite | shadowLoRead => exact runs_access h
  | _ => exact runs_next _

/-- Settles O56: the ways a command can end are its next state and the absent unit, and a well-formed command names no absent unit. -/
theorem wellFormedCommandsComplete : Obligations.WellFormedCommandsComplete := by
  unfold Obligations.WellFormedCommandsComplete
  refine ⟨fun c s hwf => ?next, fun c s t h => ?keeps, fun c s f h => ⟨?absent, ?illFormed⟩, fun c s r h => ?refused⟩
  case next =>
    have hruns := exec_runs hwf
    have hends := exec_ends c s
    generalize exec c s = o at hruns hends
    cases o with
    | next t => exact ⟨t, rfl⟩
    | fault f => exact absurd rfl (hruns f)
    | refused r => exact absurd hends Ends.not_refused
  case keeps => exact Ends.queue_build (h ▸ exec_ends c s)
  case absent => exact Ends.fault_eq (h ▸ exec_ends c s)
  case illFormed =>
    by_contra hwf
    exact exec_runs (by simpa using hwf) f h
  case refused => exact Ends.not_refused (h ▸ exec_ends c s)

/-! ## What settling and logging keep (R30, R385, R547) -/

/-- A command that raises no code and no event leaves the log nothing to do. -/
theorem State.settleLog_of_quiet {u : State} (hr : u.raised = []) (he : u.events = []) : u.settleLog = u := by
  have hall (x : State) (hx : x.raised = []) (byEscalation : Bool) (fresh : List Nat) : logAll byEscalation fresh x = ⟨x, fresh, []⟩ := by
    have : x = { x with raised := [] } := by rw [← hx]
    unfold logAll
    rw [hx, ← this]
    rfl
  have hflush : u.flushEvents = u := by
    have : u = { u with events := [] } := by rw [← he]
    unfold State.flushEvents
    rw [he, ← this]
    rfl
  unfold State.settleLog
  rw [hall u hr]
  simp only [forEach_nil, hflush]
  rw [if_neg (by omega), hall u hr, hflush]

/-- `x` differs from `u` in the ports and the inbound streams at most. -/
def State.AsButPorts (u x : State) : Prop := x = { u with ports := x.ports, rx := x.rx }

section
variable {u x : State}

theorem State.AsButPorts.modPort (h : u.AsButPorts x) (n : Nat) (f : Port → Port) : u.AsButPorts (x.modPort n f) := by
  unfold State.AsButPorts State.modPort at *
  rw [h]

theorem State.AsButPorts.setRx (h : u.AsButPorts x) (key : Nat) (st : RxStream) : u.AsButPorts (x.setRx key st) := by
  unfold State.AsButPorts State.setRx at *
  rw [h]

theorem State.AsButPorts.modParcel (h : u.AsButPorts x) (key uid : Nat) (f : RxParcel → RxParcel) :
    u.AsButPorts (x.modParcel key uid f) := by
  unfold State.modParcel State.modRx
  split
  · exact h.setRx _ _
  · exact h

theorem State.AsButPorts.offer (h : u.AsButPorts x) (port side : Nat) (data : List Byte) (source : Option (Nat × Nat)) :
    u.AsButPorts (x.offer port side data source) := h.modPort _ _

theorem State.AsButPorts.offerNext (h : u.AsButPorts x) (port key uid : Nat) : u.AsButPorts (x.offerNext port key uid) := by
  unfold State.offerNext
  split
  · exact h.modPort _ _
  · dsimp only
    split
    · exact h
    · exact ((h.offer _ _ _ _).modPort _ _).modParcel _ _ _

/-- A port that chooses its next beat changes its own offer and the parcel that it takes the beat from. -/
theorem State.AsButPorts.offerBeat (h : u.AsButPorts x) (port : Nat) : u.AsButPorts (x.offerBeat port) := by
  unfold State.offerBeat
  dsimp only
  split
  · exact h
  · split
    · exact h.offerNext _ _ _
    · split
      · exact (h.modPort _ _).offer _ _ _ _
      · split
        · exact h.modPort _ _
        · split
          · exact ((h.modPort _ _).offer _ _ _ _).modParcel _ _ _
          · exact (h.modPort _ _).offerNext _ _ _

end

theorem State.offerBeats_asButPorts (u : State) : u.AsButPorts u.offerBeats :=
  forRange_keeps u.AsButPorts _ _ u (fun _ _ h => h.offerBeat _) rfl

/-- What settling and logging leave to a command's own effect, offering beats and ordering frames leave to it too. -/
theorem State.unsettled_offerBeats (u : State) : u.unsettled u.offerBeats.orderFrames = u.offerBeats.orderFrames := by
  have h := u.offerBeats_asButPorts
  unfold State.AsButPorts at h
  rw [h]
  rfl

/-- Settles O57: the fields by the way a command's end is made (`State.unsettled`), and the quiet command because its log is empty. -/
theorem settlingKeeps : Obligations.SettlingKeeps := by
  unfold Obligations.SettlingKeeps
  refine ⟨fun s u t ht => ?fields, fun s u hr he => ?quiet⟩
  case fields =>
    rcases ht with rfl | rfl
    · simp
    · simp
  case quiet =>
    unfold State.finishLight
    rw [State.settleLog_of_quiet hr he, State.unsettled_offerBeats]
    rfl

end Sys2Proof.Machine

/-! # Proofs: resets and power domains (chapters 1 and 14) -/

namespace Sys2Proof.Machine

/-! ## What the release of RST_AON_N leaves of the pins (R17, R506) -/

/-- `x` differs from `s` in what a release may drive at most: registers, outputs, NVM reads and power requests. -/
def State.AsButDriven (s x : State) : Prop :=
  x = { s with regs := x.regs, out := x.out, nvOps := x.nvOps, pdReq := x.pdReq, phyReady := x.phyReady }

namespace State.AsButDriven
variable {s x : State}

theorem refl (s : State) : s.AsButDriven s := rfl

theorem setReg (h : s.AsButDriven x) (off : Nat) (w : Word) : s.AsButDriven (x.setReg off w) := by
  unfold State.AsButDriven State.setReg at *
  rw [h]

theorem emit (h : s.AsButDriven x) (o : Out) : s.AsButDriven (x.emit o) := by
  unfold State.AsButDriven State.emit at *
  rw [h]

theorem setReq (h : s.AsButDriven x) (d : Nat) (on : Bool) : s.AsButDriven (x.setReq d on) := by
  unfold State.AsButDriven State.setReq at *
  rw [h]

theorem notReady (h : s.AsButDriven x) (n : Nat) : s.AsButDriven { x with phyReady := n } := by
  unfold State.AsButDriven at *
  rw [h]

theorem nvReadReq (h : s.AsButDriven x) (addr : Nat) (use : NvUse) : s.AsButDriven (x.nvReadReq addr use) := by
  unfold State.AsButDriven State.nvReadReq State.emit at *
  rw [h]

theorem readNvm (h : s.AsButDriven x) : s.AsButDriven x.readNvm := by
  unfold State.readNvm
  refine forRange_keeps s.AsButDriven _ _ _ (fun i y hy => ?_) ?_
  · exact forRange_keeps s.AsButDriven _ _ _ (fun c z hz =>
      forRange_keeps s.AsButDriven _ _ _ (fun w v hv => hv.nvReadReq _ _) hz) hy
  · exact forRange_keeps s.AsButDriven _ _ _ (fun w y hy => hy.nvReadReq _ _) h

theorem drive (h : s.AsButDriven x) (v : Nat) : s.AsButDriven (x.drive v) := by
  unfold State.drive
  split
  · exact h
  · exact ((h.setReg _ _).setReg _ _).emit _

theorem lower (h : s.AsButDriven x) (d : Nat) : s.AsButDriven (x.lower d) := by
  unfold State.lower
  split
  · exact (((h.notReady _).emit _).emit _).setReq _ _
  · exact h.setReq _ _

theorem pumpPower (h : s.AsButDriven x) : s.AsButDriven x.pumpPower := by
  unfold State.pumpPower
  split
  · exact h
  · refine forEach_keeps s.AsButDriven _ _ _ (fun d y hy => ?_) ?_
    · split
      · exact hy.lower d
      · exact hy
    · split
      · exact h
      · split
        · exact h.setReq _ _
        · exact h

end State.AsButDriven

/-- The straps are sampled and RST_AON_N is let go of. -/
def State.strapped (s : State) (slot tag role : Nat) : State := { s with
  resets := { s.resets with aon := false }
  straps := { slotId := slot, feedTag := tag, role := roleOf role, err := strapErr s.build (roleOf role) }
  pdReq := setBits s.pdReq 23 23 1
  trusted := roleOf role == Role.hub }

theorem State.aonRelease_of_held {s : State} (h : s.resets.aon = true) (slot tag role : Nat) :
    s.aonRelease slot tag role = ((((s.strapped slot tag role).setFlag 0x6044 3 true).drive
      ((s.strapped slot tag role).fld 0x6040 10 8)).readNvm).pumpPower := by
  unfold State.aonRelease
  rw [h]
  rfl

/-- A release in AON reset samples the straps; what follows of it drives the outputs. -/
theorem State.aonRelease_asButDriven {s : State} (h : s.resets.aon = true) (slot tag role : Nat) :
    (s.strapped slot tag role).AsButDriven (s.aonRelease slot tag role) := by
  rw [State.aonRelease_of_held h]
  exact ((((State.AsButDriven.refl _).setReg _ _).drive _).readNvm).pumpPower

/-- Settles O2: settling keeps the straps, the resets and TRUSTED, as does all that the release does besides sampling them. -/
theorem aonReleaseSamplesStraps : Obligations.AonReleaseSamplesStraps := by
  unfold Obligations.AonReleaseSamplesStraps
  intro s slot tag role haon
  have hframe := State.aonRelease_asButDriven (s := s.start) haon slot.toNat tag.toNat role.toNat
  exact ⟨_, rfl, congrArg State.resets hframe, congrArg State.straps hframe, congrArg State.trusted hframe⟩

/-! ## RST_CORE_N and the pass-through port (R499, R505) -/

/-- A running block with nothing on its link, and a packet that is being assembled on fabric channel 0. -/
def packetBegun : State := { State.resetOf referenceBuild with
  resets := ⟨false, false, false, false⟩, ptIn := some [] :: List.replicate 15 none }

/-- The assertion of RST_CORE_N leaves that packet as it is: the pass-through port goes on operating. -/
theorem coreReset_packetBegun : packetBegun.start.coreReset.ptIn = some [] :: List.replicate 15 none := by
  decide

/-- Refutes O3: its third clause has RST_CORE_N empty `ptIn`, and `State.coreReset` keeps it (as R499 and R505 have the pass-through port go
on operating): a packet that is being assembled when RST_CORE_N is asserted is still there after it. -/
theorem not_otherResetsAssertAndRelease : ¬ Obligations.OtherResetsAssertAndRelease := by
  unfold Obligations.OtherResetsAssertAndRelease
  rintro ⟨-, -, hcore, -⟩
  obtain ⟨u, hexec, -, -, -, -, -, hptIn, -⟩ := hcore packetBegun rfl
  have hend : packetBegun.start.finish (packetBegun.start.pins packetBegun.start.coreReset (fun r => { r with core := true })) =
      packetBegun.start.finish u := Host.Outcome.next.inj hexec
  have hpt := congrArg State.ptIn hend
  rw [State.finish_ptIn, State.finish_ptIn, hptIn] at hpt
  have : some [] :: List.replicate 15 none = List.replicate 16 (none : Option (List Byte)) := coreReset_packetBegun.symm.trans hpt
  exact absurd this (by decide)

/-! ## Power domains (R26, R28, R507, R510) -/

/-- A raised code touches no register. -/
theorem State.flag_raise (s : State) (code unit data : Nat) (inj : Bool) (off i : Nat) :
    (s.raise code unit data inj).flag off i = s.flag off i := rfl

theorem State.ackLost_pdHeld (s : State) (d : Nat) : (s.ackLost d false).kiln.pdHeld =
    (State.domainLost { s with pdAck := setBits s.pdAck d d 0, pdReq := setBits s.pdReq d d 0 } d).kiln.pdHeld ++ [d] := rfl

/-- A domain that is lost (R28): its handshake ends, PD_REQ is held low, and the loss is recorded. -/
theorem State.ackLost_spec (s : State) (d : Nat) :
    (s.ackLost d false).pdAck = setBits s.pdAck d d 0 ∧ (s.ackLost d false).pdReq = setBits s.pdReq d d 0 ∧
    d ∈ (s.ackLost d false).kiln.pdHeld ∧ (s.ackLost d false).flag 0x6018 0 = true ∧
    ∃ l, (s.ackLost d false).raised = l ++ [⟨0x0906, d, 0, false, 0⟩] := by
  refine ⟨rfl, rfl, ?_, ?_, _, rfl⟩
  · rw [State.ackLost_pdHeld]
    exact List.mem_append_right _ List.mem_cons_self
  · rw [State.ackLost, State.flag_raise, State.flag_sticky _ _ _ _ _ (by decide)]
    simp

theorem State.ackFall_of_aonHeld {s : State} {d : Nat} (hd : d < 23) (hack : s.pdAck.testBit d = true) (haon : s.aonHeld = true) :
    s.ackFall d = { s with pdAck := setBits s.pdAck d d 0 } := by
  simp [State.ackFall, hack, haon, Nat.not_le.mpr hd]

/-- A fall of PD_ACK that was asked for ends the handshake. -/
theorem State.ackFall_pdAck_of_asked {s : State} {d : Nat} (hd : d < 23) (hack : s.pdAck.testBit d = true) (haon : s.aonHeld = false)
    (hreq : s.pdReq.testBit d = false) : (s.ackFall d).pdAck = setBits s.pdAck d d 0 := by
  simp [State.ackFall, hack, haon, hreq, Nat.not_le.mpr hd]

theorem State.ackFall_of_lost {s : State} {d : Nat} (hd : d < 23) (hack : s.pdAck.testBit d = true) (haon : s.aonHeld = false)
    (hreq : s.pdReq.testBit d = true) : s.ackFall d = s.ackLost d false := by
  simp [State.ackFall, hack, haon, hreq, Nat.not_le.mpr hd]

theorem State.ackRise_pdAck {s : State} {d : Nat} (hd : d < 23) : (s.ackRise d).pdAck = setBits s.pdAck d d 1 := by
  simp [State.ackRise, hd]

theorem State.pllLock_of_on {s : State} {g : Nat} (h : s.domainOn g = true) : s.pllLock g = { s with phyReady := s.phyReady ||| 2 ^ g } := by
  simp [State.pllLock, h, setBit]

theorem exec_pdAckRise {s : State} {d : Nat} (h : d < 23) : exec (.pdAckRise d) s = .next (s.start.finish (s.start.ackRise d)) :=
  named_present _ _ _ (by omega)

theorem exec_pdAckFall {s : State} {d : Nat} (h : d < 23) : exec (.pdAckFall d) s = .next (s.start.finish (s.start.ackFall d)) :=
  named_present _ _ _ (by omega)

theorem exec_pdAckLost {s : State} {d : Nat} (h : d < 23) : exec (.pdAckLost d) s = .next (s.start.finish (s.start.ackFall d)) :=
  named_present _ _ _ (by omega)

theorem exec_phyPllLock {s : State} {g : Nat} (h : g < s.build.sgs) :
    exec (.phyPllLock g) s = .next (s.start.finish (s.start.pllLock g)) :=
  named_present _ _ _ h

/-- Settles O4: the handshake by the cases of a fall of PD_ACK, the requests by what `State.asksFor` asks. -/
theorem powerDomainsAreHandled : Obligations.PowerDomainsAreHandled := by
  unfold Obligations.PowerDomainsAreHandled
  refine ⟨⟨fun s d hd => ?rise, fun s d hd hreq hack => ?fall, fun s d hd haon hack hreq => ?lost, fun s g hg hon => ?lock⟩,
    fun s d hheld => ?held, fun s d hwash hoff => ?off⟩
  case rise =>
    refine ⟨_, exec_pdAckRise hd, ?_⟩
    rw [State.finish_pdAck, State.ackRise_pdAck hd]
    rfl
  case fall =>
    refine ⟨_, exec_pdAckFall hd, ?_⟩
    rw [State.finish_pdAck]
    cases haon : s.aonHeld with
    | true => rw [State.ackFall_of_aonHeld (s := s.start) hd hack haon]; rfl
    | false =>
      have hreq' : s.pdReq.testBit d = false := by simpa [haon] using hreq
      exact State.ackFall_pdAck_of_asked (s := s.start) hd hack haon hreq'
  case lost =>
    obtain ⟨hpdAck, hpdReq, hheld, hflag, l, hraised⟩ := s.start.ackLost_spec d
    exact ⟨_, l, by rw [exec_pdAckLost hd, State.ackFall_of_lost (s := s.start) hd hack haon hreq], hpdAck, hpdReq, hheld, hflag, hraised⟩
  case lock => rw [exec_phyPllLock hg, State.pllLock_of_on (s := s.start) hon]; rfl
  case held => simp [State.asksFor, hheld]
  case off => rcases hoff with h | h <;> simp [State.asksFor, hwash, h]

end Sys2Proof.Machine

/-! # Proofs: the ports and the CFG window (chapters 1, 2, 7 and 18) -/

namespace Sys2Proof.Machine

/-! ## Lists of records -/

/-- What a default reads at a changed place. -/
theorem getD_modAt_same {α : Type} (f : α → α) {i : Nat} {l : List α} (d : α) (h : i < l.length) :
    (modAt f i l).getD i d = f (l.getD i d) := by
  simp [List.getD_eq_getElem?_getD, modAt_getElem?, h]

theorem State.ports_modPort_same (s : State) {n : Nat} (f : Port → Port) (h : n < s.ports.length) :
    (s.modPort n f).ports.getD n {} = f (s.ports.getD n {}) := getD_modAt_same f {} h

theorem State.ring_modRing_same (s : State) {p : Nat} (f : Ring → Ring) (h : p < s.rings.length) :
    (s.modRing p f).ring p = f (s.ring p) := getD_modAt_same f {} h

/-! ## Pops (R33, R83, R86, R90) -/

section
variable {s : State} {port stream mb dir : Nat} (hup : s.portUp port = true) (hwash : s.notWashed = true)
  (hroom : (s.ports.getD port {}).pops.length < 16)
include hup hwash hroom

/-- A pop on a stream that is not open for the port is answered at once. -/
theorem State.pop_of_notOpen (h : s.popStream port stream = none) :
    s.pop port stream mb dir = s.answerBeat port (sideField 0 stream true true 1 mb dir 0x11) := by
  simp only [State.pop, hup, hwash, h, Nat.not_le.mpr hroom]
  rfl

variable {key : Nat} {st : RxStream} (h : s.popStream port stream = some (key, st))
include h

/-- A pop that a fenced stream has no parcel for is answered with the fence's status. -/
theorem State.pop_of_starved {status : Nat} (hfence : st.fence = some status)
    (hstarves : st.starves (s.ports.getD port {}).pops ⟨stream, mb, dir⟩ = true) :
    s.pop port stream mb dir = (if st.stall = true ∧ st.serves mb dir = true then s.modRx key (fun t => { t with stall := false })
      else s).answerBeat port (sideField st.cfg.station stream true true 1 mb dir status) := by
  simp only [State.pop, hup, hwash, h, hfence, hstarves, Nat.not_le.mpr hroom, Bool.and_eq_true]
  rfl

/-- Any other pop is queued. -/
theorem State.pop_queued (hserved : st.fence = none ∨ st.starves (s.ports.getD port {}).pops ⟨stream, mb, dir⟩ = false) :
    s.pop port stream mb dir = (if st.stall = true ∧ st.serves mb dir = true then s.modRx key (fun t => { t with stall := false })
      else s).modPort port (fun p => { p with pops := p.pops ++ [⟨stream, mb, dir⟩] }) := by
  simp only [State.pop, hup, hwash, h, Nat.not_le.mpr hroom, Bool.and_eq_true]
  cases hf : st.fence with
  | none => rfl
  | some status =>
    have hstarves : st.starves (s.ports.getD port {}).pops ⟨stream, mb, dir⟩ = false := by simpa [hf] using hserved
    rw [hstarves]
    rfl

end

theorem exec_popRequest {s : State} {port : Nat} (hport : port < s.build.ports) (hcfg : s.cfgUp = true) (stream mb dir : Nat) :
    exec (.popRequest port stream mb dir) s = .next (s.start.finish (s.start.pop port stream mb dir)) :=
  (named_present _ _ _ hport).trans (runUp_up _ s hcfg)

/-! ## The O channel (R30, R77, R85, R90) -/

/-- A beat on offer stays on offer. -/
theorem State.offerBeat_of_offer {s : State} {port : Nat} (h : (s.ports.getD port {}).offer.isSome = true) : s.offerBeat port = s := by
  simp only [State.offerBeat, h, Bool.or_true, if_true]

/-- A port between parcels offers its next answer. -/
theorem State.offerBeat_of_answer {s : State} {port side : Nat} {rest : List Nat} (hup : s.portUp port = true)
    (hoffer : (s.ports.getD port {}).offer = none) (hout : (s.ports.getD port {}).outOf = none)
    (hans : (s.ports.getD port {}).answers = side :: rest) :
    s.offerBeat port = (s.modPort port (fun q => { q with outOf := none, answers := rest })).offer port side [0] none := by
  simp only [State.offerBeat, hup, hoffer, hout, hans]
  rfl

/-- The beat that a port offers is the one that transfers. -/
theorem State.drain_eq {s s1 : State} {port : Nat} {b : Beat} (hs1 : s.offerBeat port = s1) (hup : s1.portUp port = true)
    (hb : (s1.ports.getD port {}).offer = some b) :
    s.drain port = match b.source with
      | none => (s1.modPort port (fun q => { q with offer := none })).emit (.oBeat port b.side b.data)
      | some (key, uid) => ((s1.modPort port (fun q => { q with offer := none })).emit (.oBeat port b.side b.data)).beatTaken key uid
          (bit b.side 19) := by
  simp only [State.drain, hs1, hup, hb]
  rfl

theorem exec_stOBeat {s : State} {port : Nat} (hport : port < s.build.ports) (hcfg : s.cfgUp = true) :
    exec (.stOBeat port) s = .next (s.start.finish (s.start.drain port)) :=
  (named_present _ _ _ hport).trans (runUp_up _ s hcfg)

theorem State.modParcel_ports (s : State) (key uid : Nat) (f : RxParcel → RxParcel) : (s.modParcel key uid f).ports = s.ports := by
  unfold State.modParcel State.modRx
  split <;> rfl

/-- The last beat of a parcel that has come whole carries what is left of it, and its status. -/
theorem State.offerNext_last {s : State} {port key uid n : Nat} {st : RxStream} {p : RxParcel} (hport : port < s.ports.length)
    (hst : s.rx? key = some st) (hp : st.parcel? uid = some p) (hwhole : (p.shown s.lclk).complete = true)
    (hn : (p.shown s.lclk).avail.length - p.taken = n) (hle : n ≤ 512) :
    ((s.offerNext port key uid).ports.getD port {}).offer = some ⟨sideField st.cfg.station st.cfg.id (p.taken == 0) true n p.mb p.dir
      p.okStatus, slice p.avail p.taken n, some (key, uid)⟩ := by
  have hlook : (s.rx? key).bind (fun st => (st.parcel? uid).map (fun p => (st, p))) = some (st, p) := by simp [hst, hp]
  simp only [State.offerNext, hlook, hwhole, hn, Nat.min_eq_right hle, Bool.not_true, Bool.true_and, BEq.rfl, if_true,
    Bool.false_eq_true, and_false, if_false, State.modParcel_ports]
  have hlen : port < (s.offer port (sideField st.cfg.station st.cfg.id (p.taken == 0) true n p.mb p.dir p.okStatus)
      (slice p.avail p.taken n) (some (key, uid))).ports.length := by
    simpa [State.offer, State.modPort, modAt_length] using hport
  rw [State.ports_modPort_same _ _ hlen]
  show (((s.offer _ _ _ _).ports.getD port {}).offer) = _
  rw [State.offer, State.ports_modPort_same _ _ hport]

/-- Settles O7: a pop by the cases of its stream, the O channel by what the port offers. -/
theorem popsAreAnswered : Obligations.PopsAreAnswered := by
  unfold Obligations.PopsAreAnswered
  refine ⟨⟨fun s port stream mb dir hport hcfg hup hwash hroom => ⟨fun hnone => ?notOpen, fun key st u hst hu =>
      ⟨fun hserved => ?queued, fun status hfence hstarves => ?starved⟩⟩,
    fun s port hport hcfg hup => ⟨fun b hb => ⟨fun hsrc => ?whole, fun key uid hsrc => ?part⟩,
      fun side rest hlen hoffer hout hans => ?answer⟩⟩,
    fun s port hoffer => State.offerBeat_of_offer hoffer,
    fun s port key uid n st p hport hst hp hwhole hn hle => State.offerNext_last hport hst hp hwhole hn hle⟩
  case notOpen => rw [exec_popRequest hport hcfg, State.pop_of_notOpen (s := s.start) hup hwash hroom hnone]
  case queued => rw [exec_popRequest hport hcfg, State.pop_queued (s := s.start) hup hwash hroom hst hserved, hu]
  case starved => rw [exec_popRequest hport hcfg, State.pop_of_starved (s := s.start) hup hwash hroom hst hfence hstarves, hu]
  case whole =>
    rw [exec_stOBeat hport hcfg, State.drain_eq (s := s.start) (State.offerBeat_of_offer (by exact Option.isSome_of_eq_some hb)) hup hb, hsrc]
  case part =>
    rw [exec_stOBeat hport hcfg, State.drain_eq (s := s.start) (State.offerBeat_of_offer (by exact Option.isSome_of_eq_some hb)) hup hb, hsrc]
  case answer =>
    refine ⟨_, exec_stOBeat hport hcfg, ?_⟩
    have hlen0 : port < s.start.ports.length := hlen
    have hnext := State.offerBeat_of_answer (s := s.start) hup hoffer hout hans
    have hlen1 : port < (s.start.modPort port (fun q => { q with outOf := none, answers := rest })).ports.length := by
      simpa [State.modPort, modAt_length] using hlen
    have hlen2 : port < ((s.start.modPort port (fun q => { q with outOf := none, answers := rest })).offer port side [0] none).ports.length := by
      simpa [State.offer, State.modPort, modAt_length] using hlen
    have hb := State.ports_modPort_same _ (fun q => { q with offer := some ⟨side, [0], none⟩ }) hlen1
    rw [State.drain_eq hnext hup (congrArg Port.offer hb)]
    refine ⟨rfl, ?_⟩
    show ((State.modPort _ port (fun q => { q with offer := none })).ports.getD port {}).answers = rest
    rw [State.ports_modPort_same _ _ hlen2, State.offer, State.ports_modPort_same _ _ hlen1, State.ports_modPort_same _ _ hlen0]

/-! ## The pass-through port (R34, R88, R499) -/

theorem exec_ptIBeat {s : State} {vc : Nat} (hvc : vc < 16) (hcfg : s.cfgUp = true) (sop eop : Bool) (data : List Byte) :
    exec (.ptIBeat vc sop eop data) s = .next (s.start.finish (s.start.ptIntake vc sop eop data)) :=
  (named_present _ _ _ hvc).trans (runUp_up _ s hcfg)

theorem exec_ptOBeat {s : State} {vc : Nat} (hvc : vc < 16) (hcfg : s.cfgUp = true) :
    exec (.ptOBeat vc) s = .next (s.start.finish (s.start.ptDrain vc)) :=
  (named_present _ _ _ hvc).trans (runUp_up _ s hcfg)

/-- A beat that does not end its packet joins it, or begins one. -/
theorem State.ptIntake_part {s : State} {vc : Nat} (hup : s.ptUp = true) (hfree : (s.ptIn.getD vc none).isSome ∨ s.flag 0x100 1 = false)
    (sop : Bool) (data : List Byte) :
    s.ptIntake vc sop false data = { s with
      ptIn := modAt (fun _ => some ((if sop then [] else (s.ptIn.getD vc none).getD []) ++ data.take (s.build.ptBits / 8))) vc s.ptIn
    } := by
  have hheld : ((s.ptIn.getD vc none).isNone && s.flag 0x100 1) = false := by
    rcases hfree with h | h
    · rw [Option.isNone_eq_false_iff.mpr h, Bool.false_and]
    · rw [h, Bool.and_false]
  simp only [State.ptIntake, hup, hheld]
  rfl

/-- Between packets an error beat that waits leaves first. -/
theorem State.ptDrain_error {s : State} {vc : Nat} {sop : Bool} {bytes : List Byte} {rest : List (Bool × List Byte)} (hup : s.ptUp = true)
    (hnone : s.rx.find? (fun r => r.2.cls == 3 && r.2.cfg.vc == vc && !r.2.packets.isEmpty) = none)
    (herr : s.ptErr.getD vc [] = (sop, bytes) :: rest) :
    s.ptDrain vc = State.emit { s with ptErr := modAt (fun _ => rest) vc s.ptErr } (.ptBeat vc sop true true bytes) := by
  simp only [State.ptDrain, hup, hnone, herr]
  rfl

/-- Settles O8. -/
theorem passThroughBeats : Obligations.PassThroughBeats := by
  unfold Obligations.PassThroughBeats
  refine ⟨fun s vc sop data hvc hcfg hup hfree => ⟨_, exec_ptIBeat hvc hcfg sop false data, ?_⟩,
    fun s vc sop bytes rest hvc hcfg hup hnone herr => ?_⟩
  · rw [State.finish_ptIn, State.ptIntake_part (s := s.start) hup hfree]
    rfl
  · rw [exec_ptOBeat hvc hcfg, State.ptDrain_error (s := s.start) hup hnone herr]
    rfl

/-! ## MEM (R35) -/

/-- Nothing is marked where no injection has fired. -/
theorem State.marked_false (s t : State) : s.marked false t = t := rfl

theorem exec_memRdData {s : State} (hcfg : s.cfgUp = true) (request : Nat) (data : List Byte) (err : Bool) :
    exec (.memRdData request data err) s = .next (s.start.finish (s.start.memData request data err)) :=
  runUp_up (fun s => s.memData request data err) s hcfg

theorem exec_memWack {s : State} (hcfg : s.cfgUp = true) (request : Nat) (err : Bool) :
    exec (.memWack request err) s = .next (s.start.finish (s.start.memAck request err)) :=
  runUp_up (fun s => s.memAck request err) s hcfg

section
variable {s s1 : State} {request ch : Nat} {use : MemUse} (harmed : s.inj.armed = false)
  (huse : s.memUse request = some (ch, use)) (hs1 : s1 = { s with memOps := eraseKey request s.memOps })
include harmed huse hs1

/-- Data go to the use that asked for them; those that come for a write do nothing. -/
theorem State.memData_eq (data : List Byte) (err : Bool) :
    s.memData request data err = match use with
      | .fetch w => s1.fetchData w request data err
      | .drawRead d => s1.drawData d request data err
      | .accRead r key => s1.accData r key request data err
      | .scaleLoad d => s1.scaleData d data err
      | .accWrite _ _ => s1
      | .fill _ _ _ => s1
      | .restoreWrite _ _ => s1
      | .image _ => s1 := by
  have hfire : ({ s with memOps := eraseKey request s.memOps } : State).fire 0x20 ch = (false, s1) := by
    rw [hs1]
    exact State.fire_unarmed _ _ _ harmed
  simp only [State.memData, huse, hfire, State.marked_false, Bool.or_false]
  cases use <;> rfl

/-- Acknowledgements go to the use that asked for them; those that come for a read do nothing. -/
theorem State.memAck_eq (err : Bool) :
    s.memAck request err = match use with
      | .accWrite r key => s1.accAdvance r key request err
      | .fill shelf stream piece => s1.fillAcked shelf stream piece err
      | .restoreWrite d piece => s1.restoreAcked d piece err
      | .image d => s1.imageAcked d err
      | .fetch _ => s1
      | .drawRead _ => s1
      | .accRead _ _ => s1
      | .scaleLoad _ => s1 := by
  have hfire : ({ s with memOps := eraseKey request s.memOps } : State).fire 0x21 ch = (false, s1) := by
    rw [hs1]
    exact State.fire_unarmed _ _ _ harmed
  simp only [State.memAck, huse, hfire, State.marked_false, Bool.or_false]
  cases use <;> rfl

end

/-- Settles O9: a response takes its request out of the list and goes to the request's use, case by case. -/
theorem memResponsesReachTheirUse : Obligations.MemResponsesReachTheirUse := by
  unfold Obligations.MemResponsesReachTheirUse
  intro s s1 request ch use err hcfg harmed huse hs1
  refine ⟨fun data => ⟨_, exec_memRdData hcfg request data err, ?_⟩, _, exec_memWack hcfg request err, ?_⟩
  · rw [State.memData_eq (s := s.start) harmed huse hs1 data err]
    refine ⟨?_, ?_, ?_, ?_⟩ <;> (intros; subst use; rfl)
  · rw [State.memAck_eq (s := s.start) harmed huse hs1 err]
    refine ⟨?_, ?_, ?_, ?_⟩ <;> (intros; subst use; rfl)

/-! ## Doorbells and interrupt messages (R36, R246, R256, R600) -/

/-- An iteration whose rounds change nothing but one is that round. -/
theorem forRange_single {α : Type} (P : α → Prop) (f : Nat → α → α) (p : Nat) (a : α) (ha : P a) (hkeeps : P (f p a)) (n : Nat)
    (hother : ∀ i x, i < n → i ≠ p → P x → f i x = x) : forRange n f a = if p < n then f p a else a := by
  induction n with
  | zero => rfl
  | succ n ih =>
    have hstep : forRange (n + 1) f a = f n (forRange n f a) := by simp [forRange, List.range_succ]
    rw [hstep, ih (fun i x hi => hother i x (by omega))]
    rcases Nat.lt_trichotomy p n with h | h | h
    · rw [if_pos h, if_pos (by omega), hother n _ (by omega) (by omega) hkeeps]
    · rw [if_neg (by omega), if_pos (by omega), h]
    · rw [if_neg (by omega), if_neg (by omega), hother n _ (by omega) (by omega) ha]

/-- A pair without a read outstanding reads its doorbell block. -/
theorem State.readDoorbell_idle {s : State} {p : Nat} (hon : s.ringOn p = true) (hfree : s.fetchHeld = false)
    (hidle : (s.ring p).reading = false) (poll : Bool) :
    s.readDoorbell p poll = (s.modRing p (fun r => { r with reading := true, poll := poll })).emit (.doorbellRead p (s.doorbellAddr p)) := by
  simp only [State.readDoorbell, hon, hfree, hidle]
  rfl

/-- A pair with a read outstanding begins no other. -/
theorem State.readDoorbell_reading {s : State} {p : Nat} (hbusy : (s.ring p).reading = true) (poll : Bool) : s.readDoorbell p poll = s := by
  simp only [State.readDoorbell, hbusy, Bool.not_true, Bool.and_false, Bool.false_and]
  rfl

/-- What a watch notification does first: the poll interval starts anew, and a read outstanding will be followed by another. -/
def State.watched (s : State) (p : Nat) : State := s.modRing p (fun r => { r with pollExp := 0, again := r.reading, poll := false })

theorem State.watchHit_eq {s : State} {p : Nat} (hon : s.ringOn p = true) (hfree : s.fetchHeld = false) :
    s.watchHit p = (s.watched p).readDoorbell p false := by
  simp only [State.watchHit, hon, hfree]
  rfl

theorem State.ring_watched {s : State} {p : Nat} (hp : p < s.rings.length) :
    (s.watched p).ring p = { s.ring p with pollExp := 0, again := (s.ring p).reading, poll := false } :=
  State.ring_modRing_same s _ hp

/-- A watch notification touches no doorbell address. -/
theorem State.watchHit_doorbellAddr (s : State) (p q : Nat) : (s.watchHit p).doorbellAddr q = s.doorbellAddr q := by
  unfold State.watchHit State.readDoorbell
  split
  · split <;> rfl
  · rfl

/-- A write to a line that holds the doorbell block of one pair alone notifies that pair. -/
theorem exec_hmWatch_single {s : State} {p line : Nat} (hp : p < 64) (hcfg : s.cfgUp = true) (hline : s.doorbellAddr p / 64 = line)
    (halone : ∀ q, q < 64 → q ≠ p → s.doorbellAddr q / 64 ≠ line) :
    exec (.hmWatch line) s = .next (s.start.finishLight (s.start.watchHit p)) := by
  have hsingle := forRange_single (fun x : State => ∀ q, x.doorbellAddr q = s.doorbellAddr q)
    (fun q x => if x.doorbellAddr q / 64 = line then x.watchHit q else x) p s.start (fun _ => rfl) (fun q => ?keeps) 64
    (fun q x hq hne hx => ?other)
  case keeps =>
    split
    · exact State.watchHit_doorbellAddr _ _ _
    · rfl
  case other => exact if_neg (by rw [hx]; exact halone q hq hne)
  have hline' : s.start.doorbellAddr p / 64 = line := hline
  rw [if_pos hp, if_pos hline'] at hsingle
  exact (runUpLight_up _ s hcfg).trans (congrArg (fun x => Host.Outcome.next (s.start.finishLight x)) hsingle)

/-- A message leaves for a usable address. -/
theorem State.messageOut_eq {s : State} {p : Nat} (hne : (s.ring p).msiAddr ≠ 0) (hal : (s.ring p).msiAddr % 4 = 0) :
    s.messageOut p = { s.emit (.hmWrite s.reqSeq (s.ring p).msiAddr (toLe 4 (s.ring p).msiData)) with
      reqSeq := s.reqSeq + 1, hmWrites := s.hmWrites ++ [(s.reqSeq, .message p)] } := by
  simp [State.messageOut, hne, hal]

/-- The pair's engine when a message has become due and is not yet sent. -/
def Ring.due (r : Ring) : Ring := { r with msgs := r.msgs ++ [r.covers], covers := [], unsig := 0, oldest := none }

theorem State.messageDue_eq (s : State) (p : Nat) : s.messageDue p = (s.modRing p Ring.due).sendMessages p := rfl

/-- The messages that wait, and how many leave, where a message becomes due and every earlier one waits. -/
theorem Ring.due_msgs {r : Ring} (h : ∀ m ∈ r.msgs, m ≠ []) :
    r.due.msgs.filter (fun m => !m.isEmpty) = r.msgs ++ (if r.covers = [] then [] else [r.covers]) ∧
    r.due.msgs.filter (·.isEmpty) = if r.covers = [] then [[]] else [] := by
  have hall : r.msgs.filter (fun m => !m.isEmpty) = r.msgs := List.filter_eq_self.mpr fun m hm => by simpa using h m hm
  have hnone : r.msgs.filter (·.isEmpty) = [] := List.filter_eq_nil_iff.mpr fun m hm => by simpa using h m hm
  by_cases hc : r.covers = [] <;> simp [Ring.due, hall, hnone, hc, List.filter_append]

/-- The pair's engine once the messages that wait for nothing have left. -/
theorem State.ring_unsent {s : State} {p : Nat} (hp : p < s.rings.length) (hmsgs : ∀ m ∈ (s.ring p).msgs, m ≠ []) :
    ((s.modRing p Ring.due).modRing p (fun r => { r with msgs := r.msgs.filter (fun m => !m.isEmpty) })).ring p =
      { (s.ring p).due with msgs := (s.ring p).msgs ++ (if (s.ring p).covers = [] then [] else [(s.ring p).covers]) } := by
  have hp' : p < (s.modRing p Ring.due).rings.length := by simpa [State.modRing, modAt_length] using hp
  rw [State.ring_modRing_same _ _ hp', State.ring_modRing_same _ _ hp, (Ring.due_msgs hmsgs).1]

/-- A message that covers nothing still to be acknowledged leaves at once. -/
theorem State.messageDue_sent {s : State} {p : Nat} (hp : p < s.rings.length) (hmsgs : ∀ m ∈ (s.ring p).msgs, m ≠ [])
    (hne : (s.ring p).msiAddr ≠ 0) (hal : (s.ring p).msiAddr % 4 = 0) (hc : (s.ring p).covers = []) :
    (s.messageDue p).ring p = { (s.ring p).due with msgs := (s.ring p).msgs } ∧
      (s.messageDue p).out = s.out ++ [.hmWrite s.reqSeq (s.ring p).msiAddr (toLe 4 (s.ring p).msiData)] := by
  have hring := State.ring_unsent hp hmsgs
  rw [hc, if_pos rfl, List.append_nil] at hring
  have hleave := (Ring.due_msgs hmsgs).2
  rw [hc, if_pos rfl, ← State.ring_modRing_same s Ring.due hp] at hleave
  have haddr := congrArg Ring.msiAddr hring
  rw [State.messageDue_eq, State.sendMessages, hleave, forEach_cons, forEach_nil,
    State.messageOut_eq (haddr ▸ hne) (haddr ▸ hal)]
  refine ⟨hring, ?_⟩
  rw [hring]
  rfl

/-- A message that covers an entry still to be acknowledged waits. -/
theorem State.messageDue_waits {s : State} {p : Nat} (hp : p < s.rings.length) (hmsgs : ∀ m ∈ (s.ring p).msgs, m ≠ [])
    (hc : (s.ring p).covers ≠ []) :
    (s.messageDue p).ring p = { (s.ring p).due with msgs := (s.ring p).msgs ++ [(s.ring p).covers] } ∧ (s.messageDue p).out = s.out := by
  have hring := State.ring_unsent hp hmsgs
  rw [if_neg hc] at hring
  have hleave := (Ring.due_msgs hmsgs).2
  rw [if_neg hc, ← State.ring_modRing_same s Ring.due hp] at hleave
  rw [State.messageDue_eq, State.sendMessages, hleave, forEach_nil]
  exact ⟨hring, rfl⟩

/-- Settles O11: the reads by the pair's state, the messages by what the unsignalled entries still wait for. -/
theorem doorbellsAndMessages : Obligations.DoorbellsAndMessages := by
  unfold Obligations.DoorbellsAndMessages
  refine ⟨⟨fun s p hp hcfg hon hfree hidle => ?poll, fun s p line hp hcfg hline halone hon hfree hidle hlen => ?watch,
    fun s p line hp hcfg hline halone hon hfree hbusy hlen => ?again⟩,
    fun s p hp hcfg hon hirq hold htime => ?timeout, fun s p hp hmsgs hne hal => ?due⟩
  case poll =>
    have hexec : exec (.ringPoll p) s = .next (s.start.finishLight (s.start.readDoorbell p)) :=
      (named_present _ _ _ hp).trans (runUpLight_up _ s hcfg)
    rw [hexec, State.readDoorbell_idle (s := s.start) hon hfree hidle]
    rfl
  case watch =>
    have hp0 : p < s.start.rings.length := hlen ▸ hp
    have hp1 : p < (s.start.watched p).rings.length := by simpa [State.watched, State.modRing, modAt_length] using hp0
    have hring := State.ring_watched hp0
    refine ⟨_, exec_hmWatch_single hp hcfg hline halone, ?_⟩
    rw [State.watchHit_eq (s := s.start) hon hfree,
      State.readDoorbell_idle (s := s.start.watched p) hon hfree ((congrArg Ring.reading hring).trans hidle)]
    refine ⟨rfl, (State.ring_modRing_same _ _ hp1).trans ?_⟩
    rw [hring, ← hidle]
    rfl
  case again =>
    have hp0 : p < s.start.rings.length := hlen ▸ hp
    have hring := State.ring_watched hp0
    refine ⟨_, exec_hmWatch_single hp hcfg hline halone, ?_⟩
    rw [State.watchHit_eq (s := s.start) hon hfree, State.readDoorbell_reading ((congrArg Ring.reading hring).trans hbusy)]
    refine ⟨rfl, hring.trans ?_⟩
    rw [← hbusy]
    rfl
  case timeout =>
    have hexec : exec (.irqModTimeout p) s = .next (s.start.finishLight (s.start.modTimeout p)) :=
      (named_present _ _ _ hp).trans (runUpLight_up _ s hcfg)
    have hdue : s.start.modTimeout p = s.start.messageDue p := by
      have hcond : (s.ringOn p && s.flag (ringReg p 0x18) 1 && (s.ring p).oldest.isSome && s.fld (ringReg p 0x18) 31 16 != 0) = true := by
        simp [hon, hirq, hold, htime]
      exact if_pos hcond
    rw [hexec, hdue]
  case due =>
    by_cases hc : (s.ring p).covers = []
    · obtain ⟨hring, hout⟩ := State.messageDue_sent hp hmsgs hne hal hc
      rw [hring, hout]
      exact ⟨rfl, rfl, fun _ => ⟨rfl, rfl⟩, fun h => absurd hc h⟩
    · obtain ⟨hring, hout⟩ := State.messageDue_waits hp hmsgs hc
      rw [hring, hout]
      exact ⟨rfl, rfl, fun h => absurd h hc, fun _ => ⟨rfl, rfl⟩⟩

/-! ## A CFG write (R37, R592, R602) -/

theorem exec_registerWrite {s : State} {off : Nat} (hoff : off < 0x10000) (hal : off % 4 = 0) (d : Word) :
    exec (.registerWrite off d) s = .next (s.start.finish (s.start.cfgWrite off d)) :=
  (if_pos hal).trans (named_present _ _ _ hoff)

theorem exec_registerWrite_absent {s : State} {off : Nat} (h : ¬(off < 0x10000 ∧ off % 4 = 0)) (d : Word) :
    exec (.registerWrite off d) s = .fault .absentUnit := by
  by_cases hal : off % 4 = 0
  · exact (if_pos hal).trans (named_absent _ _ _ (by omega))
  · exact if_neg hal

theorem State.cfgWrite_held {s : State} {off : Nat} {d : Word} (h : s.aonHeld = true) : s.cfgWrite off d = s := if_pos h

theorem State.cfgWrite_reaches {s : State} {off : Nat} {d : Word} (haon : s.aonHeld = false) (h : s.regReachable off = true) :
    s.cfgWrite off d = s.writeReg off d := by
  simp [State.cfgWrite, haon, h]

/-- What CL_CFG_ERR records of the first write that reaches no register: its word offset, that it is a write, and VALID. -/
def missedWrite (off : Nat) (more : Bool) : Nat := off / 4 + b2n true <<< 14 + b2n more <<< 30 + 2 ^ 31

/-- A write to a register of a domain that is off is recorded. -/
theorem State.cfgWrite_missed {s : State} {off : Nat} {d : Word} (haon : s.aonHeld = false) (h : s.regReachable off = false)
    (hexists : regExists s.build off = true) (hfirst : s.flag 0x10C 31 = false) :
    s.cfgWrite off d = s.setReg 0x10C (BitVec.ofNat 32 (missedWrite off (s.flag 0x10C 30))) := by
  simp only [State.cfgWrite, haon, h, State.noteAccess, hexists, hfirst]
  rfl

/-- A field of a word just stored. -/
theorem State.fld_setReg_same (s : State) (off v hi lo : Nat) (hv : v < 2 ^ 32) :
    (s.setReg off (BitVec.ofNat 32 v)).fld off hi lo = bits v hi lo := by
  rw [State.fld, State.regN, State.reg_setReg_same, BitVec.toNat_ofNat, Nat.mod_eq_of_lt hv]

/-- The fields of the record (R602). -/
theorem missedWrite_fields {off : Nat} (h : off < 0x10000) (more : Bool) :
    missedWrite off more < 2 ^ 32 ∧ bits (missedWrite off more) 13 0 = off / 4 ∧ (missedWrite off more).testBit 14 = true ∧
      (missedWrite off more).testBit 30 = more ∧ (missedWrite off more).testBit 31 = true := by
  cases more <;>
    simp only [missedWrite, bits, b2n_true, b2n_false, Nat.testBit_eq_decide_div_mod_eq, Nat.shiftRight_zero, decide_eq_true_eq, decide_eq_false_iff_not] <;>
    omega

/-- Settles O18: the cases of a CFG access. -/
theorem cfgWriteReachesOrIsRecorded : Obligations.CfgWriteReachesOrIsRecorded := by
  unfold Obligations.CfgWriteReachesOrIsRecorded
  refine ⟨fun s off d hoff hal haon h => ?reaches, fun s off d hoff hal haon h hexists hfirst => ?missed, fun s off d hoff hal haon => ?held,
    fun s off d h => exec_registerWrite_absent h d⟩
  case reaches => rw [exec_registerWrite hoff hal, State.cfgWrite_reaches (s := s.start) haon h]
  case missed =>
    obtain ⟨hlt, haddr, hwrite, hmore, hvalid⟩ := missedWrite_fields hoff (s.flag 0x10C 30)
    refine ⟨_, exec_registerWrite hoff hal d, ?_⟩
    rw [State.cfgWrite_missed (s := s.start) haon h hexists hfirst]
    refine ⟨?_, ?_, ?_, ?_⟩
    · exact (State.flag_setReg_same _ _ _ (by decide)).trans hvalid
    · exact (State.fld_setReg_same _ _ _ _ _ hlt).trans haddr
    · exact (State.flag_setReg_same _ _ _ (by decide)).trans hwrite
    · exact (State.flag_setReg_same _ _ _ (by decide)).trans hmore
  case held => rw [exec_registerWrite hoff hal, State.cfgWrite_held (s := s.start) haon]

end Sys2Proof.Machine

/-! # Proofs: the test access port (chapter 16) -/

namespace Sys2Proof.Machine

/-! ## The pads (R42, R567, R569, R570) -/

theorem State.irCapture_spec (s : State) : s.irCapture % 4 = 1 ∧ s.irCapture < 16 := by
  unfold State.irCapture b2n
  split <;> split <;> omega

theorem State.testPads_none {s : State} (h : s.build.testSide = .none) (p : TapPads) :
    s.testPads p = ⟨some false, some false, some false, some false⟩ := by
  simp only [State.testPads, h]

/-- Without PASS the secondary port of a chain is at rest. -/
theorem State.testPads_closed {s : State} (h : s.build.testSide = .toward) (hpass : s.passOn = false) (p : TapPads) :
    s.testPads p = ⟨some false, none, some false, none⟩ := by
  simp only [State.testPads, h, hpass]
  rfl

/-- With PASS it carries the test port on. -/
theorem State.testPads_open {s : State} (h : s.build.testSide = .toward) (hpass : s.passOn = true) (p : TapPads) :
    s.testPads p = ⟨some p.tck, some p.tms, some p.trstN, p.shift⟩ := by
  simp only [State.testPads, h, hpass]
  rfl

theorem State.tapTdo_idle {s : State} {p : TapPads} (h : p.shift = none ∨ s.resets.aon = true) : s.tapTdo p = true := by
  unfold State.tapTdo
  cases hshift : p.shift with
  | none => rfl
  | some b => exact if_pos (by simpa [hshift] using h)

theorem State.tapTdo_own {s : State} {p : TapPads} {b : Bool} (hshift : p.shift = some b) (haon : s.resets.aon = false)
    (hpass : s.test.pass = false) : s.tapTdo p = b := by
  simp [State.tapTdo, State.passOn, hshift, haon, hpass]

theorem State.tapTdo_retimed {s : State} {p : TapPads} (hshift : p.shift.isSome = true) (haon : s.resets.aon = false)
    (hpass : s.test.pass = true) (hside : s.build.testSide = .toward) : s.tapTdo p = s.test.retimed := by
  obtain ⟨b, hb⟩ := Option.isSome_iff_exists.mp hshift
  simp [State.tapTdo, State.passOn, State.toward, hb, haon, hpass, hside]

/-! ## Resets of the controller (R568, R569) -/

/-- Five edges with TAP_TMS 1 end in Test-Logic-Reset, never pass through Run-Test/Idle, and so leave PASS. -/
theorem Test.fiveEdges (tw : Bool) (cap : Nat) (t : Test) :
    let u := (List.replicate 5 (true, true)).foldl (Test.edge tw cap) t
    u.ctl = .testLogicReset ∧ u.pass = t.pass ∧ u.passSet = t.passSet := by
  cases ht : t.ctl <;> simp [List.replicate, Test.edge, TapCtl.next, ht]

theorem State.tapLogicReset_test (s : State) : s.tapLogicReset.test.ir = 0x01 ∧ s.tapLogicReset.test.ctl = .testLogicReset ∧
    s.tapLogicReset.test.drives = false ∧ s.tapLogicReset.test.pass = s.test.pass ∧ s.tapLogicReset.test.passSet = s.test.passSet := by
  obtain ⟨hctl, hpass, hset⟩ := Test.fiveEdges s.toward s.irCapture s.test
  exact ⟨rfl, hctl, rfl, hpass, hset⟩

/-! ## Scans of the data registers (R567, R575) -/

/-- A scan of a data register moves the controller on, and touches nothing else that an instruction has set. -/
theorem Test.Scanned.drScan {t u : Test} {code : Nat} {ctl : TapCtl} (h : t.Scanned u code ctl) (tw : Bool) (n : Nat) :
    t.Scanned (u.drScan tw n) code .updateDr := by
  obtain ⟨hir, -, hpass, hdrives, hwash, hheld⟩ := h
  exact ⟨hir, rfl, hpass, hdrives, hwash, hheld⟩

/-- What a scan of the boundary register makes of the test port. -/
theorem State.scanCells_test (s : State) (pads cells : List Nat) : (s.scanCells pads cells).test =
    { s.test.drScan s.toward s.boundaryLen with cells := if s.tstOn then cells.filter (fun k => k < s.boundaryLen) else [] } := rfl

@[simp] theorem State.tapDr_raised (s : State) (n : Nat) : (s.tapDr n).raised = s.raised := rfl

@[simp] theorem State.tapDr_build (s : State) (n : Nat) : (s.tapDr n).build = s.build := rfl
@[simp] theorem State.tapDr_straps (s : State) (n : Nat) : (s.tapDr n).straps = s.straps := rfl

theorem State.scanCells_out (s : State) (pads cells : List Nat) :
    (s.scanCells pads cells).out = s.out ++ [.tapCells (s.captureCells pads)] := rfl

/-! What the scan of an instruction leaves of the block (`State.tapIr_eq`). -/

@[simp] theorem State.tapIr_build (s : State) (code : Nat) : (s.tapIr code).build = s.build := rfl
@[simp] theorem State.tapIr_straps (s : State) (code : Nat) : (s.tapIr code).straps = s.straps := rfl
@[simp] theorem State.tapIr_resets (s : State) (code : Nat) : (s.tapIr code).resets = s.resets := rfl
@[simp] theorem State.tapIr_pdReq (s : State) (code : Nat) : (s.tapIr code).pdReq = s.pdReq := rfl
@[simp] theorem State.tapIr_pdAck (s : State) (code : Nat) : (s.tapIr code).pdAck = s.pdAck := rfl
@[simp] theorem State.tapIr_raised (s : State) (code : Nat) : (s.tapIr code).raised = s.raised := rfl

@[simp] theorem State.tapIr_tstOn (s : State) (code : Nat) : (s.tapIr code).tstOn = s.tstOn := by
  simp only [State.tstOn, State.domainOn, State.cfgHeld, State.tapIr_resets, State.tapIr_pdReq, State.tapIr_pdAck]

@[simp] theorem State.tapIr_boundaryLen (s : State) (code : Nat) : (s.tapIr code).boundaryLen = s.boundaryLen := by
  simp only [State.boundaryLen, State.cellsPerSide, State.tapIr_build]

theorem State.tapIr_cellsPerSide (s : State) (code : Nat) : (s.tapIr code).cellsPerSide = s.cellsPerSide := rfl

theorem State.tapIr_txCell (s : State) (code k : Nat) : (s.tapIr code).txCell k = s.txCell k := by
  rw [State.txCell, State.tapIr_cellsPerSide, State.tapIr_build]
  rfl

theorem State.tapIr_domainOn (s : State) (code d : Nat) : (s.tapIr code).domainOn d = s.domainOn d := by
  simp only [State.domainOn, State.tapIr_resets, State.tapIr_pdReq, State.tapIr_pdAck]

theorem State.tapIr_cellLive (s : State) (code k : Nat) : (s.tapIr code).cellLive k = s.cellLive k := by
  rw [State.cellLive, State.tapIr_cellsPerSide, State.tapIr_build, State.tapIr_tstOn, State.tapIr_domainOn]
  rfl

/-- Every cell captures what it would have captured before. -/
theorem State.tapIr_captureCells {s : State} {code : Nat} (h : code < 256) (pads : List Nat) :
    (s.tapIr code).captureCells pads = s.captureCells pads := by
  obtain ⟨-, -, hcells⟩ := s.tapIr_scanned code h
  simp only [State.captureCells, hcells, State.tapIr_txCell, State.tapIr_cellLive]

/-- A register bit is read from the register file, the build and the straps alone. -/
theorem State.flag_congr {s t : State} (hregs : s.regs = t.regs) (hbuild : s.build = t.build) (hstraps : s.straps = t.straps)
    (off i : Nat) : s.flag off i = t.flag off i := by
  simp only [State.flag, State.reg, State.role, hregs, hbuild, hstraps]

/-- Scan enable falls with an instruction; no other register changes. -/
theorem State.tapIr_flag (s : State) (code off i : Nat) :
    (s.tapIr code).flag off i = if off = 0x7004 ∧ i = 3 then false else s.flag off i := by
  rw [← s.flag_setFlag 0x7004 3 off i false (by decide)]
  exact State.flag_congr (congrArg State.regs (s.tapIr_eq code)) (s.tapIr_build code) (s.tapIr_straps code) off i

/-- What SAMPLE and EXTEST share: the instruction and the boundary register are scanned. -/
theorem State.boundaryScan_test {s : State} {code : Nat} (h : code < 256) (pads cells : List Nat) :
    s.test.Scanned ((s.tapIr code).scanCells pads cells).test code .updateDr ∧
    ((s.tapIr code).scanCells pads cells).out = s.out ++ [.tapIr s.irCapture, .tapCells (s.captureCells pads)] ∧
    ((s.tapIr code).scanCells pads cells).test.cells = if s.tstOn then cells.filter (fun k => k < s.boundaryLen) else [] := by
  obtain ⟨hscanned, -, -⟩ := s.tapIr_scanned code h
  refine ⟨?_, ?_, ?_⟩
  · rw [State.scanCells_test]
    exact hscanned.drScan (s.tapIr code).toward (s.tapIr code).boundaryLen
  · rw [State.scanCells_out, State.tapIr_captureCells h, State.tapIr_out, List.append_assoc]
    rfl
  · rw [State.scanCells_test, State.tapIr_tstOn, State.tapIr_boundaryLen]

/-- EXTEST (R575): its cells drive where every strand is at rest, and else it acts as SAMPLE. -/
theorem State.extest_test (s : State) (pads cells : List Nat) :
    (s.extest pads cells).test = { ((s.tapIr 0x00).scanCells pads cells).test with drives := s.allGreen true } := by
  have hdrives : ((s.tapIr 0x00).scanCells pads cells).test.drives = false := rfl
  unfold State.extest
  cases s.allGreen true with
  | false => exact hdrives ▸ rfl
  | true =>
    dsimp only
    split
    · contradiction
    · split <;> rfl

/-! ## The instructions -/

section
variable {s : State} (haon : s.aonHeld = false)
include haon

theorem exec_tapTrstN : exec .tapTrstN s = .next (s.start.finishLight s.start.tapReset) :=
  runAonLight_up (fun s => s.tapReset) s haon

theorem exec_testLogicReset : exec .testLogicReset s = .next (s.start.finishLight s.start.tapLogicReset) :=
  runAonLight_up (fun s => s.tapLogicReset) s haon

theorem exec_idcode : exec .idcode s =
    .next (s.start.finishLight (((s.start.tapIr 0x01).tapDr 32).emit (.tapCapture 0x5E0DC1ED))) :=
  runAonLight_up (fun s => ((s.tapIr 0x01).tapDr 32).emit (.tapCapture 0x5E0DC1ED)) s haon

theorem exec_bypass : exec .bypass s = .next (s.start.finishLight (((s.start.tapIr 0xFF).tapDr 1).emit (.tapCapture 0))) :=
  runAonLight_up (fun s => ((s.tapIr 0xFF).tapDr 1).emit (.tapCapture 0)) s haon

theorem exec_sample (pads cells : List Nat) :
    exec (.sample pads cells) s = .next (s.start.finishLight ((s.start.tapIr 0x02).scanCells pads cells)) :=
  runAonLight_up (fun s => (s.tapIr 0x02).scanCells pads cells) s haon

theorem exec_extest (pads cells : List Nat) :
    exec (.extest pads cells) s = .next (s.start.finishLight (s.start.extest pads cells)) :=
  runAonLight_up (fun s => s.extest pads cells) s haon

theorem exec_pcfg (v : Bool) : exec (.pcfg v) s = .next (s.start.finishLight (s.start.pcfg v)) :=
  runAonLight_up (fun s => s.pcfg v) s haon

theorem exec_scan : exec .scan s = .next (s.start.finishLight s.start.scan) := runAonLight_up (fun s => s.scan) s haon

end

/-- PCFG (R571): PASS as it was written leaves, and the next value is written on a chain only. -/
theorem State.pcfg_spec (s : State) (v : Bool) : s.test.Scanned (s.pcfg v).test 0x04 .updateDr ∧
    (s.pcfg v).out = s.out ++ [.tapIr s.irCapture, .tapCapture (b2n s.test.passSet)] ∧ (s.pcfg v).test.passSet = (s.toward && v) := by
  obtain ⟨hscanned, -, -⟩ := s.tapIr_scanned 0x04 (by decide)
  have hpass : (s.tapIr 0x04).test.pass = s.test.passSet := hscanned.2.2.1
  have hout : (s.pcfg v).out = ((s.tapIr 0x04).out ++ [.tapCapture (b2n (s.tapIr 0x04).test.pass)]) := rfl
  refine ⟨hscanned.drScan s.toward 1, ?_, rfl⟩
  rw [hout, hpass, State.tapIr_out, List.append_assoc]
  rfl

/-- SCAN of a washed block that is at rest: SCANNED and scan enable are set (R582). -/
theorem State.scan_enables {s : State} (hwashed : s.flag 0x7004 1 = true) (hidle : s.flag 0x7004 0 = false) :
    s.scan = ((s.tapIr 0x10).setFlag 0x7004 2 true).setFlag 0x7004 3 true := by
  simp only [State.scan, hwashed, hidle]
  rfl

/-- Any other SCAN is refused and recorded. -/
theorem State.scan_refused {s : State} (h : s.flag 0x7004 1 = false ∨ s.flag 0x7004 0 = true) :
    s.scan = ((((s.tapIr 0x10).sticky 0x7014 0).raise 0x0A42 0).tapDr 1).emit (.tapCapture 0) := by
  have hcond : (s.flag 0x7004 1 && !s.flag 0x7004 0) = false := by rcases h with h | h <;> simp [h]
  simp only [State.scan, hcond]
  rfl

/-- What SCAN leaves where it is not refused. -/
theorem State.enabledScan_spec (s : State) :
    let u := ((s.tapIr 0x10).setFlag 0x7004 2 true).setFlag 0x7004 3 true
    s.test.Scanned u.test 0x10 .updateIr ∧ u.out = s.out ++ [.tapIr s.irCapture] ∧ u.raised = s.raised ∧ u.flag 0x7004 2 = true ∧
      u.flag 0x7004 3 = true := by
  refine ⟨?_, ?_, ?_, ?_, ?_⟩
  · simpa using (s.tapIr_scanned 0x10 (by decide)).1
  · simp
  · simp
  · rw [State.flag_setFlag _ _ _ _ _ _ (by decide), if_neg (by decide), State.flag_setFlag_same _ _ _ _ (by decide)]
  · exact State.flag_setFlag_same _ _ _ _ (by decide)

/-- A refused SCAN sets SCAN_REFUSED, and scan enable falls as with any instruction. -/
theorem State.refusedScan_flag (s : State) (off i : Nat) :
    (((((s.tapIr 0x10).sticky 0x7014 0).raise 0x0A42 0).tapDr 1).emit (.tapCapture 0)).flag off i =
      (decide (off = 0x7014 ∧ i = 0) || if off = 0x7004 ∧ i = 3 then false else s.flag off i) := by
  rw [← State.tapIr_flag s 0x10 off i, ← (s.tapIr 0x10).flag_sticky 0x7014 0 off i (by decide)]
  exact State.flag_congr (by simp) (by simp) (by simp) off i

/-- What a refused SCAN leaves. -/
theorem State.refusedScan_spec (s : State) :
    let u := ((((s.tapIr 0x10).sticky 0x7014 0).raise 0x0A42 0).tapDr 1).emit (.tapCapture 0)
    s.test.Scanned u.test 0x10 .updateDr ∧ u.out = s.out ++ [.tapIr s.irCapture, .tapCapture 0] ∧
      u.raised = s.raised ++ [⟨0x0A42, 0, 0, false, 0⟩] ∧ u.flag 0x7004 2 = s.flag 0x7004 2 ∧ u.flag 0x7004 3 = false ∧
      u.flag 0x7014 0 = true := by
  refine ⟨?_, ?_, ?_, ?_, ?_, ?_⟩
  · simpa using (s.tapIr_scanned 0x10 (by decide)).1.drScan (((s.tapIr 0x10).sticky 0x7014 0).raise 0x0A42 0).toward 1
  · simp
  · simp
  · simp [State.refusedScan_flag]
  · simp [State.refusedScan_flag]
  · simp [State.refusedScan_flag]

/-- Settles O51: the pads by the test side of the build, the edges by definition, and each instruction by its scans. -/
theorem testPortInstructions : Obligations.TestPortInstructions := by
  unfold Obligations.TestPortInstructions
  refine ⟨fun s p => ⟨s.irCapture_spec.1, s.irCapture_spec.2, fun h => State.testPads_none h p, fun h hoff => ?closed,
      fun h haon hpass => ⟨State.testPads_open h (by simp [State.passOn, haon, hpass]) p,
        fun hshift => State.tapTdo_retimed hshift haon hpass h⟩,
      State.tapTdo_idle, fun b hshift haon hpass => State.tapTdo_own hshift haon hpass⟩,
    fun toward captured t tms tdi => ⟨rfl, fun htoward hpass => ?edge⟩,
    fun s haon => ⟨?trst, ?reset, ?idcode, ?bypass, fun pads cells => ?sample, fun pads cells => ?extest, fun v => ?pcfg,
      fun hwashed hidle => ?scan, fun h => ?refused⟩⟩
  case closed =>
    have hpass : s.passOn = false := by rcases hoff with h | h <;> simp [State.passOn, h]
    rw [State.testPads_closed h hpass]
    exact ⟨rfl, rfl⟩
  case edge => simp [Test.edge, htoward, hpass]
  case trst => exact ⟨_, exec_tapTrstN haon, rfl⟩
  case reset => exact ⟨_, exec_testLogicReset haon, s.start.tapLogicReset_test⟩
  case idcode => exact ⟨_, exec_idcode haon, (s.start.tapIr_scanned 0x01 (by decide)).1.drScan s.toward 32, rfl⟩
  case bypass => exact ⟨_, exec_bypass haon, (s.start.tapIr_scanned 0xFF (by decide)).1.drScan s.toward 1, rfl⟩
  case sample => exact ⟨_, exec_sample haon pads cells, State.boundaryScan_test (s := s.start) (by decide) pads cells⟩
  case extest =>
    obtain ⟨⟨hir, hctl, hpass, -⟩, -, hcells⟩ := State.boundaryScan_test (s := s.start) (code := 0x00) (by decide) pads cells
    refine ⟨_, exec_extest haon pads cells, ?_⟩
    rw [State.finishLight_test, State.extest_test]
    exact ⟨hir, hctl, hpass, rfl, hcells⟩
  case pcfg => exact ⟨_, exec_pcfg haon v, s.start.pcfg_spec v⟩
  case scan => exact ⟨_, exec_scan haon, State.scan_enables (s := s.start) hwashed hidle ▸ s.start.enabledScan_spec⟩
  case refused => exact ⟨_, exec_scan haon, State.scan_refused (s := s.start) h ▸ s.start.refusedScan_spec⟩

end Sys2Proof.Machine

/-! # Proofs: settling and logging keep what is reported

A code that is raised while a command settles is logged at its end, and the kiln log's summary then shows its family. Nothing that settles or
logs takes a raised code back or clears the summary: this file says so of each function that they are made of. -/

namespace Sys2Proof.Machine

/-! ## What reports a family -/

/-- A code of the family is raised, or the summary (R553) shows the family. -/
def FamilyIn (fam : Nat) (raised : List Raised) (regs : List (Nat × Word)) : Prop :=
  (∃ r ∈ raised, r.code / 256 = fam) ∨ ((lookupKey 0x3804 regs).getD 0).getLsbD (15 + fam) = true

/-- The step reports a family of codes. -/
def State.Reports (s : State) (fam : Nat) : Prop := FamilyIn fam s.raised s.regs

section
variable {s t : State} {fam : Nat}

/-- The bit of the summary, as a register bit. -/
theorem State.summary_eq (s : State) (i : Nat) : ((lookupKey 0x3804 s.regs).getD 0).getLsbD i = s.flag 0x3804 i := rfl

theorem State.reports_iff : s.Reports fam ↔ (∃ r ∈ s.raised, r.code / 256 = fam) ∨ s.flag 0x3804 (15 + fam) = true := Iff.rfl

theorem State.Reports.mono (h : s.Reports fam) (hr : ∀ r ∈ s.raised, ∃ r' ∈ t.raised, r'.code = r.code)
    (hf : s.flag 0x3804 (15 + fam) = true → t.flag 0x3804 (15 + fam) = true) : t.Reports fam := by
  rw [State.reports_iff] at *
  rcases h with ⟨r, hmem, hcode⟩ | h
  · obtain ⟨r', hmem', hcode'⟩ := hr r hmem
    exact .inl ⟨r', hmem', hcode' ▸ hcode⟩
  · exact .inr (hf h)

/-! ## Choices and loops -/

theorem State.Reports.ite {c : Prop} [Decidable c] {a b : State} (ha : a.Reports fam) (hb : b.Reports fam) :
    (if c then a else b).Reports fam := by
  split <;> assumption

theorem State.Reports.forEach {β : Type} {l : List β} {f : β → State → State} (hf : ∀ b x, x.Reports fam → (f b x).Reports fam)
    (h : s.Reports fam) : (forEach l f s).Reports fam := forEach_keeps (State.Reports · fam) l f s hf h

theorem State.Reports.forRange {n : Nat} {f : Nat → State → State} (hf : ∀ i x, x.Reports fam → (f i x).Reports fam)
    (h : s.Reports fam) : (forRange n f s).Reports fam := forRange_keeps (State.Reports · fam) n f s hf h

/-- A fold that carries a state along with something else. -/
theorem State.Reports.foldl {α β : Type} {p : β → State} {f : β → α → β} {l : List α} {b : β}
    (hf : ∀ b a, (p b).Reports fam → (p (f b a)).Reports fam) (h : (p b).Reports fam) : (p (l.foldl f b)).Reports fam := by
  induction l generalizing b with
  | nil => exact h
  | cons a l ih => exact ih (hf b a h)

end

/-! ## Registers and codes -/

/-- Setting a sticky bit clears none. -/
theorem State.flag_sticky_mono {s : State} {off j : Nat} (o i : Nat) (h : s.flag off j = true) : (s.sticky o i).flag off j = true := by
  by_cases ho : off = o
  · subst ho
    have hj : j < 32 := by
      by_contra hge
      rw [State.flag, BitVec.getLsbD_of_ge _ _ (by omega)] at h
      cases h
    rw [State.flag_eq_testBit] at h
    rw [State.sticky, State.setFlag, State.setFld, State.flag, State.reg_setReg_same, BitVec.getLsbD_ofNat, setBits_testBit _ _ _ _ _ le_rfl, h]
    by_cases hij : i = j
    · simp [hij, hj, b2n]
    · rw [if_neg (by omega)]
      simp [hj]
  · rwa [State.flag, State.sticky, State.setFlag, State.reg_setFld_other _ _ _ _ _ _ ho]

section
set_option Elab.async false

variable {s : State} {fam : Nat} (h : s.Reports fam)
include h

/-- A change elsewhere than in the codes and the registers. -/
theorem State.Reports.same {t : State} (hr : t.raised = s.raised := by rfl) (hg : t.regs = s.regs := by rfl) : t.Reports fam := by
  unfold State.Reports
  rwa [hr, hg]

theorem State.Reports.setReg {off w} (ho : off ≠ 0x3804 := by decide) : (s.setReg off w).Reports fam :=
  h.mono (fun r hr => ⟨r, hr, rfl⟩) fun hf => by rwa [State.flag, s.reg_setReg_other off _ w ho.symm]

theorem State.Reports.setFld {off hi lo x} (ho : off ≠ 0x3804 := by decide) : (s.setFld off hi lo x).Reports fam := h.setReg ho
theorem State.Reports.setFlag {off i b} (ho : off ≠ 0x3804 := by decide) : (s.setFlag off i b).Reports fam := h.setFld ho
theorem State.Reports.bumpSat {off hi lo n} (ho : off ≠ 0x3804 := by decide) : (s.bumpSat off hi lo n).Reports fam := h.setFld ho
theorem State.Reports.bumpWrap {off hi lo n} (ho : off ≠ 0x3804 := by decide) : (s.bumpWrap off hi lo n).Reports fam := h.setFld ho

theorem State.Reports.sticky {off i} : (s.sticky off i).Reports fam := h.mono (fun r hr => ⟨r, hr, rfl⟩) (State.flag_sticky_mono _ _)

theorem State.Reports.stickyIf {c : Prop} [Decidable c] {off i} : (if c then s.sticky off i else s).Reports fam := .ite h.sticky h

theorem State.Reports.raise {code unit data inj} : (s.raise code unit data inj).Reports fam :=
  h.mono (fun r hr => ⟨r, List.mem_append_left _ hr, rfl⟩) id

theorem State.Reports.fire {point unit} : (s.fire point unit).2.Reports fam := by
  unfold State.fire
  split
  · exact .ite (.setFlag h.same) h.same
  · exact h

theorem State.Reports.fireIf {c : Prop} [Decidable c] {point unit} : (if c then s.fire point unit else (false, s)).2.Reports fam := by
  split
  · exact h.fire
  · exact h

theorem State.Reports.fireUnless {c : Prop} [Decidable c] {point unit} : (if c then (false, s) else s.fire point unit).2.Reports fam := by
  split
  · exact h
  · exact h.fire

/-- Marking codes as injected keeps every code. -/
theorem State.Reports.marked {before : State} {inj} : (before.marked inj s).Reports fam := by
  unfold State.marked
  dsimp only
  split
  · refine h.mono (fun r hr => ?_) id
    rw [← List.take_append_drop before.raised.length s.raised] at hr
    rcases List.mem_append.1 hr with hr | hr
    · exact ⟨r, List.mem_append_left _ hr, rfl⟩
    · exact ⟨_, List.mem_append_right _ (List.mem_map_of_mem hr), rfl⟩
  · exact h

/-! ## Rings and requests -/

theorem State.Reports.emit {o} : (s.emit o).Reports fam := h.same
theorem State.Reports.modRing {p f} : (s.modRing p f).Reports fam := h.same
theorem State.Reports.messageOut {p} : (s.messageOut p).Reports fam := .ite h h.same
theorem State.Reports.sendMessages {p} : (s.sendMessages p).Reports fam := .forEach (fun _ _ h => h.messageOut) h.modRing
theorem State.Reports.messageDue {p} : (s.messageDue p).Reports fam := h.modRing.sendMessages
theorem State.Reports.countEntry {p n now} : (s.countEntry p n now).Reports fam := .ite (.ite h.modRing.messageDue h.modRing) h
theorem State.Reports.writeEntry {p bs use now} : (s.writeEntry p bs use now).Reports fam := .countEntry (.modRing h.same)

theorem State.Reports.complete {d st res off peer} : (s.complete d st res off peer).Reports fam := by
  unfold State.complete
  split
  · exact h
  · exact .ite h (.writeEntry h.same)

theorem State.Reports.badField {d off} : (s.badField d off).Reports fam := h.complete
theorem State.Reports.writeEvent {e u c data} : (s.writeEvent e u c data).Reports fam := h.writeEntry
theorem State.Reports.flushLost : s.flushLost.Reports fam := .ite h.modRing.writeEvent h
theorem State.Reports.eventLost : s.eventLost.Reports fam := h.modRing

theorem State.Reports.postNow {e u c data} : (s.postNow e u c data).Reports fam :=
  .ite h (.ite h.flushLost.writeEvent h.flushLost.eventLost)

theorem State.Reports.postEvent {e u c data} : (s.postEvent e u c data).Reports fam := .ite h.postNow h.same
theorem State.Reports.flushEvents : s.flushEvents.Reports fam := .forEach (fun _ _ h => h.postNow) h.same
theorem State.Reports.ringFault {p c inj} : (s.ringFault p c inj).Reports fam := .ite h.modRing.raise h.modRing.raise.postEvent
theorem State.Reports.checkFences : s.checkFences.Reports fam := .forEach (fun _ _ h => .ite h (.complete h.same)) h
theorem State.Reports.hmWriteReq {a bs use} : (s.hmWriteReq a bs use).Reports fam := h.same
theorem State.Reports.hmReadReq {a n use} : (s.hmReadReq a n use).Reports fam := h.same
theorem State.Reports.memReq {ch o use} : (s.memReq ch o use).Reports fam := .ite (.emit h.same) h.same
theorem State.Reports.memRelease : s.memRelease.Reports fam := .forEach (fun _ _ h => h.emit) h.same
theorem State.Reports.memWriteReq {ch a bs use} : (s.memWriteReq ch a bs use).Reports fam := h.memReq
theorem State.Reports.memReadReq {ch a n use} : (s.memReadReq ch a n use).Reports fam := h.memReq

theorem State.Reports.hmWrites4 {a bs use} : (s.hmWrites4 a bs use).Reports fam :=
  .foldl (p := Prod.fst) (fun _ _ h => h.hmWriteReq) h

theorem State.Reports.memWrites {ch a bs use} : (s.memWrites ch a bs use).1.Reports fam :=
  .foldl (p := Prod.fst) (fun _ _ h => h.memWriteReq) h

theorem State.Reports.nvWriteReq {a w use} : (s.nvWriteReq a w use).Reports fam := h.same

theorem State.Reports.nvWriteBytes {a bs use} : (s.nvWriteBytes a bs use).Reports fam :=
  .foldl (p := Prod.fst) (fun _ _ h => h.nvWriteReq) h

theorem State.Reports.writeLogImage : s.writeLogImage.Reports fam := .ite h.same (.nvWriteBytes h.same)
theorem State.Reports.closeStreamWindows {id} : (s.closeStreamWindows id).Reports fam := h.same

/-! ## Streams -/

theorem State.Reports.numSticky {id t seen} : (s.numSticky id t seen).Reports fam :=
  .stickyIf (.ite (.ite h.stickyIf.sticky h.stickyIf.sticky.raise) h.stickyIf)

theorem State.Reports.setTx {id st} : (s.setTx id st).Reports fam := h.same

theorem State.Reports.modTx {id f} : (s.modTx id f).Reports fam := by
  unfold State.modTx
  split
  · exact h.setTx
  · exact h

theorem State.Reports.saveTake {x} : (s.saveTake x).Reports fam := h.same

theorem State.Reports.writeQuery {d r} : (s.writeQuery d r).Reports fam := by
  unfold State.writeQuery
  split
  · exact h.hmWriteReq
  · exact h

theorem State.Reports.queryTake {id} : (s.queryTake id).Reports fam := by
  unfold State.queryTake
  refine .ite h ?_
  split
  · exact .forEach (fun _ _ h => h.writeQuery) h.same
  · exact h

theorem State.Reports.commitParcel {id st p mode len} : (s.commitParcel id st p mode len).Reports fam :=
  h.fireIf.setTx.numSticky.marked.saveTake.queryTake

theorem State.Reports.cutParcel {id st p} : (s.cutParcel id st p).Reports fam := h.commitParcel
theorem State.Reports.setRx {key st} : (s.setRx key st).Reports fam := h.same

theorem State.Reports.modRx {key f} : (s.modRx key f).Reports fam := by
  unfold State.modRx
  split
  · exact h.setRx
  · exact h

theorem State.Reports.returnCells {key n} : (s.returnCells key n).Reports fam := by
  unfold State.returnCells
  split
  · exact h
  · exact .ite h.setRx.modTx h.setRx

theorem State.Reports.returnPair {key} : (s.returnPair key).Reports fam := by
  unfold State.returnPair
  split
  · exact h
  · exact .ite h.modTx h.setRx

theorem State.Reports.freeSlots {key} : (s.freeSlots key).Reports fam := by
  unfold State.freeSlots
  split
  · exact h
  · exact .forEach (fun _ _ h => h.returnPair) h.setRx

theorem State.Reports.closePair {key mb dir} : (s.closePair key mb dir).Reports fam := by
  unfold State.closePair
  split
  · exact h
  · exact .ite h.setRx.freeSlots h.returnPair

theorem State.Reports.modParcel {key uid f} : (s.modParcel key uid f).Reports fam := h.modRx

theorem State.Reports.dropParcel {key uid} : (s.dropParcel key uid).Reports fam := by
  unfold State.dropParcel
  split
  · exact h
  · exact h.returnCells.modRx.freeSlots

theorem State.Reports.discardParcel {key uid} : (s.discardParcel key uid).Reports fam := by
  unfold State.discardParcel
  split
  · exact h
  · exact .ite h.dropParcel h.returnCells.modParcel.freeSlots

theorem State.Reports.modPort {n f} : (s.modPort n f).Reports fam := h.same
theorem State.Reports.answerBeat {port side} : (s.answerBeat port side).Reports fam := h.modPort

theorem State.Reports.endParcel {key uid status keep} : (s.endParcel key uid status keep).Reports fam := by
  unfold State.endParcel
  split
  · exact h
  · split
    · exact h
    · exact .ite h.modPort.discardParcel (.ite h.returnCells.modParcel h.discardParcel)

theorem State.Reports.commitRxTo {key uid n draws} : (s.commitRxTo key uid n draws).Reports fam := by
  unfold State.commitRxTo
  split
  · exact h
  · split
    · exact h
    · exact h.fireUnless.setRx.modParcel.numSticky.marked.saveTake

theorem State.Reports.commitRx {key uid} : (s.commitRx key uid).Reports fam := by
  unfold State.commitRx
  split
  · exact h
  · exact h.commitRxTo

theorem State.Reports.abandonParcel {key uid} : (s.abandonParcel key uid).Reports fam := by
  unfold State.abandonParcel
  split
  · exact h
  · exact .discardParcel (.ite h.commitRx h)

theorem State.Reports.failFrom {key uid code n} : (s.failFrom key uid code n).Reports fam := by
  unfold State.failFrom
  split
  · exact h
  · split
    · exact h
    · extract_lets hdr s1 s2 s3 s4
      have h2 : s2.Reports fam := .raise (.ite h.modRx h.modRx)
      have h4 : s4.Reports fam := .endParcel (.ite h2.commitRxTo h2)
      exact .ite h4.closePair h4

theorem State.Reports.failParcel {key uid code} : (s.failParcel key uid code).Reports fam := by
  unfold State.failParcel
  split
  · exact h
  · exact h.failFrom

theorem State.Reports.pushMsg {type body} : (s.pushMsg type body).Reports fam := h.same

theorem State.Reports.enqueue {id p sought} : (s.enqueue id p sought).Reports fam := by
  unfold State.enqueue
  split
  · exact h
  · exact .setTx h.same

/-! ## Shelves and draws -/

theorem State.Reports.modShelf {i f} : (s.modShelf i f).Reports fam := h.same
theorem State.Reports.takeShelf {d e} : (s.takeShelf d e).Reports fam := h.modShelf.complete

theorem State.Reports.serveShelfWaits : s.serveShelfWaits.Reports fam := by
  unfold State.serveShelfWaits
  refine .forEach (fun _ _ h => ?_) h
  split
  · exact h.same
  · exact .ite (.takeShelf h.same) h

theorem State.Reports.orphanFills {i} : (s.orphanFills i).Reports fam := h.same

theorem State.Reports.freeShelf {i} : (s.freeShelf i).Reports fam := by
  unfold State.freeShelf
  extract_lets _ s1
  have h1 : s1.Reports fam := h.modShelf.orphanFills
  exact .serveShelfWaits (.postEvent (.forEach (fun _ _ h => h.badField) h1.same))

theorem State.Reports.settleShelf {i} : (s.settleShelf i).Reports fam :=
  .ite (.ite h.freeShelf (.ite h h.modShelf.sticky.raise.postEvent)) h

theorem State.Reports.settleShelves : s.settleShelves.Reports fam := .forRange (fun _ _ h => h.settleShelf) h

theorem State.Reports.pumpFetch {w} : (s.pumpFetch w).Reports fam := by
  unfold State.pumpFetch
  split
  · exact h
  · exact .ite h (.memReadReq h.same)

theorem State.Reports.answerFetch {key uid shelf} : (s.answerFetch key uid shelf).Reports fam := by
  unfold State.answerFetch
  split
  · exact h
  · exact .dropParcel (.pumpFetch (.same h.enqueue))

theorem State.Reports.holdItem {key uid cause bound} : (s.holdItem key uid cause bound).Reports fam := by
  unfold State.holdItem
  split
  · exact h
  · exact h.modParcel.modRx.raise.sticky.postEvent

theorem State.Reports.fetchWaits {key uid code} : (s.fetchWaits key uid code).Reports fam := by
  unfold State.fetchWaits
  split
  · exact h
  · exact .ite h.modParcel (.ite h.modParcel.raise.sticky.postEvent h.modParcel.raise.sticky)

theorem State.Reports.badFetch {key uid} : (s.badFetch key uid).Reports fam := h.modRx.raise.dropParcel

theorem State.Reports.serveFetch {key uid} : (s.serveFetch key uid).Reports fam := by
  unfold State.serveFetch
  split
  · exact h
  · refine .ite h.badFetch ?_
    dsimp only
    split
    · exact .ite h.badFetch h.answerFetch
    · refine .ite ?_ h.holdItem
      split
      · exact h.fetchWaits
      · exact .ite h.fetchWaits (.ite (.badFetch h.same) (.answerFetch h.same))

theorem State.Reports.checkVersion {key uid} : (s.checkVersion key uid).Reports fam := by
  unfold State.checkVersion
  split
  · exact h
  · refine .ite h.modParcel ?_
    split
    · exact .ite h.holdItem h
    · exact .ite (.ite h.fire.holdItem.marked h) (.ite h.modParcel (.ite h.holdItem h))

theorem State.Reports.advanceItems {key n} : (State.advanceItems key n s).Reports fam := by
  induction n generalizing s with
  | zero => exact h
  | succ n ih =>
    unfold State.advanceItems
    split
    · exact h
    · refine .ite h ?_
      split
      · exact h
      · extract_lets s1
        have h1 : s1.Reports fam := .ite (.ite h.serveFetch h) h.checkVersion
        split
        · exact .ite h1 (ih h1)
        · exact ih h1

theorem State.Reports.advanceStream {key} : (s.advanceStream key).Reports fam := by
  unfold State.advanceStream
  split
  · exact h
  · exact h.advanceItems

theorem State.Reports.advanceFetches : s.advanceFetches.Reports fam := .forEach (fun _ _ h => .ite h.advanceStream h) h
theorem State.Reports.modDraw {id f} : (s.modDraw id f).Reports fam := h.same
theorem State.Reports.dropDrawParcels {d} : (s.dropDrawParcels d).Reports fam := h.modTx

theorem State.Reports.endDraw {d status res} : (s.endDraw d status res).Reports fam := by
  unfold State.endDraw
  refine .settleShelves (.complete ?_)
  have h1 : (State.dropDrawParcels { s with draws := s.draws.filter (fun (x : Draw) => x.id != d.id) } d).Reports fam := .dropDrawParcels h.same
  split
  · exact h1.modShelf
  · exact h1

theorem State.Reports.cutDraw {d} : (s.cutDraw d).Reports fam := by
  unfold State.cutDraw
  refine .ite h.endDraw.sticky (.sticky ?_)
  split
  · exact .modShelf h.same
  · exact h.same

theorem State.Reports.suspendDraw {d status} : (s.suspendDraw d status).Reports fam := by
  unfold State.suspendDraw
  refine .settleShelves (.complete (.sticky ?_))
  split
  · exact h.dropDrawParcels.modDraw.modShelf
  · exact h.dropDrawParcels.modDraw

theorem State.Reports.sendClosing {d} : (s.sendClosing d).Reports fam := h.modDraw.enqueue
theorem State.Reports.writeDrawTable {d} : (s.writeDrawTable d).Reports fam := h.hmWrites4.modDraw

theorem State.Reports.pumpDraw {id} : (s.pumpDraw id).Reports fam := by
  unfold State.pumpDraw
  split
  · exact h
  · exact .ite h (.ite (.ite h.sendClosing h.writeDrawTable) (.ite h h.memReadReq.modDraw))

theorem State.Reports.pumpDraws : s.pumpDraws.Reports fam := .forEach (fun _ _ h => h.pumpDraw) h
theorem State.Reports.endRestore {r status res} : (s.endRestore r status res).Reports fam := .complete h.same

theorem State.Reports.violation {code unit i} : (s.violation code unit i).Reports fam := by
  unfold State.violation
  extract_lets s1
  have h1 : s1.Reports fam := h.bumpSat.sticky.raise
  exact .ite h1.same h1

theorem State.Reports.sagDigest {inbound id fmt ctl b} : (s.sagDigest inbound id fmt ctl b).2.Reports fam := by
  have hfire := h.fire (point := 0x1F) (unit := id)
  unfold State.sagDigest
  generalize s.fire 0x1F id = r at hfire ⊢
  obtain ⟨inj, s1⟩ := r
  dsimp only
  split
  · exact hfire
  · exact .ite hfire.same hfire

/-! ## Accumulation and dispatch -/

theorem State.Reports.setRegion {r g} : (s.setRegion r g).Reports fam := h.same

theorem State.Reports.accConsume {key fuel n} : (s.accConsume key fuel n).Reports fam := by
  induction fuel generalizing s n with
  | zero => exact h
  | succ fuel ih =>
    unfold State.accConsume
    split
    · exact h
    · exact .ite (ih h.dropParcel) h.returnCells.modParcel

theorem State.Reports.accTake {key n} : (s.accTake key n).1.Reports fam := by
  unfold State.accTake
  split
  · exact h
  · exact h.accConsume

theorem State.Reports.finishRounds {r} : (s.finishRounds r).Reports fam := by
  unfold State.finishRounds
  split
  · exact h
  · exact .forEach (fun _ _ h => .postEvent (.ite h.bumpWrap.bumpSat.sticky h.bumpWrap)) h.setRegion

theorem State.Reports.modContrib {r slot c f} : (s.modContrib r slot c f).Reports fam := by
  unfold State.modContrib
  split
  · exact h
  · exact h.setRegion

theorem State.Reports.accBreak {r key c slot mb run ended} : (s.accBreak r key c slot mb run ended).Reports fam := by
  unfold State.accBreak
  extract_lets s1 s2
  have h1 : s1.Reports fam := .forEach (fun _ _ h => h.abandonParcel) h.raise
  have h2 : s2.Reports fam := .ite h1 h1.modRx
  split
  · exact h2
  · exact h2.setRegion

theorem State.Reports.accStart {r key st g x c j} : (s.accStart r key st g x c j).1.Reports fam := by
  unfold State.accStart
  dsimp only
  split
  · exact h.accTake.modContrib
  · split
    · exact h.setRegion.memWriteReq
    · exact h.modContrib.memReadReq

theorem State.Reports.accTry {r c} : (s.accTry r c).1.Reports fam := by
  unfold State.accTry
  split
  · split
    · exact h
    · extract_lets run ended
      clear_value run
      split
      · exact h
      · extract_lets slot
        split
        · exact h.setRegion
        · extract_lets k total
          split
          · exact h
          · have hfire : (if ended = true then s.fire 0x1C r else (false, s)).2.Reports fam := h.fireIf
            generalize (if ended = true then s.fire 0x1C r else (false, s)) = q at hfire ⊢
            obtain ⟨inj, s1⟩ := q
            replace hfire : s1.Reports fam := hfire
            dsimp only
            split
            · exact hfire.accBreak.marked
            · split
              · split
                · exact hfire.accTake.modContrib
                · exact hfire.accTake
              · split
                · exact hfire
                · exact hfire.accStart
  · exact h

theorem State.Reports.accPump {r n} : (State.accPump r n s).Reports fam := by
  induction n generalizing s with
  | zero => exact h
  | succ n ih =>
    unfold State.accPump
    extract_lets a t
    have ha : a.1.Reports fam := State.Reports.foldl (p := Prod.fst) (b := (s, false)) (fun _ _ h => h.accTry) h
    have ht : t.Reports fam := ha.finishRounds
    exact .ite (ih ht) ht

theorem State.Reports.accRun {r} : (s.accRun r).Reports fam := h.accPump

theorem State.Reports.accInterrupt {key st} : (s.accInterrupt key st).Reports fam := by
  unfold State.accInterrupt
  extract_lets r c
  split
  · exact h
  · extract_lets open_ s1 s2 s3
    have h2 : s2.Reports fam := by
      refine .forEach (fun _ _ h => ?_) h.setRegion
      split
      · exact .forEach (fun _ _ h => h.abandonParcel) h
      · exact h
    have h3 : s3.Reports fam := by
      simp only [s3]
      split
      · exact .forEach (fun _ _ h => .ite h.abandonParcel h) h2
      · exact h2
    exact h3.accRun

theorem State.Reports.setTable {t} : (s.setTable t).Reports fam := h.same

theorem State.Reports.dispSticky {a b noRoute unmapped} : (s.dispSticky a b noRoute unmapped).Reports fam :=
  h.stickyIf.stickyIf.stickyIf.stickyIf

theorem State.Reports.losePair {id} : (s.losePair id).Reports fam := by
  unfold State.losePair
  split
  · exact h
  · refine .ite h ?_
    extract_lets s1 rows
    have h1 : s1.Reports fam := h.setTx
    split
    · exact h1
    · extract_lets mine t1 held t2 s2 s3
      have h2 : s2.Reports fam := h1.setTable.dispSticky
      have h3 : s3.Reports fam := .ite h2 h2.sticky
      split
      · exact h3
      · exact h3.modTx

theorem State.Reports.fencePair {id} : (s.fencePair id).Reports fam := by
  unfold State.fencePair
  split
  · exact h
  · refine .ite h ?_
    extract_lets s1
    have h1 : (s1.modTx id (fun (t : TxStream) => { t with pairFenced := true })).Reports fam := h.losePair.modTx
    exact h1.same

theorem State.Reports.orphanRows {id num} : (s.orphanRows id num).Reports fam := h.same

/-! ## Captures and arrivals -/

theorem State.Reports.capturePieces {key uid n} : (s.capturePieces key uid n).Reports fam := by
  induction n generalizing s with
  | zero => exact h
  | succ n ih =>
    unfold State.capturePieces
    split
    · exact h
    · split
      · exact h
      · exact .ite h (ih (.ite h.hmWriteReq.modParcel.setFld h.hmWriteReq.modParcel))

theorem State.Reports.pumpCapture {n} : (State.pumpCapture n s).Reports fam := by
  induction n generalizing s with
  | zero => exact h
  | succ n ih =>
    unfold State.pumpCapture
    split
    · exact .ite h.capturePieces (ih h.capturePieces)
    · split
      · exact h
      · exact .ite (ih h.setFlag.abandonParcel) (ih h.modParcel)

theorem State.Reports.pumpCaptures : s.pumpCaptures.Reports fam := h.pumpCapture

theorem State.Reports.endLost {key uid} : (s.endLost key uid).Reports fam := by
  unfold State.endLost
  split
  · exact h
  · exact .ite h.dropParcel h.modParcel

theorem State.Reports.ghost {id last} : (s.ghost id last).Reports fam := h.same

theorem State.Reports.cutRx {key p last} : (s.cutRx key p last).Reports fam := by
  unfold State.cutRx
  extract_lets s1 s2
  have h1 : s1.Reports fam := .ite h h.failParcel
  exact .modRx (.ite h1.endLost h1)

theorem State.Reports.cutPacket {key last} : (s.cutPacket key last).Reports fam := by
  unfold State.cutPacket
  split
  · exact h
  · split
    · exact h
    · refine .ite h.setRx ?_
      extract_lets s2
      have h2 : s2.Reports fam := h.setRx.returnCells.raise
      exact .ite h2 h2.same

theorem State.Reports.rxFault {key body} : (s.rxFault key body).Reports fam := by
  unfold State.rxFault
  split
  · exact .ite h.ghost h
  · refine .ite (.ite h.ghost h) (.ite h (.ite (.ite h.cutPacket (.ite h.setRx.cutPacket h)) ?_))
    split
    · exact h.cutRx
    · exact .ite h h.setRx.cutRx

theorem State.Reports.portFaults {n} : (State.portFaults n s).Reports fam := by
  induction n generalizing s with
  | zero => exact h
  | succ n ih =>
    unfold State.portFaults
    split
    · exact ih (.rxFault h.same)
    · exact h

theorem State.Reports.interruptParcel {key status} : (s.interruptParcel key status).Reports fam := by
  unfold State.interruptParcel
  split
  · exact h
  · split
    · exact h
    · extract_lets s1 s2
      have h1 : s1.Reports fam := h.modRx
      have h2 : s2.Reports fam := .modParcel (.ite h1.commitRx h1)
      exact .ite h1.endLost (.ite h2.discardParcel (.ite h2.raise.discardParcel h2.raise.endParcel))

theorem State.Reports.answerPops {key status every} : (s.answerPops key status every).Reports fam := by
  unfold State.answerPops
  split
  · exact h
  · exact .forEach (fun _ _ h => h.answerBeat) h.modPort

theorem State.Reports.cutPackets {key stays} : (s.cutPackets key stays).Reports fam := by
  unfold State.cutPackets
  split
  · exact h
  · extract_lets part s1
    have h1 : s1.Reports fam := h.setRx
    exact .ite h1.same h1

theorem State.Reports.interruptRx {key status} : (s.interruptRx key status).Reports fam := by
  unfold State.interruptRx
  split
  · exact h
  · refine .ite h ?_
    extract_lets s1 cut s2 s3 s4 s5
    have h2 : s2.Reports fam := h.interruptParcel.cutPackets.modRx.returnCells
    have h3 : s3.Reports fam := by
      simp only [s3]
      split
      · exact .ite h2.accInterrupt h2
      · exact h2
    have h4 : s4.Reports fam := by
      simp only [s4]
      split
      · exact .ite h3.fencePair h3
      · exact h3
    exact .answerPops (.ite h4.ghost h4)

theorem State.Reports.detach {key} : (s.detach key).Reports fam := h.same

theorem State.Reports.freeRx {key forced} : (s.freeRx key forced).Reports fam := by
  unfold State.freeRx
  split
  · exact h
  · extract_lets busy s0 s1 s2 s3 s4 s5 s6
    have h1 : s1.Reports fam := .ite h.cutPackets h.cutPackets.interruptParcel
    have h2 : s2.Reports fam := by
      simp only [s2]
      split
      · refine .ite ?_ h1
        split
        · exact .endParcel (.ite h1.raise h1)
        · exact h1
      · exact h1
    have h3 : s3.Reports fam := by
      simp only [s3]
      split
      · exact .ite h2.accInterrupt h2
      · exact h2
    have h5 : s5.Reports fam := .answerPops (.ite h3.fencePair h3)
    have h6 : s6.Reports fam := .detach h5.same
    exact .ite h6.same (.ite h6.ghost h6)

theorem State.Reports.dropTxParcel {id status p} : (s.dropTxParcel id status p).Reports fam := by
  unfold State.dropTxParcel
  extract_lets s1
  have h1 : s1.Reports fam := h.modTx
  split
  · exact .ite h1 h1.postEvent
  · exact h1.complete
  · exact h1

theorem State.Reports.ptRespond {vc packet status} : (s.ptRespond vc packet status).Reports fam := h.same

theorem State.Reports.interruptTx {id status} : (s.interruptTx id status).Reports fam := by
  unfold State.interruptTx
  split
  · exact h
  · refine .ite h ?_
    extract_lets s0 s1 s2 waiting s3 s4
    have h0 : s0.Reports fam := by
      simp only [s0]
      split
      · exact .ite h.cutParcel h
      · exact h
    have h2 : s2.Reports fam := .forEach (fun _ _ h => h.dropTxParcel) h0.modTx
    have h4 : s4.Reports fam := .forEach (fun _ _ h => h.ptRespond) (.forEach (fun _ _ h => h.complete) h2.same)
    exact .ite h4.fencePair h4

theorem State.Reports.freeTx {id forced} : (s.freeTx id forced).Reports fam := by
  unfold State.freeTx
  split
  · exact h
  · extract_lets s0 s1 clear s2 guard s3
    have h0 : s0.Reports fam := .ite h.interruptTx.fencePair h.losePair
    have h1 : s1.Reports fam := .ite h0.orphanRows h0
    have h2 : s2.Reports fam := h1.same
    have h3 : s3.Reports fam := .ite h2.same h2
    exact .ite h3 h3.closeStreamWindows

theorem State.Reports.checkCloseRx {key} : (s.checkCloseRx key).Reports fam := by
  unfold State.checkCloseRx
  split
  · exact h
  · refine .ite h (.ite ?_ h.freeRx.pushMsg.closeStreamWindows)
    dsimp only
    split
    · exact h.freeRx.freeTx.closeStreamWindows.complete
    · exact h.freeRx.freeTx.closeStreamWindows

theorem State.Reports.checkCloseTx {id} : (s.checkCloseTx id).Reports fam := by
  unfold State.checkCloseTx
  split
  · exact h
  · split
    · exact .ite h (.ite h.setTx.modRx.checkCloseRx h.setTx.pushMsg)
    · exact h

theorem State.Reports.refuseAtomic {id p taken} : (s.refuseAtomic id p taken).Reports fam := by
  unfold State.refuseAtomic
  extract_lets s1
  have h1 : s1.Reports fam := .ite h.modTx h
  split
  · exact h1.raise.complete
  · exact h1.modTx.raise.postEvent

theorem State.Reports.refuseSource {id p} : (s.refuseSource id p).Reports fam := by
  unfold State.refuseSource
  extract_lets s1
  have h1 : s1.Reports fam := h.modTx.raise.postEvent
  split
  · exact h1.complete
  · exact h1

theorem State.Reports.enterParcel {id p sought} : (s.enterParcel id p sought).Reports fam := by
  unfold State.enterParcel
  split
  · exact h
  · refine .ite h.refuseAtomic (.ite h.refuseSource (.ite (.ite h.sagDigest.enqueue ?_) h.enqueue))
    dsimp only
    split
    · exact h.sagDigest.setTx.violation.marked.complete
    · exact h.sagDigest.setTx.violation.marked

theorem State.Reports.malformed {id} : (s.malformed id).Reports fam := h.modTx.raise
theorem State.Reports.modSend {d f} : (s.modSend d f).Reports fam := h.same

theorem State.Reports.readSend {d} : (s.readSend d).Reports fam := by
  unfold State.readSend
  split
  · exact h
  · exact .ite h h.modSend.hmReadReq

theorem State.Reports.badSend {d id} : (s.badSend d id).Reports fam := .badField (.malformed h.same)

theorem State.Reports.enterSend {d} : (s.enterSend d).Reports fam := by
  unfold State.enterSend
  split
  · exact h
  · dsimp only
    split
    · exact h
    · exact .ite h (.ite h.badSend h.modSend.enterParcel)

theorem State.Reports.pumpSends : s.pumpSends.Reports fam := by
  unfold State.pumpSends
  extract_lets s1
  have h1 : s1.Reports fam := .forEach (fun _ _ h => h.enterSend.readSend) h
  exact h1.same

/-! ## Offered beats, queries, fences and saves -/

theorem State.Reports.offer {port side data source} : (s.offer port side data source).Reports fam := h.modPort

theorem State.Reports.offerNext {port key uid} : (s.offerNext port key uid).Reports fam := by
  unfold State.offerNext
  split
  · exact h.modPort
  · exact .ite h h.offer.modPort.modParcel

theorem State.Reports.offerBeat {port} : (s.offerBeat port).Reports fam := by
  unfold State.offerBeat
  refine .ite h ?_
  split
  · exact h.offerNext
  · split
    · exact h.modPort.offer
    · split
      · exact h.modPort
      · dsimp only
        split
        · exact h.modPort.offer.modParcel
        · exact h.modPort.offerNext

theorem State.Reports.offerBeats : s.offerBeats.Reports fam := .forRange (fun _ _ h => h.offerBeat) h

theorem State.Reports.pumpQuery {q} : (s.pumpQuery q).Reports fam := by
  unfold State.pumpQuery
  extract_lets s1
  have h1 : s1.Reports fam := h.same
  refine .ite ?_ ?_
  · split
    · exact .ite h h1.writeQuery
    · exact h1.complete
  · split
    · exact .ite h h1.writeQuery
    · exact h1.complete

theorem State.Reports.pumpQueries : s.pumpQueries.Reports fam := .forEach (fun _ _ h => h.pumpQuery) h

theorem State.Reports.fenceOut {id status} : (s.fenceOut id status).Reports fam := by
  unfold State.fenceOut
  split
  · exact h
  · refine .forEach (fun _ _ h => .ite h.suspendDraw h) ?_
    split
    · exact .complete (.pushMsg h.same)
    · dsimp only
      split
      · exact h.interruptTx.modTx.complete
      · exact h.interruptTx.modTx
    · exact h.interruptTx

theorem State.Reports.fenceIn {key status} : (s.fenceIn key status).Reports fam := by
  unfold State.fenceIn
  split
  · exact h
  · refine .forEach (fun _ _ h => .ite h.endRestore h) ?_
    split
    · exact h.interruptRx.modRx.complete
    · exact h.interruptRx

theorem State.Reports.fenceStreams {status loops} : (s.fenceStreams status loops).Reports fam :=
  .forEach (fun _ _ h => .ite h.fenceIn h) (.forEach (fun _ _ h => .ite h.fenceOut h) h)

theorem State.Reports.pumpSave {v} : (State.pumpSave v s).Reports fam := by
  unfold State.pumpSave
  refine .ite h ?_
  extract_lets g w s1
  have h1 : s1.Reports fam := h.same
  exact .ite h1 (.ite h1.memWrites h1.hmWrites4)

theorem State.Reports.pumpSaves : s.pumpSaves.Reports fam := .forEach (fun _ _ h => h.pumpSave) h

/-! ## Strands -/

theorem State.Reports.modStrand {i f} : (s.modStrand i f).Reports fam := h.same
theorem State.Reports.standDown {i row} : (s.standDown i row).Reports fam := .ite h.modStrand h
theorem State.Reports.guarantee {u c st data} : (s.guarantee u c st data).Reports fam := h.postEvent
theorem State.Reports.writeRepair {i} : (s.writeRepair i).Reports fam := .ite h.modStrand h.modStrand.nvWriteBytes
theorem State.Reports.writeCal {i temp} : (s.writeCal i temp).Reports fam := .ite h.modStrand h.modStrand.nvWriteBytes
theorem State.Reports.sendFrame {type p} : (s.sendFrame type p).Reports fam := h.emit
theorem State.Reports.sendReady : s.sendReady.Reports fam := h.sendFrame
theorem State.Reports.sendRec {i dir phase} : (s.sendRec i dir phase).Reports fam := h.sendFrame
theorem State.Reports.sendSvc {i join v} : (s.sendSvc i join v).Reports fam := .ite h.sendFrame.modStrand h.pushMsg
theorem State.Reports.beginSvc {i join reason} : (s.beginSvc i join reason).Reports fam := h.modStrand.sendSvc

theorem State.Reports.retire {i} : (s.retire i).Reports fam := by
  unfold State.retire
  refine .ite h ?_
  split
  · exact h.modStrand.sendSvc
  · exact h.beginSvc

theorem State.Reports.modRep {i f} : (s.modRep i f).Reports fam := h.modStrand

theorem State.Reports.endRepairCmd {i} : (s.endRepairCmd i).Reports fam := by
  unfold State.endRepairCmd
  split
  · exact h.complete
  · exact h

theorem State.Reports.endWaits {i status} : (s.endWaits i status).Reports fam := by
  unfold State.endWaits
  refine .modStrand (.forEach (fun _ _ h => ?_) h)
  split
  · exact h.complete
  · exact h

theorem State.Reports.lastShard : s.lastShard.Reports fam := .ite h.fenceStreams.raise h

theorem State.Reports.becomeShard {i} : (s.becomeShard i).Reports fam :=
  h.modStrand.writeRepair.sticky.raise.postEvent.endRepairCmd.modStrand.endWaits.lastShard

theorem State.Reports.changeRx {i new fills inj} : (s.changeRx i new fills inj).Reports fam :=
  .forEach (fun _ _ h => h.sticky.raise) h.modStrand

theorem State.Reports.announceHold {i} : (s.announceHold i).Reports fam := by
  unfold State.announceHold
  extract_lets x
  split
  · exact h
  · refine .ite (.ite h h.modStrand) ?_
    extract_lets w s1 s2 rx
    have h2 : s2.Reports fam := h.modStrand.sendRec
    clear_value w
    split
    · refine .ite ?_ (.ite h2 h2.modRep.changeRx)
      refine .ite h2.modRep.changeRx ?_
      split
      · exact h2.modRep.modRep.complete
      · exact h2.modRep
    · exact h2

theorem State.Reports.enterHold {i cause} : (s.enterHold i cause).Reports fam := h.modStrand

theorem State.Reports.planRepair {i} : (s.planRepair i).Reports fam := by
  unfold State.planRepair
  dsimp only
  split
  · exact h
  · refine .ite ?_ (.ite h (.ite (.ite h h.modStrand.sticky.raise) (.ite h h.beginSvc)))
    split
    · exact h.modStrand.complete
    · exact h

theorem State.Reports.writeSwept {i} : (s.writeSwept i).Reports fam := h.modRep.writeRepair

theorem State.Reports.checkFilled {i} : (s.checkFilled i).Reports fam := by
  unfold State.checkFilled
  split
  · exact h
  · exact .ite h (.ite h.modStrand.sendRec h.modStrand)

theorem State.Reports.finishSweep {i} : (s.finishSweep i).Reports fam := by
  unfold State.finishSweep
  split
  · exact h
  · exact .checkFilled (.ite h.modRep.sendRec.writeSwept h.modRep.sendRec)

theorem State.Reports.resendSwept {i} : (s.resendSwept i).Reports fam := .ite h.finishSweep h

theorem State.Reports.switchIn {i} : (s.switchIn i).Reports fam := by
  unfold State.switchIn
  extract_lets x
  split
  · exact h
  · exact .ite h (.forEach (fun _ _ h => h.bumpSat.sticky.raise) (.forEach (fun _ _ h => h.bumpSat.sticky.raise) h.modStrand))

theorem State.Reports.cleanSweep {i cause} : (s.cleanSweep i cause).Reports fam := by
  unfold State.cleanSweep
  extract_lets x counts list last3 s1
  have h1 : s1.Reports fam := h.modStrand.sticky.raise
  clear_value last3
  split
  · exact .ite h1.sticky.raise.retire h1
  · exact h1

theorem State.Reports.checkRepaired {i} : (s.checkRepaired i).Reports fam := by
  unfold State.checkRepaired
  extract_lets x s1 anew
  split
  · exact h
  · extract_lets same wrote s2 retiring
    have h1 : s1.Reports fam := h.modRep
    have hw : wrote.Reports fam := .ite h1.modStrand h1.modStrand.writeSwept
    have h2 : s2.Reports fam := .ite h1.cleanSweep (.ite h1 (.ite hw.switchIn hw))
    exact .ite h (.ite h2.beginSvc h2)

theorem State.Reports.retireAnew {i} : (s.retireAnew i).Reports fam := .ite h.modStrand.retire h

theorem State.Reports.settleRepairs : s.settleRepairs.Reports fam :=
  .forRange (fun _ _ h => h.announceHold.retireAnew.resendSwept.planRepair.checkRepaired) h

theorem State.Reports.setDrives {i ls} : (s.setDrives i ls).Reports fam := h.modStrand

/-! ## Calibrations and self-tests -/

theorem State.Reports.sendCal {i row withdraw} : (s.sendCal i row withdraw).Reports fam := h.pushMsg
theorem State.Reports.setRun {c} : (s.setRun c).Reports fam := .ite h.same h.same
theorem State.Reports.leaveFor {i sub} : (s.leaveFor i sub).Reports fam := h.modStrand

theorem State.Reports.calWaits : s.calWaits.Reports fam := by
  unfold State.calWaits
  split
  · exact .ite (.sendCal h.same) h
  · exact h

theorem State.Reports.startCal : s.startCal.Reports fam := by
  unfold State.startCal
  extract_lets s0
  have h0 : s0.Reports fam := h.calWaits
  split
  · exact h0
  · extract_lets x forced temp s1 run s2
    have h1 : s1.Reports fam := .standDown h0.same
    have h2 : s2.Reports fam := .modStrand (.leaveFor h1.same)
    exact .ite h0 (.ite h0.same (.ite h1 (.ite h2.sticky.raise.guarantee h2)))

theorem State.Reports.finishCalReqs : s.finishCalReqs.Reports fam := .forEach (fun _ _ h => .ite h (.complete h.same)) h

theorem State.Reports.calEnded {i result} : (s.calEnded i result).Reports fam := by
  unfold State.calEnded
  extract_lets saves s0 s1
  have h1 : s1.Reports fam := .ite h.modStrand.writeCal h.modStrand
  exact h1.same

theorem State.Reports.applyCal {c} : (s.applyCal c).Reports fam := h.setRun.modStrand.setDrives

theorem State.Reports.applyAtOnce : s.applyAtOnce.Reports fam := by
  unfold State.applyAtOnce
  split
  · exact h
  · exact .ite h.applyCal h

theorem State.Reports.restoreRun {i} : (s.restoreRun i).Reports fam := by
  unfold State.restoreRun
  split
  · exact h
  · exact .ite h h.setRun.modStrand

theorem State.Reports.abandonCal : s.abandonCal.Reports fam := by
  unfold State.abandonCal
  split
  next c _ =>
    have h1 : ((s.restoreRun c.strand).calEnded c.strand 1).Reports fam := h.restoreRun.calEnded
    exact .ite h1.same h.same
  · exact h

theorem State.Reports.reapCal : s.reapCal.Reports fam := .ite h.abandonCal h
theorem State.Reports.toGreenware {i} : (s.toGreenware i).Reports fam := h.modStrand
theorem State.Reports.wireMove {n} : (s.wireMove n).Reports fam := h.same
theorem State.Reports.modBist {f} : (s.modBist f).Reports fam := h.same

theorem State.Reports.sliceDone {c} : (s.sliceDone c).Reports fam := by
  unfold State.sliceDone
  split
  · exact h
  · exact h.complete

theorem State.Reports.countSlice {c} : (s.countSlice c).Reports fam := by
  unfold State.countSlice
  extract_lets s1 s2 s3
  have h2 : s2.Reports fam := .ite h.bumpWrap.bumpSat h.bumpWrap
  exact .sliceDone (.ite h2.bumpSat.sticky.raise h2)

theorem State.Reports.checkAbort : s.checkAbort.Reports fam := by
  unfold State.checkAbort
  split
  · exact h
  · exact .ite h.modBist.sticky.raise h

theorem State.Reports.reapSlice : s.reapSlice.Reports fam := by
  unfold State.reapSlice
  extract_lets t s1
  have h1 : s1.Reports fam := by
    simp only [s1]
    split
    · exact h
    · exact .ite h (.ite h.modBist.countSlice h.modBist)
  exact h1.same

theorem State.Reports.fullSetup {ids} : (s.fullSetup ids).Reports fam := h.modBist

theorem State.Reports.fullStrandEnd {i} : (s.fullStrandEnd i).Reports fam := by
  unfold State.fullStrandEnd
  split
  · exact h
  · refine .fullSetup (.modBist ?_)
    split
    · exact h.modStrand.raise
    · exact h.modStrand

theorem State.Reports.reapFull : s.reapFull.Reports fam := by
  unfold State.reapFull
  split
  · exact h
  · exact .ite h (.forEach (fun _ _ h => h.fullStrandEnd) h.modBist.sticky)

/-! ## The loss of the partner -/

theorem State.Reports.sendEarly : s.sendEarly.Reports fam := h.sendFrame
theorem State.Reports.discardNeg : s.discardNeg.Reports fam := h.same

theorem State.Reports.emptyLink : s.emptyLink.Reports fam := by
  unfold State.emptyLink
  extract_lets s1
  have h1 : s1.Reports fam := .forRange (fun _ _ h => h.calEnded) h.abandonCal
  exact .discardNeg h1.same

theorem State.Reports.endStrandCmds {status} : (s.endStrandCmds status).Reports fam := by
  unfold State.endStrandCmds
  extract_lets s1
  have h1 : s1.Reports fam := by
    refine .forRange (fun _ _ h => .endWaits ?_) h
    split
    · exact h.complete.modRep
    · exact h
  exact .forEach (fun _ _ h => h.complete) h1.same

theorem State.Reports.loseTx {status id} : (s.loseTx status id).Reports fam := by
  unfold State.loseTx
  split
  · exact h
  · refine .ite h ?_
    split
    · exact .complete h.same
    · extract_lets forced s1
      have h1 : s1.Reports fam := .ite h.freeTx h.interruptTx.modTx
      split
      · exact h1.complete
      · exact h1
    · exact h.interruptTx

theorem State.Reports.loseRx {status key} : (s.loseRx status key).Reports fam := by
  unfold State.loseRx
  split
  · exact h
  · refine .ite h ?_
    split
    · exact .complete h.same
    · exact h.interruptRx.modRx

theorem State.Reports.losePackets {status id} : (s.losePackets status id).Reports fam := by
  unfold State.losePackets
  split
  · exact h
  · exact .ite h (.forEach (fun _ _ h => h.ptRespond) h.setTx)

theorem State.Reports.lossWork {status} : (s.lossWork status).Reports fam := by
  unfold State.lossWork
  extract_lets ids s1 s2 s3 looped s4 s5 s6
  have h1 : s1.Reports fam := .forEach (fun _ _ h => h.losePackets) h.endStrandCmds
  have h2 : s2.Reports fam := .forEach (fun _ _ h => h.loseTx) h1
  have h3 : s3.Reports fam := .forEach (fun _ _ h => h.loseRx) h2
  have h4 : s4.Reports fam := .forEach (fun _ _ h => .ite h.suspendDraw h) h3
  have h5 : s5.Reports fam := by
    refine .forEach (fun _ _ h => ?_) h4
    split
    · exact .ite h h.endRestore
    · exact h
  have h6 : s6.Reports fam := h5.emptyLink
  exact h6.same

theorem State.Reports.lossActions {status} : (s.lossActions status).Reports fam := by
  have h1 : (s.lossWork status).Reports fam := h.lossWork
  exact h1.same

theorem State.Reports.movePartner {p} : (s.movePartner p).Reports fam := .postEvent h.same

theorem State.Reports.lose {cause inj event} : (s.lose cause inj event).Reports fam := by
  unfold State.lose
  extract_lets lost next was pulse s0 s1 code
  have h0 : s0.Reports fam := h.same
  have h1 : s1.Reports fam := .lossActions (.ite h0.movePartner h0.same)
  exact .ite h (.raise (.sticky (.bumpSat h1.same)))

theorem State.Reports.checkLocal : s.checkLocal.Reports fam := .ite h.lose h
theorem State.Reports.checkActive : s.checkActive.Reports fam := .ite h.movePartner h

/-! ## Power and parking -/

theorem State.Reports.setReq {d on} : (s.setReq d on).Reports fam := h.same
theorem State.Reports.lower {d} : (s.lower d).Reports fam := .ite (.setReq (.sendReady (.sendReady h.same))) h.setReq

theorem State.Reports.pumpPower : s.pumpPower.Reports fam := by
  unfold State.pumpPower
  refine .ite h (.forEach (fun _ _ h => .ite h.lower h) (.ite h ?_))
  split
  · exact h.setReq
  · exact h

theorem State.Reports.unblock : s.unblock.Reports fam := h.same
theorem State.Reports.parkStrand {i} : (s.parkStrand i).Reports fam := h.wireMove.restoreRun.writeCal.toGreenware.modStrand
theorem State.Reports.parkGroups : s.parkGroups.Reports fam := h.same

theorem State.Reports.leaveAt {i} : (s.leaveAt i).Reports fam := by
  unfold State.leaveAt
  split
  · exact h
  · refine .ite h ?_
    extract_lets s1 x s2
    have h1 : s1.Reports fam := h.standDown
    have h2 : s2.Reports fam := h1.modStrand
    exact .ite h1 (.ite h1 (.ite h2.becomeShard (.ite h2 (.ite h2.parkStrand h2.enterHold))))

theorem State.Reports.settleLeaves : s.settleLeaves.Reports fam := by
  unfold State.settleLeaves
  extract_lets ready retires s1
  have h1 : s1.Reports fam := .forRange (fun _ _ h => .ite h.leaveAt h) h.calWaits
  exact .ite h1.startCal h1

/-! ## Settling -/

theorem State.Reports.sagFence : s.sagFence.Reports fam := .ite h (.ite h.same (.fenceStreams h.same))

theorem State.Reports.settleStrands : s.settleStrands.Reports fam :=
  .parkGroups (.unblock h.settleLeaves.settleRepairs.applyAtOnce.reapCal.checkAbort.reapSlice.reapFull.finishCalReqs)

theorem State.Reports.settleWork : s.settleWork.Reports fam := by
  unfold State.settleWork
  extract_lets s0 s1 s2 s3
  have h0 : s0.Reports fam := h.portFaults.memRelease
  have h1 : s1.Reports fam := h0.pumpSends.pumpDraws.pumpSaves.pumpQueries.pumpCaptures.settleShelves.advanceFetches
  have h2 : s2.Reports fam := .forEach (fun _ _ h => h.checkCloseTx) h1
  have h3 : s3.Reports fam := .forEach (fun _ _ h => h.checkCloseRx) h2
  exact h3.checkFences

theorem State.Reports.settleAll : s.settleAll.Reports fam :=
  h.settleStrands.checkActive.checkLocal.sagFence.settleWork.pumpPower

theorem State.Reports.announce {before : State} : (before.announce s).Reports fam :=
  .ite h (.ite (.ite h h.sendReady) (.sendEarly (.ite h h.sendReady)))

theorem State.Reports.noteLimited {before : State} : (before.noteLimited s).Reports fam := .ite h.sticky h

/-! ## Logging -/

omit h in
/-- After the summary bits, logging one code keeps what is reported. -/
theorem State.Reports.logOne_of_summary {byEscalation : Bool} {g : Logged} {r : Raised}
    (h1 : ((g.state.sticky 0x3804 (codeClass r.code)).sticky 0x3804 (15 + r.code / 256)).Reports fam) :
    (logOne byEscalation g r).state.Reports fam := by
  unfold Machine.logOne
  extract_lets s0 cls kind safe parents parent nested outcome esc s1 k k1 link escs
  replace h1 : s1.Reports fam := h1
  split
  · exact h1
  · split
    · exact h1.same
    · split
      · exact .sticky h1.same
      · extract_lets full freed k2 new s2 s3 s4 s5
        have h2 : s2.Reports fam := h1.same
        have h3 : s3.Reports fam := .ite h2.sticky h2
        have h4 : s4.Reports fam := .ite h3.writeLogImage h3
        exact .ite h4.postNow h4

omit h in
theorem State.Reports.logOne {byEscalation : Bool} {g : Logged} {r : Raised} (h : g.state.Reports fam) :
    (logOne byEscalation g r).state.Reports fam := .logOne_of_summary h.sticky.sticky

theorem State.Reports.escalate {kind unit} : (s.escalate kind unit).Reports fam := by
  unfold State.escalate
  split
  · exact h.retire
  · exact h.fenceOut.fenceIn.fenceIn
  · exact .ite h h.ringFault
  · split
    · exact h.cutDraw
    · exact h
  · exact h

theorem State.Reports.escalateInst : s.escalateInst.Reports fam := by
  unfold State.escalateInst
  extract_lets k s1 s2
  have h1 : s1.Reports fam := .raise h.same
  have h2 : s2.Reports fam := h1.fenceStreams.setFlag.lose
  exact .ite h2 h2.sendEarly

end

/-! ## What is raised is logged -/

theorem mem_insertBy {α : Type} (le : α → α → Bool) (a x : α) (l : List α) : x ∈ insertBy le a l ↔ x = a ∨ x ∈ l := by
  induction l with
  | nil => simp [insertBy]
  | cons b l ih =>
    unfold insertBy
    split
    · simp only [List.mem_cons, ih]
      tauto
    · simp only [List.mem_cons]

theorem mem_foldl_insertBy {α : Type} (le : α → α → Bool) (x : α) (l acc : List α) :
    x ∈ l.foldl (fun acc a => insertBy le a acc) acc ↔ x ∈ acc ∨ x ∈ l := by
  induction l generalizing acc with
  | nil => simp
  | cons a l ih =>
    simp only [List.foldl_cons, ih, mem_insertBy, List.mem_cons]
    tauto

/-- Sorting keeps every element. -/
theorem mem_sortBy {α : Type} (le : α → α → Bool) (x : α) (l : List α) : x ∈ sortBy le l ↔ x ∈ l := by
  simp [sortBy, mem_foldl_insertBy]

section
set_option Elab.async false

variable {s : State} {fam : Nat}

/-- Logging a code sets the bit of its family. -/
theorem logOne_reports_self {g : Logged} {r : Raised} (hfam : fam < 17) (hr : r.code / 256 = fam) (byEscalation : Bool) :
    (logOne byEscalation g r).state.Reports fam := by
  obtain ⟨t, fresh, esc⟩ := g
  refine State.Reports.logOne_of_summary (State.reports_iff.2 (.inr ?_))
  rw [State.flag_sticky _ _ _ _ _ (by omega)]
  simp [hr]

theorem logOne_foldl_reports {l : List Raised} {g : Logged} (hfam : fam < 17) (byEscalation : Bool)
    (h : (∃ r ∈ l, r.code / 256 = fam) ∨ g.state.Reports fam) : (l.foldl (logOne byEscalation) g).state.Reports fam := by
  induction l generalizing g with
  | nil => simpa using h
  | cons r l ih =>
    refine ih ?_
    rcases h with ⟨r', hmem, hcode⟩ | h
    · rcases List.mem_cons.1 hmem with rfl | hmem
      · exact .inr (logOne_reports_self hfam hcode _)
      · exact .inl ⟨r', hmem, hcode⟩
    · exact .inr h.logOne

theorem State.Reports.logAll (h : s.Reports fam) (hfam : fam < 17) {byEscalation fresh} :
    (logAll byEscalation fresh s).state.Reports fam := by
  refine logOne_foldl_reports hfam _ ?_
  rcases State.reports_iff.1 h with ⟨r, hmem, hcode⟩ | hflag
  · exact .inl ⟨r, (mem_sortBy _ _ _).2 hmem, hcode⟩
  · exact .inr (State.reports_iff.2 (.inr hflag))

theorem State.Reports.settleLog (h : s.Reports fam) (hfam : fam < 17) : s.settleLog.Reports fam := by
  unfold State.settleLog
  extract_lets before g s1 s2
  have hg : g.state.Reports fam := h.logAll hfam
  have h1 : s1.Reports fam := .forEach (fun _ _ h => h.escalate) hg.flushEvents
  have h2 : s2.Reports fam := .ite h1.escalateInst h1
  exact (h2.logAll hfam).flushEvents

/-! ## The end of a command -/

/-- A register that holds another word than its reset value is in the canonical file too. -/
theorem lookupKey_canonRegs {b : Build} {r : Role} {k : Nat} {w : Word} {l : List (Nat × Word)} (h : lookupKey k l = some w)
    (hw : w ≠ regReset b r k) : lookupKey k (canonRegs b r l) = some w := by
  unfold canonRegs
  induction l with
  | nil => cases h
  | cons p l ih =>
    by_cases hk : p.1 = k
    · obtain rfl : p.2 = w := by simpa [lookupKey, hk] using h
      subst hk
      rw [List.filter_cons_of_pos (by simpa using hw), List.foldr_cons, lookupKey_insertKey_same]
    · have ih' := ih (by simpa [lookupKey, hk] using h)
      by_cases hp : p.2 = regReset b r p.1
      · rwa [List.filter_cons_of_neg (by simpa using hp)]
      · rw [List.filter_cons_of_pos (by simpa using hp), List.foldr_cons, lookupKey_insertKey_other _ _ _ _ (Ne.symm hk), ih']

/-- The set-up domain's reset keeps the registers of the AON domain. -/
theorem lookupKey_filterMap_heldWord {k : Nat} (hk : (regClear k == .aon) = true) (l : List (Nat × Word)) :
    lookupKey k (l.filterMap heldWord) = lookupKey k l := by
  induction l with
  | nil => rfl
  | cons p l ih =>
    by_cases hp : p.1 = k
    · have hheld : heldWord p = some p := by rw [heldWord, hp, if_pos hk]
      rw [List.filterMap_cons_some hheld]
      simp [lookupKey, hp]
    · cases hheld : heldWord p with
      | none => rw [List.filterMap_cons_none hheld]; simpa [lookupKey, hp] using ih
      | some q =>
        have hq : q.1 = p.1 := by
          unfold heldWord at hheld
          split at hheld
          · cases hheld; rfl
          · split at hheld <;> cases hheld; rfl
        rw [List.filterMap_cons_some hheld]
        simpa [lookupKey, hp, hq] using ih

theorem regReset_summary (b : Build) (r : Role) : regReset b r 0x3804 = 0 := rfl

theorem State.Reports.heldRegs (h : s.Reports fam) : s.heldRegs.Reports fam := by
  refine h.mono (fun r hr => ⟨r, hr, rfl⟩) fun hflag => ?_
  rw [← State.summary_eq] at hflag ⊢
  cases hlook : lookupKey 0x3804 s.regs with
  | none => rw [hlook] at hflag; simp at hflag
  | some w =>
    rw [hlook] at hflag
    have hw : w ≠ regReset s.build s.role 0x3804 := by
      rintro rfl
      rw [regReset_summary] at hflag
      simp at hflag
    have hheld : lookupKey 0x3804 (if s.cfgUp then s.regs else s.regs.filterMap heldWord) = some w := by
      split
      · exact hlook
      · rw [lookupKey_filterMap_heldWord rfl, hlook]
    rw [show lookupKey 0x3804 s.heldRegs.regs = some w from lookupKey_canonRegs hheld hw]
    exact hflag

theorem State.Reports.orderFrames (h : s.Reports fam) : s.orderFrames.Reports fam := h.same
theorem State.Reports.unsettled (h : s.Reports fam) {u : State} : (u.unsettled s).Reports fam := h.same
theorem State.Reports.queueOf (h : s.Reports fam) {before : State} : (before.queueOf s).Reports fam := h.same
theorem State.Reports.driveIrq (h : s.Reports fam) : s.driveIrq.Reports fam := h.same

/-- What a command raises, or the summary showed, the summary shows when the command has ended. -/
theorem State.Reports.finish (h : s.Reports fam) (hfam : fam < 17) (before : State) : (before.finish s).Reports fam :=
  (h.settleAll.announce.noteLimited.settleLog hfam).offerBeats.orderFrames.unsettled.queueOf.heldRegs.driveIrq

end

end Sys2Proof.Machine

/-! # Proofs: the parcels of a station -/

namespace Sys2Proof.Machine

/-- A block out of reset whose port 0 is between parcels, yet holds that the parcel before had entered its stream. -/
def staleThrough : State :=
  { State.resetOf smallBuild with
    resets := ⟨false, false, false, false⟩, pdReq := 2 ^ 24 - 1, pdAck := 2 ^ 24 - 1, straps := { role := .base }
    ports := { inThru := true } :: List.replicate 7 {} }

/-- The side field of a beat that is a whole parcel of 512 bytes for stream 0, which is not open. -/
def wholeParcel : BitVec 128 := BitVec.ofNat 128 (sideField 0 0 true true 512 0 0 0)

theorem exec_wholeParcel : exec (.stIBeat 0 wholeParcel (zeros 512)) staleThrough =
    .next (staleThrough.start.finish (staleThrough.start.intake 0 wholeParcel.toNat (zeros 512))) := rfl

/-- The beat ends with nothing reported of the family of 0x0401. -/
theorem wholeParcel_unreported {t : State} (h : exec (.stIBeat 0 wholeParcel (zeros 512)) staleThrough = .next t) : ¬ t.Reports 4 := by
  rw [exec_wholeParcel] at h
  obtain rfl := Host.Outcome.next.inj h
  rw [State.reports_iff]
  decide +kernel

/-- Refutes O6: a parcel of one beat for a stream that is not open is not recorded where the port still holds that a parcel of it had
entered its stream: the end of the parcel then takes it for one that has gone with its stream. -/
theorem not_stationParcelsEnter : ¬ Obligations.StationParcelsEnter := by
  unfold Obligations.StationParcelsEnter
  rintro ⟨-, hmalformed, -⟩
  obtain ⟨u, hexec, -, hraised⟩ := hmalformed staleThrough 0 wholeParcel (zeros 512) (by decide +kernel) (by decide +kernel)
    (by decide +kernel) (by decide +kernel) (by decide +kernel) (by decide +kernel) (by decide +kernel) (by decide +kernel) rfl
    (by decide +kernel) (by decide +kernel)
  have hreports : u.Reports 4 := State.reports_iff.2 (.inl ⟨_, by rw [hraised]; exact List.mem_singleton_self _, rfl⟩)
  exact wholeParcel_unreported hexec (hreports.finish (by decide) _)

end Sys2Proof.Machine

/-! # Proofs: streams (chapters 2 to 6 and 8) -/

namespace Sys2Proof.Machine

/-! ## Changing one stream -/

/-- The later of two values of a key is the one that stands. -/
@[simp] theorem insertKey_insertKey_same {β : Type} (k : Nat) (v w : β) (l : List (Nat × β)) :
    insertKey k w (insertKey k v l) = insertKey k w l := by
  induction l with
  | nil => simp [insertKey]
  | cons p l ih => simp only [insertKey]; split_ifs <;> simp [insertKey, *]

@[simp] theorem State.setTx_setTx_same (s : State) (id : Nat) (st st' : TxStream) : (s.setTx id st).setTx id st' = s.setTx id st' := by
  simp [State.setTx]

@[simp] theorem State.setRx_setRx_same (s : State) (key : Nat) (st st' : RxStream) : (s.setRx key st).setRx key st' = s.setRx key st' := by
  simp [State.setRx]

theorem State.modTx_of_tx? {s : State} {id : Nat} {st : TxStream} (h : s.tx? id = some st) (f : TxStream → TxStream) :
    s.modTx id f = s.setTx id (f st) := by
  simp [State.modTx, h]

theorem State.modRx_of_rx? {s : State} {key : Nat} {st : RxStream} (h : s.rx? key = some st) (f : RxStream → RxStream) :
    s.modRx key f = s.setRx key (f st) := by
  simp [State.modRx, h]

theorem State.postEvent_of_raised {s : State} (h : s.raised ≠ []) (event unit code : Nat) (data : List Byte) :
    s.postEvent event unit code data = { s with events := s.events ++ [(event, unit, code, data)] } :=
  if_neg (by simpa using h)

/-! ## Waits of a stream (R86, R112, R118, R151) -/

section
variable {s : State} {id : Nat} (hcfg : s.cfgUp = true)
include hcfg

theorem exec_queueStall (hid : id < 4096) : exec (.queueStall id) s = .next (s.start.finishLight (s.start.queueStall id)) :=
  (named_present _ _ _ hid).trans (runUpLight_up _ s hcfg)

theorem exec_encoderIdleEnd (hid : id < 4096) : exec (.encoderIdleEnd id) s = .next (s.start.finishLight (s.start.idleEnd id)) :=
  (named_present _ _ _ hid).trans (runUpLight_up _ s hcfg)

theorem exec_lookaheadDone (hid : id < 4096) : exec (.lookaheadDone id) s = .next (s.start.finishLight (s.start.laDone id)) :=
  (named_present _ _ _ hid).trans (runUpLight_up _ s hcfg)

theorem exec_lookaheadGrant {slice : Nat} (hslice : slice < 4) :
    exec (.lookaheadGrant slice) s = .next (s.start.finishLight (s.start.laGrant slice)) :=
  (named_present _ _ _ hslice).trans (runUpLight_up _ s hcfg)

end

/-- A stall marks the stream and raises 0x0404 with its event behind it. -/
theorem State.queueStall_of_stallTest {s : State} {id key : Nat} {st : RxStream} (hrx : s.rxOf id = some (key, st))
    (hstall : st.stall = false) (htest : s.stallTest st = true) :
    s.queueStall id = ((s.setRx key { st with stall := true, stalls := satAdd 16 st.stalls 1 }).raise 0x0404 st.cfg.id).postEvent 0x0004
      st.cfg.id 0x0404 [] := by
  simp only [State.queueStall, hrx, hstall, htest, Bool.not_true, Bool.or_self, Bool.false_eq_true, if_false]

/-- The head parcel of a queue, once wholly in lookahead, is the one whose mode is chosen. -/
theorem laReady_cons {src : Nat} {p : TxParcel} (hheld : p.held ≠ 0) (hdone : p.laDone = false) (hin : p.regionIn src = true)
    (ps : List TxParcel) : laReady src (p :: ps) = some 0 := by
  simp [laReady, List.findIdx?_cons, hheld, hdone, hin]

theorem State.laDone_of_head {s : State} {id : Nat} {st : TxStream} {p : TxParcel} {ps : List TxParcel} (htx : s.tx? id = some st)
    (hqueue : st.queue = p :: ps) (hheld : p.held ≠ 0) (hdone : p.laDone = false) (hin : p.regionIn st.cfg.srcFmt = true) :
    s.laDone id = s.setTx id { st with
      s24Miss := satAdd 16 st.s24Miss (b2n (s.laMiss id 0)), queue := { p with laDone := true } :: ps } := by
  have hready : (s.tx? id).bind (fun t => laReady t.cfg.srcFmt t.queue) = some 0 := by
    simp only [htx, hqueue, Option.bind_some, laReady_cons hheld hdone hin]
  simp only [State.laDone, hready, State.laChoose, State.modTx_of_tx? htx]
  rw [State.modTx_of_tx? (State.tx?_setTx_same _ _ _), State.setTx_setTx_same, hqueue]
  rfl

/-- A parcel of this arrival that waits for lookahead space has it. -/
def TxParcel.granted (arrival region : Nat) (p : TxParcel) : TxParcel :=
  if p.waitsLa && p.arrival == arrival then { p with waitsLa := false, held := region } else p

/-- The same for a parcel that is still coming in on its port. -/
def Seek.granted (arrival region : Nat) (k : Seek) : Seek :=
  if k.waits && k.arrival == arrival then { k with waits := false, held := region } else k

/-- The oldest waiting parcel of a slice takes its space on its stream, or on the port that it comes in on. -/
theorem State.laGrant_of_room {s : State} {slice arrival id region : Nat} {st : TxStream} {l : List (Nat × Nat × Nat)}
    (hwaits : s.laWaits slice = (arrival, id, region) :: l) (hroom : region + s.lookaheadUsed slice ≤ 1048576)
    (htx : s.tx? id = some st) :
    s.laGrant slice = { s.setTx id { st with queue := st.queue.map (TxParcel.granted arrival region) } with
      ports := s.ports.map (fun (q : Port) => { q with inSeek := q.inSeek.map (Seek.granted arrival region) }) } := by
  simp only [State.laGrant, hwaits, if_pos hroom, State.modTx_of_tx? htx]
  rfl

theorem inSeek_map_granted {ports : List Port} {port : Nat} {k : Seek} (hport : port < ports.length)
    (hk : (ports.getD port {}).inSeek = some k) (arrival region : Nat) :
    ((ports.map (fun (q : Port) => { q with inSeek := q.inSeek.map (Seek.granted arrival region) })).getD port {}).inSeek =
      some (k.granted arrival region) := by
  rw [List.getD_eq_getElem _ _ hport] at hk
  simp [hport, hk]

/-- Settles O38: each wait by what its command finds at its front. -/
theorem streamWaitsEnd : Obligations.StreamWaitsEnd := by
  unfold Obligations.StreamWaitsEnd
  refine ⟨fun s id key st hcfg hid hrx hstall htest => ?stall, fun s id st p ps hcfg hid htx hqueue =>
    ⟨?idle, fun hheld hdone hin => ?done⟩, fun s slice arrival id region st l hcfg hslice hwaits hroom htx => ?grant⟩
  case stall =>
    have hpost := State.queueStall_of_stallTest (s := s.start) hrx hstall htest
    rw [State.postEvent_of_raised (by simp [State.raise])] at hpost
    refine ⟨_, exec_queueStall hcfg hid, ?_, ?_⟩ <;> rw [hpost]
    · exact State.rx?_setRx_same s.start key _
    · rfl
  case idle =>
    have htx' : s.start.tx? id = some st := htx
    rw [exec_encoderIdleEnd hcfg hid, State.idleEnd, State.modTx_of_tx? htx', hqueue]
  case done => rw [exec_lookaheadDone hcfg hid, State.laDone_of_head (s := s.start) htx hqueue hheld hdone hin]
  case grant =>
    have hgrant := State.laGrant_of_room (s := s.start) hwaits hroom htx
    refine ⟨_, exec_lookaheadGrant hcfg hslice, ?_, fun port k hport hk => ?_⟩ <;> rw [hgrant]
    · exact State.tx?_setTx_same s.start id _
    · exact inSeek_map_granted hport hk arrival region

end Sys2Proof.Machine

/-! # Proofs: flits (chapters 2 and 8) -/

namespace Sys2Proof.Machine

/-! ## What the merge has passed on (R276) -/

/-- The block as a command that takes the front item of the port sees it. -/
def State.behind (s : State) (rest : List PortItem) : State := { s.start with port := rest }

theorem State.takePort_front {s : State} {types : List Nat} {strand key : Nat} {body : List Byte} {rest : List PortItem}
    (hport : s.port = .flit strand key body :: rest) (htype : fType body ∈ types) (run : Nat → Nat → List Byte → State → State) :
    s.takePort types run = run strand key body { s with port := rest } := by
  simp [State.takePort, hport, htype]

section
variable {s : State} {strand key : Nat} {body : List Byte} {rest : List PortItem} (hcfg : s.cfgUp = true)
  (hport : s.port = .flit strand key body :: rest)
include hcfg hport

theorem runUp_takePort {types : List Nat} (htype : fType body ∈ types) (run : Nat → Nat → List Byte → State → State) :
    runUp (fun s => s.takePort types run) s = .next (s.start.finish (run strand key body (s.behind rest))) := by
  rw [runUp_up _ s hcfg, State.takePort_front (s := s.start) hport htype]
  rfl

theorem exec_parcelHeadReceive (htype : fType body = 1) :
    exec .parcelHeadReceive s = .next (s.start.finish ((s.behind rest).rxHead strand key body)) :=
  runUp_takePort hcfg hport (types := [1]) (by simp [htype]) (fun i key b s => s.rxHead i key b)

theorem exec_parcelBodyReceive (htype : fType body = 2) :
    exec .parcelBodyReceive s = .next (s.start.finish ((s.behind rest).rxBody strand key body)) :=
  runUp_takePort hcfg hport (types := [2]) (by simp [htype]) (fun i key b s => s.rxBody i key b)

theorem exec_passReceive (htype : fType body = 3) :
    exec .passReceive s = .next (s.start.finish ((s.behind rest).rxPass strand key body)) :=
  runUp_takePort hcfg hport (types := [3]) (by simp [htype]) (fun i key b s => s.rxPass i key b)

end

/-! ## Parcels (R72, R120, R300, R302) -/

section
variable {s : State} {key : Nat} (strand : Nat) (body : List Byte)

/-- The head of a parcel on an idle stream that is not fenced begins a parcel. -/
theorem State.rxHead_idle {st : RxStream} (hrx : s.rx? key = some st) (hidle : st.current = none) (hfence : st.fence = none) :
    s.rxHead strand key body = (s.setRx key { st with
      parcels := st.parcels ++ [{ uid := st.nextUid, cls := fClass body, sagCtl := s.regN 0x4000 }], nextUid := st.nextUid + 1,
      busy := true }).rxBytes key st.nextUid (fPayload body) (fLast body) := by
  simp only [State.rxHead, hrx, hidle, hfence, Option.isSome_none, Bool.false_eq_true, if_false]

/-- The head of a parcel on a stream that is not open is recorded, and the parcel discarded. -/
theorem State.rxHead_notOpen (hrx : s.rx? key = none) (hghost : s.ghosts.contains key = false) :
    s.rxHead strand key body = (s.raise 0x0403 (key % 4096)).ghost key (fLast body) := by
  simp only [State.rxHead, hrx, hghost, Bool.false_eq_true, if_false]

section
variable {st : RxStream} {p : RxParcel} (hghost : s.ghosts.contains key = false) (hrx : s.rx? key = some st)
  (hbusy : st.current = some p)
include hghost hrx hbusy

theorem State.rxBody_otherClass (hcls : p.cls ≠ fClass body) :
    s.rxBody strand key body = (s.flitFault strand).cutRx key p (fLast body) := by
  simp only [State.rxBody, hghost, hrx, hbusy, Bool.false_eq_true, if_false, if_pos hcls]

theorem State.rxBody_joins (hcls : p.cls = fClass body) (habort : fAbort body = false) :
    s.rxBody strand key body = s.rxBytes key p.uid (fPayload body) (fLast body) := by
  simp only [State.rxBody, hghost, hrx, hbusy, habort, Bool.false_eq_true, if_false, if_neg (not_not.mpr hcls)]

theorem State.rxBody_aborts (hcls : p.cls = fClass body) (habort : fAbort body = true) : s.rxBody strand key body = s.rxAbort key := by
  simp only [State.rxBody, hghost, hrx, hbusy, habort, Bool.false_eq_true, if_false, if_true, if_neg (not_not.mpr hcls)]

end

/-! ## Packets (R88, R267) -/

theorem State.rxPass_otherClass {st : RxStream} (hrx : s.rx? key = some st) (hcls : st.cls ≠ 3) :
    s.rxPass strand key body = s.flitFault strand := by
  simp only [State.rxPass, hrx, if_pos hcls]

/-- The first flit of a packet, where no window check is due, takes its cells. -/
theorem State.rxPass_first {st : RxStream} (hrx : s.rx? key = some st) (hcls : st.cls = 3) (hfirst : fFirst body = true)
    (hpackets : st.packets = []) (hfence : st.fence = none) (hsag : s.sagOn = false ∨ st.looped = true) :
    s.rxPass strand key body = s.setRx key { st with
      cells := st.cells + ceilDiv (fPayload body).length 240, packets := [(fPayload body, fLast body, 0)],
      parcelsRx := if fLast body then wrapAdd 32 st.parcelsRx 1 else st.parcelsRx } := by
  have hopen : st.inPacket = false := by simp [RxStream.inPacket, hpackets]
  have hcheck : (s.sagOn && !st.looped) = false := by rcases hsag with h | h <;> simp [h]
  simp only [State.rxPass, hrx, hcls, hopen, hfence, hfirst, hcheck, hpackets, ne_eq, not_true_eq_false, if_false, Option.isSome_none,
    Bool.false_eq_true, Bool.and_false, Bool.false_and, beq_iff_eq, State.modRx_of_rx? (State.rx?_setRx_same _ _ _),
    State.setRx_setRx_same, List.nil_append]
  rfl

end

/-- Settles O37: a flit of each type by what its stream is doing. -/
theorem flitsEnterTheirParcels : Obligations.FlitsEnterTheirParcels := by
  unfold Obligations.FlitsEnterTheirParcels
  refine ⟨fun s strand key body rest hcfg hport htype => ⟨fun st hrx hidle hfence => ?head, fun hrx hghost => ?notOpen⟩,
    fun s strand key body rest st p hcfg hport htype hghost hrx hbusy =>
      ⟨fun hcls => ?otherClass, fun hcls habort => ?joins, fun hcls habort => ?aborts⟩,
    fun s strand key body rest st hcfg hport htype hrx =>
      ⟨fun hcls => ?otherPass, fun hcls hfirst hpackets hfence hsag => ?first⟩⟩
  case head => rw [exec_parcelHeadReceive hcfg hport htype, State.rxHead_idle (s := s.behind rest) strand body hrx hidle hfence]; rfl
  case notOpen => rw [exec_parcelHeadReceive hcfg hport htype, State.rxHead_notOpen (s := s.behind rest) strand body hrx hghost]; rfl
  case otherClass =>
    rw [exec_parcelBodyReceive hcfg hport htype, State.rxBody_otherClass (s := s.behind rest) strand body hghost hrx hbusy hcls]; rfl
  case joins =>
    rw [exec_parcelBodyReceive hcfg hport htype, State.rxBody_joins (s := s.behind rest) strand body hghost hrx hbusy hcls habort]; rfl
  case aborts =>
    rw [exec_parcelBodyReceive hcfg hport htype, State.rxBody_aborts (s := s.behind rest) strand body hghost hrx hbusy hcls habort]; rfl
  case otherPass => rw [exec_passReceive hcfg hport htype, State.rxPass_otherClass (s := s.behind rest) strand body hrx hcls]; rfl
  case first =>
    rw [exec_passReceive hcfg hport htype, State.rxPass_first (s := s.behind rest) strand body hrx hcls hfirst hpackets hfence hsag]; rfl

end Sys2Proof.Machine

/-! # Proofs: streams open and close (chapters 2 and 8) -/

namespace Sys2Proof.Machine

/-! ## What writing an entry leaves (R251 to R256) -/

/-- `x` differs from `s` in what the writing of completion and event entries may change at most. -/
def State.AsButEntries (s x : State) : Prop :=
  x = { s with rings := x.rings, out := x.out, reqSeq := x.reqSeq, hmWrites := x.hmWrites, descs := x.descs, events := x.events }

namespace State.AsButEntries
variable {s x : State}

theorem refl (s : State) : s.AsButEntries s := rfl

theorem modRing (h : s.AsButEntries x) (p : Nat) (f : Ring → Ring) : s.AsButEntries (x.modRing p f) := by
  unfold State.AsButEntries State.modRing at *
  rw [h]

theorem hmWriteReq (h : s.AsButEntries x) (addr : Nat) (data : List Byte) (use : HmWriteUse) :
    s.AsButEntries (x.hmWriteReq addr data use) := by
  unfold State.AsButEntries State.hmWriteReq State.emit at *
  rw [h]

theorem ite {c : Prop} [Decidable c] {y : State} (hx : s.AsButEntries x) (hy : s.AsButEntries y) :
    s.AsButEntries (if c then x else y) := by
  split <;> assumption

theorem messageOut (h : s.AsButEntries x) (p : Nat) : s.AsButEntries (x.messageOut p) := .ite h (h.hmWriteReq _ _ _)

theorem sendMessages (h : s.AsButEntries x) (p : Nat) : s.AsButEntries (x.sendMessages p) :=
  forEach_keeps s.AsButEntries _ _ _ (fun _ _ h => h.messageOut p) (h.modRing _ _)

theorem countEntry (h : s.AsButEntries x) (p n : Nat) (now : Bool) : s.AsButEntries (x.countEntry p n now) :=
  .ite (.ite (((h.modRing _ _).modRing _ _).sendMessages p) (h.modRing _ _)) h

theorem writeEntry (h : s.AsButEntries x) (p : Nat) (bytes : List Byte) (use : HmWriteUse) (now : Bool) :
    s.AsButEntries (x.writeEntry p bytes use now) := ((h.hmWriteReq _ _ _).modRing _ _).countEntry _ _ _

theorem complete (h : s.AsButEntries x) (id status : Nat) (result : List Byte) (off : Nat) (peer : Bool) :
    s.AsButEntries (x.complete id status result off peer) := by
  unfold State.complete
  split
  · exact h
  · refine .ite h (.writeEntry ?_ _ _ _ _)
    unfold State.AsButEntries at *
    rw [h]

theorem postNow (h : s.AsButEntries x) (event unit code : Nat) (data : List Byte) :
    s.AsButEntries (x.postNow event unit code data) := by
  have hlost : s.AsButEntries x.flushLost := .ite ((h.modRing _ _).writeEntry _ _ _ _) h
  exact .ite h (.ite (hlost.writeEntry _ _ _ _) (hlost.modRing _ _))

theorem postEvent (h : s.AsButEntries x) (event unit code : Nat) (data : List Byte) :
    s.AsButEntries (x.postEvent event unit code data) := by
  refine .ite (h.postNow _ _ _ _) ?_
  unfold State.AsButEntries at *
  rw [h]

theorem tx_eq (h : s.AsButEntries x) : x.tx = s.tx := by unfold State.AsButEntries at h; rw [h]
theorem rx_eq (h : s.AsButEntries x) : x.rx = s.rx := by unfold State.AsButEntries at h; rw [h]
theorem port_eq (h : s.AsButEntries x) : x.port = s.port := by unfold State.AsButEntries at h; rw [h]
theorem mgmt_eq (h : s.AsButEntries x) : x.mgmt = s.mgmt := by unfold State.AsButEntries at h; rw [h]

end State.AsButEntries

section
variable (s : State) (desc status : Nat) (result : List Byte) (off : Nat) (peer : Bool)

@[simp] theorem State.tx?_complete (id : Nat) : (s.complete desc status result off peer).tx? id = s.tx? id :=
  congrArg (lookupKey id) ((State.AsButEntries.refl s).complete desc status result off peer).tx_eq

@[simp] theorem State.rx?_complete (key : Nat) : (s.complete desc status result off peer).rx? key = s.rx? key :=
  congrArg (lookupKey key) ((State.AsButEntries.refl s).complete desc status result off peer).rx_eq

end

@[simp] theorem State.tx?_pushMsg (s : State) (type : Nat) (body : List Byte) (id : Nat) : (s.pushMsg type body).tx? id = s.tx? id := rfl
@[simp] theorem State.rx?_pushMsg (s : State) (type : Nat) (body : List Byte) (key : Nat) : (s.pushMsg type body).rx? key = s.rx? key := rfl

@[simp] theorem State.mgmt_pushMsg (s : State) (type : Nat) (body : List Byte) :
    (s.pushMsg type body).mgmt.length = s.mgmt.length + 1 := by
  simp [State.pushMsg]

@[simp] theorem State.rx?_closeStreamWindows (s : State) (id key : Nat) : (s.closeStreamWindows id).rx? key = s.rx? key := rfl

/-! ## Contexts that are freed (R59, R90) -/

/-- Whatever a freed outbound context leaves behind, it is not open any more. -/
theorem State.tx?_freeTx (s : State) (id : Nat) (forced : Bool) : (s.freeTx id forced).tx? id = none := by
  unfold State.freeTx
  split
  · assumption
  · simp only [State.tx?, State.closeStreamWindows, apply_ite State.tx, ite_self, lookupKey_eraseKey_same]

theorem State.rx?_freeRx (s : State) (key : Nat) (forced : Bool) : (s.freeRx key forced).rx? key = none := by
  unfold State.freeRx
  split
  · assumption
  · simp only [State.rx?, State.detach, State.ghost, apply_ite State.rx, ite_self, lookupKey_eraseKey_same]

/-! ## Messages that the merge has passed on (R276, R295, R298) -/

theorem State.takeMsg_front {s : State} {type : Nat} {body : List Byte} {rest : List PortItem} (hport : s.port = .message type body :: rest)
    (run : List Byte → State → State) : s.takeMsg type run = run body { s with port := rest } := by
  simp [State.takeMsg, hport]

section
variable {s : State} {body : List Byte} {rest : List PortItem} (hcfg : s.cfgUp = true)
include hcfg

theorem runUp_takeMsg {type : Nat} (hport : s.port = .message type body :: rest) (run : List Byte → State → State) :
    runUp (fun s => s.takeMsg type run) s = .next (s.start.finish (run body (s.behind rest))) := by
  rw [runUp_up _ s hcfg, State.takeMsg_front (s := s.start) hport]
  rfl

theorem exec_openRequest (hport : s.port = .message 0x10 body :: rest) :
    exec .openRequest s = .next (s.start.finish ((s.behind rest).openMsg body)) :=
  runUp_takeMsg hcfg hport (fun b s => s.openMsg b)

theorem exec_openAnswer (hport : s.port = .message 0x11 body :: rest) :
    exec .openAnswer s = .next (s.start.finish ((s.behind rest).openAnsMsg body)) :=
  runUp_takeMsg hcfg hport (fun b s => s.openAnsMsg b)

theorem exec_closeMessage (hport : s.port = .message 0x12 body :: rest) :
    exec .closeMessage s = .next (s.start.finish ((s.behind rest).closeMsg body)) :=
  runUp_takeMsg hcfg hport (fun b s => s.closeMsg b)

theorem exec_closeAnswer (hport : s.port = .message 0x13 body :: rest) :
    exec .closeAnswer s = .next (s.start.finish ((s.behind rest).closeAnsMsg body)) :=
  runUp_takeMsg hcfg hport (fun b s => s.closeAnsMsg b)

theorem exec_openTimeout {id : Nat} (hid : id < 4096) : exec (.openTimeout id) s = .next (s.start.finish (s.start.openTimeout id)) :=
  (named_present _ _ _ hid).trans (runUp_up _ s hcfg)

end

/-! ## Opening (R54 to R56) -/

/-- The block with the context of an accepted OPEN; nothing of an earlier stream of this number follows it. -/
def State.accepted (s : State) (c : StreamCfg) : State :=
  { s with ghosts := s.ghosts.filter (· != c.id) }.setRx c.id (s.newRx c false)

/-- An accepted OPEN has its context, an event and an answer. -/
theorem State.openMsg_accepted {s : State} {body : List Byte} (h : firstFail (s.acceptChecks (streamCfg body) false) = none) :
    (s.openMsg body).rx? (streamCfg body).id = some (s.newRx (streamCfg body) false) ∧ (s.openMsg body).port = s.port ∧
      (s.openMsg body).mgmt.length = s.mgmt.length + 1 := by
  have hopen : ∃ event unit code data type answer, s.openMsg body =
      ((s.accepted (streamCfg body)).postEvent event unit code data).pushMsg type answer := by
    simp only [State.openMsg, h]
    exact ⟨_, _, _, _, _, _, rfl⟩
  obtain ⟨event, unit, code, data, type, answer, hopen⟩ := hopen
  have hpost := (State.AsButEntries.refl (s.accepted (streamCfg body))).postEvent event unit code data
  rw [hopen]
  refine ⟨?_, hpost.port_eq, ?_⟩
  · rw [State.rx?_pushMsg, State.rx?, hpost.rx_eq]
    exact State.rx?_setRx_same _ _ _
  · rw [State.mgmt_pushMsg, hpost.mgmt_eq]
    rfl

@[simp] theorem State.tx?_setTable (s : State) (t : DispTable) (id : Nat) : (s.setTable t).tx? id = s.tx? id := rfl

section
variable {s : State} {id d : Nat} {st : TxStream} (htx : s.tx? id = some st)
include htx

/-- A stream that an answer opens is live, with the capacity that the answer gives. -/
theorem State.tx?_openDone (capacity : Nat) : (s.openDone id d capacity).tx? id =
    some { st with phase := .live, capacity := capacity, credits := capacity, joinRow := s.lclk + 64 } := by
  simp only [State.openDone, htx, State.tx?_complete]
  repeat' split
  all_goals simp only [State.tx?_setTable, State.tx?_setTx_same]

variable (hphase : st.phase = .opening d)
include hphase

theorem State.openAnsMsg_opens {body : List Byte} (harmed : s.inj.armed = false) (hid : bits (field body 0 2) 11 0 = id) (hok : byteAt body 2 = 0) :
    s.openAnsMsg body = s.openDone id d (field body 6 2 % 8192) := by
  simp only [State.openAnsMsg, hid, htx, hphase, State.fire_unarmed s _ _ harmed, hok, Bool.false_eq_true, if_false, if_true]

theorem State.openAnsMsg_ends {body : List Byte} (harmed : s.inj.armed = false) (hid : bits (field body 0 2) 11 0 = id) (hbad : byteAt body 2 ≠ 0) :
    s.openAnsMsg body = ({ s with tx := eraseKey id s.tx }).complete d (byteAt body 2) [] (field body 4 2) true := by
  simp only [State.openAnsMsg, hid, htx, hphase, State.fire_unarmed s _ _ harmed, hbad, Bool.false_eq_true, if_false]

theorem State.openTimeout_opening : s.openTimeout id =
    ((({ s with tx := eraseKey id s.tx }).raise 0x0406 id 0 (s.inj.point == 0x18 && s.inj.fired != 0)).pushMsg
      0x12 (toLe 2 (id + 8192) ++ [0, 0])).complete d 0x60 := by
  simp only [State.openTimeout, htx, hphase]

end

/-! ## Closing (R59, R92, R298) -/

theorem State.checkCloseRx_of_buffered {s : State} {key : Nat} {st : RxStream} (hrx : s.rx? key = some st) (hbuffers : st.empty = false) :
    s.checkCloseRx key = s := by
  simp only [State.checkCloseRx, hrx, hbuffers, Bool.and_false, Bool.not_false, Bool.true_or, if_true]

section
variable {s : State} {body : List Byte} {id : Nat} (hid : bits (field body 0 2) 11 0 = id)
include hid

section
variable {st : RxStream} (hout : bit (field body 0 2) 12 = false) (hrx : s.rx? id = some st)
include hout hrx

/-- A CLOSE of a stream that still buffers something is kept until nothing is left. -/
theorem State.closeMsg_waits (hforce : bit (field body 0 2) 13 = false) (hclosing : st.closing = none) (hlost : st.partnerLost = false)
    (hbuffers : st.empty = false) : s.closeMsg body = s.setRx id { st with closeSeen := true } := by
  have hkept : st.kept = false := by simp [RxStream.kept, hlost]
  have hgoes : (bit (field body 0 2) 13 || st.closing.isSome) = false := by simp [hforce, hclosing]
  simp only [State.closeMsg, hid, hout, hrx, hkept, hgoes, Bool.false_eq_true, if_false]
  exact State.checkCloseRx_of_buffered (State.rx?_setRx_same _ _ _) hbuffers

/-- A CLOSE of a context that is kept for a lost partner is answered only. -/
theorem State.closeMsg_kept (hkept : st.kept = true) : s.closeMsg body = s.pushMsg 0x13 (toLe 2 (id + 4096) ++ [0, 0]) := by
  simp only [State.closeMsg, hid, hout, hrx, hkept, Bool.false_eq_true, if_false, if_true]

theorem State.rx?_closeMsg_forced (hkept : st.kept = false) (hforce : bit (field body 0 2) 13 = true) :
    (s.closeMsg body).rx? id = none := by
  simp only [State.closeMsg, hid, hout, hrx, hkept, hforce, Bool.true_or, Bool.false_eq_true, if_false, if_true]
  split <;> simp only [State.rx?_complete, State.rx?_pushMsg, State.rx?_closeStreamWindows, State.rx?_freeRx]

/-- A CLOSE_ANS ends the close of an inbound stream that waits for it. -/
theorem State.closeAnsMsg_inbound {d : Nat} (hclosing : st.closing = some d) :
    s.closeAnsMsg body = ({ s with rx := eraseKey id s.rx }).complete d 0 := by
  simp only [State.closeAnsMsg, hid, hout, hrx, hclosing, Bool.false_eq_true, if_false]

end

section
variable {st : TxStream} (hin : bit (field body 0 2) 12 = true) (htx : s.tx? id = some st) (hlooped : st.looped = false)
include hin htx hlooped

/-- A CLOSE that names this side's stream ends it, unless it is still opening. -/
theorem State.tx?_closeMsg (hopen : ∀ d, st.phase ≠ .opening d) : (s.closeMsg body).tx? id = none := by
  simp only [State.closeMsg, hid, hin, htx, hlooped, Bool.false_eq_true, if_false, if_true]
  split
  case h_1 d hphase => exact absurd hphase (hopen d)
  all_goals simp only [State.tx?_complete, State.tx?_pushMsg, State.tx?_freeTx]

theorem State.closeMsg_opening {d : Nat} (hphase : st.phase = .opening d) : s.closeMsg body = s := by
  simp only [State.closeMsg, hid, hin, htx, hlooped, hphase, Bool.false_eq_true, if_false, if_true]

theorem State.tx?_closeAnsMsg {d : Option Nat} (hphase : st.phase = .closing d true) : (s.closeAnsMsg body).tx? id = none := by
  simp only [State.closeAnsMsg, hid, hin, htx, hlooped, hphase, Bool.false_eq_true, if_false, if_true]
  split <;> simp only [State.tx?_complete, State.tx?_freeTx]

end
end

/-- Settles O35: each message by what its stream is doing. -/
theorem streamsOpenAndClose : Obligations.StreamsOpenAndClose := by
  unfold Obligations.StreamsOpenAndClose
  refine ⟨⟨fun s body rest hcfg hport hchecks => ?accepted, fun s body rest id d st hcfg harmed hport hid htx hphase =>
      ⟨fun hok => ?opens, fun hbad => ?ends⟩, fun s id d st hcfg harmed hid htx hphase => ?timeout⟩,
    fun s body rest id st hcfg hport hid hout hrx => ⟨fun hforce hclosing hfence hlost hbuffers => ?waits, fun hkept => ?kept,
      fun hkept hforce => ?forced⟩,
    fun s body rest id st hcfg hport hid hin htx hlooped => ⟨fun hopen => ?closed, fun d hphase => ?opening⟩,
    fun s body rest id st d hcfg hport hid hin htx hphase hlooped => ?outAnswered,
    fun s body rest id d st hcfg hport hid hout hrx hclosing => ?inAnswered⟩
  case accepted => exact ⟨_, exec_openRequest hcfg hport, State.openMsg_accepted (s := s.behind rest) hchecks⟩
  case opens =>
    refine ⟨_, exec_openAnswer hcfg hport, ?_⟩
    rw [State.openAnsMsg_opens (s := s.behind rest) htx hphase harmed hid hok, State.tx?_openDone (s := s.behind rest) htx]
    rfl
  case ends =>
    rw [exec_openAnswer hcfg hport, State.openAnsMsg_ends (s := s.behind rest) htx hphase harmed hid hbad]
    rfl
  case timeout =>
    refine ⟨s.inj.point == 0x18 && s.inj.fired != 0, ?_⟩
    rw [exec_openTimeout hcfg hid, State.openTimeout_opening (s := s.start) htx hphase]
    rfl
  case waits =>
    rw [exec_closeMessage hcfg hport, State.closeMsg_waits (s := s.behind rest) hid hout hrx hforce hclosing hlost hbuffers]
    rfl
  case kept => rw [exec_closeMessage hcfg hport, State.closeMsg_kept (s := s.behind rest) hid hout hrx hkept]; rfl
  case forced => exact ⟨_, exec_closeMessage hcfg hport, State.rx?_closeMsg_forced (s := s.behind rest) hid hout hrx hkept hforce⟩
  case closed => exact ⟨_, exec_closeMessage hcfg hport, State.tx?_closeMsg (s := s.behind rest) hid hin htx hlooped hopen⟩
  case opening => rw [exec_closeMessage hcfg hport, State.closeMsg_opening (s := s.behind rest) hid hin htx hlooped hphase]; rfl
  case outAnswered => exact ⟨_, exec_closeAnswer hcfg hport, State.tx?_closeAnsMsg (s := s.behind rest) hid hin htx hlooped hphase⟩
  case inAnswered => rw [exec_closeAnswer hcfg hport, State.closeAnsMsg_inbound (s := s.behind rest) hid hout hrx hclosing]; rfl

end Sys2Proof.Machine

/-! # Proofs: the descriptors of stations and streams (chapters 2 and 7) -/

namespace Sys2Proof.Machine

/-! ## Entries that nothing turns away (R249) -/

section
variable {s : State} {p : Nat} {e : List Byte}

theorem runUp_offered {opcode : Nat} {mask : List Nat} (h : s.Offers p e opcode mask) (hop : opcodes.contains opcode = true)
    (run_ : Nat → List Byte → State → State) :
    runUp (fun s => s.accept (· == opcode) mask run_) s = .next (s.start.finish (run_ s.nextDesc e (s.taken p e))) := by
  obtain ⟨hcfg, hnext, rfl, hbusy, hwashed, hres⟩ := h
  have hnext' : s.start.nextEntry = some (p, e) := hnext
  rw [runUp_up _ s hcfg, State.accept_runs _ _ hnext' (by simp) hbusy hwashed hop hres]
  rfl

theorem exec_stationName_offered (h : s.Offers p e 0x14 stationNameMask) :
    exec .stationName s = .next (s.start.finish ((s.taken p e).stationName s.nextDesc e)) := runUp_offered h (by decide) _

theorem exec_streamOpen_offered (h : s.Offers p e 0x10 streamOpenMask) :
    exec .streamOpen s = .next (s.start.finish ((s.taken p e).streamOpen s.nextDesc e)) := runUp_offered h (by decide) _

theorem exec_streamClose_offered (h : s.Offers p e 0x11 streamCloseMask) :
    exec .streamClose s = .next (s.start.finish ((s.taken p e).streamClose s.nextDesc e)) := runUp_offered h (by decide) _

theorem exec_streamModify_offered (h : s.Offers p e 0x12 streamModifyMask) :
    exec .streamModify s = .next (s.start.finish ((s.taken p e).streamModify s.nextDesc e)) := runUp_offered h (by decide) _

theorem exec_parcelSend_offered (h : s.Offers p e 0x13 parcelSendMask) :
    exec .parcelSend s = .next (s.start.finish ((s.taken p e).parcelSend s.nextDesc e)) := runUp_offered h (by decide) _

end

/-! ## Names (R45) -/

theorem byteAt_slice {e : List Byte} {off len i : Nat} (h : i < len) : byteAt (slice e off len) i = byteAt e (off + i) := by
  simp [byteAt, slice, List.getD_eq_getElem?_getD, List.getElem?_take_of_lt h]

theorem byteAt_of_allZero {n : List Byte} (h : allZero n = true) (i : Nat) : byteAt n i = 0 := by
  rcases lt_or_ge i n.length with hi | hi
  · have hz : n[i] = 0 := by simpa using List.all_eq_true.mp h _ (List.getElem_mem hi)
    simp [byteAt, List.getD_eq_getElem?_getD, hi, hz]
  · simp [byteAt, List.getD_eq_getElem?_getD, hi]

theorem nameOk_cons_zero (n : List Byte) : nameOk (0 :: n) = allZero n := by
  simp [nameOk, allZero]

theorem nameOk_cons {b : Byte} (hb : b ≠ 0) (n : List Byte) :
    nameOk (b :: n) = ((0x20 ≤ b.toNat && b.toNat ≤ 0x7E) && nameOk n) := by
  have hne : b ≠ 0#8 := hb
  simp [nameOk, hne, Bool.and_assoc]

/-- Nothing follows the end of a name. -/
theorem nameOk_padded {n : List Byte} (h : nameOk n = true) {i j : Nat} (hij : i < j) (hi : byteAt n i = 0) : byteAt n j = 0 := by
  induction n generalizing i j with
  | nil => rfl
  | cons b n ih =>
    obtain ⟨j, rfl⟩ : ∃ k, j = k + 1 := ⟨j - 1, by omega⟩
    by_cases hb : b = 0
    · subst hb
      exact byteAt_of_allZero (nameOk_cons_zero n ▸ h) j
    · obtain ⟨k, rfl⟩ : ∃ k, i = k + 1 := ⟨i - 1, by
        have hne : i ≠ 0 := by
          rintro rfl
          exact hb (BitVec.eq_of_toNat_eq hi)
        omega⟩
      rw [nameOk_cons hb, Bool.and_eq_true] at h
      exact ih h.2 (i := k) (j := j) (by omega) hi

/-- The bytes before the end of a name are printable. -/
theorem nameOk_printable {n : List Byte} (h : nameOk n = true) {i : Nat} (hbefore : ∀ j ≤ i, byteAt n j ≠ 0) :
    0x20 ≤ byteAt n i ∧ byteAt n i ≤ 0x7E := by
  induction n generalizing i with
  | nil => exact absurd rfl (hbefore i le_rfl)
  | cons b n ih =>
    have hb : b ≠ 0 := by
      rintro rfl
      exact hbefore 0 (Nat.zero_le i) rfl
    rw [nameOk_cons hb, Bool.and_eq_true, Bool.and_eq_true, decide_eq_true_eq, decide_eq_true_eq] at h
    cases i with
    | zero => exact h.1
    | succ i => exact ih h.2 (fun j hj => hbefore (j + 1) (by omega))

/-- A name that R45 does not allow: a byte follows its end, or one before its end is not printable. -/
def MalformedName (e : List Byte) : Prop :=
  (∃ i j, i < j ∧ j < 16 ∧ byteAt e (0xC + i) = 0 ∧ byteAt e (0xC + j) ≠ 0) ∨
    ∃ i, i < 16 ∧ byteAt e (0xC + i) ≠ 0 ∧ (byteAt e (0xC + i) < 0x20 ∨ 0x7E < byteAt e (0xC + i)) ∧ ∀ j < i, byteAt e (0xC + j) ≠ 0

theorem MalformedName.nameOk {e : List Byte} (h : MalformedName e) : nameOk (slice e 0xC 16) = false := by
  rw [Bool.eq_false_iff]
  intro hok
  rcases h with ⟨i, j, hij, hj, hi, hne⟩ | ⟨i, hi, hne, hout, hbefore⟩
  · rw [← byteAt_slice (len := 16) (by omega)] at hi hne
    exact hne (nameOk_padded hok hij hi)
  · have hprint := nameOk_printable hok (i := i) fun j hj => by
      rw [byteAt_slice (by omega)]
      rcases Nat.lt_or_eq_of_le hj with hlt | rfl
      · exact hbefore j hlt
      · exact hne
    rw [byteAt_slice hi] at hprint
    omega

theorem MalformedName.not_allZero {e : List Byte} (h : MalformedName e) : allZero (slice e 0xC 16) = false := by
  rw [Bool.eq_false_iff]
  intro hz
  obtain ⟨i, hi, hne⟩ : ∃ i < 16, byteAt e (0xC + i) ≠ 0 := by
    rcases h with ⟨i, j, hij, hj, hi, hne⟩ | ⟨i, hi, hne, -⟩
    · exact ⟨j, hj, hne⟩
    · exact ⟨i, hi, hne⟩
  exact hne (by rw [← byteAt_slice hi, byteAt_of_allZero hz])

/-! ## STATION_NAME (R44 to R47) -/

/-- The RESULT of STATION_NAME for a station. -/
def State.stationResult (s : State) (stn : Nat) (t : Station) : List Byte :=
  toLe 1 (if t.exists_ then t.port else 0xFF) ++ [0] ++ toLe 2 t.quota ++ toLe 2 (s.pagesHeld stn)

theorem State.stationResult_eq (s : State) (stn : Nat) (t : Station) : s.stationResult stn t =
    toLe 1 (if allZero t.name then 0xFF else t.port) ++ [0] ++ toLe 2 t.quota ++ toLe 2 (s.pagesHeld stn) := by
  cases h : allZero t.name <;> simp [State.stationResult, Station.exists_, h]

/-- A third check that fails stops those behind it: the first one that fails is no later. -/
theorem firstFail_third (a b : Bool) (status i j k : Nat) (rest : List (Bool × Nat × Nat)) :
    firstFail ((a, status, i) :: (b, status, j) :: (true, status, k) :: rest) = some (status, if a then i else if b then j else k) := by
  cases a <;> cases b <;> rfl

/-- A malformed name is turned away, by its own check or by one before it. -/
theorem State.stationName_malformed {e : List Byte} (h : MalformedName e) (s : State) (desc : Nat) : ∃ off, s.stationName desc e =
    s.complete desc 0x11 (s.stationResult (byteAt e 8 % 64) (s.stations.getD (byteAt e 8 % 64) {})) off := by
  simp only [State.stationName, h.nameOk, h.not_allZero, Bool.not_false]
  cases bit (byteAt e 8) 6 <;> simp only [Bool.false_eq_true, if_true, if_false, firstFail_third] <;> exact ⟨_, rfl⟩

/-- The station is named by no stream, nor by an OPEN that waits. -/
def State.StationIdle (s : State) (stn : Nat) : Prop :=
  (∀ x ∈ s.tx, x.2.cfg.localStn ≠ stn) ∧ (∀ x ∈ s.rx, x.2.cfg.station ≠ stn) ∧
    ∀ c ∈ s.opensLater, c.localStn ≠ stn ∧ (s.loops c = true → c.station ≠ stn)

theorem State.StationIdle.none_open {s : State} {stn : Nat} (h : s.StationIdle stn) :
    (s.tx.any (fun x => x.2.cfg.localStn == stn) || s.rx.any (fun x => x.2.cfg.station == stn) ||
      s.opensLater.any (fun c => c.localStn == stn || (s.loops c && c.station == stn))) = false := by
  obtain ⟨htx, hrx, hlater⟩ := h
  simpa using ⟨⟨fun a b h => htx (a, b) h, fun a b h => hrx (a, b) h⟩, hlater⟩

/-- A well-formed name enters the station table. -/
theorem State.stationName_enters {s : State} {e : List Byte} {stn port : Nat} (hstn : byteAt e 8 = stn) (hstnLt : stn < 64)
    (hport : byteAt e 9 = port) (hportLt : port < 64) (hthere : port < s.build.ports) (hok : nameOk (slice e 0xC 16) = true)
    (hnamed : allZero (slice e 0xC 16) = false) (hfree : field e 0xA 2 ≤ s.bankFree stn port)
    (hheld : s.pagesHeld stn + s.pagesLater stn ≤ field e 0xA 2)
    (hbound : port = (s.stations.getD stn {}).port ∨ s.StationIdle stn) (desc : Nat) :
    s.stationName desc e = ({ s with stations := modAt (fun _ => ⟨slice e 0xC 16, port, field e 0xA 2⟩) stn s.stations }).complete desc 0
      (s.stationResult stn ⟨slice e 0xC 16, port, field e 0xA 2⟩) := by
  have hstnBits : bits stn 5 0 = stn := Nat.mod_eq_of_lt hstnLt
  have hportBits : bits port 5 0 = port := Nat.mod_eq_of_lt hportLt
  have hquery : bit stn 6 = false := Nat.testBit_lt_two_pow hstnLt
  have hmoves : ((s.tx.any (fun x => x.2.cfg.localStn == stn) || s.rx.any (fun x => x.2.cfg.station == stn) ||
      s.opensLater.any (fun c => c.localStn == stn || (s.loops c && c.station == stn))) &&
      (false || port != (s.stations.getD stn {}).port)) = false := by
    rcases hbound with hsame | hidle
    · simp [hsame]
    · rw [hidle.none_open, Bool.false_and]
  simp only [State.stationName, hstn, hport, hok, hnamed, hstnBits, hportBits, hquery, hmoves, firstFail,
    decide_eq_false (Nat.not_le.mpr hthere), decide_eq_false (Nat.not_lt.mpr hfree), decide_eq_false (Nat.not_lt.mpr hheld), ge_iff_le, gt_iff_lt,
    Bool.not_true, Bool.not_false, Bool.false_and, Bool.or_self, Bool.and_false, Bool.false_eq_true, if_false]
  rfl

/-! ## STREAM_OPEN (R53) -/

theorem firstFail_left {l m : List (Bool × Nat × Nat)} (h : firstFail (l ++ m) = none) : firstFail l = none := by
  induction l with
  | nil => rfl
  | cons c l ih =>
    obtain ⟨bad, status, off⟩ := c
    cases bad with
    | true => exact absurd h (by simp [firstFail])
    | false => exact ih h

section
variable {s : State} {e : List Byte} (hlink : s.loops (streamCfg (e.drop 8)) = false)
  (hchecks : firstFail (s.openChecks (streamCfg (e.drop 8)) false) = none)
include hlink hchecks

/-- An open of a stream on the link that passes its checks sends an OPEN and waits. -/
theorem State.openStream_sends (desc : Nat) : ∃ st body, s.openStream desc e = (s.setTx (streamCfg (e.drop 8)).id st).pushMsg 0x10 body ∧
    st.phase = .opening desc ∧ st.looped = false ∧ st.cfg.localStn = (streamCfg (e.drop 8)).localStn := by
  simp only [State.openStream, hlink, hchecks, Bool.false_eq_true, if_false]
  exact ⟨_, _, rfl, rfl, rfl, rfl⟩

/-- Where no load of its table is at hand, the open is made at once. -/
theorem State.streamOpen_atOnce (hfree : (s.loading (streamCfg (e.drop 8)).dispTable ||
    s.tableWaits.any (fun w => w.1 == (streamCfg (e.drop 8)).dispTable)) = false) (desc : Nat) :
    s.streamOpen desc e = s.openStream desc e := by
  simp only [State.streamOpen, hlink, firstFail_left hchecks, State.afterLoads, hfree, Option.isSome_none, Bool.false_eq_true, if_false,
    ite_self]

end

/-! ## STREAM_CLOSE (R59) -/

/-- A CLOSE without force of a stream that has parcels waits for the last of them. -/
theorem State.checkCloseTx_of_queued {s : State} {id : Nat} {st : TxStream} {d : Option Nat} (htx : s.tx? id = some st)
    (hphase : st.phase = .closing d false) (hqueue : st.queue ≠ []) : s.checkCloseTx id = s := by
  have hempty : st.queue.isEmpty = false := by simpa using hqueue
  simp only [State.checkCloseTx, htx, hphase, hempty, Bool.false_and, Bool.not_false, if_true]

theorem State.streamClose_waits {s : State} {e : List Byte} {id : Nat} {st : TxStream} (hid : field e 8 2 = id) (hlt : id < 4096)
    (htx : s.tx? id = some st) (hlive : st.phase = .live) (hrole : st.cfg.dispRole = 0)
    (hneg : s.negDone = true) (hqueue : st.queue ≠ []) (desc : Nat) :
    s.streamClose desc e = s.setTx id { st with phase := .closing (some desc) false } := by
  have hbits : bits id 11 0 = id := Nat.mod_eq_of_lt hlt
  have hout : bit id 12 = false := Nat.testBit_lt_two_pow hlt
  have hforce : bit id 13 = false := Nat.testBit_lt_two_pow (by omega)
  have hclose : s.closeOut desc id false st = (s.setTx id { st with phase := .closing (some desc) false }).checkCloseTx id := by
    simp [State.closeOut, hlive, hrole, hneg]
  simp only [State.streamClose, hid, hbits, hout, hforce, htx, hclose, Bool.false_eq_true, if_false]
  exact State.checkCloseTx_of_queued (State.tx?_setTx_same _ _ _) rfl hqueue

/-! ## Counter queries (R58, R257) -/

/-- A query of an outbound stream is answered unless a parcel of it is in progress. -/
theorem State.pumpQuery_outbound {s : State} {id : Nat} {st : TxStream} (htx : s.tx? id = some st) (desc : Nat) :
    s.pumpQuery (desc, false, id) = if st.queue.any (·.started) then s
      else State.writeQuery { s with queries := s.queries.filter (· != (desc, false, id)) } desc st.counterRecord := by
  have htx' : State.tx? { s with queries := s.queries.filter (· != (desc, false, id)) } id = some st := htx
  simp only [State.pumpQuery, htx', Bool.false_eq_true, if_false]

/-- The body of a STREAM_MODIFY that asks for the counters of outbound stream `id`, and for nothing else. -/
structure CounterQuery (e : List Byte) (id : Nat) : Prop where
  names : field e 8 2 = id + 4096
  small : id < 4096
  mask : byteAt e 0xA = 0
  weight : byteAt e 0xB = 0
  seed : field e 0xC 4 = 0
  limit : field e 0x10 4 = 0
  aligned : field e 0x18 8 % 64 = 0

section
variable {s : State} {e : List Byte} {id : Nat} {st : TxStream} (hquery : CounterQuery e id) (htx : s.tx? id = some st)
  (hlive : st.phase = .live) (hneg : s.negDone = true) (hnone : s.queries = [])
include hquery htx hlive hneg hnone

/-- A counter query of an open stream is put, and goes on if it can. -/
theorem State.streamModify_query (desc : Nat) :
    s.streamModify desc e = State.pumpQuery { s with queries := [(desc, false, id)] } (desc, false, id) := by
  obtain ⟨hid, hlt, hmask, hweight, hseed, hlimit, haddr⟩ := hquery
  have hbits : bits (id + 4096) 11 0 = id := by
    show (id + 4096) % 4096 = id
    omega
  have hquery : bit (id + 4096) 12 = true := by
    rw [bit, Nat.testBit_eq_decide_div_mod_eq]
    exact decide_eq_true (by omega)
  have hout : bit (id + 4096) 13 = false := Nat.testBit_lt_two_pow (by omega)
  simp [State.streamModify, firstFail, hid, hbits, hquery, hout, htx, hlive, hneg, hmask, hweight, hseed, hlimit, haddr, hnone]

theorem State.streamModify_writes (hidle : st.queue.any (·.started) = false) (desc : Nat) :
    s.streamModify desc e = s.writeQuery desc st.counterRecord := by
  have hsame : { s with queries := [] } = s := by rw [← hnone]
  rw [State.streamModify_query hquery htx hlive hneg hnone, State.pumpQuery_outbound (by exact htx), hidle, if_neg Bool.false_ne_true]
  simp [hsame]

theorem State.streamModify_queued (hbusy : st.queue.any (·.started) = true) (desc : Nat) :
    s.streamModify desc e = { s with queries := [(desc, false, id)] } := by
  rw [State.streamModify_query hquery htx hlive hneg hnone, State.pumpQuery_outbound (by exact htx), if_pos hbusy]

end

/-! ## PARCEL_SEND (R260) -/

theorem State.parcelSend_joins {s : State} {e : List Byte} {id : Nat} {st : TxStream} (hid : field e 8 2 % 4096 = id)
    (htx : s.tx? id = some st) (htakes : st.takes = true) (hfence : st.fence = none) (hneg : s.negDone = true)
    (haddr : field e 0x18 8 % 64 = 0) (hlen : 32 ≤ field e 0x10 8) (desc : Nat) :
    s.parcelSend desc e = State.pumpSends { s with
      sends := s.sends ++ [{ desc := desc, stream := id, addr := field e 0x18 8, len := field e 0x10 8 }] } := by
  have hbits : bits (field e 8 2) 11 0 = id := hid
  simp only [State.parcelSend, hbits, htx, htakes, hfence, hneg, haddr, if_neg (Nat.not_lt.mpr hlen), Bool.not_true, Bool.and_false,
    Bool.false_eq_true, ne_eq, not_true_eq_false, if_false]

/-- Settles O29: each descriptor by the checks that it passes, or the first that it fails. -/
theorem stationsAndStreamDescriptors : Obligations.StationsAndStreamDescriptors := by
  unfold Obligations.StationsAndStreamDescriptors
  refine ⟨⟨fun s p stn e t hoffers hstn ht hbad => ?malformed, fun s p e stn port quota name hoffers hstn hstnLt hport hthere hportLt hquota
      hname hok hnamed hfree hheld hbound => ?named⟩, fun s p e hoffers hlink hfree hchecks => ?opens,
    fun s p e id st hoffers hid hlt htx hlive hrole hlooped hneg hqueue => ?closes,
    fun s p e id st hoffers hid hlt htx hlive hneg hmask hweight hseed hlimit haddr hnone => ?query,
    fun s p e id st hoffers hid htx htakes hfence hneg haddr hlen => ?sends⟩
  case malformed =>
    subst hstn ht
    obtain ⟨off, hoff⟩ := State.stationName_malformed hbad (s.taken p e) s.nextDesc
    refine ⟨off, ?_⟩
    rw [exec_stationName_offered hoffers, hoff, State.stationResult_eq]
    rfl
  case named =>
    subst hquota hname
    rw [exec_stationName_offered hoffers, State.stationName_enters (s := s.taken p e) hstn hstnLt hport hportLt hthere hok hnamed hfree hheld
      hbound, State.stationResult_eq, hnamed]
    rfl
  case opens =>
    obtain ⟨st, body, hsends, hphase, hlooped, hstation⟩ := State.openStream_sends hlink hchecks s.nextDesc
    refine ⟨_, st, exec_streamOpen_offered hoffers, ?_⟩
    rw [State.streamOpen_atOnce hlink hchecks hfree, hsends]
    exact ⟨State.tx?_setTx_same _ _ _, hphase, hlooped, hstation, State.mgmt_pushMsg _ _ _⟩
  case closes =>
    rw [exec_streamClose_offered hoffers, State.streamClose_waits (s := s.taken p e) hid hlt htx hlive hrole hneg hqueue]
  case query =>
    have hquery : CounterQuery e id := ⟨hid, hlt, hmask, hweight, hseed, hlimit, haddr⟩
    refine ⟨fun hidle => ?_, fun hbusy => ?_⟩ <;> rw [exec_streamModify_offered hoffers]
    · rw [State.streamModify_writes (s := s.taken p e) hquery htx hlive hneg hnone hidle]
    · rw [State.streamModify_queued (s := s.taken p e) hquery htx hlive hneg hnone hbusy]
  case sends =>
    rw [exec_parcelSend_offered hoffers, State.parcelSend_joins (s := s.taken p e) hid htx htakes hfence hneg haddr hlen]
    rfl

end Sys2Proof.Machine

/-! # Proofs: the codec's regions (chapter 3) -/

namespace Sys2Proof.Machine

/-! ## Little-endian bit fields (R105, R106) -/

/-- Fields placed from bit `k` on, over what is there already: the fold of `packField`. -/
theorem foldl_packField (w : Nat) (codes : List Nat) (a k : Nat) :
    (codes.foldl (fun (acc : Nat × Nat) c => (acc.1 + (c % 2 ^ w) <<< acc.2, acc.2 + w)) (a, k)).1 = a + 2 ^ k * packField w codes := by
  induction codes generalizing a k with
  | nil => simp [packField]
  | cons c cs ih =>
    rw [packField, List.foldl_cons, List.foldl_cons, ih, ih, Nat.shiftLeft_eq, Nat.shiftLeft_eq, pow_add]
    ring

@[simp] theorem packField_nil (w : Nat) : packField w [] = 0 := rfl

/-- The first code lies lowest. -/
theorem packField_cons (w c : Nat) (cs : List Nat) : packField w (c :: cs) = c % 2 ^ w + 2 ^ w * packField w cs := by
  rw [packField, List.foldl_cons, foldl_packField]
  simp

theorem packField_lt (w : Nat) (cs : List Nat) : packField w cs < 2 ^ (w * cs.length) := by
  induction cs with
  | nil => simp
  | cons c cs ih =>
    have hc := Nat.mod_lt c (Nat.two_pow_pos w)
    have hstep : 2 ^ w * (packField w cs + 1) ≤ 2 ^ w * 2 ^ (w * cs.length) := Nat.mul_le_mul_left _ ih
    rw [packField_cons, List.length_cons, Nat.mul_succ, Nat.add_comm (w * _), pow_add]
    rw [Nat.mul_succ] at hstep
    omega

/-- A field one element further on: the element at its front, and the field above it. -/
theorem unpackField_succ (w n v : Nat) : unpackField w (n + 1) v = v % 2 ^ w :: unpackField w n (v >>> w) := by
  simp [unpackField, List.range_succ_eq_map, List.map_map, Function.comp_def, Nat.mul_succ, Nat.shiftRight_add, Nat.add_comm (w * _)]

theorem unpackField_packField {w : Nat} {cs : List Nat} (h : ∀ c ∈ cs, c < 2 ^ w) : unpackField w cs.length (packField w cs) = cs := by
  induction cs with
  | nil => rfl
  | cons c cs ih =>
    have hc : c % 2 ^ w = c := Nat.mod_eq_of_lt (h c List.mem_cons_self)
    rw [packField_cons, List.length_cons, unpackField_succ, Nat.add_mul_mod_self_left, Nat.mod_mod, hc, Nat.shiftRight_eq_div_pow,
      Nat.add_mul_div_left _ _ (Nat.two_pow_pos w), Nat.div_eq_of_lt (h c List.mem_cons_self), Nat.zero_add,
      ih fun d hd => h d (List.mem_cons_of_mem c hd)]

/-- A field in bytes enough for it is read back from them. -/
theorem leNat_toLe_packField {w k : Nat} {cs : List Nat} (h : w * cs.length ≤ 8 * k) : leNat (toLe k (packField w cs)) = packField w cs := by
  rw [leNat_toLe]
  exact Nat.mod_eq_of_lt (lt_of_lt_of_le (packField_lt w cs) (Nat.pow_le_pow_right Nat.two_pos h))

/-! ## Cutting a list into pieces -/

theorem ceilDiv_eq_zero {n : Nat} (hn : 0 < n) : ceilDiv 0 n = 0 := by
  rw [ceilDiv, Nat.zero_add, Nat.div_eq_of_lt (Nat.sub_lt hn Nat.one_pos)]

theorem ceilDiv_eq_succ {a n : Nat} (hn : 0 < n) (ha : 0 < a) : ceilDiv a n = ceilDiv (a - n) n + 1 := by
  unfold ceilDiv
  obtain h | h := Nat.le_total n a
  · rw [show a + n - 1 = a - n + n - 1 + n by omega, Nat.add_div_right _ hn]
  · rw [Nat.sub_eq_zero_of_le h, Nat.zero_add, Nat.div_eq_of_lt (Nat.sub_lt hn Nat.one_pos), Nat.zero_add,
      show a + n - 1 = a - 1 + n by omega, Nat.add_div_right _ hn, Nat.div_eq_of_lt (by omega)]

/-- The length of a list's first piece, as the decoders count it. -/
theorem min_length {α : Type} (l : List α) (n : Nat) : min l.length n = (l.take n).length := by rw [List.length_take, Nat.min_comm]

theorem length_sub_take {α : Type} (l : List α) (n : Nat) : l.length - (l.take n).length = (l.drop n).length := by
  rw [List.length_take, List.length_drop]
  omega

/-- What a function answers for each piece of `n` of a list, the last perhaps shorter. -/
def mapPieces {α β : Type} (n : Nat) (g : List α → β) (l : List α) : List β :=
  (List.range (ceilDiv l.length n)).map (fun k => g ((l.drop (n * k)).take n))

section
variable {α β : Type} {n : Nat} {g : List α → β} {l : List α}

theorem mapPieces_nil (hn : 0 < n) : mapPieces n g [] = [] := by simp [mapPieces, ceilDiv_eq_zero hn]

theorem mapPieces_cons (hn : 0 < n) (hl : l ≠ []) : mapPieces n g l = g (l.take n) :: mapPieces n g (l.drop n) := by
  simp [mapPieces, ceilDiv_eq_succ hn (List.length_pos_iff.mpr hl), List.range_succ_eq_map, List.map_map, Function.comp_def, Nat.mul_succ,
    Nat.add_comm n]

/-- The pieces in order are the list. -/
theorem flatten_mapPieces (hn : 0 < n) (l : List α) : (mapPieces n id l).flatten = l := by
  induction hlen : l.length using Nat.strong_induction_on generalizing l with
  | _ m ih =>
    obtain rfl | hl := eq_or_ne l []
    · rw [mapPieces_nil hn, List.flatten_nil]
    · have hshort : (l.drop n).length < m := by
        have := List.length_pos_iff.mpr hl
        rw [List.length_drop]
        omega
      rw [mapPieces_cons hn hl, List.flatten_cons, ih _ hshort _ rfl, id_eq, List.take_append_drop]

end

/-! ## Blocks and superblocks (R103) -/

@[simp] theorem blocksOf_nil : blocksOf [] = [] := rfl

theorem blocksOf_of_ne_nil {es : List Elem} (h : es ≠ []) : blocksOf es = es.take 32 :: blocksOf (es.drop 32) :=
  mapPieces_cons (n := 32) (g := id) (by decide) h

theorem blocksOf_length (es : List Elem) : (blocksOf es).length = ceilDiv es.length 32 := by simp [blocksOf]

/-- The first `k` blocks are those of the elements that they hold. -/
theorem blocksOf_take (k : Nat) (es : List Elem) : blocksOf (es.take (32 * k)) = (blocksOf es).take k := by
  induction k generalizing es with
  | zero => simp
  | succ k ih =>
    obtain rfl | h := eq_or_ne es []
    · simp
    · have htake : es.take (32 * (k + 1)) ≠ [] := by simp [h]
      rw [blocksOf_of_ne_nil h, blocksOf_of_ne_nil htake, List.take_succ_cons, List.take_take, List.drop_take, ← ih,
        Nat.min_eq_left (by omega), show 32 * (k + 1) - 32 = 32 * k by omega]

/-- The blocks after the first `k` are those of the elements after them. -/
theorem blocksOf_drop (k : Nat) (es : List Elem) : blocksOf (es.drop (32 * k)) = (blocksOf es).drop k := by
  induction k generalizing es with
  | zero => simp
  | succ k ih =>
    obtain rfl | h := eq_or_ne es []
    · simp
    · rw [blocksOf_of_ne_nil h, List.drop_succ_cons, ← ih, List.drop_drop, Nat.mul_succ, Nat.add_comm]

/-- The elements that a region can carry: codes of the format's width, and in each block one scale byte, 0 outside MX (R105, R106). -/
structure Packable (f : Nat) (es : List Elem) : Prop where
  legal : ∀ p ∈ es, p.1 < 256 ∧ p.2 < 2 ^ elemBits f ∧ (isMx f = false → p.1 = 0)
  oneScale : ∀ i, i < es.length → (es.getD i (0, 0)).1 = (es.getD (i / 32 * 32) (0, 0)).1

namespace Packable
variable {f : Nat} {es : List Elem}

theorem take (h : Packable f es) (n : Nat) : Packable f (es.take n) where
  legal p hp := h.legal p (List.mem_of_mem_take hp)
  oneScale i hi := by
    rw [List.length_take, Nat.lt_min] at hi
    have hstart : i / 32 * 32 < n := by omega
    simpa [List.getD_eq_getElem?_getD, List.getElem?_take, hi.1, hstart] using h.oneScale i hi.2

theorem drop (h : Packable f es) (k : Nat) : Packable f (es.drop (32 * k)) where
  legal p hp := h.legal p (List.mem_of_mem_drop hp)
  oneScale i hi := by
    rw [List.length_drop] at hi
    have hstart : (32 * k + i) / 32 * 32 = 32 * k + i / 32 * 32 := by omega
    simpa [List.getD_eq_getElem?_getD, List.getElem?_drop, hstart] using h.oneScale (32 * k + i) (by omega)

theorem codes_lt (h : Packable f es) : ∀ c ∈ es.map (·.2), c < 2 ^ elemBits f := by
  intro c hc
  obtain ⟨p, hp, rfl⟩ := List.mem_map.mp hc
  exact (h.legal p hp).2.1

theorem headScale_lt (h : Packable f es) : (es.headD (0, 0)).1 < 256 := by
  cases es with
  | nil => decide
  | cons p _ => exact (h.legal p List.mem_cons_self).1

theorem headScale_eq_zero (h : Packable f es) (hmx : isMx f = false) : (es.headD (0, 0)).1 = 0 := by
  cases es with
  | nil => rfl
  | cons p _ => exact (h.legal p List.mem_cons_self).2.2 hmx

/-- A block is its first element's scale byte with the codes. -/
theorem map_codes (h : Packable f es) (hlen : es.length ≤ 32) : (es.map (·.2)).map (fun c => ((es.headD (0, 0)).1, c)) = es := by
  rw [List.map_map]
  refine List.ext_getElem (by simp) fun i hi _ => ?_
  have hi' : i < es.length := by simpa using hi
  have hscale := h.oneScale i hi'
  rw [show i / 32 * 32 = 0 by omega, List.getD_eq_getElem _ _ hi'] at hscale
  have hhead : es.headD (0, 0) = es.getD 0 (0, 0) := by cases es <;> rfl
  simp only [List.getElem_map, Function.comp_apply, hhead, ← hscale]

end Packable

/-! ## One block in the DENSE packing (R105, R106) -/

theorem elemBits_pos (f : Nat) : 0 < elemBits f := by
  unfold elemBits
  split_ifs <;> decide

/-- Elements without a shared scale are of whole bytes. -/
theorem elemBits_whole_bytes {f : Nat} (h : isMx f = false) : elemBits f % 8 = 0 := by
  have hnot : ¬ (5 ≤ f ∧ f ≤ 0xA) := by simpa [isMx] using h
  have h78 : ¬ (f = 7 ∨ f = 8) := by omega
  have h9 : f ≠ 9 := by omega
  simp only [elemBits, h78, h9, if_false]
  split_ifs <;> rfl

/-- The bytes of a block without a scale byte hold its elements exactly. -/
theorem bytes_of_elems {f : Nat} (h : isMx f = false) (n : Nat) : n * elemBits f / 8 * 8 = n * elemBits f :=
  Nat.div_mul_cancel ((Nat.dvd_of_mod_eq_zero (elemBits_whole_bytes h)).mul_left n)

theorem byteAt_toLe_one_append {v : Nat} (h : v < 256) (bs : List Byte) : byteAt (toLe 1 v ++ bs) 0 = v := by
  simp [byteAt, toLe, Nat.mod_eq_of_lt h]

@[simp] theorem drop_toLe_one_append (v : Nat) (bs : List Byte) : (toLe 1 v ++ bs).drop 1 = bs := rfl

theorem packBlock_of_mx {f : Nat} (h : isMx f = true) (b : List Elem) :
    packBlock f b = toLe 1 (b.headD (0, 0)).1 ++ toLe (4 * elemBits f) (packField (elemBits f) (b.map (·.2))) := by
  simp [packBlock, h]

theorem packBlock_of_not_mx {f : Nat} (h : isMx f = false) (b : List Elem) :
    packBlock f b = toLe (b.length * elemBits f / 8) (packField (elemBits f) (b.map (·.2))) := by
  simp [packBlock, h]

theorem packBlock_length (f : Nat) (b : List Elem) : (packBlock f b).length = blockLen f b.length := by
  cases h : isMx f with
  | true => simp [packBlock_of_mx h, blockLen, blockBytes, h, toLe_length]
  | false => simp [packBlock_of_not_mx h, blockLen, h, toLe_length]

/-- The first block's bytes are cut off at its length. -/
@[simp] theorem take_blockLen_append (f : Nat) (b : List Elem) (rest : List Byte) :
    (packBlock f b ++ rest).take (blockLen f b.length) = packBlock f b := by
  rw [← packBlock_length, List.take_left]

@[simp] theorem drop_blockLen_append (f : Nat) (b : List Elem) (rest : List Byte) :
    (packBlock f b ++ rest).drop (blockLen f b.length) = rest := by
  rw [← packBlock_length, List.drop_left]

section
variable {f : Nat} {b : List Elem}

/-- The bit field of an MX block is read back from its 32 elements' bytes. -/
theorem leNat_mxField (hlen : b.length ≤ 32) :
    leNat (toLe (4 * elemBits f) (packField (elemBits f) (b.map (·.2)))) = packField (elemBits f) (b.map (·.2)) := by
  refine leNat_toLe_packField ?_
  rw [List.length_map, Nat.mul_comm]
  exact (Nat.mul_le_mul_right _ hlen).trans_eq (by ring)

theorem unpackBlock_packBlock (h : Packable f b) (hlen : b.length ≤ 32) : unpackBlock f b.length (packBlock f b) = b := by
  have hcodes : unpackField (elemBits f) b.length (packField (elemBits f) (b.map (·.2))) = b.map (·.2) := by
    simpa using unpackField_packField h.codes_lt
  cases hmx : isMx f with
  | true =>
    have hall : 4 * elemBits f * 8 / elemBits f = 32 := by
      rw [show 4 * elemBits f * 8 = 32 * elemBits f by ring, Nat.mul_div_cancel _ (elemBits_pos f)]
    simp only [unpackBlock, hmx, if_true, packBlock_of_mx hmx, drop_toLe_one_append, toLe_length, hall, Nat.min_eq_left hlen,
      byteAt_toLe_one_append h.headScale_lt, leNat_mxField hlen, hcodes]
    exact h.map_codes hlen
  | false =>
    have hall : b.length * elemBits f / 8 * 8 / elemBits f = b.length := by
      rw [bytes_of_elems hmx, Nat.mul_div_cancel _ (elemBits_pos f)]
    have hfield : leNat (toLe (b.length * elemBits f / 8) (packField (elemBits f) (b.map (·.2)))) = packField (elemBits f) (b.map (·.2)) := by
      refine leNat_toLe_packField ?_
      rw [List.length_map, Nat.mul_comm, Nat.mul_comm 8, bytes_of_elems hmx]
    have htake := List.take_of_length_le (toLe_length (b.length * elemBits f / 8) (packField (elemBits f) (b.map (·.2)))).le
    simp only [unpackBlock, hmx, Bool.false_eq_true, if_false, packBlock_of_not_mx hmx, toLe_length, hall, Nat.min_self, htake, hfield,
      hcodes]
    simpa only [h.headScale_eq_zero hmx] using h.map_codes hlen

theorem padsZero_packBlock (hlen : b.length ≤ 32) : padsZero f b.length (packBlock f b) = true := by
  cases hmx : isMx f with
  | false => simp [padsZero, hmx]
  | true =>
    have htake : (packBlock f b).take (blockBytes f) = packBlock f b :=
      List.take_of_length_le (by simp [packBlock_length, blockLen, hmx])
    have hfield := packField_lt (elemBits f) (b.map (·.2))
    rw [List.length_map] at hfield
    have hpads : packField (elemBits f) (b.map (·.2)) >>> (elemBits f * b.length) = 0 := by
      rw [Nat.shiftRight_eq_div_pow, Nat.div_eq_of_lt hfield]
    rw [padsZero, htake, packBlock_of_mx hmx, drop_toLe_one_append, leNat_mxField hlen, hpads]
    simp

end

/-! ## DENSE and OPAQUE regions (R105, R106, R109) -/

theorem packDense_succ {es : List Elem} (h : es ≠ []) (f fuel : Nat) :
    packDense f (fuel + 1) es = packBlock f (es.take 32) ++ packDense f fuel (es.drop 32) := by
  simp [packDense, h]

section
variable {f fuel : Nat} {es : List Elem}

/-- The first block is decoded, and the region goes on behind it. -/
theorem decodeDense_block (h : Packable f es) (hne : es ≠ []) (rest : List Byte) :
    decodeDense f (fuel + 1) es.length (packBlock f (es.take 32) ++ rest) =
      { elems := es.take 32 ++ (decodeDense f fuel (es.drop 32).length rest).elems
        bad := (decodeDense f fuel (es.drop 32).length rest).bad
        pad := (decodeDense f fuel (es.drop 32).length rest).pad
        used := (packBlock f (es.take 32)).length + (decodeDense f fuel (es.drop 32).length rest).used } := by
  have hblock : (es.take 32).length ≤ 32 := List.length_take_le 32 es
  simp [-List.length_take, -List.length_drop, decodeDense, hne, min_length, length_sub_take, unpackBlock_packBlock (h.take 32) hblock,
    padsZero_packBlock hblock, packBlock_length]

theorem decodeDense_packDense (h : Packable f es) (hfuel : es.length ≤ 32 * fuel) :
    decodeDense f fuel es.length (packDense f fuel es) = { elems := es, used := (packDense f fuel es).length } := by
  induction fuel generalizing es with
  | zero =>
    obtain rfl : es = [] := List.length_eq_zero_iff.mp (by omega)
    rfl
  | succ fuel ih =>
    obtain rfl | hne := eq_or_ne es []
    · rfl
    · rw [packDense_succ hne, decodeDense_block h hne, ih (h.drop 1) (by rw [List.length_drop]; omega)]
      simp

end

/-! ## SPARSE regions (R104, R107) -/

/-- The bitmap of the blocks of some elements: bit n is 1 when block n is not zero (R107). -/
def blockBitmap (bl : List (List Elem)) : Nat := packField 1 (bl.map (fun b => b2n (!zeroBlock b)))

/-- The bytes of the blocks that are present, in order (R107). -/
def presentBytes (f : Nat) (bl : List (List Elem)) : List Byte := ((bl.filter (fun b => !zeroBlock b)).map (packBlock f)).flatten

/-- One superblock: its bitmap word, then its present blocks (R107). -/
def packSuper (f : Nat) (bl : List (List Elem)) : List Byte := toLe 4 (blockBitmap bl) ++ presentBytes f bl

/-- The elements that a SPARSE region delivers of some blocks: an elided block without its scale byte (log entry 108). -/
def sparseElems (bl : List (List Elem)) : List Elem := (bl.map (fun b => if zeroBlock b then b.map (fun _ => (0, 0)) else b)).flatten

/-- The word that the model accumulates block by block is the bitmap. -/
theorem foldl_bitmap (bl : List (List Elem)) :
    (bl.foldl (fun (acc : Nat × Nat) b => (acc.1 + (b2n (!zeroBlock b)) <<< acc.2, acc.2 + 1)) (0, 0)).1 = blockBitmap bl := by
  have hbit : ∀ b : Bool, b2n b % 2 = b2n b := fun b => Nat.mod_eq_of_lt (b2n_lt b)
  simp [blockBitmap, packField, List.foldl_map, hbit]

theorem packSparse_eq (f : Nat) (es : List Elem) : packSparse f es = (mapPieces 32 (packSuper f) (blocksOf es)).flatten := by
  simp only [packSparse, foldl_bitmap]
  rfl

theorem packSparse_of_ne_nil {es : List Elem} (h : es ≠ []) (f : Nat) :
    packSparse f es = packSuper f (blocksOf (es.take 1024)) ++ packSparse f (es.drop 1024) := by
  have hbl : blocksOf es ≠ [] := by simp [blocksOf_of_ne_nil h]
  rw [packSparse_eq, packSparse_eq, mapPieces_cons (by decide) hbl, List.flatten_cons, ← blocksOf_take, ← blocksOf_drop]

theorem sparseElems_take_drop (es : List Elem) :
    sparseElems (blocksOf es) = sparseElems (blocksOf (es.take 1024)) ++ sparseElems (blocksOf (es.drop 1024)) := by
  rw [show 1024 = 32 * 32 by rfl, blocksOf_take, blocksOf_drop]
  simp only [sparseElems]
  rw [← List.flatten_append, ← List.map_append, List.take_append_drop]

section
variable {b : List Elem} {bl : List (List Elem)}

theorem blockBitmap_cons_testBit_zero : (blockBitmap (b :: bl)).testBit 0 = !zeroBlock b := by
  rw [blockBitmap, List.map_cons, packField_cons]
  cases zeroBlock b <;> simp [Nat.testBit_zero, Nat.add_mod]

theorem blockBitmap_cons_shiftRight_one : blockBitmap (b :: bl) >>> 1 = blockBitmap bl := by
  have hbit := b2n_lt (!zeroBlock b)
  simp only [blockBitmap, List.map_cons, packField_cons, Nat.shiftRight_eq_div_pow]
  omega

theorem blockBitmap_lt (bl : List (List Elem)) : blockBitmap bl < 2 ^ bl.length := by
  simpa [blockBitmap] using packField_lt 1 (bl.map (fun b => b2n (!zeroBlock b)))

theorem presentBytes_cons_of_zero (h : zeroBlock b = true) (f : Nat) : presentBytes f (b :: bl) = presentBytes f bl := by
  simp [presentBytes, h]

theorem presentBytes_cons_of_not_zero (h : zeroBlock b = false) (f : Nat) :
    presentBytes f (b :: bl) = packBlock f b ++ presentBytes f bl := by
  simp [presentBytes, h]

theorem sparseElems_cons_of_zero (h : zeroBlock b = true) : sparseElems (b :: bl) = List.replicate b.length (0, 0) ++ sparseElems bl := by
  simp [sparseElems, h]

theorem sparseElems_cons_of_not_zero (h : zeroBlock b = false) : sparseElems (b :: bl) = b ++ sparseElems bl := by
  simp [sparseElems, h]

end

section
variable {f fuel i bitmap : Nat} {es : List Elem} {rest : List Byte}

/-- A block whose bit is 0 takes no bytes. -/
theorem decodeSuper_elided (hne : es ≠ []) (hbit : bitmap.testBit i = false) :
    decodeSuper f bitmap (fuel + 1) i es.length rest =
      ({ (decodeSuper f bitmap fuel (i + 1) (es.drop 32).length rest).1 with
          elems := List.replicate (es.take 32).length (0, 0) ++ (decodeSuper f bitmap fuel (i + 1) (es.drop 32).length rest).1.elems },
        (decodeSuper f bitmap fuel (i + 1) (es.drop 32).length rest).2) := by
  simp [-List.length_take, -List.length_drop, decodeSuper, hne, min_length, length_sub_take, hbit]

/-- A block whose bit is 1 is decoded from the bytes at hand. -/
theorem decodeSuper_present (h : Packable f es) (hne : es ≠ []) (hbit : bitmap.testBit i = true) :
    decodeSuper f bitmap (fuel + 1) i es.length (packBlock f (es.take 32) ++ rest) =
      ({ elems := es.take 32 ++ (decodeSuper f bitmap fuel (i + 1) (es.drop 32).length rest).1.elems
         bad := (decodeSuper f bitmap fuel (i + 1) (es.drop 32).length rest).1.bad
         pad := (decodeSuper f bitmap fuel (i + 1) (es.drop 32).length rest).1.pad
         used := (packBlock f (es.take 32)).length + (decodeSuper f bitmap fuel (i + 1) (es.drop 32).length rest).1.used },
        (decodeSuper f bitmap fuel (i + 1) (es.drop 32).length rest).2) := by
  have hblock : (es.take 32).length ≤ 32 := List.length_take_le 32 es
  simp [-List.length_take, -List.length_drop, decodeSuper, hne, min_length, length_sub_take, hbit, unpackBlock_packBlock (h.take 32) hblock,
    padsZero_packBlock hblock, packBlock_length]

/-- The blocks of a superblock from block `i` on are decoded by the bits of its bitmap from bit `i` on. -/
theorem decodeSuper_presentBytes (h : Packable f es) (hfuel : es.length ≤ 32 * fuel) (hmap : bitmap >>> i = blockBitmap (blocksOf es)) :
    decodeSuper f bitmap fuel i es.length (presentBytes f (blocksOf es) ++ rest) =
      ({ elems := sparseElems (blocksOf es), used := (presentBytes f (blocksOf es)).length }, true) := by
  induction fuel generalizing es i with
  | zero =>
    obtain rfl : es = [] := List.length_eq_zero_iff.mp (by omega)
    rfl
  | succ fuel ih =>
    obtain rfl | hne := eq_or_ne es []
    · rfl
    · rw [blocksOf_of_ne_nil hne] at hmap ⊢
      have hbit : bitmap.testBit i = !zeroBlock (es.take 32) := by
        rw [← blockBitmap_cons_testBit_zero, ← hmap, Nat.testBit_shiftRight, Nat.add_zero]
      have hnext : bitmap >>> (i + 1) = blockBitmap (blocksOf (es.drop 32)) := by
        rw [Nat.shiftRight_add, hmap, blockBitmap_cons_shiftRight_one]
      have hrest := ih (h.drop 1) (by rw [List.length_drop]; omega) hnext
      cases hzero : zeroBlock (es.take 32) with
      | true =>
        rw [hzero] at hbit
        rw [presentBytes_cons_of_zero hzero, sparseElems_cons_of_zero hzero, decodeSuper_elided hne hbit, hrest]
      | false =>
        rw [hzero] at hbit
        rw [presentBytes_cons_of_not_zero hzero, sparseElems_cons_of_not_zero hzero, List.append_assoc, decodeSuper_present h hne hbit,
          hrest, List.length_append]

/-- The first superblock is decoded, and the region goes on behind it. -/
theorem decodeSparse_packSuper (h : Packable f es) (hne : es ≠ []) :
    decodeSparse f (fuel + 1) es.length (packSuper f (blocksOf (es.take 1024)) ++ rest) =
      { elems := sparseElems (blocksOf (es.take 1024)) ++ (decodeSparse f fuel (es.drop 1024).length rest).elems
        bad := (decodeSparse f fuel (es.drop 1024).length rest).bad
        pad := (decodeSparse f fuel (es.drop 1024).length rest).pad
        used := (packSuper f (blocksOf (es.take 1024))).length + (decodeSparse f fuel (es.drop 1024).length rest).used } := by
  have hmap := blockBitmap_lt (blocksOf (es.take 1024))
  have hcount : (blocksOf (es.take 1024)).length ≤ 32 := by
    rw [show 1024 = 32 * 32 by rfl, blocksOf_take]
    exact List.length_take_le 32 _
  have hword : leNat (toLe 4 (blockBitmap (blocksOf (es.take 1024)))) = blockBitmap (blocksOf (es.take 1024)) := by
    rw [leNat_toLe]
    exact Nat.mod_eq_of_lt (hmap.trans_le (Nat.pow_le_pow_right Nat.two_pos hcount))
  have habove : blockBitmap (blocksOf (es.take 1024)) >>> ceilDiv (es.take 1024).length 32 = 0 := by
    rw [← blocksOf_length, Nat.shiftRight_eq_div_pow, Nat.div_eq_of_lt hmap]
  have hsuper := decodeSuper_presentBytes (rest := rest) (h.take 1024) (fuel := 32) (i := 0) (List.length_take_le 1024 es)
    (bitmap := blockBitmap (blocksOf (es.take 1024))) rfl
  have htake (bs : List Byte) (v : Nat) : (toLe 4 v ++ bs).take 4 = toLe 4 v := rfl
  have hdrop (bs : List Byte) (v k : Nat) : (toLe 4 v ++ bs).drop (4 + k) = bs.drop k := by
    rw [← List.drop_drop]
    rfl
  rw [packSuper, List.append_assoc]
  simp [-List.length_take, -List.length_drop, decodeSparse, hne, min_length, length_sub_take, htake, hdrop, hword, habove, hsuper, toLe_length]

end

theorem decodeSparse_packSparse {f fuel : Nat} {es : List Elem} (h : Packable f es) (hfuel : es.length ≤ 1024 * fuel) :
    decodeSparse f fuel es.length (packSparse f es) = { elems := sparseElems (blocksOf es), used := (packSparse f es).length } := by
  induction fuel generalizing es with
  | zero =>
    obtain rfl : es = [] := List.length_eq_zero_iff.mp (by omega)
    rfl
  | succ fuel ih =>
    obtain rfl | hne := eq_or_ne es []
    · rfl
    · rw [packSparse_of_ne_nil hne, decodeSparse_packSuper h hne, ih (h.drop 32) (by rw [List.length_drop]; omega),
        ← sparseElems_take_drop, List.length_append]

/-! ## STRUCT24: the kept positions of a group (R108) -/

/-- The codes of a group, each 0 or 1 as it is the zero code or not. -/
def zeroPattern (q : List Nat) : List Nat := q.map (fun c => min c 1)

theorem zeroPattern_getD_beq (q : List Nat) (j : Nat) : ((zeroPattern q).getD j 0 == 0) = (q.getD j 0 == 0) := by
  rw [Bool.eq_iff_iff, beq_iff_eq, beq_iff_eq]
  simp only [zeroPattern, List.getD_eq_getElem?_getD, List.getElem?_map]
  cases q[j]? <;> simp

/-- Which positions are kept depends on which codes are the zero code only. -/
theorem keptPair_zeroPattern (q : List Nat) : keptPair (zeroPattern q) = keptPair q := by
  simp only [keptPair, bne, zeroPattern_getD_beq]

theorem countWhere_zeroPattern (q : List Nat) : countWhere (· != 0) (zeroPattern q) = countWhere (· != 0) q := by
  have hbne (c : Nat) : (min c 1 != 0) = (c != 0) := by cases c <;> simp
  simp [countWhere, zeroPattern, List.filter_map, Function.comp_def, hbne]

/-- The kept positions rise, lie in the group, and leave out zero codes only. -/
structure KeepsAll (q : List Nat) (p : Nat × Nat) : Prop where
  rise : p.1 < p.2
  inGroup : p.2 < 4
  leaves : ∀ j < 4, j ≠ p.1 → j ≠ p.2 → (q.getD j 0 == 0) = true

theorem keepsAll_iff {q : List Nat} {p : Nat × Nat} :
    KeepsAll q p ↔ p.1 < p.2 ∧ p.2 < 4 ∧ ∀ j < 4, j ≠ p.1 → j ≠ p.2 → (q.getD j 0 == 0) = true :=
  ⟨fun ⟨hrise, hin, hleaves⟩ => ⟨hrise, hin, hleaves⟩, fun ⟨hrise, hin, hleaves⟩ => ⟨hrise, hin, hleaves⟩⟩

/-- The sixteen patterns of a group. -/
theorem keepsAll_patterns : ∀ a b c d : Fin 2, countWhere (· != 0) [a.val, b.val, c.val, d.val] ≤ 2 →
    KeepsAll [a.val, b.val, c.val, d.val] (keptPair [a.val, b.val, c.val, d.val]) := by
  simp only [keepsAll_iff]
  decide

theorem keptPair_keepsAll {q : List Nat} (hlen : q.length = 4) (hcount : countWhere (· != 0) q ≤ 2) : KeepsAll q (keptPair q) := by
  have hbit (c : Nat) : min c 1 < 2 := by omega
  match q, hlen with
  | [a, b, c, d], _ =>
    obtain ⟨hrise, hin, hleaves⟩ := keepsAll_patterns ⟨_, hbit a⟩ ⟨_, hbit b⟩ ⟨_, hbit c⟩ ⟨_, hbit d⟩
      ((countWhere_zeroPattern [a, b, c, d]).trans_le hcount)
    have hpair : keptPair [min a 1, min b 1, min c 1, min d 1] = keptPair [a, b, c, d] := keptPair_zeroPattern [a, b, c, d]
    rw [hpair] at hrise hin hleaves
    exact ⟨hrise, hin, fun j hj h0 h1 => (zeroPattern_getD_beq [a, b, c, d] j).symm.trans (hleaves j hj h0 h1)⟩

/-- A group of four from its kept positions and the codes there: the others are the zero code. -/
def restoreGroup (p : Nat × Nat) (c0 c1 : Nat) : List Nat := (List.range 4).map (fun j => if j = p.1 then c0 else if j = p.2 then c1 else 0)

theorem restoreGroup_keptPair {q : List Nat} (hlen : q.length = 4) (hcount : countWhere (· != 0) q ≤ 2) :
    restoreGroup (keptPair q) (q.getD (keptPair q).1 0) (q.getD (keptPair q).2 0) = q := by
  obtain ⟨-, -, hleaves⟩ := keptPair_keepsAll hlen hcount
  refine List.ext_getElem (by simp [restoreGroup, hlen]) fun j _ hj => ?_
  have hget : q.getD j 0 = q[j] := List.getD_eq_getElem q 0 hj
  simp only [restoreGroup, List.getElem_map, List.getElem_range]
  split_ifs with h0 h1
  · rw [← h0, hget]
  · rw [← h1, hget]
  · rw [← hget, eq_comm]
    exact beq_iff_eq.mp (hleaves j (by omega) h0 h1)

/-- The elements of a block from its scale byte, its positions and its kept codes. -/
def restoreBlock (scale : Nat) (pairs : List (Nat × Nat)) (kept : List Nat) : List Elem :=
  ((List.range 8).map (fun g => restoreGroup (pairs.getD g (0, 1)) (kept.getD (2 * g) 0) (kept.getD (2 * g + 1) 0))).flatten.map
    (fun c => (scale, c))

/-- The decoder's own form of a block's elements. -/
theorem restoreBlock_eq (scale : Nat) (pairs : List (Nat × Nat)) (kept : List Nat) :
    restoreBlock scale pairs kept = ((List.range 8).map (fun g => (List.range 4).map (fun j => (scale, if j = (pairs.getD g (0, 1)).1 then
      kept.getD (2 * g) 0 else if j = (pairs.getD g (0, 1)).2 then kept.getD (2 * g + 1) 0 else 0)))).flatten := by
  simp only [restoreBlock, restoreGroup, List.map_flatten, List.map_map, Function.comp_def]

/-! ## STRUCT24: one block (R108) -/

/-- The codes of a block in their eight groups of four. -/
def groupsOf (b : List Elem) : List (List Nat) := (List.range 8).map (fun g => ((b.map (·.2)).drop (4 * g)).take 4)

/-- The positions of a block's kept codes, two for each group. -/
def keptPositions (qs : List (List Nat)) : List Nat := (qs.map (fun q => [(keptPair q).1, (keptPair q).2])).flatten

/-- The kept codes of a block, two for each group. -/
def keptCodes (qs : List (List Nat)) : List Nat := (qs.map (fun q => [q.getD (keptPair q).1 0, q.getD (keptPair q).2 0])).flatten

/-- The scale byte of a STRUCT24 block: in an MX format only. -/
def s24Scale (f : Nat) (b : List Elem) : List Byte := if isMx f then toLe 1 (b.headD (0, 0)).1 else []

/-- One block in the STRUCT24 packing. -/
def packS24Block (f : Nat) (b : List Elem) : List Byte :=
  s24Scale f b ++ (toLe 4 (packField 2 (keptPositions (groupsOf b))) ++
    toLe (2 * elemBits f) (packField (elemBits f) (keptCodes (groupsOf b))))

theorem zip_map_self {α β : Type} (k : α → β) (l : List α) : l.zip (l.map k) = l.map (fun x => (x, k x)) := by
  simpa using List.zip_map' (f := id) (g := k) (l := l)

theorem packS24_eq (f : Nat) (es : List Elem) : packS24 f es = ((blocksOf es).map (packS24Block f)).flatten := by
  refine congrArg List.flatten (List.map_congr_left fun b _ => ?_)
  change s24Scale f b ++ toLe 4 (packField 2 (((groupsOf b).map keptPair).map (fun p => [p.1, p.2])).flatten) ++
    toLe (2 * elemBits f) (packField (elemBits f) (((groupsOf b).zip ((groupsOf b).map keptPair)).map
      (fun x => [x.1.getD x.2.1 0, x.1.getD x.2.2 0])).flatten) = packS24Block f b
  rw [zip_map_self, List.map_map, List.map_map, List.append_assoc]
  rfl

theorem packS24_of_ne_nil {es : List Elem} (h : es ≠ []) (f : Nat) : packS24 f es = packS24Block f (es.take 32) ++ packS24 f (es.drop 32) := by
  rw [packS24_eq, packS24_eq, blocksOf_of_ne_nil h, List.map_cons, List.flatten_cons]

theorem s24Scale_length (f : Nat) (b : List Elem) : (s24Scale f b).length = (if isMx f then 5 else 4) - 4 := by
  unfold s24Scale
  split <;> rfl

theorem packS24Block_length (f : Nat) (b : List Elem) : (packS24Block f b).length = s24Bytes f := by
  simp only [packS24Block, List.length_append, toLe_length, s24Scale_length, s24Bytes]
  split_ifs <;> omega

section
variable {α : Type} (a b : α → Nat)

/-- A list of pairs written out has twice as many entries. -/
theorem length_flatten_pairs (l : List α) : (l.map (fun x => [a x, b x])).flatten.length = 2 * l.length := by
  induction l with
  | nil => rfl
  | cons x l ih => simp [ih, Nat.mul_succ]

/-- The entries of pair `g` of a list of pairs written out. -/
theorem getD_flatten_pairs {l : List α} {g : Nat} (h : g < l.length) :
    (l.map (fun x => [a x, b x])).flatten.getD (2 * g) 0 = a l[g] ∧ (l.map (fun x => [a x, b x])).flatten.getD (2 * g + 1) 0 = b l[g] := by
  induction l generalizing g with
  | nil => simp at h
  | cons x l ih =>
    cases g with
    | zero => simp
    | succ g => simpa [Nat.mul_succ] using ih (by simpa using h)

end

@[simp] theorem groupsOf_length (b : List Elem) : (groupsOf b).length = 8 := by simp [groupsOf]

theorem mem_groupsOf {b : List Elem} {q : List Nat} : q ∈ groupsOf b ↔ ∃ g < 8, ((b.map (·.2)).drop (4 * g)).take 4 = q := by simp [groupsOf]

theorem keptPositions_length (b : List Elem) : (keptPositions (groupsOf b)).length = 16 := by
  rw [keptPositions, length_flatten_pairs, groupsOf_length]

theorem keptCodes_length (b : List Elem) : (keptCodes (groupsOf b)).length = 16 := by
  rw [keptCodes, length_flatten_pairs, groupsOf_length]

theorem getD_unpackField {w n v j : Nat} (h : j < n) : (unpackField w n v).getD j 0 = (v >>> (w * j)) % 2 ^ w := by
  simp [unpackField, List.getD_eq_getElem?_getD, h]

/-- A position word is a field of sixteen positions of two bits. -/
theorem s24Pairs_eq (v : Nat) :
    s24Pairs v = (List.range 8).map (fun g => ((unpackField 2 16 v).getD (2 * g) 0, (unpackField 2 16 v).getD (2 * g + 1) 0)) := by
  refine List.map_congr_left fun g hg => ?_
  rw [List.mem_range] at hg
  rw [getD_unpackField (by omega), getD_unpackField (by omega), bits, bits, show 4 * g + 1 - 4 * g + 1 = 2 by omega,
    show 4 * g + 3 - (4 * g + 2) + 1 = 2 by omega, show 2 * (2 * g) = 4 * g by omega, show 2 * (2 * g + 1) = 4 * g + 2 by omega]

/-- What R108 asks of a block: whole, and at most two codes of a group differ from the zero code. -/
structure S24Block (b : List Elem) : Prop where
  whole : b.length = 32
  fewInGroup : ∀ g < 8, countWhere (fun p => p.2 != 0) ((b.drop (4 * g)).take 4) ≤ 2

namespace S24Block
variable {b : List Elem} (h : S24Block b)
include h

theorem group_length {q : List Nat} (hq : q ∈ groupsOf b) : q.length = 4 := by
  obtain ⟨g, hg, rfl⟩ := mem_groupsOf.mp hq
  rw [List.length_take, List.length_drop, List.length_map, h.whole]
  omega

theorem group_count {q : List Nat} (hq : q ∈ groupsOf b) : countWhere (· != 0) q ≤ 2 := by
  obtain ⟨g, hg, rfl⟩ := mem_groupsOf.mp hq
  simpa [countWhere, ← List.map_drop, ← List.map_take, List.filter_map, Function.comp_def] using h.fewInGroup g hg

theorem keepsAll {q : List Nat} (hq : q ∈ groupsOf b) : KeepsAll q (keptPair q) :=
  keptPair_keepsAll (h.group_length hq) (h.group_count hq)

/-- The position word reads as the positions kept. -/
theorem s24Pairs_positionWord :
    s24Pairs (leNat (toLe 4 (packField 2 (keptPositions (groupsOf b))))) = (groupsOf b).map keptPair := by
  have hlen := keptPositions_length b
  have hlt : ∀ c ∈ keptPositions (groupsOf b), c < 2 ^ 2 := by
    intro c hc
    obtain ⟨_, hpair, hc⟩ := List.mem_flatten.mp hc
    obtain ⟨q, hq, rfl⟩ := List.mem_map.mp hpair
    obtain ⟨hrise, hin, -⟩ := h.keepsAll hq
    simp only [List.mem_cons, List.not_mem_nil, or_false] at hc
    omega
  have hfield := unpackField_packField hlt
  rw [hlen] at hfield
  rw [leNat_toLe_packField (by rw [hlen]), s24Pairs_eq, hfield]
  refine List.ext_getElem (by simp) fun g hg _ => ?_
  have hg' : g < (groupsOf b).length := by simpa using hg
  obtain ⟨h0, h1⟩ := getD_flatten_pairs (fun q => (keptPair q).1) (fun q => (keptPair q).2) hg'
  simp only [List.getElem_map, List.getElem_range, keptPositions, h0, h1]

/-- The kept codes are read back from their bytes. -/
theorem unpackField_keptCodes {f : Nat} (hb : Packable f b) :
    unpackField (elemBits f) 16 (leNat (toLe (2 * elemBits f) (packField (elemBits f) (keptCodes (groupsOf b))))) =
      keptCodes (groupsOf b) := by
  have hlen := keptCodes_length b
  have hlt : ∀ c ∈ keptCodes (groupsOf b), c < 2 ^ elemBits f := by
    intro c hc
    obtain ⟨_, hpair, hc⟩ := List.mem_flatten.mp hc
    obtain ⟨q, hq, rfl⟩ := List.mem_map.mp hpair
    have hq4 := h.group_length hq
    obtain ⟨hrise, hin, -⟩ := h.keepsAll hq
    obtain ⟨g, -, hg⟩ := mem_groupsOf.mp hq
    have hcode {j : Nat} (hj : j < q.length) : q.getD j 0 < 2 ^ elemBits f := by
      rw [List.getD_eq_getElem q 0 hj]
      refine hb.codes_lt _ (List.mem_of_mem_drop (List.mem_of_mem_take (i := 4) (l := (b.map (·.2)).drop (4 * g)) ?_))
      rw [hg]
      exact List.getElem_mem hj
    simp only [List.mem_cons, List.not_mem_nil, or_false] at hc
    obtain rfl | rfl := hc
    · exact hcode (by omega)
    · exact hcode (by omega)
  have hfield := unpackField_packField hlt
  rw [hlen] at hfield
  rw [leNat_toLe_packField (by rw [hlen]; omega), hfield]

/-- What the decoder makes of the kept codes is the block. -/
theorem restoreBlock_kept {f : Nat} (hb : Packable f b) :
    restoreBlock (b.headD (0, 0)).1 ((groupsOf b).map keptPair) (keptCodes (groupsOf b)) = b := by
  have hgroup : ∀ g ∈ List.range 8, restoreGroup (((groupsOf b).map keptPair).getD g (0, 1)) ((keptCodes (groupsOf b)).getD (2 * g) 0)
      ((keptCodes (groupsOf b)).getD (2 * g + 1) 0) = ((b.map (·.2)).drop (4 * g)).take 4 := by
    intro g hg
    have hg' : g < (groupsOf b).length := by simpa using hg
    have hmem := List.getElem_mem hg'
    obtain ⟨h0, h1⟩ := getD_flatten_pairs (fun q => q.getD (keptPair q).1 0) (fun q => q.getD (keptPair q).2 0) hg'
    rw [keptCodes, h0, h1, List.getD_eq_getElem _ _ (by simpa using hg), List.getElem_map,
      restoreGroup_keptPair (h.group_length hmem) (h.group_count hmem)]
    simp [groupsOf]
  have hpieces := flatten_mapPieces (n := 4) (by decide) (b.map (·.2))
  rw [mapPieces, List.length_map, h.whole] at hpieces
  calc restoreBlock (b.headD (0, 0)).1 ((groupsOf b).map keptPair) (keptCodes (groupsOf b))
    _ = (((List.range 8).map (fun g => ((b.map (·.2)).drop (4 * g)).take 4)).flatten).map (fun c => ((b.headD (0, 0)).1, c)) := by
        rw [restoreBlock, List.map_congr_left hgroup]
    _ = (b.map (·.2)).map (fun c => ((b.headD (0, 0)).1, c)) := congrArg _ hpieces
    _ = b := hb.map_codes h.whole.le

end S24Block

/-! ## STRUCT24 regions (R108) -/

theorem s24Eligible_iff (es : List Elem) : s24Eligible es = true ↔
    es.length % 32 = 0 ∧ ∀ g < es.length / 4, countWhere (fun p => p.2 != 0) ((es.drop (4 * g)).take 4) ≤ 2 := by
  simp [s24Eligible]

section
variable {es : List Elem}

/-- The first block of an eligible parcel. -/
theorem s24Block_of_eligible (h : s24Eligible es = true) (hne : es ≠ []) : S24Block (es.take 32) := by
  obtain ⟨hwhole, hfew⟩ := (s24Eligible_iff es).mp h
  have hpos := List.length_pos_iff.mpr hne
  refine ⟨by rw [List.length_take]; omega, fun g hg => ?_⟩
  rw [List.drop_take, List.take_take, Nat.min_eq_left (by omega)]
  exact hfew g (by omega)

theorem s24Eligible_drop (h : s24Eligible es = true) : s24Eligible (es.drop 32) = true := by
  obtain ⟨hwhole, hfew⟩ := (s24Eligible_iff es).mp h
  refine (s24Eligible_iff _).mpr ⟨by rw [List.length_drop]; omega, fun g hg => ?_⟩
  rw [List.length_drop] at hg
  rw [List.drop_drop, show 32 + 4 * g = 4 * (8 + g) by omega]
  exact hfew (8 + g) (by omega)

variable {f fuel : Nat} {rest : List Byte}

/-- The parts of a block's bytes as the decoder reads them. -/
theorem packS24Block_parts (f : Nat) (b : List Elem) (rest : List Byte) :
    ((packS24Block f b ++ rest).drop ((if isMx f then 5 else 4) - 4)).take 4 = toLe 4 (packField 2 (keptPositions (groupsOf b))) ∧
    ((packS24Block f b ++ rest).take (s24Bytes f)).drop (if isMx f then 5 else 4) =
      toLe (2 * elemBits f) (packField (elemBits f) (keptCodes (groupsOf b))) ∧
    (packS24Block f b ++ rest).drop (s24Bytes f) = rest := by
  have hhead : (if isMx f then 5 else 4) = (s24Scale f b).length + 4 := by
    rw [s24Scale_length]
    split <;> rfl
  refine ⟨?_, ?_, ?_⟩
  · rw [← s24Scale_length f b, packS24Block, List.append_assoc, List.append_assoc, List.drop_left, List.take_left' (toLe_length _ _)]
  · rw [← packS24Block_length f b, List.take_left, hhead, packS24Block, ← List.drop_drop, List.drop_left, List.drop_left' (toLe_length _ _)]
  · rw [← packS24Block_length f b, List.drop_left]

theorem byteAt_packS24Block {b : List Elem} (hb : Packable f b) :
    (if isMx f then byteAt (packS24Block f b ++ rest) 0 else 0) = (b.headD (0, 0)).1 := by
  cases hmx : isMx f with
  | true => simp only [packS24Block, s24Scale, hmx, if_true, List.append_assoc, byteAt_toLe_one_append hb.headScale_lt]
  | false => rw [hb.headScale_eq_zero hmx, if_neg Bool.false_ne_true]

/-- The first block is decoded, and the region goes on behind it. -/
theorem decodeS24_packS24Block (h : Packable f es) (hs24 : s24Eligible es = true) (hne : es ≠ []) :
    decodeS24 f (fuel + 1) es.length (packS24Block f (es.take 32) ++ rest) =
      { elems := es.take 32 ++ (decodeS24 f fuel (es.drop 32).length rest).elems
        bad := (decodeS24 f fuel (es.drop 32).length rest).bad
        used := (packS24Block f (es.take 32)).length + (decodeS24 f fuel (es.drop 32).length rest).used } := by
  have hb := s24Block_of_eligible hs24 hne
  have hpack := h.take 32
  have hlen : s24Bytes f ≤ (packS24Block f (es.take 32) ++ rest).length := by
    rw [List.length_append, packS24Block_length]
    exact Nat.le_add_right _ _
  have hhead : (if isMx f then 5 else 4) ≤ s24Bytes f := Nat.le_add_right _ _
  have hgroups : min 8 (2 * elemBits f * 8 / elemBits f / 2) = 8 := by
    rw [show 2 * elemBits f * 8 = 16 * elemBits f by ring, Nat.mul_div_cancel _ (elemBits_pos f)]
    rfl
  have hrise : ((groupsOf (es.take 32)).map keptPair).any (fun p => p.1 ≥ p.2) = false := by
    rw [List.any_map, List.any_eq_false]
    intro q hq
    simpa using (hb.keepsAll hq).rise
  have hwhole : (es.take 32).take es.length = es.take 32 := by rw [List.take_take, Nat.min_comm, ← List.take_take, List.take_length]
  obtain ⟨hword, hbody, hdrop⟩ := packS24Block_parts f (es.take 32) rest
  have helems := hb.restoreBlock_kept hpack
  rw [restoreBlock_eq] at helems
  simp only [decodeS24, List.length_eq_zero_iff, hne, if_false, Nat.not_lt.mpr (hhead.trans hlen), Nat.not_lt.mpr hlen, hword, hbody, hdrop,
    toLe_length, hgroups, byteAt_packS24Block hpack, hb.s24Pairs_positionWord, hb.unpackField_keptCodes hpack, hrise, helems, hwhole,
    packS24Block_length, List.length_drop, Bool.false_or]

theorem decodeS24_packS24 (h : Packable f es) (hs24 : s24Eligible es = true) (hfuel : es.length ≤ 32 * fuel) :
    decodeS24 f fuel es.length (packS24 f es) = { elems := es, used := (packS24 f es).length } := by
  induction fuel generalizing es with
  | zero =>
    obtain rfl : es = [] := List.length_eq_zero_iff.mp (by omega)
    rfl
  | succ fuel ih =>
    obtain rfl | hne := eq_or_ne es []
    · rfl
    · rw [packS24_of_ne_nil hne, decodeS24_packS24Block h hs24 hne, ih (h.drop 1) (s24Eligible_drop hs24) (by rw [List.length_drop]; omega)]
      simp

end

/-! ## The three packings -/

theorem le_ceilDiv (e : Nat) : e ≤ 32 * ceilDiv e 32 := by
  unfold ceilDiv
  omega

/-- Settles O59, by a decoder's rule for the first block (or superblock) of each packing and induction on the fuel. -/
theorem regionsDecodeToWhatWasPacked : Obligations.RegionsDecodeToWhatWasPacked := by
  unfold Obligations.RegionsDecodeToWhatWasPacked
  intro mode f es _ _ hlegal hscale hs24
  have hpack : Packable f es := ⟨hlegal, hscale⟩
  have hfuel := le_ceilDiv es.length
  by_cases h1 : mode = 1
  · rw [decodeRegion, packRegion, if_pos h1, if_pos h1, if_pos h1, decodeSparse_packSparse hpack (by omega)]
    rfl
  by_cases h2 : mode = 2
  · rw [decodeRegion, packRegion, if_neg h1, if_neg h1, if_neg h1, if_pos h2, if_pos h2, decodeS24_packS24 hpack (hs24 h2) (by omega)]
  · rw [decodeRegion, packRegion, if_neg h1, if_neg h1, if_neg h1, if_neg h2, if_neg h2, decodeDense_packDense hpack (by omega)]

end Sys2Proof.Machine

/-! # Proofs: host memory traffic (chapter 7) -/

namespace Sys2Proof.Machine

/-! ## Data of host memory reads (R154, R179, R235, R257, R260) -/

theorem exec_hmReadDone {s : State} (hcfg : s.cfgUp = true) (request : Nat) (data : List Byte) (err : Bool) :
    exec (.hmReadDone request data err) s = .next (s.start.finish (s.start.hostData request data err)) :=
  runUp_up (fun s => s.hostData request data err) s hcfg

/-- Data go to the use that asked for them, which is no longer outstanding. -/
theorem State.hostData_eq {s s1 : State} {request : Nat} {use : HmReadUse} (harmed : s.inj.armed = false)
    (huse : lookupKey request s.hmReads = some use) (hs1 : s1 = { s with hmReads := eraseKey request s.hmReads })
    (data : List Byte) (err : Bool) :
    s.hostData request data err = match (generalizing := false) use with
      | .parcelSend d => s1.sendData d data err
      | .keyLoad d => s1.keyData d data err
      | .scaleLoad d => s1.scaleData d data err
      | .dispatchLoad d => s1.dispatchData d data err
      | .restoreTable d => s1.restoreData d true data err
      | .restoreChunk d => s1.restoreData d false data err := by
  have htake : s.takeRead request = (some use, s1) := by rw [State.takeRead, huse, hs1]
  have hfire : s1.fire 0x22 0 = (false, s1) := State.fire_unarmed _ _ _ (by rw [hs1]; exact harmed)
  cases use <;> simp only [State.hostData, htake, hfire, State.marked_false, Bool.or_false]

/-- The bytes of a KEY_LOAD that still waits for them enter its slot. -/
theorem State.keyData_good {s : State} {d : Nat} {x : Desc} (hdesc : s.desc? d = some x) (hwaits : x.written = false)
    (data : List Byte) : s.keyData d data false = State.complete { s with
      keys := modAt (fun _ => some (padTo (byteAt x.entry 9) data)) (bits (byteAt x.entry 8) 2 0) s.keys } d 0 := by
  simp only [State.keyData, hdesc, hwaits, Bool.false_eq_true, if_false]

/-! ## Acknowledged host memory writes (R248, R254, R256) -/

theorem exec_completionAck {s : State} (hcfg : s.cfgUp = true) (request : Nat) (err : Bool) :
    exec (.completionAck request err) s = .next (s.start.finish (s.start.hostAck true request err)) :=
  runUp_up (fun s => s.hostAck true request err) s hcfg

theorem exec_hmWriteAck {s : State} (hcfg : s.cfgUp = true) (request : Nat) (err : Bool) :
    exec (.hmWriteAck request err) s = .next (s.start.finish (s.start.hostAck false request err)) :=
  runUp_up (fun s => s.hostAck false request err) s hcfg

/-- An acknowledgement does what its write's use asks for, and pairs that waited may fetch again. -/
theorem State.hostAck_eq {s : State} {request : Nat} {use : HmWriteUse} (harmed : s.inj.armed = false)
    (huse : lookupKey request s.hmWrites = some use) (err : Bool) : s.hostAck use.isCompletion request err =
      (State.hostAcked { s with hmWrites := eraseKey request s.hmWrites } request use err).tryFetchAll := by
  have htake : s.takeWrite request = (some use, { s with hmWrites := eraseKey request s.hmWrites }) := by rw [State.takeWrite, huse]
  have hfire : State.fire { s with hmWrites := eraseKey request s.hmWrites } 0x23 0 =
      (false, { s with hmWrites := eraseKey request s.hmWrites }) := State.fire_unarmed _ _ _ harmed
  simp only [State.hostAck, htake, hfire, State.marked_false, bne_self_eq_false, Bool.or_false, Bool.false_eq_true, if_false]

/-- Settles O10: a response takes its request out of the list and goes to the request's use, case by case. -/
theorem hostMemoryAnswers : Obligations.HostMemoryAnswers := by
  unfold Obligations.HostMemoryAnswers
  refine ⟨fun s s1 request use data err hcfg harmed huse hs1 => ⟨_, exec_hmReadDone hcfg request data err, ?reads⟩,
    fun s request pair d hcfg harmed huse => ?completion, fun s request hcfg harmed huse => ?event,
    fun s request pair hcfg harmed huse => ?message⟩
  case reads =>
    rw [State.hostData_eq (s := s.start) harmed huse hs1]
    refine ⟨?_, ?_, ?_, ?_, ?_, fun d x hkey herr hdesc hwaits => ?key⟩
    case key =>
      subst hkey herr
      have hdesc1 : s1.desc? d = some x := by rw [hs1]; exact hdesc
      refine (State.keyData_good hdesc1 hwaits data).trans ?_
      rw [hs1]
      rfl
    all_goals (intros; subst use; rfl)
  case completion =>
    rw [exec_completionAck hcfg, ← show (HmWriteUse.completion pair d).isCompletion = true from rfl,
      State.hostAck_eq (s := s.start) harmed huse]
    rfl
  case event =>
    rw [exec_hmWriteAck hcfg, ← show HmWriteUse.event.isCompletion = false from rfl, State.hostAck_eq (s := s.start) harmed huse]
    rfl
  case message =>
    rw [exec_hmWriteAck hcfg, ← show (HmWriteUse.message pair).isCompletion = false from rfl,
      State.hostAck_eq (s := s.start) harmed huse]
    rfl

end Sys2Proof.Machine

/-! # Proofs: messages that act on a stream or a draw (chapters 4, 6 and 9) -/

namespace Sys2Proof.Machine

section
variable {s : State} {body : List Byte} {rest : List PortItem} (hcfg : s.cfgUp = true)
include hcfg

theorem exec_modifyMessage (hport : s.port = .message 0x14 body :: rest) :
    exec .modifyMessage s = .next (s.start.finish ((s.behind rest).modifyMsg body)) :=
  runUp_takeMsg hcfg hport (fun b s => s.modifyMsg b)

theorem exec_demoteMessage (hport : s.port = .message 0x20 body :: rest) :
    exec .demoteMessage s = .next (s.start.finish ((s.behind rest).demoteMsg body)) :=
  runUp_takeMsg hcfg hport (fun b s => s.demoteMsg b)

theorem exec_chunkOk (hport : s.port = .message 0x18 body :: rest) : exec .chunkOk s = .next (s.start.finish
    ((s.behind rest).chunkOk (field body 0 2 % 4096) (bit (byteAt body 1) 4) (byteAt body 2 % 64) (field body 4 4))) :=
  runUp_takeMsg hcfg hport (fun b s => s.chunkOk (field b 0 2 % 4096) (bit (byteAt b 1) 4) (byteAt b 2 % 64) (field b 4 4))

theorem exec_chunkBad (hport : s.port = .message 0x19 body :: rest) : exec .chunkBad s = .next (s.start.finish
    ((s.behind rest).chunkBad (field body 0 2 % 4096) (byteAt body 2 % 64) (field body 4 4))) :=
  runUp_takeMsg hcfg hport (fun b s => s.chunkBad (field b 0 2 % 4096) (byteAt b 2 % 64) (field b 4 4))

end

/-! ## What the end of a draw leaves (R206, R225, R238) -/

/-- From `s` to `x` no draw has begun, and every code raised stands. -/
structure State.DrawsEnd (s x : State) : Prop where
  draws : ∀ d ∈ x.draws, d ∈ s.draws
  raised : ∀ r ∈ s.raised, r ∈ x.raised

namespace State.DrawsEnd
variable {s x y : State}

theorem refl (s : State) : s.DrawsEnd s := ⟨fun _ h => h, fun _ h => h⟩

/-- A change that leaves both lists alone. -/
theorem same (h : s.DrawsEnd x) (hd : y.draws = x.draws := by rfl) (hr : y.raised = x.raised := by rfl) : s.DrawsEnd y :=
  ⟨fun d hy => h.draws d (hd ▸ hy), fun r hs => hr ▸ h.raised r hs⟩

theorem ite {c : Prop} [Decidable c] (hx : s.DrawsEnd x) (hy : s.DrawsEnd y) : s.DrawsEnd (if c then x else y) := by
  split <;> assumption

theorem raise (h : s.DrawsEnd x) (code unit data : Nat) (inj : Bool) : s.DrawsEnd (x.raise code unit data inj) :=
  ⟨h.draws, fun r hs => List.mem_append_left _ (h.raised r hs)⟩

theorem filterDraws (h : s.DrawsEnd x) (keep : Draw → Bool) : s.DrawsEnd { x with draws := x.draws.filter keep } :=
  ⟨fun d hd => h.draws d (List.mem_of_mem_filter hd), h.raised⟩

theorem entries (h : s.DrawsEnd x) (hy : x.AsButEntries y) : s.DrawsEnd y := by
  refine h.same ?_ ?_ <;> (unfold State.AsButEntries at hy; rw [hy])

theorem complete (h : s.DrawsEnd x) (id status : Nat) (result : List Byte) (off : Nat) (peer : Bool) :
    s.DrawsEnd (x.complete id status result off peer) := h.entries ((State.AsButEntries.refl x).complete _ _ _ _ _)

theorem postEvent (h : s.DrawsEnd x) (event unit code : Nat) (data : List Byte) : s.DrawsEnd (x.postEvent event unit code data) :=
  h.entries ((State.AsButEntries.refl x).postEvent _ _ _ _)

theorem dropDrawParcels (h : s.DrawsEnd x) (d : Draw) : s.DrawsEnd (x.dropDrawParcels d) := by
  unfold State.dropDrawParcels State.modTx
  split
  · exact h.same
  · exact h

theorem serveShelfWaits (h : s.DrawsEnd x) : s.DrawsEnd x.serveShelfWaits := by
  unfold State.serveShelfWaits
  refine forEach_keeps s.DrawsEnd _ _ _ (fun d y hy => ?_) h
  split
  · exact hy.same
  · exact ite (complete hy.same _ _ _ _ _) hy

theorem freeShelf (h : s.DrawsEnd x) (i : Nat) : s.DrawsEnd (x.freeShelf i) := by
  unfold State.freeShelf
  exact (postEvent (forEach_keeps s.DrawsEnd _ _ _ (fun _ _ hy => hy.complete _ _ _ _ _) (filterDraws h.same _)) _ _ _ _).serveShelfWaits

theorem settleShelf (h : s.DrawsEnd x) (i : Nat) : s.DrawsEnd (x.settleShelf i) :=
  ite (ite (h.freeShelf i) (ite h (postEvent (raise h.same _ _ _ _) _ _ _ _))) h

theorem settleShelves (h : s.DrawsEnd x) : s.DrawsEnd x.settleShelves :=
  forRange_keeps s.DrawsEnd _ _ _ (fun i _ hy => hy.settleShelf i) h

end State.DrawsEnd

/-- An ended draw is one of the draws no more, and every code raised before stands. -/
theorem State.endDraw_drawsEnd (s : State) (d : Draw) (status : Nat) (result : List Byte) :
    State.DrawsEnd { s with draws := s.draws.filter (fun (x : Draw) => x.id != d.id) } (s.endDraw d status result) := by
  unfold State.endDraw
  dsimp only
  refine State.DrawsEnd.settleShelves (State.DrawsEnd.complete ?_ _ _ _ _ _)
  have hdrop := (State.DrawsEnd.refl { s with draws := s.draws.filter (fun (x : Draw) => x.id != d.id) }).dropDrawParcels d
  split
  · exact hdrop.same
  · exact hdrop

theorem State.draw?_id {s : State} {id : Nat} {d : Draw} (h : s.draw? id = some d) : d.id = id := by
  simpa using List.find?_some h

theorem State.draw?_endDraw (s : State) (d : Draw) (status : Nat) (result : List Byte) : (s.endDraw d status result).draw? d.id = none := by
  refine List.find?_eq_none.mpr fun x hx => ?_
  have hkept := (s.endDraw_drawsEnd d status result).draws x hx
  simpa using (List.mem_filter.mp hkept).2

/-! ## MODIFY and DEMOTE (R139, R297, R334) -/

section
variable {s : State} {body : List Byte} {id : Nat} {st : RxStream} (hid : bits (field body 0 2) 11 0 = id) (hrx : s.rx? id = some st)
include hid hrx

/-- A MODIFY is kept for the parcel that it names, in the place of an older one. -/
theorem State.modifyMsg_kept : s.modifyMsg body = s.setRx id { st with
    modifies := st.modifies.filter (fun (x : Modify) => x.pseq != field body 12 2) ++ [{
      mask := bits (byteAt body 2) 3 0, weight := bits (byteAt body 3) 3 0, rnd := bits (byteAt body 3) 5 4, seed := field body 4 4,
      atomicLimit := field body 8 4, pseq := field body 12 2 }] } := by
  simp only [State.modifyMsg, hid, State.modRx_of_rx? hrx]

theorem State.demoteMsg_fixed (hcls : st.cls = 1) :
    s.demoteMsg body = s.setRx id { st with demotePseq := some (field body 2 2) } := by
  simp only [State.demoteMsg, hid, State.modRx_of_rx? hrx, if_pos hcls]

end

/-! ## CHUNK_OK and CHUNK_BAD (R225, R298) -/

section
variable {s : State} {id : Nat} {d : Draw} (hdraw : s.draw? id = some d) (hphase : d.phase = .running) (hkeeper : d.keeper = 0)
include hdraw hphase hkeeper

/-- The next chunk that waits for it is confirmed. -/
theorem State.chunkOk_next (hnext : d.ackNext < d.next) : s.chunkOk d.stream false id d.ackNext =
    (s.modDraw id (fun (x : Draw) => { x with
      ackNext := d.ackNext + 1, running := digestStep x.running d.ackNext (x.digests.getD d.ackNext 0) })).pumpDraw id := by
  simp [State.chunkOk, hdraw, hphase, hkeeper, hnext]

/-- The first failure of a chunk sends the draw back to it. -/
theorem State.chunkBad_first {index : Nat} (hfirst : d.badSeen.contains index = false) : s.chunkBad d.stream id index =
    ((s.dropDrawParcels d).modDraw id (fun (x : Draw) => { x with
      next := index, got := [], reading := none, closed := false, badSeen := x.badSeen ++ [index] })).pumpDraw id := by
  simp only [State.chunkBad, hdraw, hphase, hkeeper, hfirst, reduceCtorEq, ne_eq, not_true_eq_false, or_self, Bool.false_eq_true,
    if_false]

/-- The second one ends it. -/
theorem State.chunkBad_again {index : Nat} (hagain : d.badSeen.contains index = true) : s.chunkBad d.stream id index =
    ((s.raise 0x0608 d.id).sticky 0x5808 3).endDraw d 0x30 (drawResult (s.drawLevel d) index 0) := by
  simp only [State.chunkBad, hdraw, hphase, hkeeper, hagain, reduceCtorEq, ne_eq, not_true_eq_false, or_self, if_false, if_true]

end

/-- Settles O36: each message by what the stream or draw that it names is doing. -/
theorem streamMessagesAct : Obligations.StreamMessagesAct := by
  unfold Obligations.StreamMessagesAct
  refine ⟨fun s body rest id st hcfg hport hid hrx => ?modify, fun s body rest id st hcfg hport hid hrx hcls => ?demote,
    fun s body rest id d hcfg hport hid hdraw hphase hkeeper hstream hclosing hindex hnext => ?chunkOk,
    fun s body rest id index d hcfg hport hid hdraw hphase hkeeper hstream hindex => ⟨fun hfirst => ?first, fun hagain => ?again⟩⟩
  case modify => rw [exec_modifyMessage hcfg hport, State.modifyMsg_kept (s := s.behind rest) hid hrx]; rfl
  case demote => rw [exec_demoteMessage hcfg hport, State.demoteMsg_fixed (s := s.behind rest) hid hrx hcls]; rfl
  case chunkOk =>
    rw [exec_chunkOk hcfg hport, hid, hstream, hclosing, hindex,
      State.chunkOk_next (s := s.behind rest) hdraw hphase hkeeper hnext]
    rfl
  case first =>
    rw [exec_chunkBad hcfg hport, hid, hstream, hindex, State.chunkBad_first (s := s.behind rest) hdraw hphase hkeeper hfirst]
    rfl
  case again =>
    refine ⟨_, exec_chunkBad hcfg hport, ?_⟩
    rw [hid, hstream, hindex, State.chunkBad_again (s := s.behind rest) hdraw hphase hkeeper hagain, ← State.draw?_id hdraw]
    exact ⟨(State.endDraw_drawsEnd _ d _ _).raised _ (List.mem_append_right _ (List.mem_singleton_self _)), State.draw?_endDraw _ d _ _⟩

end Sys2Proof.Machine

/-! # Proofs: the descriptors of draws, restores and accumulation regions (chapters 4 and 6) -/

namespace Sys2Proof.Machine

/-! ## Checks in table order (R9, R249) -/

theorem firstFail_eq_none_iff {checks : List (Bool × Nat × Nat)} : firstFail checks = none ↔ ∀ c ∈ checks, c.1 = false := by
  induction checks with
  | nil => simp [firstFail]
  | cons c checks ih =>
    obtain ⟨bad, status, off⟩ := c
    cases bad <;> simp [firstFail, ih]

/-- A descriptor whose every check holds goes on. -/
theorem State.checked_of_pass {s : State} {desc : Nat} {checks : List (Bool × Nat × Nat)} (go : State → State)
    (h : ∀ c ∈ checks, c.1 = false) : s.checked desc checks go = go s := by
  rw [State.checked, firstFail_eq_none_iff.mpr h]

/-- A range that R204 allows passes both of its checks. -/
theorem rangeChecks_allowed {base len : Nat} (hbase : base % 512 = 0) (hpos : 0 < len) (hlen : len % 512 = 0)
    (hend : base + len ≤ 2 ^ 48) (baseOff lenOff : Nat) :
    rangeChecks base len baseOff lenOff = [(false, 0x11, baseOff), (false, 0x11, lenOff)] := by
  simp [rangeChecks, hbase, hlen, hpos.ne']
  omega

/-- Without HMAC a slot field of 0 names no key. -/
@[simp] theorem State.keyCheck_noHmac (s : State) (off : Nat) : s.keyCheck false 0 off = (false, 0x11, off) := rfl

section
variable {s : State} {p : Nat} {e : List Byte}

theorem exec_drawStart_offered (h : s.Offers p e 0x24 drawStartMask) :
    exec .drawStart s = .next (s.start.finish ((s.taken p e).drawStart s.nextDesc e)) := runUp_offered h (by decide) _

theorem exec_drawAck_offered (h : s.Offers p e 0x25 drawAckMask) :
    exec .drawAck s = .next (s.start.finish ((s.taken p e).drawAck s.nextDesc e)) := runUp_offered h (by decide) _

theorem exec_restore_offered (h : s.Offers p e 0x26 restoreMask) :
    exec .restore s = .next (s.start.finish ((s.taken p e).restoreStart s.nextDesc e)) := runUp_offered h (by decide) _

theorem exec_accumOpen_offered (h : s.Offers p e 0x27 accumOpenMask) :
    exec .accumOpen s = .next (s.start.finish ((s.taken p e).accumOpen s.nextDesc e)) := runUp_offered h (by decide) _

end

/-! ## Draws (R219, R225, R229) -/

/-- The body of a DRAW_START that draws a range of the base die to host memory. -/
structure HostRangeDraw (e : List Byte) : Prop where
  id : byteAt e 8 < 64
  kind : byteAt e 9 = 3
  shelf : byteAt e 0xA = 0
  stream : field e 0xC 2 = 0
  ackMs : field e 0xE 2 = 0
  base : field e 0x18 8 % 512 = 0
  some : 0 < field e 0x20 8
  len : field e 0x20 8 % 512 = 0
  fits : field e 0x18 8 + field e 0x20 8 ≤ 2 ^ 48
  data : field e 0x28 8 % 64 = 0
  table : field e 0x30 8 % 64 = 0

/-- The draw of a range to host memory that the entry asks for. -/
def State.hostRangeDraw (s : State) (desc : Nat) (e : List Byte) : Draw :=
  { id := byteAt e 8, desc := desc, shelf := none, base := field e 0x18 8, len := field e 0x20 8, stage := field e 0x10 2,
    version := field e 0x12 2, keeper := 1, dataAddr := field e 0x28 8, tabAddr := field e 0x30 8, dieId := s.keeperDie 0 }

/-- A draw of a range to host memory whose DRAW_ID is free begins. -/
theorem State.drawStart_hostRange {s : State} {e : List Byte} (h : HostRangeDraw e) (hrole : s.role = .base)
    (hfree : s.draw? (byteAt e 8) = none) (hlater : s.drawsLater (byteAt e 8) = false) (desc : Nat) :
    s.drawStart desc e = State.pumpDraw { s with
      draws := s.draws.filter (fun d => !(d.phase == .suspended && d.id == byteAt e 8)) ++ [s.hostRangeDraw desc e] } (byteAt e 8) := by
  obtain ⟨hid, hkind, hshelf, hstream, hack, hbase, hpos, hlen, hfits, hdata, htable⟩ := h
  have hnum : bits (byteAt e 8) 5 0 = byteAt e 8 := Nat.mod_eq_of_lt hid
  have hresume : bit (byteAt e 8) 6 = false := Nat.testBit_lt_two_pow hid
  have hhmac : bit (byteAt e 8) 7 = false := Nat.testBit_lt_two_pow (by omega)
  have hrange : bit 3 0 = true := rfl
  have hkeeper : bits 3 2 1 = 1 := rfl
  have hslot : bits 3 5 3 = 0 := rfl
  have hgone : s.draws.filter (fun d => d.phase == .suspended && d.id == byteAt e 8) = [] := by
    have hother := List.find?_eq_none.mp hfree
    exact List.filter_eq_nil_iff.mpr fun d hd => by simpa using fun _ => by simpa using hother d hd
  simp only [State.drawStart, State.afterShelf, State.drawBegin, hkind, hnum, hresume, hhmac, hrange, hkeeper, hslot, if_true,
    Option.filter_none, Bool.not_true, Bool.false_and, Bool.or_false]
  rw [State.checked_of_pass]
  · simp only [hgone, forEach_nil, hack, hstream, State.hostRangeDraw, Bool.false_eq_true, if_false, if_true, one_ne_zero, Option.map_none, Option.getD_none]
  · simp [rangeChecks_allowed hbase hpos hlen hfits, hrole, hlater, hfree, hshelf, hstream, hdata, htable, hack]

/-- A DRAW_ACK of a shelf with that version digest raises its LEVEL: to 3 where it comes from the site that CL_SHELF_CTL names. -/
theorem State.drawAck_sameSite {s : State} {e : List Byte} {i vd : Nat} (hshelves : s.hasShelves = true) (hkind : byteAt e 8 = 0)
    (hshelf : byteAt e 9 = i) (hi : i < s.shelves.length) (hdigest : (s.shelf i).vdigest = some vd) (hvd : field e 0x10 8 = vd)
    (hid : byteAt e 0xA = 0) (hlevel : byteAt e 0xB = 0) (hsite : byteAt e 0xC = s.fld 0x5800 15 8) (desc : Nat) :
    s.drawAck desc e = ((s.modShelf i (fun h => { h with level := max (s.shelf i).level 3 })).settleShelves).complete desc 0
      (toLe 1 (max (s.shelf i).level 3)) := by
  have hrelay : bit 0 0 = false := rfl
  have hfail : bit 0 1 = false := rfl
  simp only [State.drawAck, hkind, hshelf, hrelay, hfail, hsite, Bool.false_eq_true, if_false]
  rw [State.checked_of_pass]
  · simp only [if_true]
  · simp [State.noShelves, hshelves, hi, hdigest, hvd, hid, hlevel]

/-- A draw to a keeper with chunks unacknowledged is suspended when ACK_MS has passed. -/
theorem State.drawAckTimeout_waits {s : State} {id : Nat} {d : Draw} (hdraw : s.draw? id = some d) (hkeeper : d.keeper = 0)
    (hphase : d.phase = .running) (hnext : d.ackNext < d.next) : s.drawAckTimeout id = (s.raise 0x0607 id).suspendDraw d 0x60 := by
  simp [State.drawAckTimeout, hdraw, hkeeper, hphase, hnext]

theorem exec_drawAckTimeout {s : State} (hcfg : s.cfgUp = true) (id : Nat) :
    exec (.drawAckTimeout id) s = .next (s.start.finish (s.start.drawAckTimeout id)) := runUp_up (fun s => s.drawAckTimeout id) s hcfg

/-! ## Restores (R235) -/

/-- The body of a RESTORE of a range of the base die from host memory, without EXPECT, HMAC and COMMIT. -/
structure HostRangeRestore (e : List Byte) : Prop where
  kind : byteAt e 8 = 3
  shelf : byteAt e 9 = 0
  level : byteAt e 0xA = 0
  stream : field e 0xC 2 = 0
  expect : field e 0x10 8 = 0
  base : field e 0x18 8 % 512 = 0
  some : 0 < field e 0x20 8
  len : field e 0x20 8 % 512 = 0
  fits : field e 0x18 8 + field e 0x20 8 ≤ 2 ^ 48

/-- The restore that the entry asks for. -/
def hostRangeRestore (desc : Nat) (e : List Byte) : Restore :=
  { desc := desc, shelf := none, base := field e 0x18 8, len := field e 0x20 8, stage := field e 0x38 2, version := field e 0x3A 2,
    stream := none, dataAddr := field e 0x28 8, tabAddr := field e 0x30 8, expect := none, key := none, level := 0, commit := false }

/-- A restore of a range that meets no shelf and no accumulation region begins. -/
theorem State.restoreStart_hostRange {s : State} {e : List Byte} (h : HostRangeRestore e) (hrole : s.role = .base)
    (hshelves : s.shelvesWhere (fun h => h.state != .free && overlap h.base h.len (field e 0x18 8) (field e 0x20 8)) = [])
    (hregions : s.hitsRegion (field e 0x18 8) (field e 0x20 8) = false) (desc : Nat) :
    s.restoreStart desc e = State.pumpRestore { s with restores := s.restores ++ [hostRangeRestore desc e] } desc := by
  obtain ⟨hkind, hshelf, hlevel, hstream, hexpect, hbase, hpos, hlen, hfits⟩ := h
  have hrange : bit 3 0 = true := rfl
  have hhost : bit 3 1 = true := rfl
  have hexp : bit 3 2 = false := rfl
  have hhmac : bit 3 3 = false := rfl
  have hcommit : bit 3 4 = false := rfl
  have hslot : bits 3 7 5 = 0 := rfl
  simp only [State.restoreStart, State.afterShelf, State.restoreBegin, hkind, hrange, hhost, hexp, hhmac, hcommit, hslot, hlevel,
    Bool.false_eq_true, if_true, if_false, Option.filter_none]
  rw [State.checked_of_pass]
  · rfl
  · simp [rangeChecks_allowed hbase hpos hlen hfits, hrole, hshelves, hregions, hshelf, hstream, hexpect]

/-! ## Accumulation regions (R158) -/

@[simp] theorem State.region?_complete (s : State) (desc status : Nat) (result : List Byte) (off : Nat) (peer : Bool) (r : Nat) :
    (s.complete desc status result off peer).region? r = s.region? r := by
  have h := (State.AsButEntries.refl s).complete desc status result off peer
  unfold State.AsButEntries at h
  rw [h]
  rfl

/-- The body of an ACCUM_OPEN of a region that R158 allows. -/
structure OpensRegion (e : List Byte) : Prop where
  low : 0 < byteAt e 8
  high : byteAt e 8 ≤ 64
  opens : bit (byteAt e 9) 3 = false
  someContribs : 0 < byteAt e 0xA
  contribs : byteAt e 0xA ≤ 16
  someElems : 128 ≤ field e 0xC 4
  elems : field e 0xC 4 ≤ 2 ^ 28
  whole : field e 0xC 4 % 128 = 0
  someSlots : 0 < byteAt e 0xB
  slots : byteAt e 0xB ≤ 64
  base : field e 0x10 8 % 512 = 0
  fits : field e 0x10 8 + 4 * field e 0xC 4 * byteAt e 0xB ≤ 2 ^ 48

theorem State.region?_accumOpen {s : State} {e : List Byte} (h : OpensRegion e) (hrole : s.role = .base) (hroom : s.regions.length ≠ 64)
    (hfree : s.region? (byteAt e 8) = none) (hhits : s.hitsRegion (field e 0x10 8) (4 * field e 0xC 4 * byteAt e 0xB) = false)
    (desc : Nat) : (s.accumOpen desc e).region? (byteAt e 8) = some {
      ordered := !bit (byteAt e 9) 0, contribs := byteAt e 0xA, elems := field e 0xC 4, slots := byteAt e 0xB, base := field e 0x10 8
      addTo := bit (byteAt e 9) 1, strict := bit (byteAt e 9) 2 } := by
  obtain ⟨hlow, hhigh, hopens, hsomeC, hcontribs, hsomeE, helems, hwhole, hsomeS, hslots, hbase, hfits⟩ := h
  simp only [State.accumOpen, hopens, Bool.false_eq_true, if_false]
  rw [State.checked_of_pass]
  · rw [State.region?_complete]
    exact lookupKey_insertKey_same _ _ _
  · simp [hrole, hroom, hfree, hhits, hwhole, hbase, hlow.ne', hsomeC.ne', hsomeS.ne', hcontribs, hslots, hhigh]
    omega

/-- Settles O31: each descriptor by the checks that it passes. -/
theorem drawRestoreAndAccumDescriptors : Obligations.DrawRestoreAndAccumDescriptors := by
  unfold Obligations.DrawRestoreAndAccumDescriptors
  refine ⟨fun s p e hoffers hrole hid hkind hshelf hstream hack hfree hlater hbase hpos hlen hfits hdata htable => ?draw,
    fun s p i e vd hoffers hshelves hkind hshelf hi hdigest hvd hid hlevel hsite => ?ack,
    fun s id d hcfg hdraw hkeeper hphase hnext => ?timeout,
    fun s p e hoffers hrole hkind hshelf hlevel hstream hexpect hbase hpos hlen hfits hshelves hregions => ?restore,
    fun s p e hoffers hrole hroom hlow hhigh hfree hopens hsomeC hcontribs hsomeE helems hwhole hsomeS hslots hbase hfits hhits => ?accum⟩
  case draw =>
    have hbody : HostRangeDraw e := ⟨hid, hkind, hshelf, hstream, hack, hbase, hpos, hlen, hfits, hdata, htable⟩
    rw [exec_drawStart_offered hoffers, State.drawStart_hostRange (s := s.taken p e) hbody hrole hfree hlater]
    rfl
  case ack =>
    rw [exec_drawAck_offered hoffers, State.drawAck_sameSite (s := s.taken p e) hshelves hkind hshelf hi hdigest hvd hid hlevel hsite]
    rfl
  case timeout => rw [exec_drawAckTimeout hcfg, State.drawAckTimeout_waits (s := s.start) hdraw hkeeper hphase hnext]
  case restore =>
    have hbody : HostRangeRestore e := ⟨hkind, hshelf, hlevel, hstream, hexpect, hbase, hpos, hlen, hfits⟩
    rw [exec_restore_offered hoffers, State.restoreStart_hostRange (s := s.taken p e) hbody hrole hshelves hregions]
    rfl
  case accum =>
    have hbody : OpensRegion e := ⟨hlow, hhigh, hopens, hsomeC, hcontribs, hsomeE, helems, hwhole, hsomeS, hslots, hbase, hfits⟩
    exact ⟨_, exec_accumOpen_offered hoffers, State.region?_accumOpen (s := s.taken p e) hbody hrole hroom hfree hhits s.nextDesc⟩

end Sys2Proof.Machine

/-! # Proofs: the descriptors of images, tables, keys and the log (chapters 4, 5, 7 and 15) -/

namespace Sys2Proof.Machine

section
variable {s : State} {p : Nat} {e : List Byte}

theorem exec_scaleSave_offered (h : s.Offers p e 0x28 scaleMask) :
    exec .scaleSave s = .next (s.start.finish ((s.taken p e).scaleSave s.nextDesc e)) := runUp_offered h (by decide) _

theorem exec_scaleLoad_offered (h : s.Offers p e 0x29 scaleMask) :
    exec .scaleLoad s = .next (s.start.finish ((s.taken p e).scaleLoad s.nextDesc e)) := runUp_offered h (by decide) _

theorem exec_dispatchLoad_offered (h : s.Offers p e 0x30 dispatchLoadMask) :
    exec .dispatchLoad s = .next (s.start.finish ((s.taken p e).dispatchLoad s.nextDesc e)) := runUp_offered h (by decide) _

theorem exec_keyLoad_offered (h : s.Offers p e 0x60 keyLoadMask) :
    exec .keyLoad s = .next (s.start.finish ((s.taken p e).keyLoad s.nextDesc e)) := runUp_offered h (by decide) _

theorem exec_logDrain_offered (h : s.Offers p e 0x50 logDrainMask) :
    exec .logDrain s = .next (s.start.finish ((s.taken p e).logDrain s.nextDesc e)) := runUp_offered h (by decide) _

end

/-! ## Scale images (R153, R154) -/

/-- Bytes that one piece holds are that piece. -/
theorem pieces_single {k : Nat} {bs : List Byte} (hsome : bs ≠ []) (hfit : bs.length ≤ k) : pieces k bs = [bs] := by
  obtain ⟨n, hn⟩ : ∃ n, bs.length = n + 1 := ⟨bs.length - 1, by have := List.length_pos_iff.mpr hsome; omega⟩
  simp [pieces, hn, chunksOf, hsome, List.take_of_length_le hfit, List.drop_of_length_le hfit]

/-- A write of at most 4 KiB is one request. -/
theorem State.hmWrites4_single (s : State) (addr : Nat) {data : List Byte} (use : Nat → HmWriteUse) (hsome : data ≠ [])
    (hfit : data.length ≤ 4096) : s.hmWrites4 addr data use = s.hmWriteReq addr data (use 0) := by
  simp [State.hmWrites4, pieces_single hsome hfit]

/-- A number among bytes reads as it was written. -/
theorem field_toLe (pre post : List Byte) (k v : Nat) : field (pre ++ (toLe k v ++ post)) pre.length k = v % 2 ^ (8 * k) := by
  rw [field, List.drop_left, List.take_left' (toLe_length k v), leNat_toLe]

/-- An image without records is its header of 32 bytes. -/
theorem State.scaleImage_empty {s : State} {v : ScaleSave} (hrecs : v.recs = []) :
    (s.scaleImage v).length = 32 ∧ field (s.scaleImage v) 0 4 = 0x4C414353 ∧ field (s.scaleImage v) 8 4 = 0 := by
  refine ⟨by simp [State.scaleImage, hrecs, toLe_length, zeros_length], ?magic, ?count⟩
  case magic =>
    simp only [State.scaleImage, List.append_assoc]
    exact field_toLe [] _ 4 0x4C414353
  case count =>
    have hcount := field_toLe (toLe 4 0x4C414353 ++ ([3] ++ (toLe 1 s.straps.slotId ++ (toLe 1 s.build.instanceNo ++ [0]))))
      (toLe 8 v.began ++ (toLe 4 (crc32c v.recs.flatten) ++ (zeros 8 ++ v.recs.flatten))) 4 v.recs.length
    simpa [State.scaleImage, toLe_length, hrecs] using hcount

theorem State.saveSides_none {s : State} (htx : s.tx = []) (hrx : s.rx = []) : s.saveSides = [] := by
  simp [State.saveSides, htx, hrx, sortBy]

/-- An image for host memory that has no record to wait for is written. -/
theorem State.pumpSave_empty (s : State) {v : ScaleSave} (hleft : v.left = []) (hrecs : v.recs = []) (hhost : v.mem = false)
    (hwriting : v.writing = false) : ∃ saves, State.pumpSave v s =
      State.hmWriteReq { s with saves := saves } v.addr (s.scaleImage { v with left := [], writing := true }) (.image v.desc) := by
  obtain ⟨hlength, -, -⟩ := State.scaleImage_empty (s := s) (v := { v with left := [], writing := true }) hrecs
  have hone := State.hmWrites4_single { s with saves := s.saves.map (fun (w : ScaleSave) =>
    if w.desc = v.desc then { v with left := [], writing := true } else w) } v.addr (fun _ => .image v.desc)
    (List.length_pos_iff.mp (by omega)) (by omega : (s.scaleImage { v with left := [], writing := true }).length ≤ 4096)
  refine ⟨_, Eq.trans ?_ hone⟩
  simp only [State.pumpSave, hleft, hrecs, hhost, hwriting, State.saveRecords, List.isEmpty_nil, Bool.not_true, Bool.false_eq_true, if_false]
  rfl

/-- With no stream open an image for host memory is written at once. -/
theorem State.scaleSave_noStreams {s : State} {e : List Byte} (hmem : byteAt e 8 = 0) (haddr : field e 0x10 8 % 64 = 0)
    (hlen : 32 ≤ field e 0x18 8) (htx : s.tx = []) (hrx : s.rx = []) (desc : Nat) : ∃ saves v, v.recs = [] ∧ s.scaleSave desc e =
      State.hmWriteReq { s with saves := saves } (field e 0x10 8) (s.scaleImage v) (.image desc) := by
  have hhost : bit 0 0 = false := rfl
  have hbegin : s.scaleSave desc e = State.pumpSave { desc := desc, mem := false, addr := field e 0x10 8, began := s.now, left := [] }
      { s with saves := s.saves ++ [{ desc := desc, mem := false, addr := field e 0x10 8, began := s.now, left := [] }] } := by
    simp only [State.scaleSave, State.saveSides_none htx hrx, hmem, hhost]
    rw [State.checked_of_pass]
    · exact if_neg (by simpa using hlen)
    · simp [haddr]
  obtain ⟨saves, hwritten⟩ := State.pumpSave_empty { s with
    saves := s.saves ++ [{ desc := desc, mem := false, addr := field e 0x10 8, began := s.now, left := [] }] }
    (v := { desc := desc, mem := false, addr := field e 0x10 8, began := s.now, left := [] }) rfl rfl rfl rfl
  exact ⟨saves, _, rfl, hbegin.trans hwritten⟩

/-- SCALE_LOAD reads the header of its image first. -/
theorem State.scaleLoad_header {s : State} {e : List Byte} {desc : Nat} (hmem : byteAt e 8 = 0) (haddr : field e 0x10 8 % 64 = 0)
    (hlen : 32 ≤ field e 0x18 8) (hfirst : lookupKey desc s.reads = none) :
    s.scaleLoad desc e = s.hmReadReq (field e 0x10 8) 32 (.scaleLoad desc) := by
  have hhost : bit 0 0 = false := rfl
  simp only [State.scaleLoad, hmem, hhost]
  rw [State.checked_of_pass]
  · simp [State.scaleMore, State.readSoFar, hmem, hhost, hfirst]
  · simp [haddr, hlen]

/-! ## Dispatch tables (R179) -/

/-- The body of a DISPATCH_LOAD that asks for the counters of a table. -/
structure TableQuery (e : List Byte) : Prop where
  kind : byteAt e 9 = 1
  entries : field e 0xA 2 = 0
  rowElems : field e 0xC 2 = 0
  ticks : field e 0xE 2 = 0
  holdMax : field e 0x10 2 = 0
  spill : field e 0x14 4 = 0
  aligned : field e 0x18 8 % 64 = 0

/-- A query of a table that no load has filled writes zeros. -/
theorem State.dispatchLoad_query {s : State} {e : List Byte} (h : TableQuery e) (hnum : 0 < byteAt e 8)
    (hbuild : byteAt e 8 ≤ s.build.dispTables) (hloading : s.loading (byteAt e 8) = false) (hwaits : s.tableWaits = [])
    (htable : s.table? (byteAt e 8) = none) (hemptied : lookupKey (byteAt e 8) s.emptied = none) (desc : Nat) :
    s.dispatchLoad desc e = s.hmWriteReq (field e 0x18 8) (zeros 128) (.record desc) := by
  obtain ⟨hkind, hne, hh, hticks, hmax, hspill, haddr⟩ := h
  have hquery : bit 1 0 = true := rfl
  have hload : bit 1 1 = false := rfl
  have hpolicy : bits 1 3 2 = 0 := rfl
  have hok : addrOk 0 = true := rfl
  have hsome : s.build.dispTables ≠ 0 := by omega
  have hinside : ¬ byteAt e 8 > s.build.dispTables := by omega
  simp only [State.dispatchLoad, hspill, hok, State.afterLoads, hloading, hwaits, List.any_nil, Bool.not_true, Bool.or_self,
    Bool.false_eq_true, if_false, State.loadStart, hkind, hquery, hload, hpolicy, htable, hemptied, if_true]
  rw [firstFail_eq_none_iff.mpr]
  · rfl
  · simp [hne, hh, hticks, hmax, haddr, hnum.ne', hsome, hinside]

/-! ## Keys (R257) -/

section
variable {s : State} {e : List Byte} {k : Nat} (hk : k < 8) (hslots : k < s.build.keySlots)
include hk hslots

/-- A key that is to be loaded is read from memory. -/
theorem State.keyLoad_reads (hslot : byteAt e 8 = k) (hsome : 0 < byteAt e 9) (hlen : byteAt e 9 ≤ 64) (haddr : field e 0x10 8 % 8 = 0)
    (desc : Nat) : s.keyLoad desc e = s.hmReadReq (field e 0x10 8) (byteAt e 9) (.keyLoad desc) := by
  have hnum : bits k 2 0 = k := Nat.mod_eq_of_lt hk
  have hload : bit k 7 = false := Nat.testBit_lt_two_pow (by omega)
  simp only [State.keyLoad, hslot, hnum, hload, Bool.false_eq_true, if_false]
  rw [State.checked_of_pass]
  simp [hslots, hsome.ne', hlen, haddr]
  omega

/-- A key slot that is to be erased is empty. -/
theorem State.keyLoad_erases (hslot : byteAt e 8 = k + 128) (hlen : byteAt e 9 = 0) (haddr : field e 0x10 8 = 0)
    (desc : Nat) : s.keyLoad desc e = State.complete { s with keys := modAt (fun _ => none) k s.keys } desc 0 := by
  have hnum : bits (k + 128) 2 0 = k := by
    show (k + 128) % 8 = k
    omega
  have herase : bit (k + 128) 7 = true := by
    rw [bit, Nat.testBit_eq_decide_div_mod_eq]
    exact decide_eq_true (by omega)
  simp only [State.keyLoad, hslot, hnum, herase, if_true]
  rw [State.checked_of_pass]
  simp [hslots, hlen, haddr]
  omega

end

theorem State.keys_complete (s : State) (desc status : Nat) (result : List Byte) (off : Nat) (peer : Bool) :
    (s.complete desc status result off peer).keys = s.keys := by
  have h := (State.AsButEntries.refl s).complete desc status result off peer
  unfold State.AsButEntries at h
  rw [h]

/-! ## The kiln log (R257, R555) -/

/-- A drain of a log of one record writes it. -/
theorem State.logDrain_single {s : State} {e : List Byte} {i : Nat} {r : KilnRecord} (haddr : field e 0x10 8 % 64 = 0)
    (hsome : 0 < field e 0x18 4) (hmax : field e 0x18 4 ≤ 64) (hlog : s.kiln.records = [(i, r)]) (desc : Nat) : s.logDrain desc e =
      (s.addRead desc (toLe 1 1)).hmWriteReq (field e 0x10 8) r.bytes (.logRecord desc i r.seq) := by
  obtain ⟨n, hn⟩ : ∃ n, field e 0x18 4 = n + 1 := ⟨field e 0x18 4 - 1, by omega⟩
  rw [State.logDrain, State.checked_of_pass]
  · simp [hlog, sortBy, insertBy, hn]
  · simp [haddr, hsome.ne', hmax]

/-- Settles O32: each descriptor by the checks that it passes. -/
theorem imageTableKeyAndLogDescriptors : Obligations.ImageTableKeyAndLogDescriptors := by
  unfold Obligations.ImageTableKeyAndLogDescriptors
  refine ⟨fun s p e hoffers hmem haddr htx hrx hlen => ?save, fun s p e hoffers hmem haddr hlen hfirst => ?load,
    fun s p e hoffers hnum hbuild hkind hne hh hticks hmax hspill haddr hloading hwaits htable hemptied => ?query,
    fun s p e hoffers hslots hk hsome hlen haddr => ?keyRead, fun s p k e hoffers hslot hk hslots hlen haddr => ?keyErase,
    fun s p i e r hoffers haddr hsome hmax hlog => ?drain⟩
  case save =>
    obtain ⟨saves, v, hrecs, hwritten⟩ := State.scaleSave_noStreams (s := s.taken p e) hmem haddr hlen htx hrx s.nextDesc
    obtain ⟨hlength, hmagic, hcount⟩ := State.scaleImage_empty (s := s.taken p e) hrecs
    refine ⟨_, _, exec_scaleSave_offered hoffers, hlength, hmagic, hcount, ?_, ?_⟩ <;> rw [hwritten] <;> rfl
  case load => rw [exec_scaleLoad_offered hoffers, State.scaleLoad_header (s := s.taken p e) hmem haddr hlen hfirst]
  case query =>
    have hbody : TableQuery e := ⟨hkind, hne, hh, hticks, hmax, hspill, haddr⟩
    rw [exec_dispatchLoad_offered hoffers,
      State.dispatchLoad_query (s := s.taken p e) hbody hnum hbuild hloading hwaits htable hemptied]
  case keyRead => rw [exec_keyLoad_offered hoffers, State.keyLoad_reads (s := s.taken p e) hk hslots rfl hsome hlen haddr]
  case keyErase =>
    refine ⟨_, exec_keyLoad_offered hoffers, ?_⟩
    rw [State.finish_keys, State.keyLoad_erases (s := s.taken p e) hk hslots hslot hlen haddr, State.keys_complete]
    rfl
  case drain =>
    refine ⟨_, exec_logDrain_offered hoffers, ?_, ?_⟩ <;>
      rw [State.logDrain_single (s := s.taken p e) haddr hsome hmax hlog] <;> rfl

end Sys2Proof.Machine

/-! # Proofs: what leaves the inbound streams

What settles and logs reaches the inbound streams through few functions. Each of the others keeps the list of their contexts, which is said here
once. The proofs `(rfl)` keep `simp` from taking these lemmas as definitional, which it cannot use where it discharges a premise. -/

namespace Sys2Proof.Machine

/-! ## Choices and loops -/

@[simp] theorem State.ite_rx {c : Prop} [Decidable c] {a b : State} : (if c then a else b).rx = if c then a.rx else b.rx :=
  apply_ite State.rx c a b

@[simp] theorem State.forEach_rx {β : Type} {l : List β} {f : β → State → State} {s : State} (hf : ∀ b x, (f b x).rx = x.rx) :
    (forEach l f s).rx = s.rx := forEach_keeps (fun t => t.rx = s.rx) l f s (fun b x h => (hf b x).trans h) rfl

@[simp] theorem State.forRange_rx {n : Nat} {f : Nat → State → State} {s : State} (hf : ∀ i x, (f i x).rx = x.rx) :
    (forRange n f s).rx = s.rx := forRange_keeps (fun t => t.rx = s.rx) n f s (fun b x h => (hf b x).trans h) rfl

theorem State.foldl_fst_keeps {α β : Type} (P : State → Prop) {l : List α} {f : State × β → α → State × β} {b : State × β}
    (hf : ∀ b a, P b.1 → P (f b a).1) (h : P b.1) : P (l.foldl f b).1 := by
  induction l generalizing b with
  | nil => exact h
  | cons a l ih => exact ih (hf b a h)

theorem State.foldl_fst_rx {α β : Type} {l : List α} {f : State × β → α → State × β} {b : State × β} (hf : ∀ b a, (f b a).1.rx = b.1.rx) :
    (l.foldl f b).1.rx = b.1.rx :=
  State.foldl_fst_keeps (fun t => t.rx = b.1.rx) (fun c a h => (hf c a).trans h) rfl

section
variable {s : State}

/-! ## Codes, rings and requests -/

@[simp] theorem State.fire_rx {point unit} : (s.fire point unit).2.rx = s.rx := by
  unfold State.fire
  split <;> simp

theorem State.fireIf_rx {c : Prop} [Decidable c] {point unit} : (if c then s.fire point unit else (false, s)).2.rx = s.rx := by
  split
  · exact State.fire_rx
  · rfl

theorem State.fireUnless_rx {c : Prop} [Decidable c] {point unit} : (if c then (false, s) else s.fire point unit).2.rx = s.rx := by
  split
  · rfl
  · exact State.fire_rx

@[simp] theorem State.marked_rx {before : State} {inj} : (before.marked inj s).rx = s.rx := by simp [State.marked]
@[simp] theorem State.modRing_rx {pair f} : (s.modRing pair f).rx = s.rx := (rfl)
@[simp] theorem State.messageOut_rx {pair} : (s.messageOut pair).rx = s.rx := by simp [State.messageOut]
@[simp] theorem State.sendMessages_rx {pair} : (s.sendMessages pair).rx = s.rx := by simp [State.sendMessages]
@[simp] theorem State.messageDue_rx {pair} : (s.messageDue pair).rx = s.rx := by simp [State.messageDue]
@[simp] theorem State.countEntry_rx {pair request irqNow} : (s.countEntry pair request irqNow).rx = s.rx := by simp [State.countEntry]
@[simp] theorem State.writeEntry_rx {pair bytes use irqNow} : (s.writeEntry pair bytes use irqNow).rx = s.rx := by simp [State.writeEntry]

@[simp] theorem State.complete_rx {id status result fieldOff peer} : (s.complete id status result fieldOff peer).rx = s.rx := by
  unfold State.complete
  split <;> simp

@[simp] theorem State.badField_rx {id off} : (s.badField id off).rx = s.rx := by simp [State.badField]
@[simp] theorem State.writeEvent_rx {event unit code data} : (s.writeEvent event unit code data).rx = s.rx := by simp [State.writeEvent]
@[simp] theorem State.flushLost_rx : s.flushLost.rx = s.rx := by simp [State.flushLost]
@[simp] theorem State.eventLost_rx : s.eventLost.rx = s.rx := (rfl)
@[simp] theorem State.postNow_rx {event unit code data} : (s.postNow event unit code data).rx = s.rx := by simp [State.postNow]
@[simp] theorem State.postEvent_rx {event unit code data} : (s.postEvent event unit code data).rx = s.rx := by simp [State.postEvent]
@[simp] theorem State.flushEvents_rx : s.flushEvents.rx = s.rx := by simp [State.flushEvents]
@[simp] theorem State.ringFault_rx {pair code inj} : (s.ringFault pair code inj).rx = s.rx := by simp [State.ringFault]
@[simp] theorem State.checkFences_rx : s.checkFences.rx = s.rx := by simp [State.checkFences]
@[simp] theorem State.hmWriteReq_rx {addr data use} : (s.hmWriteReq addr data use).rx = s.rx := (rfl)
@[simp] theorem State.hmReadReq_rx {addr len use} : (s.hmReadReq addr len use).rx = s.rx := (rfl)
@[simp] theorem State.memReq_rx {channel o use} : (s.memReq channel o use).rx = s.rx := by simp [State.memReq]

@[simp] theorem State.memRelease_rx : s.memRelease.rx = s.rx := by
  unfold State.memRelease
  exact State.forEach_rx fun _ _ => rfl

@[simp] theorem State.memWriteReq_rx {channel addr data use} : (s.memWriteReq channel addr data use).rx = s.rx := by
  simp [State.memWriteReq]

@[simp] theorem State.memReadReq_rx {channel addr len use} : (s.memReadReq channel addr len use).rx = s.rx := by simp [State.memReadReq]

@[simp] theorem State.hmWrites4_rx {addr data use} : (s.hmWrites4 addr data use).rx = s.rx :=
  State.foldl_fst_rx (f := fun (acc : State × Nat) b => (acc.1.hmWriteReq (addr + acc.2) b (use acc.2), acc.2 + 4096)) fun _ _ => rfl

@[simp] theorem State.memWrites_rx {ch addr data use} : (s.memWrites ch addr data use).1.rx = s.rx := by
  unfold State.memWrites
  exact State.foldl_fst_rx fun _ _ => by simp

@[simp] theorem State.nvWriteReq_rx {addr data use} : (s.nvWriteReq addr data use).rx = s.rx := (rfl)

@[simp] theorem State.nvWriteBytes_rx {addr bs use} : (s.nvWriteBytes addr bs use).rx = s.rx := by
  unfold State.nvWriteBytes
  exact State.foldl_fst_rx fun _ _ => rfl

@[simp] theorem State.writeLogImage_rx : s.writeLogImage.rx = s.rx := by simp [State.writeLogImage]
@[simp] theorem State.closeStreamWindows_rx {id} : (s.closeStreamWindows id).rx = s.rx := (rfl)
@[simp] theorem State.driveIrq_rx : s.driveIrq.rx = s.rx := (rfl)

/-! ## Streams -/

@[simp] theorem State.numSticky_rx {id t seen} : (s.numSticky id t seen).rx = s.rx := by simp [State.numSticky]

@[simp] theorem State.modTx_rx {id f} : (s.modTx id f).rx = s.rx := by
  unfold State.modTx
  split <;> simp

@[simp] theorem State.saveTake_rx {x} : (s.saveTake x).rx = s.rx := (rfl)

@[simp] theorem State.writeQuery_rx {desc record} : (s.writeQuery desc record).rx = s.rx := by
  unfold State.writeQuery
  split <;> simp

@[simp] theorem State.queryTake_rx {id} : (s.queryTake id).rx = s.rx := by
  unfold State.queryTake
  split <;> simp

@[simp] theorem State.commitParcel_rx {id st p mode wireLen} : (s.commitParcel id st p mode wireLen).rx = s.rx := by
  unfold State.commitParcel
  extract_lets c e r drawn es draws converts
  have hfire : (if converts = true then s.fire 0x1B id else (false, s)).2.rx = s.rx := State.fireIf_rx
  generalize (if converts = true then s.fire 0x1B id else (false, s)) = q at hfire ⊢
  obtain ⟨inj, s1⟩ := q
  simpa using hfire

@[simp] theorem State.cutParcel_rx {id st p} : (s.cutParcel id st p).rx = s.rx := by simp [State.cutParcel]
@[simp] theorem State.modPort_rx {n f} : (s.modPort n f).rx = s.rx := (rfl)
@[simp] theorem State.answerBeat_rx {port side} : (s.answerBeat port side).rx = s.rx := by simp [State.answerBeat]
@[simp] theorem State.pushMsg_rx {type body} : (s.pushMsg type body).rx = s.rx := (rfl)

@[simp] theorem State.enqueue_rx {id p sought} : (s.enqueue id p sought).rx = s.rx := by
  unfold State.enqueue
  split <;> simp

/-! ## Shelves and draws -/

@[simp] theorem State.modShelf_rx {i f} : (s.modShelf i f).rx = s.rx := (rfl)
@[simp] theorem State.takeShelf_rx {desc e} : (s.takeShelf desc e).rx = s.rx := by simp [State.takeShelf]

@[simp] theorem State.serveShelfWaits_rx : s.serveShelfWaits.rx = s.rx := by
  unfold State.serveShelfWaits
  refine State.forEach_rx fun _ _ => ?_
  split <;> simp

@[simp] theorem State.orphanFills_rx {i} : (s.orphanFills i).rx = s.rx := (rfl)
@[simp] theorem State.freeShelf_rx {i} : (s.freeShelf i).rx = s.rx := by simp [State.freeShelf]
@[simp] theorem State.settleShelf_rx {i} : (s.settleShelf i).rx = s.rx := by simp [State.settleShelf]
@[simp] theorem State.settleShelves_rx : s.settleShelves.rx = s.rx := by simp [State.settleShelves]

@[simp] theorem State.pumpFetch_rx {weight} : (s.pumpFetch weight).rx = s.rx := by
  unfold State.pumpFetch
  split <;> simp

@[simp] theorem State.modDraw_rx {id f} : (s.modDraw id f).rx = s.rx := (rfl)
@[simp] theorem State.dropDrawParcels_rx {d} : (s.dropDrawParcels d).rx = s.rx := by simp [State.dropDrawParcels]

@[simp] theorem State.endDraw_rx {d status result} : (s.endDraw d status result).rx = s.rx := by
  unfold State.endDraw
  split <;> simp

@[simp] theorem State.cutDraw_rx {d} : (s.cutDraw d).rx = s.rx := by
  unfold State.cutDraw
  (repeat' split) <;> simp

@[simp] theorem State.suspendDraw_rx {d status} : (s.suspendDraw d status).rx = s.rx := by
  unfold State.suspendDraw
  split <;> simp

@[simp] theorem State.sendClosing_rx {d} : (s.sendClosing d).rx = s.rx := by simp [State.sendClosing]
@[simp] theorem State.writeDrawTable_rx {d} : (s.writeDrawTable d).rx = s.rx := by simp [State.writeDrawTable]

@[simp] theorem State.pumpDraw_rx {id} : (s.pumpDraw id).rx = s.rx := by
  unfold State.pumpDraw
  split <;> simp

@[simp] theorem State.pumpDraws_rx : s.pumpDraws.rx = s.rx := by simp [State.pumpDraws]
@[simp] theorem State.endRestore_rx {r status result} : (s.endRestore r status result).rx = s.rx := by simp [State.endRestore]
@[simp] theorem State.violation_rx {code unit stickyBit} : (s.violation code unit stickyBit).rx = s.rx := by simp [State.violation]

@[simp] theorem State.sagDigest_rx {inbound id fmt ctl b} : (s.sagDigest inbound id fmt ctl b).2.rx = s.rx := by
  unfold State.sagDigest
  dsimp only
  split <;> simp

/-! ## Accumulation and dispatch -/

@[simp] theorem State.setRegion_rx {r g} : (s.setRegion r g).rx = s.rx := (rfl)

@[simp] theorem State.finishRounds_rx {r} : (s.finishRounds r).rx = s.rx := by
  unfold State.finishRounds
  split <;> simp

@[simp] theorem State.modContrib_rx {r slot c f} : (s.modContrib r slot c f).rx = s.rx := by
  unfold State.modContrib
  split <;> simp

@[simp] theorem State.setTable_rx {t} : (s.setTable t).rx = s.rx := (rfl)
@[simp] theorem State.dispSticky_rx {a b noRoute unmapped} : (s.dispSticky a b noRoute unmapped).rx = s.rx := by simp [State.dispSticky]

@[simp] theorem State.losePair_rx {id} : (s.losePair id).rx = s.rx := by
  unfold State.losePair
  split
  · rfl
  · extract_lets s1 rows
    split
    · rfl
    · split
      · rfl
      · extract_lets mine t1 held t2 s2 s3
        have h3 : s3.rx = s.rx := by simp [s3, s2, s1]
        split <;> simp [h3]

@[simp] theorem State.orphanRows_rx {id num} : (s.orphanRows id num).rx = s.rx := (rfl)

/-! ## Closes, interruptions and sends -/

@[simp] theorem State.ghost_rx {id last} : (s.ghost id last).rx = s.rx := (rfl)

@[simp] theorem State.answerPops_rx {key status every} : (s.answerPops key status every).rx = s.rx := by
  unfold State.answerPops
  split <;> simp

@[simp] theorem State.detach_rx {key} : (s.detach key).rx = s.rx := (rfl)

@[simp] theorem State.dropTxParcel_rx {id status p} : (s.dropTxParcel id status p).rx = s.rx := by
  unfold State.dropTxParcel
  split <;> simp

@[simp] theorem State.ptRespond_rx {vc packet status} : (s.ptRespond vc packet status).rx = s.rx := by simp [State.ptRespond]

@[simp] theorem State.refuseAtomic_rx {id p taken} : (s.refuseAtomic id p taken).rx = s.rx := by
  unfold State.refuseAtomic
  dsimp only
  split <;> simp

@[simp] theorem State.refuseSource_rx {id p} : (s.refuseSource id p).rx = s.rx := by
  unfold State.refuseSource
  split <;> simp

@[simp] theorem State.enterParcel_rx {id p sought} : (s.enterParcel id p sought).rx = s.rx := by
  unfold State.enterParcel
  split
  · rfl
  · extract_lets c r s1
    have h1 : s1.rx = s.rx := by simp [s1, r]
    split
    · simp
    · split
      · simp
      · split
        · split
          · simp [r]
          · split <;> simp [h1]
        · simp

@[simp] theorem State.malformed_rx {stream} : (s.malformed stream).rx = s.rx := by simp [State.malformed]
@[simp] theorem State.modSend_rx {desc f} : (s.modSend desc f).rx = s.rx := (rfl)

@[simp] theorem State.readSend_rx {desc} : (s.readSend desc).rx = s.rx := by
  unfold State.readSend
  split <;> simp

@[simp] theorem State.badSend_rx {desc id} : (s.badSend desc id).rx = s.rx := by simp [State.badSend]

@[simp] theorem State.enterSend_rx {desc} : (s.enterSend desc).rx = s.rx := by
  unfold State.enterSend
  (repeat' split) <;> simp

@[simp] theorem State.pumpSends_rx : s.pumpSends.rx = s.rx := by simp [State.pumpSends]
@[simp] theorem State.offer_rx {port side data source} : (s.offer port side data source).rx = s.rx := (rfl)

@[simp] theorem State.pumpQuery_rx {q} : (s.pumpQuery q).rx = s.rx := by
  unfold State.pumpQuery
  extract_lets s1
  have h1 : s1.rx = s.rx := rfl
  split <;> split <;> simp [h1]

@[simp] theorem State.pumpQueries_rx : s.pumpQueries.rx = s.rx := by simp [State.pumpQueries]
@[simp] theorem State.pumpSave_rx {v0} : (State.pumpSave v0 s).rx = s.rx := by simp [State.pumpSave]
@[simp] theorem State.pumpSaves_rx : s.pumpSaves.rx = s.rx := by simp [State.pumpSaves]

/-! ## Strands -/

@[simp] theorem State.standDown_rx {i row} : (s.standDown i row).rx = s.rx := by simp [State.standDown]
@[simp] theorem State.guarantee_rx {unit code subtype data} : (s.guarantee unit code subtype data).rx = s.rx := by simp [State.guarantee]
@[simp] theorem State.writeRepair_rx {i} : (s.writeRepair i).rx = s.rx := by simp [State.writeRepair]
@[simp] theorem State.writeCal_rx {i temp} : (s.writeCal i temp).rx = s.rx := by simp [State.writeCal]
@[simp] theorem State.sendFrame_rx {type payload} : (s.sendFrame type payload).rx = s.rx := (rfl)
@[simp] theorem State.sendReady_rx : s.sendReady.rx = s.rx := (rfl)
@[simp] theorem State.sendRec_rx {i dir phase} : (s.sendRec i dir phase).rx = s.rx := (rfl)
@[simp] theorem State.sendSvc_rx {i join v} : (s.sendSvc i join v).rx = s.rx := by simp [State.sendSvc]
@[simp] theorem State.beginSvc_rx {i join reason} : (s.beginSvc i join reason).rx = s.rx := by simp [State.beginSvc]

@[simp] theorem State.retire_rx {i} : (s.retire i).rx = s.rx := by
  unfold State.retire
  dsimp only
  split <;> simp

@[simp] theorem State.modRep_rx {i f} : (s.modRep i f).rx = s.rx := (rfl)

@[simp] theorem State.endRepairCmd_rx {i} : (s.endRepairCmd i).rx = s.rx := by
  unfold State.endRepairCmd
  split <;> simp

@[simp] theorem State.endWaits_rx {i status} : (s.endWaits i status).rx = s.rx := by
  unfold State.endWaits
  simp only [State.modStrand_rx]
  refine State.forEach_rx fun _ _ => ?_
  split <;> simp

@[simp] theorem State.changeRx_rx {i new fills inj} : (s.changeRx i new fills inj).rx = s.rx := by
  unfold State.changeRx
  exact State.forEach_rx fun _ _ => rfl

@[simp] theorem State.announceHold_rx {i} : (s.announceHold i).rx = s.rx := by
  unfold State.announceHold
  extract_lets x
  split
  · rfl
  · split
    · split <;> simp
    · extract_lets w s1 s2 rx
      have h2 : s2.rx = s.rx := by simp [s2, s1]
      clear_value w s2
      split
      · split
        · split
          · exact State.changeRx_rx.trans h2
          · split
            · exact State.complete_rx.trans h2
            · exact h2
        · simp [h2]
      · exact h2

@[simp] theorem State.enterHold_rx {i cause} : (s.enterHold i cause).rx = s.rx := (rfl)

@[simp] theorem State.planRepair_rx {i} : (s.planRepair i).rx = s.rx := by
  unfold State.planRepair
  extract_lets
  (repeat' split) <;> simp

@[simp] theorem State.writeSwept_rx {i} : (s.writeSwept i).rx = s.rx := by simp [State.writeSwept]

@[simp] theorem State.checkFilled_rx {i} : (s.checkFilled i).rx = s.rx := by
  unfold State.checkFilled
  split <;> simp

@[simp] theorem State.finishSweep_rx {i} : (s.finishSweep i).rx = s.rx := by
  unfold State.finishSweep
  split <;> simp

@[simp] theorem State.resendSwept_rx {i} : (s.resendSwept i).rx = s.rx := by simp [State.resendSwept]

@[simp] theorem State.switchIn_rx {i} : (s.switchIn i).rx = s.rx := by
  unfold State.switchIn
  extract_lets x
  split
  · rfl
  · dsimp only
    split
    · rfl
    · rw [State.forEach_rx fun _ _ => by rfl, State.forEach_rx fun _ _ => by rfl]
      rfl

@[simp] theorem State.cleanSweep_rx {i cause} : (s.cleanSweep i cause).rx = s.rx := by
  unfold State.cleanSweep
  dsimp only
  split <;> simp

@[simp] theorem State.checkRepaired_rx {i} : (s.checkRepaired i).rx = s.rx := by
  unfold State.checkRepaired
  dsimp only
  split <;> simp

@[simp] theorem State.retireAnew_rx {i} : (s.retireAnew i).rx = s.rx := by simp [State.retireAnew]
@[simp] theorem State.settleRepairs_rx : s.settleRepairs.rx = s.rx := by simp [State.settleRepairs]
@[simp] theorem State.setDrives_rx {i ls} : (s.setDrives i ls).rx = s.rx := (rfl)

/-! ## Calibrations and self-tests -/

@[simp] theorem State.sendCal_rx {i row withdraw} : (s.sendCal i row withdraw).rx = s.rx := (rfl)
@[simp] theorem State.setRun_rx {c} : (s.setRun c).rx = s.rx := by simp [State.setRun]
@[simp] theorem State.leaveFor_rx {i sub} : (s.leaveFor i sub).rx = s.rx := (rfl)

@[simp] theorem State.calWaits_rx : s.calWaits.rx = s.rx := by
  unfold State.calWaits
  split <;> simp

@[simp] theorem State.startCal_rx : s.startCal.rx = s.rx := by
  unfold State.startCal
  split <;> simp

@[simp] theorem State.finishCalReqs_rx : s.finishCalReqs.rx = s.rx := by simp [State.finishCalReqs]
@[simp] theorem State.calEnded_rx {i result} : (s.calEnded i result).rx = s.rx := by simp [State.calEnded]
@[simp] theorem State.applyCal_rx {c} : (s.applyCal c).rx = s.rx := by simp [State.applyCal]

@[simp] theorem State.applyAtOnce_rx : s.applyAtOnce.rx = s.rx := by
  unfold State.applyAtOnce
  split <;> simp

@[simp] theorem State.restoreRun_rx {i} : (s.restoreRun i).rx = s.rx := by
  unfold State.restoreRun
  split <;> simp

@[simp] theorem State.abandonCal_rx : s.abandonCal.rx = s.rx := by
  unfold State.abandonCal
  split <;> simp

@[simp] theorem State.reapCal_rx : s.reapCal.rx = s.rx := by simp [State.reapCal]
@[simp] theorem State.toGreenware_rx {i} : (s.toGreenware i).rx = s.rx := (rfl)
@[simp] theorem State.wireMove_rx {n} : (s.wireMove n).rx = s.rx := (rfl)
@[simp] theorem State.modBist_rx {f} : (s.modBist f).rx = s.rx := (rfl)

@[simp] theorem State.sliceDone_rx {c} : (s.sliceDone c).rx = s.rx := by
  unfold State.sliceDone
  split <;> simp

@[simp] theorem State.countSlice_rx {c} : (s.countSlice c).rx = s.rx := by simp [State.countSlice]

@[simp] theorem State.checkAbort_rx : s.checkAbort.rx = s.rx := by
  unfold State.checkAbort
  split <;> simp

@[simp] theorem State.reapSlice_rx : s.reapSlice.rx = s.rx := by
  unfold State.reapSlice
  split <;> simp

@[simp] theorem State.fullSetup_rx {ids} : (s.fullSetup ids).rx = s.rx := (rfl)

@[simp] theorem State.fullStrandEnd_rx {i} : (s.fullStrandEnd i).rx = s.rx := by
  unfold State.fullStrandEnd
  (repeat' split) <;> simp

@[simp] theorem State.reapFull_rx : s.reapFull.rx = s.rx := by
  unfold State.reapFull
  split <;> simp

/-! ## The loss of the partner -/

@[simp] theorem State.sendEarly_rx : s.sendEarly.rx = s.rx := (rfl)
@[simp] theorem State.discardNeg_rx : s.discardNeg.rx = s.rx := (rfl)
@[simp] theorem State.emptyLink_rx : s.emptyLink.rx = s.rx := by simp [State.emptyLink]

@[simp] theorem State.endStrandCmds_rx {status} : (s.endStrandCmds status).rx = s.rx := by
  unfold State.endStrandCmds
  extract_lets s1
  have h1 : s1.rx = s.rx := by
    refine State.forRange_rx fun _ _ => ?_
    simp only [State.endWaits_rx]
    split <;> simp
  simp [h1]

@[simp] theorem State.losePackets_rx {status id} : (s.losePackets status id).rx = s.rx := by
  unfold State.losePackets
  split <;> simp

@[simp] theorem State.movePartner_rx {p} : (s.movePartner p).rx = s.rx := by simp [State.movePartner]
@[simp] theorem State.checkActive_rx : s.checkActive.rx = s.rx := by simp [State.checkActive]

/-! ## Power and parking -/

@[simp] theorem State.setReq_rx {d on} : (s.setReq d on).rx = s.rx := (rfl)
@[simp] theorem State.lower_rx {d} : (s.lower d).rx = s.rx := by simp [State.lower]

@[simp] theorem State.pumpPower_rx : s.pumpPower.rx = s.rx := by
  unfold State.pumpPower
  (repeat' split) <;> simp

@[simp] theorem State.unblock_rx : s.unblock.rx = s.rx := (rfl)
@[simp] theorem State.parkStrand_rx {i} : (s.parkStrand i).rx = s.rx := by simp [State.parkStrand]
@[simp] theorem State.parkGroups_rx : s.parkGroups.rx = s.rx := (rfl)

/-! ## The end of a command -/

@[simp] theorem State.announce_rx {s0 : State} : (s0.announce s).rx = s.rx := by simp [State.announce]
@[simp] theorem State.orderFrames_rx : s.orderFrames.rx = s.rx := (rfl)
@[simp] theorem State.unsettled_rx {u : State} : (u.unsettled s).rx = s.rx := (rfl)
@[simp] theorem State.noteLimited_rx {s0 : State} : (s0.noteLimited s).rx = s.rx := by simp [State.noteLimited]
@[simp] theorem State.queueOf_rx {s0 : State} : (s0.queueOf s).rx = s.rx := (rfl)
@[simp] theorem State.heldRegs_rx : s.heldRegs.rx = s.rx := (rfl)

end

end Sys2Proof.Machine

/-! # Proofs: settling and logging keep parcels charged

No function that settles or logs makes a parcel of a pair, and none changes the cells of one. -/

namespace Sys2Proof.Machine

/-- Every parcel of a pair other than 0 takes cells. -/
def Charged (l : List RxParcel) : Prop := ∀ p ∈ l, p.mb ≠ 0 → p.cells ≠ 0

/-- The parcels of context `key₀` are charged. -/
def ChargedAt (key₀ : Nat) (rx : List (Nat × RxStream)) : Prop := ∀ st, lookupKey key₀ rx = some st → Charged st.parcels

theorem Charged.filter {l : List RxParcel} (h : Charged l) (keep : RxParcel → Bool) : Charged (l.filter keep) :=
  fun p hp => h p (List.mem_of_mem_filter hp)

/-- A change that leaves the pair and the cells of each parcel. -/
theorem Charged.map {l : List RxParcel} (h : Charged l) {f : RxParcel → RxParcel} (hf : ∀ p, (f p).mb = p.mb ∧ (f p).cells = p.cells) :
    Charged (l.map f) := by
  intro p hp
  obtain ⟨q, hq, rfl⟩ := List.mem_map.1 hp
  rw [(hf q).1, (hf q).2]
  exact h q hq

/-- A parcel of pair 0 enters. -/
theorem Charged.concat {l : List RxParcel} (h : Charged l) {p : RxParcel} (hp : p.mb = 0) : Charged (l ++ [p]) := by
  intro q hq
  rcases List.mem_append.1 hq with hq | hq
  · exact h q hq
  · rw [List.mem_singleton.1 hq]
    exact fun hmb => absurd hp hmb

section
variable {s : State} {key₀ : Nat} (h : ChargedAt key₀ s.rx)

@[simp] theorem chargedAt_ite {c : Prop} [Decidable c] {a b : List (Nat × RxStream)} :
    ChargedAt key₀ (if c then a else b) ↔ if c then ChargedAt key₀ a else ChargedAt key₀ b := by
  split <;> rfl

include h

theorem ChargedAt.forEach {β : Type} {l : List β} {f : β → State → State}
    (hf : ∀ b x, ChargedAt key₀ x.rx → ChargedAt key₀ (f b x).rx) : ChargedAt key₀ (forEach l f s).rx :=
  forEach_keeps (fun t => ChargedAt key₀ t.rx) l f s hf h

theorem ChargedAt.forRange {n : Nat} {f : Nat → State → State}
    (hf : ∀ b x, ChargedAt key₀ x.rx → ChargedAt key₀ (f b x).rx) : ChargedAt key₀ (forRange n f s).rx :=
  forRange_keeps (fun t => ChargedAt key₀ t.rx) n f s hf h

theorem ChargedAt.insertKey {key st} (hst : key = key₀ → Charged st.parcels) : ChargedAt key₀ (insertKey key st s.rx) := by
  intro st' hst'
  by_cases hkey : key = key₀
  · subst hkey
    rw [lookupKey_insertKey_same] at hst'
    exact Option.some.inj hst' ▸ hst rfl
  · rw [lookupKey_insertKey_other _ _ _ _ (Ne.symm hkey)] at hst'
    exact h st' hst'

theorem ChargedAt.setRx {key st st'} (hlook : s.rx? key = some st)
    (hst : Charged st.parcels → Charged st'.parcels := by exact fun hst => hst) : ChargedAt key₀ (s.setRx key st').rx := by
  rw [State.setRx_rx]
  exact h.insertKey fun hkey => hst (h st (hkey ▸ hlook))

@[simp] theorem ChargedAt.modRx {key f} (hf : ∀ st : RxStream, Charged st.parcels → Charged (f st).parcels := by exact fun _ hst => hst) :
    ChargedAt key₀ (s.modRx key f).rx := by
  unfold State.modRx
  split
  next hlook => exact h.setRx hlook (hf _)
  · exact h

@[simp] theorem ChargedAt.modParcel {key uid f} (hf : ∀ p, (f p).mb = p.mb ∧ (f p).cells = p.cells := by exact fun _ => ⟨rfl, rfl⟩) :
    ChargedAt key₀ (s.modParcel key uid f).rx :=
  h.modRx fun _ hst => hst.map fun p => by split <;> simp [hf]

/-- A change that leaves the parcels of each context. -/
theorem ChargedAt.mapStreams {f : Nat × RxStream → RxStream} (hf : ∀ x, (f x).parcels = x.2.parcels) :
    ChargedAt key₀ (s.rx.map fun x => (x.1, f x)) := by
  revert h
  generalize s.rx = l
  induction l with
  | nil => exact id
  | cons x l ih =>
    intro h st hst
    by_cases hx : x.1 = key₀
    · obtain rfl : f x = st := by simpa [lookupKey, hx] using hst
      exact hf x ▸ h x.2 (by simp [lookupKey, hx])
    · refine ih (fun st' hst' => h st' ?_) st ?_
      · simpa [lookupKey, hx] using hst'
      · simpa [lookupKey, hx] using hst

theorem ChargedAt.eraseKey {key} : ChargedAt key₀ (eraseKey key s.rx) := by
  intro st hst
  by_cases hkey : key₀ = key
  · simp [hkey] at hst
  · exact h st ((lookupKey_eraseKey_other _ _ _ hkey).symm.trans hst)

/-! ## Cells, slots and parcels -/

@[simp] theorem ChargedAt.returnCells {key n} : ChargedAt key₀ (s.returnCells key n).rx := by
  unfold State.returnCells
  split
  · exact h
  next st hst =>
    extract_lets s1
    have h1 : ChargedAt key₀ s1.rx := h.setRx hst
    split <;> simp [h1]

@[simp] theorem ChargedAt.returnPair {key} : ChargedAt key₀ (s.returnPair key).rx := by
  unfold State.returnPair
  split
  · exact h
  next st hst =>
    split
    · simp [h]
    · exact h.setRx hst

@[simp] theorem ChargedAt.freeSlots {key} : ChargedAt key₀ (s.freeSlots key).rx := by
  unfold State.freeSlots
  split
  · exact h
  next st hst => exact .forEach (h.setRx hst) fun _ _ h => h.returnPair

@[simp] theorem ChargedAt.closePair {key mb dir} : ChargedAt key₀ (s.closePair key mb dir).rx := by
  unfold State.closePair
  split
  · exact h
  next st hst =>
    split
    · exact .freeSlots (h.setRx hst)
    · exact h.returnPair

@[simp] theorem ChargedAt.dropParcel {key uid} : ChargedAt key₀ (s.dropParcel key uid).rx := by
  unfold State.dropParcel
  split
  · exact h
  · exact (h.returnCells.modRx fun _ hst => hst.filter _).freeSlots

@[simp] theorem ChargedAt.discardParcel {key uid} : ChargedAt key₀ (s.discardParcel key uid).rx := by
  unfold State.discardParcel
  split
  · exact h
  · split
    · exact h.dropParcel
    · exact h.returnCells.modParcel.freeSlots

@[simp] theorem ChargedAt.endParcel {key uid status keep} : ChargedAt key₀ (s.endParcel key uid status keep).rx := by
  unfold State.endParcel
  split
  · exact h
  · split
    · exact h
    · split
      · simp [h]
      · split
        · exact h.returnCells.modParcel
        · exact h.discardParcel

@[simp] theorem ChargedAt.commitRxTo {key uid n draws} : ChargedAt key₀ (s.commitRxTo key uid n draws).rx := by
  unfold State.commitRxTo
  split
  · exact h
  next st hst =>
    split
    · exact h
    next p _ =>
      extract_lets c hdr e f d
      have hfire : (if e = 0 then (false, s) else s.fire 0x1B c.id).2.rx = s.rx := State.fireUnless_rx
      generalize (if e = 0 then (false, s) else s.fire 0x1B c.id) = q at hfire ⊢
      obtain ⟨inj, s1⟩ := q
      have h1 : ChargedAt key₀ s1.rx := hfire ▸ h
      have hst1 : s1.rx? key = some st := (congrArg (lookupKey key) hfire).trans hst
      simp only [State.saveTake_rx, State.marked_rx, State.numSticky_rx]
      exact .modParcel (h1.setRx hst1)

@[simp] theorem ChargedAt.commitRx {key uid} : ChargedAt key₀ (s.commitRx key uid).rx := by
  unfold State.commitRx
  split <;> simp [h]

@[simp] theorem ChargedAt.abandonParcel {key uid} : ChargedAt key₀ (s.abandonParcel key uid).rx := by
  unfold State.abandonParcel
  split <;> simp [h]

@[simp] theorem ChargedAt.failFrom {key uid code n} : ChargedAt key₀ (s.failFrom key uid code n).rx := by
  unfold State.failFrom
  split
  · exact h
  · split
    · exact h
    · extract_lets hdr s1 s2 s3 s4
      have h2 : ChargedAt key₀ s2.rx := by simp [s2, s1, h]
      have h3 : ChargedAt key₀ s3.rx := by simp [s3, h2]
      have h4 : ChargedAt key₀ s4.rx := h3.endParcel
      split <;> simp [h4]

@[simp] theorem ChargedAt.failParcel {key uid code} : ChargedAt key₀ (s.failParcel key uid code).rx := by
  unfold State.failParcel
  split <;> simp [h]

/-! ## Fetches and version checks -/

@[simp] theorem ChargedAt.answerFetch {key uid shelf} : ChargedAt key₀ (s.answerFetch key uid shelf).rx := by
  unfold State.answerFetch
  split <;> simp [h]

@[simp] theorem ChargedAt.holdItem {key uid cause bound} : ChargedAt key₀ (s.holdItem key uid cause bound).rx := by
  unfold State.holdItem
  split <;> simp [h]

@[simp] theorem ChargedAt.fetchWaits {key uid code} : ChargedAt key₀ (s.fetchWaits key uid code).rx := by
  unfold State.fetchWaits
  split <;> simp [h]

@[simp] theorem ChargedAt.badFetch {key uid} : ChargedAt key₀ (s.badFetch key uid).rx := by
  unfold State.badFetch
  exact .dropParcel (by simp [h])

@[simp] theorem ChargedAt.serveFetch {key uid} : ChargedAt key₀ (s.serveFetch key uid).rx := by
  unfold State.serveFetch
  split
  · exact h
  · extract_lets hdr stage mb fwd go
    have hgo {t : State} (ht : ChargedAt key₀ t.rx) (i : Nat) : ChargedAt key₀ (go t i).rx := by
      simp only [go]
      split <;> simp [ht]
    split
    · exact h.badFetch
    · split
      · exact hgo h _
      · split
        · split
          · exact h.fetchWaits
          · split
            · exact h.fetchWaits
            · exact hgo (by exact h) _
        · exact h.holdItem

@[simp] theorem ChargedAt.checkVersion {key uid} : ChargedAt key₀ (s.checkVersion key uid).rx := by
  unfold State.checkVersion
  split
  · exact h
  · extract_lets hdr armed pass t
    have hpass : ChargedAt key₀ pass.rx := h.modParcel
    have ht : ChargedAt key₀ t.rx := by simp [t, h]
    split
    · exact hpass
    · split
      · simp [h]
      · split
        · simp [h, ht]
        · simp [h, hpass]

@[simp] theorem ChargedAt.advanceItems {key n} : ChargedAt key₀ (State.advanceItems key n s).rx := by
  induction n generalizing s with
  | zero => exact h
  | succ n ih =>
    unfold State.advanceItems
    split
    · exact h
    · split
      · exact h
      · split
        · exact h
        · extract_lets s1
          have h1 : ChargedAt key₀ s1.rx := by simp [s1, h]
          split
          · split
            · exact h1
            · exact ih h1
          · exact ih h1

@[simp] theorem ChargedAt.advanceStream {key} : ChargedAt key₀ (s.advanceStream key).rx := by
  unfold State.advanceStream
  split
  · exact h
  · exact h.advanceItems

@[simp] theorem ChargedAt.advanceFetches : ChargedAt key₀ s.advanceFetches.rx :=
  h.forEach fun _ _ h => by simp [h]

/-! ## Accumulation and dispatch -/

@[simp] theorem ChargedAt.accConsume {key fuel n} : ChargedAt key₀ (s.accConsume key fuel n).rx := by
  induction fuel generalizing s n with
  | zero => exact h
  | succ fuel ih =>
    unfold State.accConsume
    split
    · exact h
    · extract_lets left k done cells
      split
      · exact ih h.dropParcel
      · exact h.returnCells.modParcel

@[simp] theorem ChargedAt.accTake {key n} : ChargedAt key₀ (s.accTake key n).1.rx := by
  unfold State.accTake
  split
  · exact h
  · exact h.accConsume

@[simp] theorem ChargedAt.accBreak {r key c slot mb run ended} : ChargedAt key₀ (s.accBreak r key c slot mb run ended).rx := by
  unfold State.accBreak
  extract_lets s1 s2
  have h1 : ChargedAt key₀ s1.rx := .forEach (by simp [h]) fun _ _ h => h.abandonParcel
  have h2 : ChargedAt key₀ s2.rx := by simp [s2, h1]
  split <;> simp [h2]

@[simp] theorem ChargedAt.accStart {r key st g x c j} : ChargedAt key₀ (s.accStart r key st g x c j).1.rx := by
  unfold State.accStart
  (repeat' split) <;> simp [h]

@[simp] theorem ChargedAt.accTry {r c} : ChargedAt key₀ (s.accTry r c).1.rx := by
  unfold State.accTry
  split
  · split
    · exact h
    · extract_lets run ended
      clear_value run
      split
      · exact h
      · extract_lets slot
        split
        · simp [h]
        · extract_lets k total
          split
          · exact h
          · have hfire : (if ended = true then s.fire 0x1C r else (false, s)).2.rx = s.rx := State.fireIf_rx
            generalize (if ended = true then s.fire 0x1C r else (false, s)) = q at hfire ⊢
            obtain ⟨inj, s1⟩ := q
            have h1 : ChargedAt key₀ s1.rx := hfire ▸ h
            dsimp only
            split
            · simp [h1]
            · split
              · split <;> simp [h1]
              · split
                · exact h1
                · exact h1.accStart
  · exact h

@[simp] theorem ChargedAt.accPump {r n} : ChargedAt key₀ (State.accPump r n s).rx := by
  induction n generalizing s with
  | zero => exact h
  | succ n ih =>
    unfold State.accPump
    extract_lets a t
    have ha : ChargedAt key₀ a.1.rx := State.foldl_fst_keeps (ChargedAt key₀ ·.rx) (fun _ _ h => h.accTry) h
    have ht : ChargedAt key₀ t.rx := by simp [t, ha]
    split
    · exact ih ht
    · exact ht

@[simp] theorem ChargedAt.accRun {r} : ChargedAt key₀ (s.accRun r).rx := h.accPump

@[simp] theorem ChargedAt.accInterrupt {key st} : ChargedAt key₀ (s.accInterrupt key st).rx := by
  unfold State.accInterrupt
  extract_lets r c
  split
  · exact h
  · extract_lets open_ s1 s2 s3
    have h1 : ChargedAt key₀ s1.rx := by simp [s1, h]
    have h2 : ChargedAt key₀ s2.rx := by
      refine h1.forEach fun _ _ h => ?_
      split
      · exact h.forEach fun _ _ h => h.abandonParcel
      · exact h
    have h3 : ChargedAt key₀ s3.rx := by
      simp only [s3]
      split
      · exact h2.forEach fun _ _ h => by simp [h]
      · exact h2
    exact h3.accRun

@[simp] theorem ChargedAt.fencePair {id} : ChargedAt key₀ (s.fencePair id).rx := by
  unfold State.fencePair
  split
  · exact h
  · split
    · exact h
    · exact ChargedAt.mapStreams (by simp [h]) fun x => by split <;> rfl

/-! ## Captures and arrivals -/

@[simp] theorem ChargedAt.capturePieces {key uid n} : ChargedAt key₀ (s.capturePieces key uid n).rx := by
  induction n generalizing s with
  | zero => exact h
  | succ n ih =>
    unfold State.capturePieces
    split
    · exact h
    · split
      · exact h
      · extract_lets b len last reach s1
        have h1 : ChargedAt key₀ s1.rx := by simp [s1, h]
        split
        · exact h
        · exact ih (by simp [h1])

@[simp] theorem ChargedAt.pumpCapture {n} : ChargedAt key₀ (State.pumpCapture n s).rx := by
  induction n generalizing s with
  | zero => exact h
  | succ n ih =>
    unfold State.pumpCapture
    split
    · extract_lets s1
      have h1 : ChargedAt key₀ s1.rx := h.capturePieces
      split
      · exact h1
      · exact ih h1
    · split
      · exact h
      · extract_lets wire start total s1
        split
        · have h1 : s1.rx = s.rx := s.setFlag_rx 0x481C 31 true
          clear_value s1
          rw [← h1] at h
          exact ih h.abandonParcel
        · exact ih h.modParcel

@[simp] theorem ChargedAt.pumpCaptures : ChargedAt key₀ s.pumpCaptures.rx := h.pumpCapture

@[simp] theorem ChargedAt.endLost {key uid} : ChargedAt key₀ (s.endLost key uid).rx := by
  unfold State.endLost
  split <;> simp [h]

@[simp] theorem ChargedAt.cutRx {key p last} : ChargedAt key₀ (s.cutRx key p last).rx := by
  unfold State.cutRx
  extract_lets s1 s2
  have h1 : ChargedAt key₀ s1.rx := by simp [s1, h]
  have h2 : ChargedAt key₀ s2.rx := by simp [s2, h1]
  simp [h2]

@[simp] theorem ChargedAt.cutPacket {key last} : ChargedAt key₀ (s.cutPacket key last).rx := by
  unfold State.cutPacket
  split
  · exact h
  next st hst =>
    split
    · exact h
    · extract_lets rest s1 s2
      have h1 : ChargedAt key₀ s1.rx := h.setRx hst
      have h2 : ChargedAt key₀ s2.rx := by simp [s2, h1]
      split
      · exact h1
      · split
        · exact h2
        · exact h2

@[simp] theorem ChargedAt.rxFault {key body} : ChargedAt key₀ (s.rxFault key body).rx := by
  unfold State.rxFault
  split
  · simp [h]
  next st hst =>
    split
    · simp [h]
    · split
      · exact h
      · split
        · split
          · exact h.cutPacket
          · split
            · exact .cutPacket (h.setRx hst)
            · exact h
        · split
          · exact h.cutRx
          · split
            · exact h
            · exact .cutRx (h.setRx hst fun hst => hst.concat rfl)

@[simp] theorem ChargedAt.portFaults {n} : ChargedAt key₀ (State.portFaults n s).rx := by
  induction n generalizing s with
  | zero => exact h
  | succ n ih =>
    unfold State.portFaults
    split
    · exact ih (.rxFault (by exact h))
    · exact h

/-! ## Interruptions and closes -/

@[simp] theorem ChargedAt.interruptParcel {key status} : ChargedAt key₀ (s.interruptParcel key status).rx := by
  unfold State.interruptParcel
  split
  · exact h
  · split
    · exact h
    · extract_lets s1 s2 s3
      have h1 : ChargedAt key₀ s1.rx := by simp [s1, h]
      have h2 : ChargedAt key₀ s2.rx := by simp [s2, h1]
      have h3 : ChargedAt key₀ s3.rx := by simp [s3, h2]
      split
      · exact h1.endLost
      · split
        · exact h2.discardParcel
        · split
          · exact h3.discardParcel
          · exact h3.endParcel

@[simp] theorem ChargedAt.cutPackets {key stays} : ChargedAt key₀ (s.cutPackets key stays).rx := by
  unfold State.cutPackets
  split
  · exact h
  next st hst =>
    extract_lets part s1
    have h1 : ChargedAt key₀ s1.rx := h.setRx hst
    split <;> exact h1

@[simp] theorem ChargedAt.interruptRx {key status} : ChargedAt key₀ (s.interruptRx key status).rx := by
  unfold State.interruptRx
  split
  · exact h
  · split
    · exact h
    · extract_lets s1 cut s2 s3 s4 s5
      have h1 : ChargedAt key₀ s1.rx := h.interruptParcel
      have h2 : ChargedAt key₀ s2.rx := .returnCells (by simp [h1])
      have h3 : ChargedAt key₀ s3.rx := by
        simp only [s3]
        split <;> simp [h2]
      have h4 : ChargedAt key₀ s4.rx := by
        simp only [s4]
        split <;> simp [h3]
      simp [s5, h4]

@[simp] theorem ChargedAt.freeRx {key forced} : ChargedAt key₀ (s.freeRx key forced).rx := by
  unfold State.freeRx
  split
  · exact h
  · extract_lets busy s0 s1 s2 s3 s4 s5 s6
    have h1 : ChargedAt key₀ s1.rx := by simp [s1, s0, h]
    have h2 : ChargedAt key₀ s2.rx := by
      simp only [s2]
      split
      · split
        · split <;> simp [h1]
        · exact h1
      · exact h1
    have h3 : ChargedAt key₀ s3.rx := by
      simp only [s3]
      split <;> simp [h2]
    have h5 : ChargedAt key₀ s5.rx := by simp [s5, s4, h3]
    have h6 : ChargedAt key₀ s6.rx := by
      simp only [s6, State.detach_rx]
      exact h5.eraseKey
    split
    · exact h6
    · simp [h6]

@[simp] theorem ChargedAt.interruptTx {id status} : ChargedAt key₀ (s.interruptTx id status).rx := by
  unfold State.interruptTx
  (repeat' split) <;> simp [h]

@[simp] theorem ChargedAt.freeTx {id forced} : ChargedAt key₀ (s.freeTx id forced).rx := by
  unfold State.freeTx
  split <;> simp [h]

@[simp] theorem ChargedAt.checkCloseRx {key} : ChargedAt key₀ (s.checkCloseRx key).rx := by
  unfold State.checkCloseRx
  split
  · exact h
  · split
    · exact h
    · extract_lets s1 d s2
      have h1 : ChargedAt key₀ s1.rx := h.freeRx
      have h2 : ChargedAt key₀ s2.rx := by simp [s2, h1]
      split
      · clear_value d
        split <;> simp [h2]
      · simp [h1]

@[simp] theorem ChargedAt.checkCloseTx {id} : ChargedAt key₀ (s.checkCloseTx id).rx := by
  unfold State.checkCloseTx
  split
  · exact h
  · split
    · split
      · exact h
      · split
        · exact .checkCloseRx (.modRx (by exact h))
        · simp [h]
    · exact h

/-! ## Offered beats and fences -/

@[simp] theorem ChargedAt.offerNext {port key uid} : ChargedAt key₀ (s.offerNext port key uid).rx := by
  unfold State.offerNext
  split
  · simp [h]
  · extract_lets v left n eop side
    split
    · exact h
    · simp [h]

@[simp] theorem ChargedAt.offerBeat {port} : ChargedAt key₀ (s.offerBeat port).rx := by
  unfold State.offerBeat
  extract_lets q
  split
  · exact h
  · split
    · exact h.offerNext
    · split
      · simp [h]
      · split
        · simp [h]
        · extract_lets s1
          have h1 : ChargedAt key₀ s1.rx := h
          split <;> simp [h1]

@[simp] theorem ChargedAt.offerBeats : ChargedAt key₀ s.offerBeats.rx :=
  h.forRange fun _ _ h => h.offerBeat

@[simp] theorem ChargedAt.fenceOut {id status} : ChargedAt key₀ (s.fenceOut id status).rx := by
  unfold State.fenceOut
  (repeat' split) <;> simp [h]

@[simp] theorem ChargedAt.fenceIn {key status} : ChargedAt key₀ (s.fenceIn key status).rx := by
  unfold State.fenceIn
  (repeat' split) <;> simp [h]

@[simp] theorem ChargedAt.fenceStreams {status loops} : ChargedAt key₀ (s.fenceStreams status loops).rx :=
  .forEach (h.forEach fun _ _ h => by simp [h]) fun _ _ h => by simp [h]

/-! ## Strands and the loss of the partner -/

@[simp] theorem ChargedAt.lastShard : ChargedAt key₀ s.lastShard.rx := by
  simp [State.lastShard, h]

@[simp] theorem ChargedAt.becomeShard {i} : ChargedAt key₀ (s.becomeShard i).rx := by
  simp [State.becomeShard, h]

@[simp] theorem ChargedAt.loseTx {status id} : ChargedAt key₀ (s.loseTx status id).rx := by
  unfold State.loseTx
  (repeat' split) <;> simp [h]

@[simp] theorem ChargedAt.loseRx {status key} : ChargedAt key₀ (s.loseRx status key).rx := by
  unfold State.loseRx
  split
  · exact h
  · split
    · exact h
    · split
      · simp only [State.complete_rx]
        exact h.eraseKey
      · simp [h]

@[simp] theorem ChargedAt.lossWork {status} : ChargedAt key₀ (s.lossWork status).rx := by
  unfold State.lossWork
  extract_lets ids s1 s2 s3 looped s4 s5 s6
  have h1 : ChargedAt key₀ s1.rx := by simp [s1, h]
  have h2 : ChargedAt key₀ s2.rx := h1.forEach fun _ _ h => h.loseTx
  have h3 : ChargedAt key₀ s3.rx := h2.forEach fun _ _ h => h.loseRx
  have h4 : ChargedAt key₀ s4.rx := h3.forEach fun _ _ h => by simp [h]
  have h5 : ChargedAt key₀ s5.rx := by
    refine h4.forEach fun _ _ h => ?_
    split <;> simp [h]
  simpa [s6] using h5

@[simp] theorem ChargedAt.lossActions {status} : ChargedAt key₀ (s.lossActions status).rx := by
  simp [State.lossActions, h]

@[simp] theorem ChargedAt.lose {cause inj event} : ChargedAt key₀ (s.lose cause inj event).rx := by
  simp [State.lose, h]

@[simp] theorem ChargedAt.checkLocal : ChargedAt key₀ s.checkLocal.rx := by
  simp [State.checkLocal, h]

/-! ## Settling -/

@[simp] theorem ChargedAt.leaveAt {i} : ChargedAt key₀ (s.leaveAt i).rx := by
  unfold State.leaveAt
  split
  · exact h
  · split
    · exact h
    · extract_lets s1 x s2
      have h1 : ChargedAt key₀ s1.rx := by simp [s1, h]
      have h2 : ChargedAt key₀ s2.rx := h1
      split
      · exact h1
      · split
        · exact h1
        · split
          · exact h2.becomeShard
          · simp [h2]

@[simp] theorem ChargedAt.settleLeaves : ChargedAt key₀ s.settleLeaves.rx := by
  unfold State.settleLeaves
  extract_lets ready retires s1
  have h1 : ChargedAt key₀ s1.rx := .forRange (by simp [h]) fun _ _ h => by simp [h]
  split <;> simp [h1]

@[simp] theorem ChargedAt.sagFence : ChargedAt key₀ s.sagFence.rx := by
  simp [State.sagFence, h]

@[simp] theorem ChargedAt.settleStrands : ChargedAt key₀ s.settleStrands.rx := by
  simp [State.settleStrands, h]

@[simp] theorem ChargedAt.settleWork : ChargedAt key₀ s.settleWork.rx := by
  unfold State.settleWork
  extract_lets s0 s1 s2 s3
  have h0 : ChargedAt key₀ s0.rx := by simp [s0, h.portFaults]
  have h1 : ChargedAt key₀ s1.rx := .advanceFetches (by simp [h0])
  have h2 : ChargedAt key₀ s2.rx := h1.forEach fun _ _ h => h.checkCloseTx
  have h3 : ChargedAt key₀ s3.rx := h2.forEach fun _ _ h => h.checkCloseRx
  simpa using h3

@[simp] theorem ChargedAt.settleAll : ChargedAt key₀ s.settleAll.rx := by
  have h1 : ChargedAt key₀ s.settleStrands.checkActive.checkLocal.rx := by simp [h]
  have h2 : ChargedAt key₀ s.settleStrands.checkActive.checkLocal.sagFence.settleWork.rx := h1.sagFence.settleWork
  simpa [State.settleAll] using h2

@[simp] theorem ChargedAt.escalate {kind unit} : ChargedAt key₀ (s.escalate kind unit).rx := by
  unfold State.escalate
  split
  · simp [h]
  · exact h.fenceOut.fenceIn.fenceIn
  · simp [h]
  · split <;> simp [h]
  · exact h

@[simp] theorem ChargedAt.escalateInst : ChargedAt key₀ s.escalateInst.rx := by
  unfold State.escalateInst
  extract_lets k s1 s2
  have h1 : ChargedAt key₀ s1.rx := h
  have h2 : ChargedAt key₀ s2.rx := .lose (by simp [h1])
  split <;> simp [h2]

end

/-! ## Logging, and the end of a command -/

theorem logOne_rx {byEscalation : Bool} {g : Logged} {r : Raised} : (logOne byEscalation g r).state.rx = g.state.rx := by
  unfold logOne
  extract_lets s0 cls kind safe parents parent nested outcome esc s1 k k1 link escs
  have h1 : s1.rx = g.state.rx := rfl
  split
  · exact h1
  · split
    · exact h1
    · split
      · exact h1
      · extract_lets full freed k2 new s2 s3 s4 s5
        have h3 : s3.rx = g.state.rx := by
          simp only [s3]
          split <;> exact h1
        have h4 : s4.rx = g.state.rx := by simp [s4, h3]
        simp [s5, h4]

theorem logAll_rx {byEscalation : Bool} {fresh : List Nat} {s : State} : (logAll byEscalation fresh s).state.rx = s.rx := by
  unfold logAll
  generalize sortBy _ s.raised = l
  have hfold (g : Logged) : (l.foldl (logOne byEscalation) g).state.rx = g.state.rx := by
    induction l generalizing g with
    | nil => rfl
    | cons r l ih => exact (ih _).trans logOne_rx
  exact hfold _

section
variable {s : State} {key₀ : Nat} (h : ChargedAt key₀ s.rx)
include h

theorem ChargedAt.settleLog : ChargedAt key₀ s.settleLog.rx := by
  unfold State.settleLog
  extract_lets before g s1 s2
  have hg : ChargedAt key₀ g.state.flushEvents.rx := by simpa [g, logAll_rx] using h
  have h1 : ChargedAt key₀ s1.rx := hg.forEach fun _ _ h => h.escalate
  have h2 : ChargedAt key₀ s2.rx := by simp [s2, h1]
  simpa [logAll_rx] using h2

/-- Nothing that settles or logs makes a parcel of a pair, or takes the cells of one. -/
theorem ChargedAt.finish (before : State) : ChargedAt key₀ (before.finish s).rx := by
  have h1 : ChargedAt key₀ (before.noteLimited (before.announce s.settleAll)).rx := by simp [h]
  have h2 : ChargedAt key₀ (before.noteLimited (before.announce s.settleAll)).settleLog.offerBeats.rx := h1.settleLog.offerBeats
  simpa [State.finish] using h2

end

end Sys2Proof.Machine

/-! # Proofs: the combine of a kept parcel that has ended -/

namespace Sys2Proof.Machine

/-- The looped SOURCE stream 7 of table 8. -/
def combineCfg : StreamCfg := { id := 7, cls := 2, dispCtl := 1 + 7 * 4 }

/-- A kept parcel of one cell and pair 5, ended with status 1 (R90) and ready for its combine. -/
def endedKept : SrcParcel := { pseq := 0, bytes := [], cells := 1, mb := 5, dir := 0, row0 := 0, marks := [], ended := some 1 }

/-- The return side of the stream, with nothing buffered. -/
def combineRx : RxStream := { cfg := combineCfg, cls := 2, looped := true, capacity := 100, cells := 1 }

def combineTx : TxStream := { cfg := combineCfg, cls := 2, looped := true, kept := [endedKept] }

def combineTable : DispTable := { num := 8, cur := ⟨32, 0, 0, none, 0, 0, []⟩ }

/-- A block out of reset whose SOURCE stream holds that parcel. -/
def endedSource : State :=
  { State.resetOf smallBuild with
    resets := ⟨false, false, false, false⟩, pdReq := 2 ^ 24 - 1, pdAck := 2 ^ 24 - 1, straps := { role := .base }
    tx := [(7, combineTx)], rx := [(4103, combineRx)], tables := [(8, combineTable)] }

theorem exec_combineEnded : exec (.sourceCombine 7) endedSource = .next (endedSource.start.finish (endedSource.start.combineNext 7)) := rfl

/-- Its combine leaves a parcel of pair 5 that takes no cell. -/
theorem combineEnded_parcels : (lookupKey 4103 (endedSource.start.finish (endedSource.start.combineNext 7)).rx).map
    (fun st => st.parcels.map fun p => (p.mb, p.cells)) = some [(5, 0)] := by
  decide +kernel

theorem not_chargedAt_combineEnded : ¬ ChargedAt 4103 (endedSource.start.finish (endedSource.start.combineNext 7)).rx := by
  intro h
  obtain ⟨st, hst, hparcels⟩ := Option.map_eq_some_iff.1 combineEnded_parcels
  obtain ⟨p, hp, hpair⟩ := List.mem_map.1 (hparcels ▸ List.mem_singleton_self (5, 0))
  obtain ⟨hmb, hcells⟩ := Prod.mk.inj hpair
  exact h st hst p hp (by omega) hcells

/-- Refutes O39: its clause of the combine does not ask that the kept parcel has not ended. The combine makes of an ended one (R90) a parcel
that takes no cell, where the clause has it take the cells of the kept one. `State.endKept` returns those cells, so the counterexample is a
state that the clause admits and that no run reaches: what the clause lacks is the premise `p.ended = none`. -/
theorem not_scatterHoldAndCombine : ¬ Obligations.ScatterHoldAndCombine := by
  unfold Obligations.ScatterHoldAndCombine
  rintro ⟨-, hcombine, -⟩
  obtain ⟨u, hexec, -, hplain, -⟩ := hcombine endedSource 7 combineTx combineTable endedKept [] combineRx (by decide +kernel)
    (by decide) rfl rfl rfl rfl rfl
  obtain ⟨x, q, hx, hparcels, -, hcells, -, -⟩ := hplain (by decide +kernel)
  have hu : ChargedAt 4103 u.rx := by
    intro st hst p hp _
    obtain rfl : x = st := Option.some.inj (hx.symm.trans hst)
    obtain rfl : p = q := by simpa [hparcels, combineRx] using hp
    simp [hcells, endedKept]
  rw [exec_combineEnded] at hexec
  have hend := hu.finish endedSource.start
  rw [← Host.Outcome.next.inj hexec] at hend
  exact not_chargedAt_combineEnded hend

end Sys2Proof.Machine

/-! # Proofs: the descriptors of shelves and versions (chapter 6) -/

namespace Sys2Proof.Machine

/-! ## Versions (R205) -/

/-- The order of versions by the difference modulo 2¹⁶. -/
theorem newer_iff {a b : Nat} (ha : a < 65536) (hb : b < 65536) :
    newer a b = true ↔ 1 ≤ ((a : Int) - b) % 65536 ∧ ((a : Int) - b) % 65536 ≤ 32767 := by
  simp only [newer, Bool.and_eq_true, decide_eq_true_eq]
  omega

/-- Of two versions half the circle apart neither is newer. -/
theorem newer_opposite {a b : Nat} (ha : a < 65536) (hb : b < 65536) (hhalf : ((a : Int) - b) % 65536 = 32768) :
    newer a b = false ∧ newer b a = false := by
  rw [← Bool.not_eq_true, ← Bool.not_eq_true, newer_iff ha hb, newer_iff hb ha]
  omega

/-! ## Shelves -/

theorem State.shelf_modShelf_same (s : State) {i : Nat} (f : Shelf → Shelf) (hi : i < s.shelves.length) :
    (s.modShelf i f).shelf i = f (s.shelf i) := getD_modAt_same f {} hi

/-- What a change makes of the shelf that stands there is all that matters of it. -/
theorem State.modShelf_congr (s : State) {i : Nat} {f g : Shelf → Shelf} (hfg : f (s.shelf i) = g (s.shelf i)) :
    s.modShelf i f = s.modShelf i g := by
  have hlist : modAt f i s.shelves = modAt g i s.shelves := by
    refine List.ext_getElem? fun k => ?_
    rw [modAt_getElem?, modAt_getElem?]
    split
    next hk =>
      subst hk
      cases hget : s.shelves[k]? with
      | none => rfl
      | some h => simpa [State.shelf, List.getD_eq_getElem?_getD, hget] using hfg
    next => rfl
  rw [State.modShelf, State.modShelf, hlist]

@[simp] theorem State.shelf_complete (s : State) (desc status : Nat) (result : List Byte) (off : Nat) (peer : Bool) (i : Nat) :
    (s.complete desc status result off peer).shelf i = s.shelf i := by
  have h := (State.AsButEntries.refl s).complete desc status result off peer
  unfold State.AsButEntries at h
  rw [h]
  rfl

@[simp] theorem State.shelfWaits_complete (s : State) (desc status : Nat) (result : List Byte) (off : Nat) (peer : Bool) :
    (s.complete desc status result off peer).shelfWaits = s.shelfWaits := by
  have h := (State.AsButEntries.refl s).complete desc status result off peer
  unfold State.AsButEntries at h
  rw [h]

/-! ## Turns on a stage (R249, R262) -/

/-- The test by which a descriptor waits is that its stage is not free. -/
theorem State.stageFree_iff (s : State) (stage : Nat) :
    s.StageFree stage ↔ ¬ (s.committing stage || s.commitWaits.any (fun w => w.1 == stage)) = true := by
  simp only [State.StageFree, Bool.or_eq_true, not_or, Bool.not_eq_true, List.any_eq_false, beq_eq_false_iff_ne]

theorem State.afterCommits_free {s : State} {stage : Nat} (hfree : s.StageFree stage) (desc : Nat) (run : State → State) :
    s.afterCommits stage desc run = run s := if_neg ((s.stageFree_iff stage).mp hfree)

theorem State.afterCommits_waits {s : State} {stage : Nat} (hbusy : ¬ s.StageFree stage) (desc : Nat) (run : State → State) :
    s.afterCommits stage desc run = { s with commitWaits := s.commitWaits ++ [(stage, desc)] } :=
  if_pos (not_not.mp (mt (s.stageFree_iff stage).mpr hbusy))

section
variable {s : State} {p : Nat} {e : List Byte}

theorem exec_shelfOpen_offered (h : s.Offers p e 0x20 shelfOpenMask) :
    exec .shelfOpen s = .next (s.start.finish ((s.taken p e).shelfOpen s.nextDesc e)) := runUp_offered h (by decide) _

theorem exec_versionCommit_offered (h : s.Offers p e 0x21 versionCommitMask) :
    exec .versionCommit s = .next (s.start.finish ((s.taken p e).versionCommit s.nextDesc e)) := runUp_offered h (by decide) _

theorem exec_versionRelease_offered (h : s.Offers p e 0x22 versionReleaseMask) :
    exec .versionRelease s = .next (s.start.finish ((s.taken p e).versionRelease s.nextDesc e)) := runUp_offered h (by decide) _

theorem exec_skewRelease_offered (h : s.Offers p e 0x23 skewReleaseMask) :
    exec .skewRelease s = .next (s.start.finish ((s.taken p e).skewRelease s.nextDesc e)) := runUp_offered h (by decide) _

end

/-! ## SHELF_OPEN (R206 to R208) -/

/-- The shelf that an entry takes. -/
def openedShelf (e : List Byte) : Shelf :=
  { state := .filling, stage := opStage e, version := opVersion e, fmt := opFmt e, base := opBase e, len := opLen e }

/-- An entry that names a FREE shelf, and a format, version and range that R207 allows there. -/
structure OpensShelf (s : State) (e : List Byte) : Prop where
  inside : opShelf e < s.shelves.length
  named : opShelf e ≠ 0xFF
  free : (s.shelf (opShelf e)).state = .free
  fmt : shelfFmt (opFmt e) = true
  current : s.currentOf (opStage e) = none
  fresh : s.shelfOf (opStage e) (opVersion e) = none
  base : opBase e % 512 = 0
  len : opLen e % 512 = 0
  some : 0 < opLen e
  fits : opBase e + opLen e ≤ 2 ^ 48
  region : s.hitsRegion (opBase e) (opLen e) = false

theorem State.shelf_takeShelf_named {s : State} {e : List Byte} (hinside : opShelf e < s.shelves.length) (hnamed : opShelf e ≠ 0xFF)
    (desc : Nat) : (s.takeShelf desc e).shelf (opShelf e) = openedShelf e := by
  simp only [State.takeShelf, hnamed, if_false, State.shelf_complete]
  exact s.shelf_modShelf_same _ hinside

/-- A SHELF_OPEN that passes its checks and that nothing blocks takes its shelf. -/
theorem State.shelfOpenStart_unblocked {s : State} {e : List Byte} (h : OpensShelf s e) (hshelves : s.hasShelves = true)
    (hblockers : s.openBlockers e = []) (desc : Nat) : s.shelfOpenStart desc e = s.takeShelf desc e := by
  obtain ⟨hinside, hnamed, hfree, hfmt, hcurrent, hfresh, hbase, hlen, hsome, hfits, hregion⟩ := h
  simp only [State.shelfOpenStart, hcurrent]
  rw [State.checked_of_pass]
  · simp [hblockers]
  · simp [rangeChecks_allowed hbase hsome hlen hfits, State.noShelves, hshelves, hinside, hfree, hfmt, hfresh, hregion]

/-- A SHELF_OPEN whose WAIT_MS expires waits no more. -/
theorem State.not_mem_shelfWaits_shelfOpenTimeout {s : State} {desc : Nat} {x : Desc} (hwaits : desc ∈ s.shelfWaits)
    (hdesc : s.desc? desc = some x) : desc ∉ (s.shelfOpenTimeout desc).shelfWaits := by
  simp [State.shelfOpenTimeout, hwaits, hdesc]

theorem exec_shelfOpenTimeout {s : State} (hcfg : s.cfgUp = true) (desc : Nat) :
    exec (.shelfOpenTimeout desc) s = .next (s.start.finish (s.start.shelfOpenTimeout desc)) :=
  runUp_up (fun s => s.shelfOpenTimeout desc) s hcfg

/-! ## VERSION_COMMIT (R216) -/

/-- A VERSION_COMMIT of a FILLING shelf, on a stage without a CURRENT one, is accepted and waits for the shelf's fill writes. -/
theorem State.commitStart_filling {s : State} {e : List Byte} {i : Nat} (hshelves : s.hasShelves = true)
    (hshelf : s.shelfOf (field e 8 2) (field e 0xA 2) = some i) (hfilling : (s.shelf i).state = .filling)
    (hfill : (s.shelf i).fillErr = false) (hcurrent : s.currentOf (field e 8 2) = none) (desc : Nat) :
    s.commitStart desc e = s.modShelf i (fun h => { h with commits := h.commits ++ [desc] }) := by
  simp only [State.commitStart, hshelf, hcurrent]
  rw [State.checked_of_pass]
  · rfl
  · simp [State.noShelves, hshelves, hfilling, hfill]

/-- An accepted commit of a FILLING shelf, on a stage without a CURRENT one, makes it COMMITTED and CURRENT; no shelf loses CURRENT. -/
theorem State.applyCommit_filling {s : State} {i : Nat} (hfilling : (s.shelf i).state = .filling) (hfill : (s.shelf i).fillErr = false)
    (hcurrent : s.currentOf (s.shelf i).stage = none) : s.applyCommit i = State.advanceFetches (State.settleShelves
      (forEach (s.shelf i).commits (fun d x => x.complete d 0 (toLe 1 i ++ toLe 1 0xFF)) (s.modShelf i (fun g =>
        { g with current := true, state := .committed, commits := [] })))) := by
  simp only [State.applyCommit, hfilling, hfill, hcurrent, reduceCtorEq, Bool.false_and, Bool.false_eq_true, if_false]
  congr 3
  exact s.modShelf_congr (by simp only [hfilling, if_true])

theorem State.versionCommitApply_due {s : State} {i : Nat} (hout : (s.shelf i).fillOut = 0) (hcommits : (s.shelf i).commits ≠ []) :
    s.versionCommitApply i = State.stageNext (s.shelf i).stage s.commitWaits.length (s.applyCommit i) := by
  simp [State.versionCommitApply, hout, hcommits]

theorem exec_versionCommitApply {s : State} {i : Nat} (hi : i < s.build.shelves) (hcfg : s.cfgUp = true) :
    exec (.versionCommitApply i) s = .next (s.start.finish (s.start.versionCommitApply i)) :=
  (named_present _ _ _ hi).trans (runUp_up (fun s => s.versionCommitApply i) s hcfg)

/-! ## VERSION_RELEASE (R218) -/

/-- A VERSION_RELEASE of one binding names no shelf, so it takes no turn on a stage, and ends that binding. -/
theorem State.versionRelease_binding {s : State} {e : List Byte} (hshelves : s.hasShelves = true) (hmode : byteAt e 8 = 0)
    (hshelf : byteAt e 9 = 0) (hbound : (s.bindingOf (field e 0xA 2) (field e 0xC 2)).isSome = true) (desc : Nat) :
    s.versionRelease desc e = (s.unbind (field e 0xA 2) (field e 0xC 2)).complete desc 0 (toLe 2 1) := by
  have hnone : (s.bindingOf (field e 0xA 2) (field e 0xC 2)).isNone = false := by
    rw [← Option.not_isSome, hbound, Bool.not_true]
  simp only [State.versionRelease, State.afterShelf, State.releaseStart, hmode, hshelf, OfNat.zero_ne_ofNat, if_false, Option.filter_none]
  rw [State.checked_of_pass]
  · rfl
  · simp [State.noShelves, hshelves, hnone]

/-! ## SKEW_RELEASE (R214) -/

/-- SKEW_RELEASE with PASS lets the held item of a stream that is not a FETCH stream go on, with the status that says so. -/
theorem State.skewRelease_pass {s : State} {e : List Byte} {id key : Nat} {st : RxStream} {q : RxParcel} (hstream : field e 8 2 = id)
    (hid : id < 4096) (hpass : byteAt e 0xA = 1) (hrx : s.rxOf id = some (key, st)) (hrole : st.cfg.shelfRole ≠ 1)
    (hheld : st.parcels.find? (fun x => x.hold == 1 && !x.gone) = some q) (desc : Nat) : s.skewRelease desc e =
      ((s.modParcel key q.uid (fun x => { x with hold := s.freeHold st, okStatus := 0x31 })).advanceStream key).complete desc 0
        (toLe 2 (hMb (q.wire.take 32)) ++ toLe 2 (hStage (q.wire.take 32)) ++ toLe 2 (hVersion (q.wire.take 32))) := by
  have hnum : bits id 11 0 = id := Nat.mod_eq_of_lt hid
  have hbit : bit 1 0 = true := rfl
  simp only [State.skewRelease, hstream, hnum, hpass, hbit, hrx, hheld, Option.bind_some, Option.map_some, hrole, if_false, if_true]

/-- Settles O30: the order of versions by arithmetic, each descriptor by its turn on its stage and the checks that it passes. -/
theorem shelfDescriptors : Obligations.ShelfDescriptors := by
  unfold Obligations.ShelfDescriptors
  refine ⟨fun a b ha hb => ⟨newer_iff ha hb, newer_opposite ha hb⟩,
    fun s p e hoffers hfree hshelves hinside hnamed hshelf hfmt hcurrent hfresh hbase hlen hsome hfits hregion hblockers => ?opens,
    fun s p e => ⟨fun hoffers hbusy => ?commitWaits, fun hoffers hbusy => ?openWaits⟩,
    fun s p e i hoffers hfree hshelves hshelf hfilling hfill hcurrent => ?commit,
    fun s i h hi _ hcfg hshelf hfilling hfill hout hcommits hcurrent => ?apply,
    fun s p e hoffers hshelves hmode hshelf hbound => ?release,
    fun s p e id key st q hoffers hstream hid hpass hrx hrole hheld => ?skew,
    fun s d x hcfg hwaits hdesc => ⟨_, exec_shelfOpenTimeout hcfg d,
      State.not_mem_shelfWaits_shelfOpenTimeout (s := s.start) hwaits hdesc⟩⟩
  case opens =>
    have hentry : OpensShelf (s.taken p e) e :=
      ⟨hinside, hnamed, hshelf, hfmt, hcurrent, hfresh, hbase, hlen, hsome, hfits, hregion⟩
    refine ⟨_, exec_shelfOpen_offered hoffers, ?_⟩
    rw [State.shelfOpen, State.afterCommits_free (s := s.taken p e) hfree,
      State.shelfOpenStart_unblocked hentry hshelves hblockers]
    exact State.shelf_takeShelf_named (s := s.taken p e) hinside hnamed _
  case commitWaits =>
    rw [exec_versionCommit_offered hoffers, State.versionCommit, State.afterCommits_waits (s := s.taken p e) hbusy]
    rfl
  case openWaits =>
    rw [exec_shelfOpen_offered hoffers, State.shelfOpen, State.afterCommits_waits (s := s.taken p e) hbusy]
    rfl
  case commit =>
    rw [exec_versionCommit_offered hoffers, State.versionCommit, State.afterCommits_free (s := s.taken p e) hfree,
      State.commitStart_filling (s := s.taken p e) hshelves hshelf hfilling hfill hcurrent]
  case apply =>
    subst hshelf
    rw [exec_versionCommitApply hi hcfg, State.versionCommitApply_due (s := s.start) hout hcommits,
      State.applyCommit_filling (s := s.start) hfilling hfill hcurrent]
    rfl
  case release =>
    rw [exec_versionRelease_offered hoffers, State.versionRelease_binding (s := s.taken p e) hshelves hmode hshelf hbound]
  case skew =>
    rw [exec_skewRelease_offered hoffers, State.skewRelease_pass (s := s.taken p e) hstream hid hpass hrx hrole hheld]
    rfl

end Sys2Proof.Machine

/-! # Proofs: every opcode's work (chapter 7) -/

namespace Sys2Proof.Machine

section
variable {s : State} {p : Nat} {e : List Byte}

/-- The work of an entry that nothing turns away, where it lets nothing else move on. -/
theorem runUpLight_offered {opcode : Nat} {mask : List Nat} (h : s.Offers p e opcode mask) (hop : opcodes.contains opcode = true)
    (run_ : Nat → List Byte → State → State) :
    runUpLight (fun s => s.accept (· == opcode) mask run_) s = .next (s.start.finishLight (run_ s.nextDesc e (s.taken p e))) := by
  obtain ⟨hcfg, hnext, rfl, hbusy, hwashed, hres⟩ := h
  have hnext' : s.start.nextEntry = some (p, e) := hnext
  rw [runUpLight_up _ s hcfg, State.accept_runs _ _ hnext' (by simp) hbusy hwashed hop hres]
  rfl

theorem exec_nop_offered (h : s.Offers p e 0x00 []) :
    exec .nop s = .next (s.start.finishLight ((s.taken p e).complete s.nextDesc 0 (toLe 8 s.now))) := runUpLight_offered h (by decide) _

theorem exec_fence_offered (h : s.Offers p e 0x01 [3]) :
    exec .fence s = .next (s.start.finish ((s.taken p e).fence s.nextDesc e)) := runUp_offered h (by decide) _

theorem exec_calRequest_offered (h : s.Offers p e 0x40 calMask) :
    exec .calRequest s = .next (s.start.finish ((s.taken p e).calRequest s.nextDesc e)) := runUp_offered h (by decide) _

theorem exec_bistSlice_offered (h : s.Offers p e 0x41 bistSliceMask) :
    exec .bistSlice s = .next (s.start.finish ((s.taken p e).bistSliceCmd s.nextDesc e)) := runUp_offered h (by decide) _

theorem exec_bistFull_offered (h : s.Offers p e 0x42 bistFullMask) :
    exec .bistFull s = .next (s.start.finish ((s.taken p e).bistFullCmd s.nextDesc e)) := runUp_offered h (by decide) _

theorem exec_repairCmd_offered (h : s.Offers p e 0x43 repairMask) :
    exec .repairCmd s = .next (s.start.finish ((s.taken p e).repairCmd s.nextDesc e)) := runUp_offered h (by decide) _

theorem exec_wash_offered (h : s.Offers p e 0x61 []) :
    exec .wash s = .next (s.start.finish ((s.taken p e).startWash (some s.nextDesc))) := runUp_offered h (by decide) _

end

/-- Settles O26: acceptance runs an entry that nothing turns away, opcode by opcode. -/
theorem opcodesRunTheirWork : Obligations.OpcodesRunTheirWork := by
  unfold Obligations.OpcodesRunTheirWork
  exact fun s p e => ⟨exec_nop_offered, exec_fence_offered, exec_streamOpen_offered, exec_streamClose_offered, exec_streamModify_offered,
    exec_parcelSend_offered, exec_stationName_offered, exec_shelfOpen_offered, exec_versionCommit_offered, exec_versionRelease_offered,
    exec_skewRelease_offered, exec_drawStart_offered, exec_drawAck_offered, exec_restore_offered, exec_accumOpen_offered,
    exec_scaleSave_offered, exec_scaleLoad_offered, exec_dispatchLoad_offered, exec_calRequest_offered, exec_bistSlice_offered,
    exec_bistFull_offered, exec_repairCmd_offered, exec_logDrain_offered, exec_keyLoad_offered, exec_wash_offered⟩

/-! ## FENCE (R259) -/

/-- The descriptor just taken is found by its number, where every earlier one has a smaller number. -/
theorem State.desc?_taken {s : State} (hids : ∀ d ∈ s.descs, d.id < s.nextDesc) (p : Nat) (e : List Byte) :
    (s.taken p e).desc? s.nextDesc = some ⟨s.nextDesc, p, e, false⟩ := by
  have hnone : s.descs.find? (fun d => d.id == s.nextDesc) = none :=
    List.find?_eq_none.mpr fun d hd => by simpa using (hids d hd).ne
  have hdescs : (s.taken p e).descs = s.descs ++ [⟨s.nextDesc, p, e, false⟩] := rfl
  simp [State.desc?, hdescs, List.find?_append, hnone]

/-- A FENCE that waits alone completes where no earlier descriptor that it waits for is left, and waits on otherwise. -/
theorem State.checkFences_single {s : State} {f : FenceWait} (h : s.fences = [f]) :
    s.checkFences = if s.descs.any (fun d => d.id < f.desc && (f.all || d.pair == f.pair)) then s
      else State.complete { s with fences := [] } f.desc 0 := by
  simp [State.checkFences, h]

/-- A FENCE without BLOCK and ALL, where no other waits, is checked against the earlier descriptors of its own pair. -/
theorem State.fence_alone {s : State} {p : Nat} {e : List Byte} (hflags : byteAt e 8 = 0) (hfences : s.fences = [])
    (hids : ∀ d ∈ s.descs, d.id < s.nextDesc) : (s.taken p e).fence s.nextDesc e =
      if s.descs.any (fun d => d.pair == p) then { s.taken p e with fences := [⟨s.nextDesc, p, false, false⟩] }
      else (s.taken p e).complete s.nextDesc 0 := by
  have hfences' : (s.taken p e).fences = [] := hfences
  have hdescs : (s.taken p e).descs = s.descs ++ [⟨s.nextDesc, p, e, false⟩] := rfl
  have hearlier : (s.taken p e).descs.any (fun d => d.id < s.nextDesc && (false || d.pair == p)) = s.descs.any (fun d => d.pair == p) := by
    rw [hdescs, List.any_append, Bool.eq_iff_iff]
    simpa using ⟨fun ⟨d, hd, _, hp⟩ => ⟨d, hd, hp⟩, fun ⟨d, hd, hp⟩ => ⟨d, hd, hids d hd, hp⟩⟩
  have hstate : ({ s.taken p e with fences := [] } : State) = s.taken p e := by rw [← hfences']
  have hbits : bit 0 0 = false ∧ bit 0 1 = false := by decide
  have hfence : (s.taken p e).fence s.nextDesc e =
      State.checkFences { s.taken p e with fences := [⟨s.nextDesc, p, false, false⟩] } := by
    simp [State.fence, State.desc?_taken hids, hflags, hfences', hbits]
  rw [hfence, State.checkFences_single rfl]
  simp only [hearlier, hstate]

/-- Settles O34: the earlier descriptors of the pair are those of the pair, since every number is below the FENCE's own. -/
theorem fenceWaitsForEarlierDescriptors : Obligations.FenceWaitsForEarlierDescriptors := by
  unfold Obligations.FenceWaitsForEarlierDescriptors
  refine ⟨fun s p e hoffers hflags hfences hnone hids => ?completes, fun s p e hoffers hflags hfences hsome hids => ?waits⟩
  case completes => rw [exec_fence_offered hoffers, State.fence_alone hflags hfences hids, if_neg (by simpa using hnone)]
  case waits => rw [exec_fence_offered hoffers, State.fence_alone hflags hfences hids, if_pos (by simpa using hsome)]

end Sys2Proof.Machine

/-! # Proofs: completion entries (chapter 7) -/

namespace Sys2Proof.Machine

/-! ## Changing one pair's engine -/

theorem State.ring_modRing_other (s : State) {p q : Nat} (f : Ring → Ring) (h : q ≠ p) : (s.modRing p f).ring q = s.ring q := by
  simp [State.ring, State.modRing, modAt_getElem?, List.getD_eq_getElem?_getD, h]

/-- An engine that is there changes; one that is not reads as before. -/
theorem State.ring_modRing_eq_or (s : State) (p : Nat) (f : Ring → Ring) :
    (s.modRing p f).ring p = f (s.ring p) ∨ (s.modRing p f).ring p = s.ring p := by
  by_cases hp : p < s.rings.length
  · exact .inl (s.ring_modRing_same f hp)
  · have hlen : ¬ p < (s.modRing p f).rings.length := by rwa [State.modRing, modAt_length]
    simp only [State.ring, List.getD_eq_getElem?_getD, List.getElem?_eq_none (Nat.le_of_not_lt hp),
      List.getElem?_eq_none (Nat.le_of_not_lt hlen), or_true]

theorem modAt_congr {α : Type} (d : α) {f g : α → α} {i : Nat} {l : List α} (h : f (l.getD i d) = g (l.getD i d)) :
    modAt f i l = modAt g i l := by
  refine List.ext_getElem? fun k => ?_
  rw [modAt_getElem?, modAt_getElem?]
  split
  next hk =>
    subst hk
    cases hget : l[k]? with
    | none => rfl
    | some a => simpa [List.getD_eq_getElem?_getD, hget] using h
  next => rfl

/-- What a change makes of the engine that stands there is all that matters of it. -/
theorem State.modRing_congr (s : State) {p : Nat} {f g : Ring → Ring} (h : f (s.ring p) = g (s.ring p)) :
    s.modRing p f = s.modRing p g := by
  rw [State.modRing, State.modRing, modAt_congr {} h]

/-- Changes of a record one after the other are one change. -/
theorem modAt_modAt {α : Type} (f g : α → α) (i : Nat) (l : List α) : modAt f i (modAt g i l) = modAt (fun a => f (g a)) i l := by
  refine List.ext_getElem? fun k => ?_
  rw [modAt_getElem?, modAt_getElem?, modAt_getElem?]
  split
  next => rw [Option.map_map]; rfl
  next => rfl

theorem State.modRing_modRing (s : State) (p : Nat) (f g : Ring → Ring) :
    (s.modRing p g).modRing p f = s.modRing p (fun r => f (g r)) := by
  rw [State.modRing, State.modRing, State.modRing, modAt_modAt]

/-! ## Interrupt messages that may leave (R256) -/

/-- The pair's engine when an entry has been counted among the unsignalled ones. -/
def Ring.counted (r : Ring) (now request : Nat) : Ring :=
  { r with unsig := r.unsig + 1, oldest := some (r.oldest.getD now), covers := r.covers ++ [request] }

theorem State.countEntry_eq (s : State) (p request : Nat) (irqNow : Bool) : s.countEntry p request irqNow =
    if s.ringOn p && s.flag (ringReg p 0x18) 1 then
      if irqNow || ((s.modRing p (Ring.counted · s.now request)).ring p).unsig ≥ s.fld (ringReg p 0x18) 15 8 then
        (s.modRing p (Ring.counted · s.now request)).messageDue p
      else s.modRing p (Ring.counted · s.now request)
    else s := rfl

/-- `r` with what messages are counted by as `x` has it. -/
def Ring.signalledAs (r x : Ring) : Ring := { r with unsig := x.unsig, oldest := x.oldest, covers := x.covers, msgs := x.msgs }

/-- From `s` to `t` these interrupt messages of pair `p` leave; of its engine only what they are counted by changes. -/
structure State.Signals (s t : State) (p : Nat) (msgs : List Out) (uses : List (Nat × HmWriteUse)) : Prop where
  out : t.out = s.out ++ msgs
  hmWrites : t.hmWrites = s.hmWrites ++ uses
  isMessage : ∀ o ∈ msgs, ∃ q, o = .hmWrite q (s.ring p).msiAddr (toLe 4 (s.ring p).msiData)
  isUse : ∀ w ∈ uses, w.2 = .message p
  descs : t.descs = s.descs
  ring : t.ring p = (s.ring p).signalledAs (t.ring p)
  others : ∀ q, q ≠ p → t.ring q = s.ring q

/-- Some messages of the pair leave, or none. -/
def State.MaySignal (s t : State) (p : Nat) : Prop := ∃ msgs uses, s.Signals t p msgs uses

namespace State.MaySignal
variable {s t u : State} {p : Nat}

theorem refl (s : State) (p : Nat) : s.MaySignal s p :=
  ⟨[], [], (List.append_nil _).symm, (List.append_nil _).symm, nofun, nofun, rfl, rfl, fun _ _ => rfl⟩

theorem trans (h : s.MaySignal t p) (h' : t.MaySignal u p) : s.MaySignal u p := by
  obtain ⟨msgs, uses, h⟩ := h
  obtain ⟨msgs', uses', h'⟩ := h'
  have haddr : (t.ring p).msiAddr = (s.ring p).msiAddr := (congrArg Ring.msiAddr h.ring :)
  have hdata : (t.ring p).msiData = (s.ring p).msiData := (congrArg Ring.msiData h.ring :)
  refine ⟨msgs ++ msgs', uses ++ uses', ?_, ?_, fun o ho => ?_, fun w hw => ?_, h'.descs.trans h.descs, ?_,
    fun q hq => (h'.others q hq).trans (h.others q hq)⟩
  · rw [h'.out, h.out, List.append_assoc]
  · rw [h'.hmWrites, h.hmWrites, List.append_assoc]
  · rcases List.mem_append.mp ho with ho | ho
    · exact h.isMessage o ho
    · exact haddr ▸ hdata ▸ h'.isMessage o ho
  · rcases List.mem_append.mp hw with hw | hw
    · exact h.isUse w hw
    · exact h'.isUse w hw
  · have hring := h'.ring
    rw [h.ring] at hring
    exact hring

/-- A change of what messages are counted by. -/
theorem modRing (s : State) (p : Nat) {f : Ring → Ring}
    (hf : ∀ r, f r = r.signalledAs (f r)) : s.MaySignal (s.modRing p f) p := by
  refine ⟨[], [], (List.append_nil _).symm, (List.append_nil _).symm, nofun, nofun, rfl, ?_, fun q hq => s.ring_modRing_other f hq⟩
  rcases s.ring_modRing_eq_or p f with h | h
  · rw [h]
    exact hf _
  · rw [h]
    rfl

theorem ite {c : Prop} [Decidable c] (ht : s.MaySignal t p) (hu : s.MaySignal u p) : s.MaySignal (if c then t else u) p := by
  split <;> assumption

theorem messageOut (s : State) (p : Nat) : s.MaySignal (s.messageOut p) p := by
  refine .ite (refl s p) ⟨[_], [_], rfl, rfl, fun o ho => ⟨_, List.mem_singleton.mp ho⟩, fun w hw => ?_, rfl, rfl, fun _ _ => rfl⟩
  rw [List.mem_singleton.mp hw]

theorem sendMessages (s : State) (p : Nat) : s.MaySignal (s.sendMessages p) p :=
  forEach_keeps (s.MaySignal · p) _ _ _ (fun _ x h => h.trans (messageOut x p)) (modRing s p fun _ => rfl)

theorem messageDue (s : State) (p : Nat) : s.MaySignal (s.messageDue p) p :=
  (modRing s p fun _ => rfl).trans (sendMessages _ p)

theorem countEntry (s : State) (p request : Nat) (irqNow : Bool) : s.MaySignal (s.countEntry p request irqNow) p := by
  have hcounted : s.MaySignal (s.modRing p (Ring.counted · s.now request)) p := modRing s p fun _ => rfl
  exact .ite (.ite (hcounted.trans (messageDue _ p)) hcounted) (refl s p)

end State.MaySignal

/-- Where every message still waits for an entry, none leaves. -/
theorem State.sendMessages_none {s : State} {p : Nat} (h : ∀ m ∈ (s.ring p).msgs, m ≠ []) :
    s.sendMessages p = s.modRing p (fun r => { r with msgs := r.msgs.filter (fun m => !m.isEmpty) }) := by
  have hnone : (s.ring p).msgs.filter (·.isEmpty) = [] := List.filter_eq_nil_iff.mpr fun m hm => by simpa using h m hm
  rw [State.sendMessages, hnone, forEach_nil]

/-- A message that covers the entry just counted waits for it. -/
theorem Ring.due_counted_msgs {r : Ring} (h : ∀ m ∈ r.msgs, m ≠ []) (now request : Nat) :
    ∀ m ∈ (r.counted now request).due.msgs, m ≠ [] := by
  intro m hm
  rcases List.mem_append.mp hm with hm | hm
  · exact h m hm
  · rw [List.mem_singleton.mp hm]
    simp [Ring.counted]

/-- Writing an entry sends no message where the pair is disabled, or every message waits for an entry. -/
theorem State.countEntry_quiet {s : State} {p : Nat} (hp : p < s.rings.length)
    (h : s.ringOn p = false ∨ ∀ m ∈ (s.ring p).msgs, m ≠ []) (request : Nat) (irqNow : Bool) :
    (s.countEntry p request irqNow).out = s.out ∧ (s.countEntry p request irqNow).hmWrites = s.hmWrites := by
  rw [State.countEntry_eq]
  split
  next hon =>
    have hmsgs : ∀ m ∈ (s.ring p).msgs, m ≠ [] := h.resolve_left fun hoff => by simp [hoff] at hon
    split
    next =>
      have hp1 : p < (s.modRing p (Ring.counted · s.now request)).rings.length := by rwa [State.modRing, modAt_length]
      have hring : ((s.modRing p (Ring.counted · s.now request)).modRing p Ring.due).ring p = ((s.ring p).counted s.now request).due := by
        rw [State.ring_modRing_same _ _ hp1, State.ring_modRing_same _ _ hp]
      have hsent := State.sendMessages_none (hring ▸ Ring.due_counted_msgs hmsgs s.now request)
      rw [← State.messageDue_eq] at hsent
      exact ⟨(congrArg State.out hsent :), (congrArg State.hmWrites hsent :)⟩
    next => exact ⟨rfl, rfl⟩
  next => exact ⟨rfl, rfl⟩

/-! ## Writing an entry (R251, R252) -/

/-- The pair's engine when an entry has been written: CQ_PI moves on, and CQ_PHASE is inverted where it wraps. -/
def Ring.advanced (r : Ring) (size request : Nat) : Ring :=
  { r with
    cqPi := if r.cqPi + 1 = size then 0 else r.cqPi + 1
    cqPhase := if r.cqPi + 1 = size then !r.cqPhase else r.cqPhase
    unacked := r.unacked ++ [request] }

/-- The entry as it leaves: 32 bytes, with the present phase. -/
def Ring.phased (r : Ring) (bytes : List Byte) : List Byte := patch (padTo 32 bytes) 3 (toLe 1 (b2n r.cqPhase))

/-- The state in which an entry has left and is not yet counted. -/
def State.entryOut (s : State) (p : Nat) (bytes : List Byte) (use : HmWriteUse) : State :=
  (s.hmWriteReq (s.ringBase (ringReg p 8) + 32 * (s.ring p).cqPi) ((s.ring p).phased bytes) use).modRing p
    (fun r => r.advanced (s.cqSize p) s.reqSeq)

theorem State.writeEntry_eq (s : State) (p : Nat) (bytes : List Byte) (use : HmWriteUse) (irqNow : Bool) :
    s.writeEntry p bytes use irqNow = (s.entryOut p bytes use).countEntry p s.reqSeq irqNow :=
  congrArg (State.countEntry · p s.reqSeq irqNow) (State.modRing_congr _ rfl)

theorem State.ring_entryOut (s : State) {p : Nat} (hp : p < s.rings.length) (bytes : List Byte) (use : HmWriteUse) :
    (s.entryOut p bytes use).ring p = (s.ring p).advanced (s.cqSize p) s.reqSeq := State.ring_modRing_same _ _ hp

/-! ## The completion entry (R251) -/

/-- The completion entry of a descriptor, but for the phase. -/
def Desc.completion (d : Desc) (r : Ring) (status : Nat) (result : List Byte) (fieldOff : Nat) (peer : Bool) : List Byte :=
  slice d.entry 2 2 ++ toLe 1 status ++ [0] ++ toLe 1 d.opcode ++ [0] ++ toLe 2 (r.sqCi + 4096 * b2n r.sqGen) ++ padTo 20 result
    ++ toLe 2 fieldOff ++ toLe 1 (b2n peer) ++ [0]

/-- Descriptor `id` has its completion entry written. -/
def State.markWritten (s : State) (id : Nat) : State :=
  { s with descs := s.descs.map (fun d => if d.id = id then { d with written := true } else d) }

/-- The state in which the completion entry of a descriptor has left and is not yet counted. -/
def State.completionOut (s : State) (id : Nat) (d : Desc) (status : Nat) (result : List Byte) (fieldOff : Nat) (peer : Bool) : State :=
  (s.markWritten id).entryOut d.pair (d.completion (s.ring d.pair) status result fieldOff peer) (.completion d.pair id)

theorem State.ring_completionOut (s : State) (id : Nat) {d : Desc} (hpair : d.pair < s.rings.length) (status : Nat) (result : List Byte)
    (fieldOff : Nat) (peer : Bool) :
    (s.completionOut id d status result fieldOff peer).ring d.pair = (s.ring d.pair).advanced (s.cqSize d.pair) s.reqSeq :=
  (s.markWritten id).ring_entryOut hpair _ _

section
variable {s : State} {id : Nat} {d : Desc} (hdesc : s.desc? id = some d)
include hdesc

theorem State.complete_unwritten (hwritten : d.written = false) (status : Nat) (result : List Byte) (fieldOff : Nat) (peer : Bool) :
    s.complete id status result fieldOff peer =
      (s.completionOut id d status result fieldOff peer).countEntry d.pair s.reqSeq (bit (byteAt d.entry 1) 0) := by
  simp only [State.complete, hdesc, hwritten, Bool.false_eq_true, if_false]
  exact State.writeEntry_eq (s.markWritten id) _ _ _ _

theorem State.complete_written (hwritten : d.written = true) (status : Nat) (result : List Byte) (fieldOff : Nat) (peer : Bool) :
    s.complete id status result fieldOff peer = s := by
  simp only [State.complete, hdesc, hwritten, if_true]

theorem State.desc?_markWritten : (s.markWritten id).desc? id = some { d with written := true } := by
  have hid : d.id = id := by simpa using List.find?_some hdesc
  have hkeeps : (fun x : Desc => x.id == id) ∘ (fun x => if x.id = id then { x with written := true } else x) =
      (fun x => x.id == id) := by
    funext x
    simp only [Function.comp]
    split <;> rfl
  have hfind : s.descs.find? (fun x => x.id == id) = some d := hdesc
  rw [State.desc?, State.markWritten, List.find?_map, hkeeps, hfind, Option.map_some, if_pos hid]

end

/-- The bytes of a completion entry as it leaves. -/
theorem Ring.phased_completion {d : Desc} (h : 4 ≤ d.entry.length) (r : Ring) (status : Nat) (result : List Byte) (fieldOff : Nat)
    (peer : Bool) : ∃ tag0 tag1 head0 head1 tail, tail.length = 4 ∧ slice d.entry 2 2 = [tag0, tag1] ∧
      r.phased (d.completion r status result fieldOff peer) =
      tag0 :: tag1 :: BitVec.ofNat 8 status :: BitVec.ofNat 8 (b2n r.cqPhase) :: BitVec.ofNat 8 d.opcode :: 0 :: head0 :: head1 ::
        (padTo 20 result ++ tail) := by
  obtain ⟨tag0, tag1, htag⟩ : ∃ a b, slice d.entry 2 2 = [a, b] :=
    List.length_eq_two.mp (by simp [slice]; omega)
  have hlen : (d.completion r status result fieldOff peer).length = 32 := by
    simp [Desc.completion, htag, toLe_length, padTo_length]
  have hpad : padTo 32 (d.completion r status result fieldOff peer) = d.completion r status result fieldOff peer := by
    conv_lhs => rw [← hlen]
    exact padTo_self _
  refine ⟨tag0, tag1, BitVec.ofNat 8 (r.sqCi + 4096 * b2n r.sqGen), BitVec.ofNat 8 ((r.sqCi + 4096 * b2n r.sqGen) / 256),
    toLe 2 fieldOff ++ toLe 1 (b2n peer) ++ [0], by simp [toLe_length], htag, ?_⟩
  rw [Ring.phased, hpad]
  simp only [Desc.completion, htag, toLe, patch, List.append_assoc, List.cons_append, List.nil_append, List.take_succ_cons,
    List.take_zero, List.drop_succ_cons, List.drop_zero, List.length_cons, List.length_nil]

/-- Settles O28: the entry leaves with the present phase and CQ_PI moves on (`State.entryOut`); counting it lets nothing leave but messages. -/
theorem completionEntryIsWritten : Obligations.CompletionEntryIsWritten := by
  unfold Obligations.CompletionEntryIsWritten
  intro s t id status d r result hdesc hwritten hr hpair hlen hstatus ht
  subst hr
  rw [State.complete_unwritten hdesc hwritten] at ht
  subst ht
  have hring := s.ring_completionOut id hpair status result 0 false
  obtain ⟨msgs, uses, hsig⟩ := State.MaySignal.countEntry (s.completionOut id d status result 0 false) d.pair s.reqSeq
    (bit (byteAt d.entry 1) 0)
  obtain ⟨tag0, tag1, head0, head1, tail, htail, htag, hentry⟩ := Ring.phased_completion hlen (s.ring d.pair) status result 0 false
  have hend := hsig.ring
  rw [hring] at hend
  refine ⟨(s.ring d.pair).phased (d.completion (s.ring d.pair) status result 0 false), msgs, uses,
    hsig.out.trans (List.append_assoc _ _ _), hsig.hmWrites.trans (List.append_assoc _ _ _), ?length, ?tagBytes, ?statusByte,
    ?phaseByte, ?opcodeByte, ?resultBytes, ?message, hsig.isUse, fun hquiet => ?quiet, congrArg Ring.cqPi hend, congrArg Ring.cqPhase hend,
    congrArg Ring.unacked hend, fun q hq => (hsig.others q hq).trans (State.ring_modRing_other _ _ hq), fun x => ?again⟩
  case length => rw [hentry]; simp [padTo_length, htail]
  case tagBytes => rw [hentry, htag]; rfl
  case statusByte => rw [hentry]; exact Nat.mod_eq_of_lt hstatus
  case phaseByte => rw [hentry]; exact Nat.mod_eq_of_lt ((b2n_lt _).trans (by decide))
  case opcodeByte => rw [hentry]; exact Nat.mod_eq_of_lt (BitVec.isLt _)
  case resultBytes => rw [hentry]; exact List.take_left' (padTo_length _ _)
  case message =>
    have hmessage := hsig.isMessage
    rw [hring] at hmessage
    exact hmessage
  case quiet =>
    have hpair' : d.pair < (s.completionOut id d status result 0 false).rings.length := (modAt_length _ _ _).symm ▸ hpair
    obtain ⟨hout, hwrites⟩ := State.countEntry_quiet hpair' (hring ▸ hquiet) s.reqSeq (bit (byteAt d.entry 1) 0)
    exact ⟨List.append_right_eq_self.mp (hsig.out.symm.trans hout), List.append_right_eq_self.mp (hsig.hmWrites.symm.trans hwrites)⟩
  case again =>
    refine State.complete_written (d := { d with written := true }) ?_ rfl _ _ _ _
    rw [State.desc?, hsig.descs]
    exact State.desc?_markWritten hdesc

end Sys2Proof.Machine

/-! # Proofs: doorbell blocks and submission fetches (chapter 7) -/

namespace Sys2Proof.Machine

/-! ## Doorbell blocks (R243, R246, R261) -/

/-- The pair's engine when a read of its doorbell block is over. -/
def Ring.readEnded (r : Ring) : Ring := { r with reading := false, again := false, oldRead := false }

/-- Whether a doorbell block is faulty does not turn on the read being over. -/
theorem State.doorbellBad_readEnded (s : State) (p : Nat) (b : List Byte) :
    (s.modRing p Ring.readEnded).doorbellBad p b = s.doorbellBad p b := by
  rcases s.ring_modRing_eq_or p Ring.readEnded with h | h
  all_goals
    unfold State.doorbellBad
    rw [h]
    rfl

section
variable {s : State} {p : Nat} (harmed : s.inj.armed = false)
include harmed

/-- The block of a read that no new enable has overtaken is used if it is good, and faults the pair if it is faulty or the read failed. -/
theorem State.doorbellDone_eq (hon : s.ringOn p = true) (hreading : (s.ring p).reading = true) (hnew : (s.ring p).oldRead = false)
    (data : List Byte) (err : Bool) : s.doorbellDone p data err =
      if err || s.doorbellBad p (padTo 32 data) then (s.modRing p Ring.readEnded).ringFault p 0x0702 false
      else if (s.ring p).again then ((s.modRing p Ring.readEnded).useDoorbell p (padTo 32 data)).readDoorbell p false
      else (s.modRing p Ring.readEnded).useDoorbell p (padTo 32 data) := by
  have hfire (point unit : Nat) : (s.modRing p Ring.readEnded).fire point unit = (false, s.modRing p Ring.readEnded) :=
    State.fire_unarmed _ _ _ harmed
  have hon' : (s.modRing p Ring.readEnded).ringOn p = true := hon
  have hended : s.modRing p (fun r => { r with reading := false, again := false, oldRead := false }) = s.modRing p Ring.readEnded := rfl
  simp only [State.doorbellDone, hended, hfire, hreading, hnew, hon', s.doorbellBad_readEnded, Bool.not_true, Bool.or_false,
    Bool.false_eq_true, if_false]

/-! ## Submission fetches (R247, R261) -/

/-- The pair's engine when a submission fetch is over. -/
def Ring.fetchEnded (r : Ring) : Ring := { r with fetching := 0, stale := false }

variable (hfetching : (s.ring p).fetching ≠ 0) (hfresh : (s.ring p).stale = false)
include hfetching hfresh

/-- The entries of a fetch that succeeds pass to the acceptance engine; of one that fails those before the failing one do, and the pair is
faulted. -/
theorem State.submissionDone_eq (data : List Byte) (err : Bool) : s.submissionDone p data err =
    if err then
      (s.modRing p (fun r => r.fetchEnded.took (s.sqSize p) (min (data.length / 64) (r.fetching - 1)) data)).ringFault p 0x0701 false
    else (s.modRing p (fun r => r.fetchEnded.took (s.sqSize p) r.fetching data)).tryFetch p := by
  have hfire : (s.modRing p Ring.fetchEnded).fire 0x22 0 = (false, s.modRing p Ring.fetchEnded) := State.fire_unarmed _ _ _ harmed
  have hended : s.modRing p (fun r => { r with fetching := 0, stale := false }) = s.modRing p Ring.fetchEnded := rfl
  simp only [State.submissionDone, hended, hfire, hfetching, hfresh, Bool.or_false, Bool.false_eq_true, if_false, State.modRing_modRing]
  cases err
  case false => exact congrArg (State.tryFetch · p) (s.modRing_congr rfl)
  case true => exact congrArg (State.ringFault · p 0x0701 false) (s.modRing_congr rfl)

end

theorem exec_doorbellReadDone {s : State} {p : Nat} (hp : p < 64) (hcfg : s.cfgUp = true) (data : List Byte) (err : Bool) :
    exec (.doorbellReadDone p data err) s = .next (s.start.finishLight (s.start.doorbellDone p data err)) :=
  (named_present _ _ _ hp).trans (runUpLight_up _ s hcfg)

theorem exec_submissionFetchDone {s : State} {p : Nat} (hp : p < 64) (hcfg : s.cfgUp = true) (data : List Byte) (err : Bool) :
    exec (.submissionFetchDone p data err) s = .next (s.start.finishLight (s.start.submissionDone p data err)) :=
  (named_present _ _ _ hp).trans (runUpLight_up _ s hcfg)

/-- Settles O12, by what becomes of a doorbell block that is read and of a fetch that is over. -/
theorem doorbellAndFetchReturn : Obligations.DoorbellAndFetchReturn := by
  unfold Obligations.DoorbellAndFetchReturn
  refine ⟨fun s p data hp hcfg harmed hon hreading hnew hgood => ?used, fun s p data err hp hcfg harmed hon hreading hnew hbad => ?faulty,
    fun s p data hp hcfg harmed hfetching hfresh _ => ?fetched, fun s p data hp hcfg harmed hfetching hfresh => ?failed⟩
  case used =>
    have hgood' : (false || s.start.doorbellBad p (padTo 32 data)) = false := hgood
    rw [exec_doorbellReadDone hp hcfg, State.doorbellDone_eq (s := s.start) harmed hon hreading hnew, hgood', if_neg Bool.false_ne_true]
    rfl
  case faulty =>
    have hbad' : (err || s.start.doorbellBad p (padTo 32 data)) = true := Bool.or_eq_true_iff.mpr hbad
    rw [exec_doorbellReadDone hp hcfg, State.doorbellDone_eq (s := s.start) harmed hon hreading hnew, if_pos hbad']
    rfl
  case fetched =>
    rw [exec_submissionFetchDone hp hcfg, State.submissionDone_eq (s := s.start) harmed hfetching hfresh]
    rfl
  case failed =>
    rw [exec_submissionFetchDone hp hcfg, State.submissionDone_eq (s := s.start) harmed hfetching hfresh]
    rfl

end Sys2Proof.Machine

/-! # Proofs: enabling and disabling a ring pair (chapter 7) -/

namespace Sys2Proof.Machine

/-! ## A write to CL_RING{r}_CTL (R244) -/

theorem regRow_ringCtl (b : Build) (role : Role) {p : Nat} (hp : p < 64) :
    regRow b role (ringReg p 0x18) = some ⟨0xFFFFFFF3, 0, 0x1A0⟩ := by
  have hin : 0x400 ≤ ringReg p 0x18 ∧ ringReg p 0x18 < 0xC00 := by unfold ringReg; omega
  have hoff : (ringReg p 0x18 - 0x400) % 32 = 24 := by unfold ringReg; omega
  simp [regRow, hin, hoff]

theorem State.ring_setFlag (s : State) (off i : Nat) (b : Bool) (p : Nat) : (s.setFlag off i b).ring p = s.ring p := rfl

theorem State.ringOn_modRing (s : State) (p q : Nat) (f : Ring → Ring) : (s.modRing p f).ringOn q = s.ringOn q := rfl

/-- The registers of a pair are distinct. -/
theorem ringReg_ne {p j k : Nat} (h : j ≠ k) : ringReg p j ≠ ringReg p k := by unfold ringReg; omega

/-- What is stored of a write to a pair's control register keeps ENABLE. -/
def State.ctlWritten (s : State) (p : Nat) (d : Word) : State :=
  s.plainWrite (ringReg p 0x18) (BitVec.ofNat 32 (setBits d.toNat 0 0 (b2n (s.ringOn p))))

section
variable {s : State} {p : Nat} (hp : p < 64) (d : Word)
include hp

theorem State.ctlWritten_frame : s.ctlWritten p d = { s with regs := (s.ctlWritten p d).regs } := by
  obtain ⟨_, _, hframe⟩ := registerWriteFollowsAccessCodes s _ (BitVec.ofNat 32 (setBits d.toNat 0 0 (b2n (s.ringOn p)))) _
    (regRow_ringCtl s.build s.role hp)
  exact hframe

theorem State.reg_ctlWritten {off : Nat} (h : off ≠ ringReg p 0x18) : (s.ctlWritten p d).reg off = s.reg off := by
  obtain ⟨_, hother, _⟩ := registerWriteFollowsAccessCodes s _ (BitVec.ofNat 32 (setBits d.toNat 0 0 (b2n (s.ringOn p)))) _
    (regRow_ringCtl s.build s.role hp)
  exact hother off h

theorem State.rings_ctlWritten : (s.ctlWritten p d).rings = s.rings := by rw [State.ctlWritten_frame hp]

theorem State.ring_ctlWritten (q : Nat) : (s.ctlWritten p d).ring q = s.ring q := by rw [State.ring, State.rings_ctlWritten hp, State.ring]

/-- The storing rule of a control register leaves its bit 0. -/
theorem testBit_writeRule_ringCtl (old v : Nat) : (writeRule (ringReg p 0x18) old v).testBit 0 = v.testBit 0 := by
  have hin : 0x400 ≤ ringReg p 0x18 ∧ ringReg p 0x18 < 0xC00 ∧ (ringReg p 0x18 - 0x400) % 32 = 24 := by unfold ringReg; omega
  have hkeep (w hi lo x : Nat) (hle : lo ≤ hi) (hlo : 0 < lo) : (setBits w hi lo x).testBit 0 = w.testBit 0 := by
    rw [setBits_testBit _ _ _ _ _ hle, if_neg (by omega)]
  simp only [writeRule, hin, and_self, if_true]
  split <;> split <;> simp only [hkeep _ 15 8 _ (by decide) (by decide), hkeep _ 7 4 _ (by decide) (by decide)]

theorem State.ringOn_ctlWritten : (s.ctlWritten p d).ringOn p = s.ringOn p := by
  obtain ⟨hbits, _, _⟩ := registerWriteFollowsAccessCodes s _ (BitVec.ofNat 32 (setBits d.toNat 0 0 (b2n (s.ringOn p)))) _
    (regRow_ringCtl s.build s.role hp)
  have hrw : Nat.testBit 0xFFFFFFF3 0 = true := by decide
  refine (hbits 0 (by decide)).trans ?_
  rw [if_pos hrw, testBit_writeRule_ringCtl hp, BitVec.toNat_ofNat, Nat.testBit_mod_two_pow, setBits_testBit _ _ _ _ _ (le_refl 0)]
  cases s.ringOn p <;> rfl

end

/-- The engine of a pair that ENABLE 0 stops: a fetch in flight is to be discarded. -/
def Ring.stopped (r : Ring) : Ring := { r with stale := r.fetching != 0 }

/-- The state in which a write to its control register has stopped a pair's engine. -/
def State.ringStopped (s : State) (p : Nat) (d : Word) : State :=
  ((s.ctlWritten p d).setFlag (ringReg p 0x18) 0 false).modRing p Ring.stopped

/-- A field of a register of the pair that a write to its control register leaves. -/
theorem State.fld_ctlWritten (s : State) {p k : Nat} (hp : p < 64) (d : Word) (hk : k ≠ 0x18) (hi lo : Nat) :
    (s.ctlWritten p d).fld (ringReg p k) hi lo = s.fld (ringReg p k) hi lo := by
  rw [State.fld, State.regN, State.reg_ctlWritten hp d (ringReg_ne hk)]
  rfl

/-- A write to a pair's control register reaches it. -/
theorem State.cfgWrite_ringCtl {s : State} {p : Nat} (hp : p < 64) (hcfg : s.cfgUp = true) (d : Word) :
    s.cfgWrite (ringReg p 0x18) d = s.writeRingCtl p d := by
  have haon : s.aonHeld = false := by
    unfold State.cfgUp State.cfgHeld at hcfg
    unfold State.aonHeld
    cases hr : s.resets.aon
    · rfl
    · simp [hr] at hcfg
  have hdomain : regDomain (ringReg p 0x18) = .cfg := by
    unfold regDomain ringReg
    simp only [show ¬ 0x400 + 32 * p + 0x18 < 0x100 by omega, show ¬ 0x400 + 32 * p + 0x18 < 0x200 by omega,
      show ¬ 0x400 + 32 * p + 0x18 < 0x300 by omega, if_false]
    repeat rw [if_neg (by omega)]
  have hreach : s.regReachable (ringReg p 0x18) = true := by
    unfold State.regReachable
    rw [hdomain]
    exact hcfg
  have hring : 0x400 ≤ ringReg p 0x18 ∧ ringReg p 0x18 < 0xC00 := by unfold ringReg; omega
  have hpair : (ringReg p 0x18 - 0x400) / 32 = p := by unfold ringReg; omega
  have hctl : ringReg p 0x18 % 32 = 24 := by unfold ringReg; omega
  rw [State.cfgWrite_reaches haon hreach, State.writeReg, if_neg (by omega), if_pos hring]
  simp only [State.writeRing, hpair, hctl, if_true]

section
variable {s : State} {p : Nat} {d : Word}

theorem State.writeRingCtl_enables (hbit : d.getLsbD 0 = true) (hrest : s.ringActive p = false) :
    s.writeRingCtl p d = (s.ctlWritten p d).enableRing p := by
  simp only [State.writeRingCtl, hbit, hrest, if_true, Bool.false_eq_true, if_false]
  rfl

theorem State.writeRingCtl_disables (hbit : d.getLsbD 0 = false) (hon : s.ringOn p = true) :
    s.writeRingCtl p d = s.ringStopped p d := by
  simp only [State.writeRingCtl, State.ringStopped, State.ctlWritten, hbit, hon, if_true, Bool.false_eq_true, if_false]
  rfl

variable (hp : p < 64) (hcfg : s.cfgUp = true)
include hp hcfg

theorem exec_ringEnable (hrest : s.ringActive p = false) (d : Word) :
    exec (.ringEnable p d) s = .next (s.start.finish ((s.start.ctlWritten p (d ||| 1#32)).enableRing p)) := by
  have hbit : (d ||| 1#32).getLsbD 0 = true := by simp
  have hwrite := State.cfgWrite_ringCtl (s := s.start) hp hcfg (d ||| 1#32)
  rw [State.writeRingCtl_enables hbit (show s.start.ringActive p = false from hrest)] at hwrite
  exact (named_present _ _ _ hp).trans (congrArg (fun x => Host.Outcome.next (s.start.finish x)) hwrite)

theorem exec_ringDisable (hon : s.ringOn p = true) (d : Word) :
    exec (.ringDisable p d) s = .next (s.start.finish (s.start.ringStopped p (d &&& 0xFFFFFFFE#32))) := by
  have hbit : (d &&& 0xFFFFFFFE#32).getLsbD 0 = false := by simp
  have hwrite := State.cfgWrite_ringCtl (s := s.start) hp hcfg (d &&& 0xFFFFFFFE#32)
  rw [State.writeRingCtl_disables hbit (show s.start.ringOn p = true from hon)] at hwrite
  exact (named_present _ _ _ hp).trans (congrArg (fun x => Host.Outcome.next (s.start.finish x)) hwrite)

end

/-! ## Disabling (R245) -/

section
variable {s : State} {p : Nat} (d : Word)

theorem State.ringOn_ringStopped : (s.ringStopped p d).ringOn p = false := by
  rw [State.ringStopped, State.ringOn_modRing, State.ringOn, State.flag_setFlag_same _ _ _ _ (by decide)]

variable (hp : p < 64)
include hp

theorem State.ring_ringStopped (hlen : p < s.rings.length) : (s.ringStopped p d).ring p = (s.ring p).stopped := by
  have hlen' : p < ((s.ctlWritten p d).setFlag (ringReg p 0x18) 0 false).rings.length := by
    rw [State.setFlag_rings, State.rings_ctlWritten hp]
    exact hlen
  rw [State.ringStopped, State.ring_modRing_same _ _ hlen', State.ring_setFlag, State.ring_ctlWritten hp]

theorem State.ring_ringStopped_other {q : Nat} (h : q ≠ p) : (s.ringStopped p d).ring q = s.ring q := by
  rw [State.ringStopped, State.ring_modRing_other _ _ h, State.ring_setFlag, State.ring_ctlWritten hp]

end

/-! ## Enabling (R244, R245) -/

/-- The engine of pair `p` as ENABLE 1 starts it. -/
def Ring.enabled (p : Nat) (r : Ring) : Ring :=
  { sqCi := if p = 0 then r.sqCi else 0, cqPhase := true, reading := r.reading, oldRead := r.reading, fetching := r.fetching
    stale := r.fetching != 0, unacked := r.unacked }

/-- The first entry of a pair just enabled leaves with PHASE 1. -/
theorem Ring.phased_enabled (p : Nat) (r : Ring) (bytes : List Byte) :
    (r.enabled p).phased bytes = patch (padTo 32 bytes) 3 (toLe 1 1) := rfl

theorem Ring.cqPi_enabled (p : Nat) (r : Ring) : (r.enabled p).cqPi = 0 := rfl

/-- The state in which a write to its control register has started a pair's engine. -/
def State.ringStarted (s : State) (p : Nat) (d : Word) : State :=
  ((s.ctlWritten p d).modRing p (Ring.enabled p)).setFlag (ringReg p 0x18) 0 true

/-- A legal ring size (R244). -/
def RingSizeOk (n : Nat) : Prop := 6 ≤ n ∧ n ≤ 12

section
variable {s : State} {p : Nat} (hp : p < 64) (d : Word)

theorem State.ringOn_ringStarted : (s.ringStarted p d).ringOn p = true := State.flag_setFlag_same _ _ _ _ (by decide)

include hp

/-- The engine starts with legal ring sizes, and pair 0 then reports the events that it has lost. -/
theorem State.enableRing_starts (hsq : p = 0 ∨ RingSizeOk (s.fld (ringReg p 0) 3 0)) (hcq : RingSizeOk (s.fld (ringReg p 8) 3 0)) :
    (s.ctlWritten p d).enableRing p = if p = 0 then (s.ringStarted p d).flushLost else s.ringStarted p d := by
  rw [← s.fld_ctlWritten hp d (show 0 ≠ 0x18 by decide), RingSizeOk] at hsq
  rw [← s.fld_ctlWritten hp d (show 8 ≠ 0x18 by decide), RingSizeOk] at hcq
  exact if_pos (by simpa using ⟨hsq, hcq⟩)

/-- With an illegal completion ring size it does not start. -/
theorem State.enableRing_refused (hcq : ¬ RingSizeOk (s.fld (ringReg p 8) 3 0)) :
    (s.ctlWritten p d).enableRing p = (s.ctlWritten p d).modRing p (fun r => { r with cfgErr := true }) := by
  rw [← s.fld_ctlWritten hp d (show 8 ≠ 0x18 by decide), RingSizeOk] at hcq
  exact if_neg (by simpa using fun _ h6 => Nat.not_le.mp fun h12 => hcq ⟨h6, h12⟩)

theorem State.rings_ringStarted : (s.ringStarted p d).rings = modAt (Ring.enabled p) p s.rings := by
  rw [State.ringStarted, State.setFlag_rings, State.modRing, State.rings_ctlWritten hp]

theorem State.ring_ringStarted (hlen : p < s.rings.length) : (s.ringStarted p d).ring p = (s.ring p).enabled p := by
  rw [State.ring, State.rings_ringStarted hp]
  exact getD_modAt_same _ _ hlen

theorem State.ring_ringStarted_other {q : Nat} (h : q ≠ p) : (s.ringStarted p d).ring q = s.ring q := by
  rw [State.ringStarted, State.ring_setFlag, State.ring_modRing_other _ _ h, State.ring_ctlWritten hp]

theorem State.reg_ringStarted {off : Nat} (h : off ≠ ringReg p 0x18) : (s.ringStarted p d).reg off = s.reg off :=
  (State.reg_setFld_other _ _ _ _ _ _ h).trans (State.reg_ctlWritten hp d h)

theorem State.ringBase_ringStarted : (s.ringStarted p d).ringBase (ringReg p 8) = s.ringBase (ringReg p 8) := by
  simp only [State.ringBase, State.fld, State.regN, s.reg_ringStarted hp d (ringReg_ne (show 8 ≠ 0x18 by decide)),
    s.reg_ringStarted hp d (show ringReg p 8 + 4 ≠ ringReg p 0x18 by unfold ringReg; omega)]

theorem State.cqSize_ringStarted : (s.ringStarted p d).cqSize p = s.cqSize p := by
  simp only [State.cqSize, State.fld, State.regN, s.reg_ringStarted hp d (ringReg_ne (show 8 ≠ 0x18 by decide))]

theorem State.out_ringStarted : (s.ringStarted p d).out = s.out := by
  rw [State.ringStarted, State.setFlag_out, State.modRing, State.ctlWritten_frame hp]

theorem State.reqSeq_ringStarted : (s.ringStarted p d).reqSeq = s.reqSeq := by
  rw [State.ringStarted, State.setFlag_reqSeq, State.modRing, State.ctlWritten_frame hp]

theorem State.now_ringStarted : (s.ringStarted p d).now = s.now := by
  rw [State.now, State.ringStarted, State.setFlag_fcount, State.modRing, State.ctlWritten_frame hp, State.now]

end

/-- Pair 0 just enabled has no unread entry, so a completion ring of at least two entries has room. -/
theorem State.eventRoom_ringStarted {s : State} (hlen : 0 < s.rings.length) (hsize : 1 < s.cqSize 0) (d : Word) :
    (s.ringStarted 0 d).eventRoom = true := by
  have hunread : (s.ringStarted 0 d).unread 0 = 0 := by
    rw [State.unread, State.ring_ringStarted (by decide) d hlen]
    rfl
  simp only [State.eventRoom, State.ringOn_ringStarted, hunread, State.cqSize_ringStarted (show 0 < 64 by decide), Bool.true_and,
    decide_eq_true_eq]
  exact hsize

/-! ## Lost events (R254) -/

/-- Writing an entry leaves what SQ_CI counts. -/
theorem State.sqCi_writeEntry {s : State} {p : Nat} (hp : p < s.rings.length) (bytes : List Byte) (use : HmWriteUse) (irqNow : Bool) :
    ((s.writeEntry p bytes use irqNow).ring p).sqCi = (s.ring p).sqCi := by
  obtain ⟨_, _, hsig⟩ := State.MaySignal.countEntry (s.entryOut p bytes use) p s.reqSeq irqNow
  have hring := hsig.ring
  rw [← State.writeEntry_eq, s.ring_entryOut hp] at hring
  exact (congrArg Ring.sqCi hring :)

/-- Where every message still waits, an entry leaves alone. -/
theorem State.out_writeEntry {s : State} {p : Nat} (hp : p < s.rings.length) (hmsgs : ∀ m ∈ (s.ring p).msgs, m ≠ [])
    (bytes : List Byte) (use : HmWriteUse) (irqNow : Bool) : (s.writeEntry p bytes use irqNow).out =
      s.out ++ [.hmWrite s.reqSeq (s.ringBase (ringReg p 8) + 32 * (s.ring p).cqPi) ((s.ring p).phased bytes)] := by
  have hp' : p < (s.entryOut p bytes use).rings.length := (modAt_length _ _ _).symm ▸ hp
  have hmsgs' : ∀ m ∈ ((s.entryOut p bytes use).ring p).msgs, m ≠ [] := by rwa [s.ring_entryOut hp]
  rw [State.writeEntry_eq]
  exact (State.countEntry_quiet hp' (.inr hmsgs') s.reqSeq irqNow).1

/-- The EVENTS_LOST entry, but for the phase. -/
def eventsLost (now n : Nat) : List Byte := toLe 2 0x31 ++ [0, 0] ++ toLe 8 now ++ toLe 2 0 ++ toLe 2 0 ++ toLe 2 n

/-- Pair 0's engine without a count of lost events. -/
def Ring.lossReported (r : Ring) : Ring := { r with sqCi := 0 }

section
variable {s : State} (hlost : (s.ring 0).sqCi ≠ 0) (hroom : s.eventRoom = true)
include hlost hroom

/-- Where the event ring has room the lost events are reported in one entry. -/
theorem State.flushLost_reports :
    s.flushLost = (s.modRing 0 Ring.lossReported).writeEntry 0 (eventsLost s.now (s.ring 0).sqCi) .event false := by
  have hcond : ((s.ring 0).sqCi != 0 && s.eventRoom) = true := by simp [hlost, hroom]
  exact if_pos hcond

theorem State.ringOn_flushLost : s.flushLost.ringOn 0 = s.ringOn 0 := by
  have hbut : s.AsButEntries s.flushLost :=
    s.flushLost_reports hlost hroom ▸ ((State.AsButEntries.refl s).modRing _ _).writeEntry _ _ _ _
  unfold State.AsButEntries at hbut
  rw [hbut]
  rfl

variable (hlen : 0 < s.rings.length)
include hlen

theorem State.sqCi_flushLost : (s.flushLost.ring 0).sqCi = 0 := by
  have hlen' : 0 < (s.modRing 0 Ring.lossReported).rings.length := by rwa [State.modRing, modAt_length]
  rw [s.flushLost_reports hlost hroom, State.sqCi_writeEntry hlen', s.ring_modRing_same _ hlen]
  rfl

theorem State.out_flushLost (hmsgs : ∀ m ∈ (s.ring 0).msgs, m ≠ []) : s.flushLost.out = s.out ++
    [.hmWrite s.reqSeq (s.ringBase (ringReg 0 8) + 32 * (s.ring 0).cqPi) ((s.ring 0).phased (eventsLost s.now (s.ring 0).sqCi))] := by
  have hlen' : 0 < (s.modRing 0 Ring.lossReported).rings.length := by rwa [State.modRing, modAt_length]
  have hring : (s.modRing 0 Ring.lossReported).ring 0 = (s.ring 0).lossReported := s.ring_modRing_same _ hlen
  rw [s.flushLost_reports hlost hroom, State.out_writeEntry hlen' (hring ▸ hmsgs), hring]
  rfl

end

/-- Settles O22, by the branches of a write to the pair's control register. -/
theorem ringEnableAndDisable : Obligations.RingEnableAndDisable := by
  unfold Obligations.RingEnableAndDisable
  refine ⟨fun s p d hpos hp hcfg hrest hlen hsq6 hsq12 hcq6 hcq12 hfetching => ⟨_, exec_ringEnable hp hcfg hrest d, ?starts⟩,
    fun s d n hcfg hrest hlen hcq6 hcq12 hlost hsome => ⟨_, exec_ringEnable (by decide) hcfg hrest d, ?reports⟩,
    fun s p d hp hcfg hrest hlen hbad => ⟨_, exec_ringEnable hp hcfg hrest d, ?refused⟩,
    fun s p d hp hcfg hon hlen => ⟨_, exec_ringDisable hp hcfg hon d, State.ringOn_ringStopped _,
      State.ring_ringStopped (s := s.start) _ hp (hlen ▸ hp), fun q hq => State.ring_ringStopped_other (s := s.start) _ hp hq⟩⟩
  case starts =>
    have hsq : RingSizeOk (s.start.fld (ringReg p 0) 3 0) := ⟨hsq6, hsq12⟩
    have hcq : RingSizeOk (s.start.fld (ringReg p 8) 3 0) := ⟨hcq6, hcq12⟩
    have hfetching' : (s.start.ring p).fetching = 0 := hfetching
    rw [State.enableRing_starts hp _ (.inr hsq) hcq, if_neg hpos.ne', State.ring_ringStarted (s := s.start) hp _ (hlen ▸ hp)]
    refine ⟨State.ringOn_ringStarted _, ?_, fun q hq => State.ring_ringStarted_other (s := s.start) hp _ hq⟩
    simp only [Ring.enabled, if_neg hpos.ne', hfetching']
    rfl
  case reports =>
    have hp : 0 < 64 := by decide
    have hcq : RingSizeOk (s.start.fld (ringReg 0 8) 3 0) := ⟨hcq6, hcq12⟩
    have hlen' : 0 < s.start.rings.length := hlen ▸ hp
    have hlen1 : 0 < (s.start.ringStarted 0 (d ||| 1#32)).rings.length := by
      rw [State.rings_ringStarted hp, modAt_length]
      exact hlen'
    have hsize : 1 < s.start.cqSize 0 := Nat.one_lt_two_pow (show s.fld (ringReg 0 8) 3 0 ≠ 0 by omega)
    have hroom := State.eventRoom_ringStarted (s := s.start) hlen' hsize (d ||| 1#32)
    have hring := State.ring_ringStarted (s := s.start) hp (d ||| 1#32) hlen'
    have hlost' : ((s.start.ringStarted 0 (d ||| 1#32)).ring 0).sqCi = n := by rw [hring]; exact hlost
    rw [State.enableRing_starts hp _ (.inl rfl) hcq, if_pos rfl]
    refine ⟨?_, State.sqCi_flushLost (hlost' ▸ hsome) hroom hlen1, ?_⟩
    · rw [State.ringOn_flushLost (hlost' ▸ hsome) hroom, State.ringOn_ringStarted]
    · rw [State.out_flushLost (hlost' ▸ hsome) hroom hlen1 (by rw [hring]; nofun), hlost', hring, Ring.phased_enabled,
        Ring.cqPi_enabled, Nat.mul_zero, Nat.add_zero, State.ringBase_ringStarted hp, State.out_ringStarted hp,
        State.reqSeq_ringStarted hp, State.now_ringStarted hp]
      rfl
  case refused =>
    have hlen' : p < (s.start.ctlWritten p (d ||| 1#32)).rings.length := by rw [State.rings_ctlWritten hp]; exact hlen ▸ hp
    have hoff : s.ringOn p = false := by
      simp only [State.ringActive, Bool.or_eq_false_iff] at hrest
      obtain ⟨⟨hoff, _⟩, _⟩ := hrest
      exact hoff
    have hcq : ¬ RingSizeOk (s.start.fld (ringReg p 8) 3 0) := fun ⟨h6, h12⟩ => hbad.elim (Nat.not_lt.mpr h6) (Nat.not_lt.mpr h12)
    rw [State.enableRing_refused hp _ hcq, State.ringOn_modRing, State.ringOn_ctlWritten hp, State.ring_modRing_same _ _ hlen']
    exact ⟨hoff, rfl⟩

end Sys2Proof.Machine

/-! # Proofs: the bytes of a flit (chapter 8) -/

namespace Sys2Proof.Machine

/-! ## CRC-32C (R270) -/

section
variable {poly w : Nat} (hpoly : poly < 2 ^ w)
include hpoly

/-- A register of `w` bits stays within them. -/
theorem crcShift_lt {r : Nat} (n : Nat) (hr : r < 2 ^ w) : crcShift poly n r < 2 ^ w := by
  induction n generalizing r with
  | zero => exact hr
  | succ n ih =>
    have hhalf : r >>> 1 < 2 ^ w := (Nat.shiftRight_le r 1).trans_lt hr
    rw [crcShift]
    split
    · exact ih (Nat.xor_lt_two_pow hhalf hpoly)
    · exact ih hhalf

theorem crcBytes_lt {r : Nat} (hw : 8 ≤ w) (hr : r < 2 ^ w) (bs : List Byte) : crcBytes poly r bs < 2 ^ w := by
  induction bs generalizing r with
  | nil => exact hr
  | cons b bs ih =>
    have hb : b.toNat < 2 ^ w := b.isLt.trans_le (Nat.pow_le_pow_right Nat.two_pos hw)
    exact ih (crcShift_lt hpoly 8 (Nat.xor_lt_two_pow hr hb))

end

theorem crc32c_lt (bs : List Byte) : crc32c bs < 2 ^ 32 :=
  Nat.xor_lt_two_pow (crcBytes_lt (by decide) (by decide) (by decide) bs) (by decide)

/-! ## The trailer (R268 to R270) -/

/-- What a flit's bytes 248 to 251 spell. -/
def trailerWord (seq ack type : Nat) : Nat := seq + ack * 4096 + type * 2 ^ 24

theorem wholeFlit_eq (body : List Byte) (seq ack type : Nat) : wholeFlit body seq ack type =
    body ++ (toLe 4 (trailerWord seq ack type) ++ toLe 4 (crc32c (body ++ toLe 4 (trailerWord seq ack type)))) :=
  List.append_assoc _ _ _

section
variable {body : List Byte} (hbody : body.length = 248) (seq ack type : Nat)
include hbody

theorem wholeFlit_length : (wholeFlit body seq ack type).length = 256 := by
  simp [wholeFlit_eq, toLe_length, hbody]

theorem wholeFlit_take : (wholeFlit body seq ack type).take 248 = body := by
  rw [wholeFlit_eq, List.take_left' hbody]

theorem crcOk_wholeFlit : crcOk (wholeFlit body seq ack type) = true := by
  have hcovered : (body ++ toLe 4 (trailerWord seq ack type)).length = 252 := by simp [hbody, toLe_length]
  have hcrc := field_toLe (body ++ toLe 4 (trailerWord seq ack type)) [] 4 (crc32c (body ++ toLe 4 (trailerWord seq ack type)))
  rw [hcovered, List.append_nil, Nat.mod_eq_of_lt (crc32c_lt _)] at hcrc
  rw [crcOk, wholeFlit_length hbody, wholeFlit_eq, ← List.append_assoc, List.take_left' hcovered, hcrc]
  simp

variable {seq ack type}

theorem flitTrailer_wholeFlit (hseq : seq < 4096) (hack : ack < 4096) (htype : type < 4) :
    flitTrailer (wholeFlit body seq ack type) = (seq, ack, type) := by
  have hword : field (wholeFlit body seq ack type) 248 4 = trailerWord seq ack type := by
    have hfield := field_toLe body (toLe 4 (crc32c (body ++ toLe 4 (trailerWord seq ack type)))) 4 (trailerWord seq ack type)
    rwa [hbody, ← wholeFlit_eq, Nat.mod_eq_of_lt (by unfold trailerWord; omega)] at hfield
  simp only [flitTrailer, hword, trailerWord, bits, Nat.shiftRight_eq_div_pow, Prod.mk.injEq]
  omega

end

/-! ## The header (R264, R265) -/

/-- What a flit's bytes 0 to 7 spell, field by field from the lowest, with the credit return (stream, cells, pairs). -/
def headerWord (f : FlitOut) (stream cells pairs row : Nat) : Nat :=
  f.type + f.cls * 2 ^ 4 + f.stream * 2 ^ 7 + f.payload.length * 2 ^ 19 + b2n f.first * 2 ^ 27 + b2n f.last * 2 ^ 28
    + b2n f.abort * 2 ^ 29 + b2n true * 2 ^ 30 + stream * 2 ^ 31 + cells * 2 ^ 43 + pairs * 2 ^ 50 + row * 2 ^ 52

theorem flitBody_eq (f : FlitOut) (stream cells pairs row : Nat) :
    flitBody f (some (stream, cells, pairs)) row = toLe 8 (headerWord f stream cells pairs row) ++ padTo 240 f.payload := rfl

/-- Each field of the header lies within its bits. -/
structure HeaderFits (f : FlitOut) (stream cells pairs row : Nat) : Prop where
  type_lt     : f.type < 16
  cls_lt      : f.cls < 8
  stream_lt   : f.stream < 4096
  payload_le  : f.payload.length ≤ 240
  crStream_lt : stream < 4096
  crCells_lt  : cells < 128
  crPairs_lt  : pairs < 4
  row_lt      : row < 4096

theorem bits_eq_div_mod (v hi lo : Nat) : bits v hi lo = v / 2 ^ lo % 2 ^ (hi - lo + 1) := by
  rw [bits, Nat.shiftRight_eq_div_pow]

/-- A bit that holds a flag reads as the flag. -/
theorem bit_of_div_mod {v i : Nat} {b : Bool} (h : v / 2 ^ i % 2 = b2n b) : bit v i = b := by
  rw [bit, Nat.testBit_eq_decide_div_mod_eq, h]
  cases b <;> rfl

theorem padTo_take_length {k : Nat} {bs : List Byte} (h : bs.length ≤ k) : (padTo k bs).take bs.length = bs := by
  rw [padTo, List.take_take, Nat.min_eq_left h, List.take_left]

section
variable {f : FlitOut} {stream cells pairs row : Nat}

theorem drop_flitBody : (flitBody f (some (stream, cells, pairs)) row).drop 8 = padTo 240 f.payload :=
  List.drop_left' (toLe_length 8 _)

theorem flitBody_length : (flitBody f (some (stream, cells, pairs)) row).length = 248 := by
  simp [flitBody_eq, toLe_length, padTo_length]

namespace HeaderFits
variable (h : HeaderFits f stream cells pairs row)
include h

theorem fWord_flitBody : fWord (flitBody f (some (stream, cells, pairs)) row) = headerWord f stream cells pairs row := by
  obtain ⟨htype, hcls, hstream, hpayload, hcrStream, hcells, hpairs, hrow⟩ := h
  have hfirst := b2n_lt f.first
  have hlast := b2n_lt f.last
  have habort := b2n_lt f.abort
  have hflag := b2n_lt true
  have hlt : headerWord f stream cells pairs row < 2 ^ 64 := by unfold headerWord; omega
  exact (field_toLe [] _ 8 _).trans (Nat.mod_eq_of_lt hlt)

/-- The header reads field by field as it was made. -/
theorem fields_flitBody {b : List Byte} (hb : b = flitBody f (some (stream, cells, pairs)) row) :
    fType b = f.type ∧ fClass b = f.cls ∧ fStream b = f.stream ∧ fValid b = f.payload.length ∧ fFirst b = f.first ∧ fLast b = f.last ∧
      fAbort b = f.abort ∧ fCrValid b = true ∧ fCrStream b = stream ∧ fCrCells b = cells ∧ fCrPairs b = pairs ∧ fRow b = row := by
  have hword := h.fWord_flitBody
  obtain ⟨htype, hcls, hstream, hpayload, hcrStream, hcells, hpairs, hrow⟩ := h
  have hfirst := b2n_lt f.first
  have hlast := b2n_lt f.last
  have habort := b2n_lt f.abort
  have hflag := b2n_lt true
  subst hb
  simp only [fType, fClass, fStream, fValid, fFirst, fLast, fAbort, fCrValid, fCrStream, fCrCells, fCrPairs, fRow, hword,
    bits_eq_div_mod, headerWord]
  refine ⟨?_, ?_, ?_, ?_, bit_of_div_mod ?_, bit_of_div_mod ?_, bit_of_div_mod ?_, bit_of_div_mod ?_, ?_, ?_, ?_, ?_⟩ <;> omega

theorem fPayload_flitBody : fPayload (flitBody f (some (stream, cells, pairs)) row) = f.payload := by
  obtain ⟨-, -, -, hvalid, -⟩ := h.fields_flitBody rfl
  rw [fPayload, slice, hvalid, drop_flitBody, padTo_take_length h.payload_le]

end HeaderFits

end

/-- Settles O58: the trailer and the header each spell a word whose fields do not overlap, and a CRC of 32 bits fits its four bytes. -/
theorem flitsCarryTheirFields : Obligations.FlitsCarryTheirFields := by
  unfold Obligations.FlitsCarryTheirFields
  refine ⟨fun body seq ack type hbody hseq hack htype => ?whole,
    fun f stream cells pairs row b htype hcls hstream hpayload hcrStream hcells hpairs hrow hb => ?body⟩
  case whole =>
    exact ⟨wholeFlit_length hbody seq ack type, crcOk_wholeFlit hbody seq ack type, flitTrailer_wholeFlit hbody hseq hack htype,
      wholeFlit_take hbody seq ack type⟩
  case body =>
    have hfits : HeaderFits f stream cells pairs row := ⟨htype, hcls, hstream, hpayload, hcrStream, hcells, hpairs, hrow⟩
    obtain ⟨hType, hClass, hStream, -, hFirst, hLast, hAbort, hcredit⟩ := hfits.fields_flitBody hb
    subst hb
    exact ⟨flitBody_length, drop_flitBody, hType, hClass, hStream, hFirst, hLast, hAbort, hfits.fPayload_flitBody, hcredit⟩

end Sys2Proof.Machine

/-! # Proofs: flits are received (chapter 8) -/

namespace Sys2Proof.Machine

/-! ## What a strand that receives makes of a flit (R278, R281, R290) -/

/-- Strand `i` takes flits under the rules of the link layer, no injection is armed, and no XREPLAY waits to be acted on first. -/
structure State.Receives (s : State) (i : Nat) : Prop where
  notHeld   : s.linkHeld = false
  live      : s.linkLive i = true
  unarmed   : s.inj.armed = false
  noXreplay : ∀ m ∈ s.linkMsgs, m.2.1 ≠ 1

/-- Starting a command changes nothing that receiving depends on. -/
theorem State.Receives.start {s : State} {i : Nat} (h : s.Receives i) : s.start.Receives i :=
  ⟨h.notHeld, h.live, h.unarmed, h.noXreplay⟩

theorem State.pendingXreplay_of_none {s : State} (h : ∀ m ∈ s.linkMsgs, m.2.1 ≠ 1) : s.pendingXreplay = s := by
  have hnone : s.linkMsgs.filter (fun m => m.2.1 == 1) = [] := List.filter_eq_nil_iff.mpr (by simpa using h)
  have hall : s.linkMsgs.filter (fun m => m.2.1 != 1) = s.linkMsgs := List.filter_eq_self.mpr (by simpa using h)
  rw [State.pendingXreplay, hnone, hall, forEach_nil]

/-- Nothing acts between a flit's arrival and the test of its CRC. -/
theorem State.Receives.fire_pendingXreplay {s : State} {i : Nat} (h : s.Receives i) : s.pendingXreplay.fire 0x0E i = (false, s) := by
  rw [State.pendingXreplay_of_none h.noXreplay, State.fire_unarmed _ _ _ h.unarmed]

section
variable {s : State} {i : Nat}

theorem exec_flitAccept (hcfg : s.cfgUp = true) (hi : i < s.build.strands) (flit : List Byte) :
    exec (.flitAccept i flit) s = .next (s.start.finish (s.start.flitAccept i (padTo 256 flit))) :=
  (named_present _ _ _ hi).trans (runUp_up _ s hcfg)

theorem exec_replaySlot (hcfg : s.cfgUp = true) (hi : i < s.build.strands) (flit : List Byte) :
    exec (.replaySlot i flit) s = .next (s.start.finish (s.start.replaySlot i (padTo 256 flit))) :=
  (named_present _ _ _ hi).trans (runUp_up _ s hcfg)

theorem exec_ackTimeout (hcfg : s.cfgUp = true) (hi : i < s.build.strands) :
    exec (.ackTimeout i) s = .next (s.start.finish (s.start.ackTimeout i)) :=
  (named_present _ _ _ hi).trans (runUp_up _ s hcfg)

section
variable {b : List Byte} (h : s.Receives i)
include h

section
variable (hfull : (s.strand i).state ≠ .bisque)
include hfull

/-- Outside a replay slot's discarding, a flit that fails its CRC begins one. -/
theorem State.flitAccept_of_crcBad (hdiscard : (s.strand i).link.discard = none) (hcrc : crcOk b = false) :
    s.flitAccept i b = s.crcFail i false := by
  simp [State.flitAccept, h.notHeld, h.live, hfull, h.fire_pendingXreplay, hdiscard, hcrc]

theorem State.flitAccept_of_crcOk (hcrc : crcOk b = true) : s.flitAccept i b = s.passingFlit i b := by
  simp [State.flitAccept, h.notHeld, h.live, hfull, h.fire_pendingXreplay, hcrc]

end

section
variable {d : Nat} (hdiscard : (s.strand i).link.discard = some d)
include hdiscard

theorem State.replaySlot_of_crcBad (hcrc : crcOk b = false) : s.replaySlot i b = s.crcFail i false := by
  simp [State.replaySlot, h.notHeld, h.live, h.fire_pendingXreplay, hdiscard, hcrc]

/-- The flit that the replay slot waits for ends the discarding and is taken. -/
theorem State.replaySlot_of_expected (hcrc : crcOk b = true) (hseq : (flitTrailer b).1 = (s.strand i).link.rxSeq) :
    s.replaySlot i b = (s.modLink i (fun (l : Link) => { l with discard := none })).passingFlit i b := by
  simp [State.replaySlot, h.notHeld, h.live, h.fire_pendingXreplay, hdiscard, hcrc, hseq]

/-- Another passing flit has its acknowledgement applied, and asks again. -/
theorem State.replaySlot_of_other {seq ack kind : Nat} (hcrc : crcOk b = true) (htrailer : flitTrailer b = (seq, ack, kind))
    (hseq : seq ≠ (s.strand i).link.rxSeq) : s.replaySlot i b = (s.applyAck i ack kind).modLink i (fun (l : Link) => { l with
      nakDue := true, discard := some (s.lclk + s.allowance) }) := by
  simp [State.replaySlot, h.notHeld, h.live, h.fire_pendingXreplay, hdiscard, hcrc, htrailer, hseq]

end

end

theorem State.ackTimeout_exhausts (hheld : s.linkHeld = false) (hreplay : (s.strand i).link.replay ≠ [])
    (hwait : (s.strand i).link.waitMode = false) : s.ackTimeout i = s.exhaust i false := by
  simp [State.ackTimeout, hheld, hreplay, hwait]

end

/-! ## A passing flit (R278, R279) -/

section
variable {s v : State} {i seq ack kind : Nat} {b : List Byte} (htrailer : flitTrailer b = (seq, ack, kind))
  (hack : s.applyAck i ack kind = v) (hdiscard : (v.strand i).link.discard = none)
include htrailer hack hdiscard

theorem State.passingFlit_sequenced (htype : fType b ≠ 0) :
    s.passingFlit i b = if seq = (v.strand i).link.rxSeq then v.acceptFlit i seq (b.take 248) else v := by
  simp [State.passingFlit, htrailer, hack, hdiscard, htype]

theorem State.passingFlit_grog (htype : fType b = 0) (hseq : seq = (v.strand i).link.rxSeq) (hlayout : layoutOk b = true) :
    s.passingFlit i b = v.noteRow i (rowNear ((v.strand i).link.mark.getD v.lclk) (fRow b)) := by
  simp [State.passingFlit, htrailer, hack, hdiscard, htype, hseq, hlayout]

/-- A GROG flit with another SEQ than the expected one shows that a flit was lost. -/
theorem State.passingFlit_lost (htype : fType b = 0) (hseq : seq ≠ (v.strand i).link.rxSeq) : s.passingFlit i b = v.crcFail i false := by
  simp [State.passingFlit, htrailer, hack, hdiscard, htype, hseq]

end

/-! ## Acknowledgements (R278, R280, R282, R283, R286) -/

/-- A strand's link once an acknowledgement has named `n` flits of its replay buffer as accepted. -/
def Link.freed (l : Link) (n : Nat) : Link :=
  { l with
    replay := l.replay.drop n, resend := min l.resend (l.replay.drop n).length, nakCount := if n = 0 then l.nakCount else 0 }

/-- The NAKs decoded for a first-failing SEQ, with one more (R286). -/
def Link.naksFor (l : Link) (first : Nat) : Nat := if l.nakCount != 0 && l.nakSeq == first then l.nakCount + 1 else 1

theorem Link.naksFor_eq (l : Link) (first : Nat) :
    l.naksFor first = if l.nakCount ≠ 0 ∧ l.nakSeq = first then l.nakCount + 1 else 1 := by
  simp [Link.naksFor]

section
variable {s : State} {i ack : Nat} (kind : Nat) (hunarmed : s.inj.armed = false)
include hunarmed

/-- An acknowledgement that names no flit which it may name is counted and reported. -/
theorem State.applyAck_invalid (hacked : (s.strand i).link.ackedBy ack = none) : s.applyAck i ack kind = s.ackInvalid i false := by
  simp [State.applyAck, State.fire_unarmed _ _ _ hunarmed, hacked]

/-- One that names `n` flits frees them, and acts by its ACK_TYPE on the link that is left: 2 is a NAK, 3 a WAIT. A NAK that
leaves nothing to send again ends a WAIT and does no more (log entry 41, the model's choice). -/
theorem State.applyAck_valid {n : Nat} {m : Link} (hacked : (s.strand i).link.ackedBy ack = some n)
    (hm : (s.strand i).link.freed n = m) : s.applyAck i ack kind =
      if kind = 2 then
        if m.replay.isEmpty then s.modLink i (fun _ => { m with waitMode := false })
        else if 3 ≤ m.naksFor ((ack + 1) % 4096) then
          (s.modLink i (fun _ => { m with
            nakSeq := (ack + 1) % 4096, nakCount := m.naksFor ((ack + 1) % 4096), waitMode := false })).exhaust i false
        else s.modLink i (fun _ => { m with
          nakSeq := (ack + 1) % 4096, nakCount := m.naksFor ((ack + 1) % 4096), waitMode := false, resend := m.replay.length,
          replays := satAdd 16 m.replays 1 })
      else if kind = 3 then s.modLink i (fun _ => { m with waitMode := true })
      else if m.waitMode then s.modLink i (fun _ => { m with waitMode := false, resend := m.replay.length })
      else s.modLink i (fun _ => m) := by
  subst hm
  simp only [State.applyAck, State.fire_unarmed _ _ _ hunarmed, hacked, Bool.false_eq_true, if_false]
  rfl

end

/-- Settles O41: each flit by its CRC, its acknowledgement and its SEQ, each acknowledgement by the flits that it names. -/
theorem flitsAreReceived : Obligations.FlitsAreReceived := by
  unfold Obligations.FlitsAreReceived
  refine ⟨fun s i flit hcfg hi hheld hlive hfull hunarmed hnone hdiscard => ?accept,
    fun s i ack kind n l m hunarmed hl => ⟨fun hacked => ?invalid, fun hacked hm => ?valid⟩,
    fun s i d flit hcfg hi hheld hlive hunarmed hnone hdiscard => ?slot,
    fun s i hcfg hi hheld hreplay hwait => ?timeout⟩
  case accept =>
    have hrec : s.start.Receives i := State.Receives.start ⟨hheld, hlive, hunarmed, hnone⟩
    rw [exec_flitAccept hcfg hi]
    refine ⟨fun hcrc => ?bad, fun b seq ack kind row v hb hcrc htrailer hack hpast hrow => ?passing⟩
    case bad => rw [State.flitAccept_of_crcBad hrec hfull hdiscard hcrc]
    case passing =>
      subst hb hrow
      rw [State.flitAccept_of_crcOk hrec hfull hcrc]
      refine ⟨fun htype hseq => ?_, fun htype hseq => ?_, fun htype hseq hlayout => ?_, fun htype hseq => ?_⟩
      · rw [State.passingFlit_sequenced htrailer hack hpast htype, if_pos hseq]
      · rw [State.passingFlit_sequenced htrailer hack hpast htype, if_neg hseq]
      · rw [State.passingFlit_grog htrailer hack hpast htype hseq hlayout]
      · rw [State.passingFlit_lost htrailer hack hpast htype hseq]
  case invalid => exact State.applyAck_invalid kind hunarmed (hl ▸ hacked)
  case valid =>
    subst hl
    have hfreed : (s.strand i).link.freed n = m := by rw [← hm, Link.freed, List.length_drop]
    have hmode : m.waitMode = (s.strand i).link.waitMode := by rw [← hfreed]; rfl
    rw [State.applyAck_valid kind hunarmed hacked hfreed]
    refine ⟨fun hkind hwait => ?ack, fun hkind hwait => ?resume, fun hkind => ?wait, fun hkind hkept => ?nothing,
      fun first count hkind hkept hfirst hcount => ?nak⟩
    case ack => rw [if_neg (by omega), if_neg (by omega), hmode, hwait]; rfl
    case resume => rw [if_neg (by omega), if_neg (by omega), hmode, hwait]; rfl
    case wait => rw [hkind]; rfl
    case nothing => rw [if_pos hkind, hkept]; rfl
    case nak =>
      rw [← Link.naksFor_eq] at hcount
      subst hfirst hcount
      rw [if_pos hkind, if_neg (by simpa using hkept)]
      exact ⟨fun hfew => if_neg (by omega), fun hthird => if_pos hthird⟩
  case slot =>
    have hrec : s.start.Receives i := State.Receives.start ⟨hheld, hlive, hunarmed, hnone⟩
    rw [exec_replaySlot hcfg hi]
    refine ⟨fun hcrc => ?_, fun hcrc hseq => ?_, fun seq ack kind hcrc htrailer hseq => ?_⟩
    · rw [State.replaySlot_of_crcBad hrec hdiscard hcrc]
    · rw [State.replaySlot_of_expected hrec hdiscard hcrc hseq]
    · rw [State.replaySlot_of_other hrec hdiscard hcrc htrailer hseq]; rfl
  case timeout => rw [exec_ackTimeout hcfg hi, State.ackTimeout_exhausts (s := s.start) hheld hreplay hwait]

end Sys2Proof.Machine

/-! # Proofs: link-control messages, the merge and the lock-step release (chapter 8) -/

namespace Sys2Proof.Machine

/-! ## Link-control messages (R288, R291) -/

/-- The block as a command that takes the front link-control message sees it. -/
def State.heeding (s : State) (rest : List (Nat × Nat × List Byte)) : State := { s.start with linkMsgs := rest }

section
variable {s : State} {k : Nat} {body : List Byte} {rest : List (Nat × Nat × List Byte)} (hcfg : s.cfgUp = true)
include hcfg

theorem runUp_takeLink {type : Nat} (hfront : s.linkMsgs = (k, type, body) :: rest) (run : Nat → List Byte → State → State) :
    runUp (fun s => s.takeLink type run) s = .next (s.start.finish (run k body (s.heeding rest))) := by
  rw [runUp_up _ s hcfg, State.takeLink_front s.start type k body rest run hfront]
  rfl

theorem exec_xreplay (hfront : s.linkMsgs = (k, 1, body) :: rest) :
    exec .xreplay s = .next (s.start.finish ((s.heeding rest).xreplayMsg body)) :=
  runUp_takeLink hcfg hfront (fun _ b s => s.xreplayMsg b)

theorem exec_serviceMessage (hfront : s.linkMsgs = (k, 2, body) :: rest) :
    exec .serviceMessage s = .next (s.start.finish ((s.heeding rest).serviceMsg (byteAt body 0) (bit (byteAt body 1) 0)
      (bits (byteAt body 1) 2 1) (field body 2 2 % 4096))) :=
  runUp_takeLink hcfg hfront (fun _ b s => s.serviceMsg (byteAt b 0) (bit (byteAt b 1) 0) (bits (byteAt b 1) 2 1) (field b 2 2 % 4096))

end

/-- A join that the peer's message meets is one that the peer has named. -/
theorem theirs_meetSvc (own : Option Svc) (row reason : Nat) : (meetSvc own row reason true).1.theirs = true := by
  cases own with
  | none => rfl
  | some v =>
    simp only [meetSvc, Bool.not_true, Bool.false_eq_true, and_false, if_false]
    split
    next h => exact h.1
    next => rfl

/-- Sending the message of a join keeps its boundary and who has named it, whatever way the message travels. -/
theorem State.join_sendSvc {s : State} {i : Nat} {v : Svc} (w : Svc) (hi : i < s.strands.length) (hjoin : (s.strand i).join = some v) :
    ∃ v', ((s.sendSvc i true w).strand i).join = some v' ∧ v'.row = v.row ∧ v'.theirs = v.theirs := by
  unfold State.sendSvc
  split
  case isTrue =>
    refine ⟨{ v with side := true }, ?_, rfl, rfl⟩
    rw [State.strand_modStrand_same (s.sendFrame _ _) i _ hi, if_pos rfl]
    exact congrArg (Option.map fun w => { w with side := true }) hjoin
  case isFalse => exact ⟨v, hjoin, rfl, rfl⟩

/-- A SERVICE join of a strand out of service is met by what this side holds for it. -/
theorem State.serviceMsg_join {s : State} {i row b : Nat} (reason : Nat) (hi : i < s.build.strands) (hshard : (s.strand i).state ≠ .shard)
    (hservice : (s.strand i).service = false) (hrow : s.rowBoundary row = some b) : s.serviceMsg i true reason row =
      if (meetSvc (s.strand i).join b 0 true).2 then
        (s.modStrand i (fun y => { y with join := some (meetSvc (s.strand i).join b 0 true).1 })).sendSvc i true
          (meetSvc (s.strand i).join b 0 true).1
      else s.modStrand i (fun y => { y with join := some (meetSvc (s.strand i).join b 0 true).1 }) := by
  simp [State.serviceMsg, hrow, hshard, hservice, Nat.not_le.mpr hi]

/-- After such a join the strand waits for the boundary that the two sides' messages agree on. -/
theorem State.join_serviceMsg {s : State} {i row b : Nat} (reason : Nat) (hi : i < s.build.strands) (hlen : i < s.strands.length)
    (hshard : (s.strand i).state ≠ .shard) (hservice : (s.strand i).service = false) (hrow : s.rowBoundary row = some b) :
    ∃ v, ((s.serviceMsg i true reason row).strand i).join = some v ∧ v.row = (meetSvc (s.strand i).join b 0 true).1.row ∧
      v.theirs = true := by
  rw [State.serviceMsg_join reason hi hshard hservice hrow]
  have htheirs := theirs_meetSvc (s.strand i).join b 0
  generalize meetSvc (s.strand i).join b 0 true = r at htheirs ⊢
  have hjoin : ((s.modStrand i (fun y => { y with join := some r.1 })).strand i).join = some r.1 := by
    rw [State.strand_modStrand_same _ _ _ hlen]
  split
  case isTrue =>
    have hlen' : i < (s.modStrand i (fun y => { y with join := some r.1 })).strands.length := by
      rwa [State.modStrand_strands, modAt_length]
    obtain ⟨v, hv, hvrow, hvtheirs⟩ := State.join_sendSvc r.1 hlen' hjoin
    exact ⟨v, hv, hvrow, hvtheirs.trans htheirs⟩
  case isFalse => exact ⟨r.1, hjoin, rfl, htheirs⟩

/-! ## One held flit (R276, R316) -/

theorem modAt_id {α : Type} (i : Nat) (l : List α) : modAt (fun a => a) i l = l := by
  refine List.ext_getElem? fun k => ?_
  rw [modAt_getElem?, Option.map_id']
  exact ite_self _

/-- A change of a link that leaves every link as it is changes nothing. -/
theorem State.modLink_self (s : State) (i : Nat) {f : Link → Link} (h : ∀ x, f x = x) : s.modLink i f = s := by
  have hstrand : (fun (x : Strand) => { x with link := f x.link }) = fun x => x := funext fun x => by rw [h]
  rw [State.modLink, State.modStrand, hstrand, modAt_id]

section
variable {s : State} {i : Nat} {f : HeldFlit} (hheld : s.heldFlits = [(i, f)])
include hheld

/-- The merge passes on a flit that is not in lock-step if every watermark has reached its ROW. -/
theorem State.mergeRelease_single (hfree : s.lockStep f = false) : s.mergeRelease =
    if (List.range s.build.strands).all (s.reached f.row) then s.release i f else s := by
  rw [State.mergeRelease, hheld, State.mergeList, hfree]
  simp [State.mergeList]

/-- A flit in lock-step whose set's watermarks had all reached its ROW in time leaves in its release row. -/
theorem State.fRelease_single {r : Nat} (hlock : s.lockStep f = true)
    (hreached : (s.lockSet (fStream f.body)).all (s.reached f.row) = true) (hready : f.ready = some r)
    (hdue : s.lclk = f.row + s.releaseK) : s.fRelease = s.release i f := by
  have hbehind : (s.lockSet (fStream f.body)).filter (fun j => !s.reached f.row j) = [] := by
    simpa [List.filter_eq_nil_iff] using hreached
  have hkept : s.modLink i (fun (x : Link) => { x with queue := x.queue.map (fun g => if g = f then f else g) }) = s := by
    refine State.modLink_self s i fun x => ?_
    rw [List.map_id'' fun g => ite_eq_right_iff.mpr Eq.symm]
  obtain ⟨row, body, carried, ready, behind, fault⟩ := f
  subst hready
  rw [State.fRelease, hheld, State.lockList]
  simp [hlock, hbehind, hkept, hdue, State.lockList]

end

/-- Settles O42: each message by what it finds of its strand, each held flit by the watermarks that it waits for. -/
theorem messagesAndMerge : Obligations.MessagesAndMerge := by
  unfold Obligations.MessagesAndMerge
  refine ⟨fun s k body rest hcfg hfront => exec_xreplay hcfg hfront,
    fun s k i b body rest r hcfg hfront hname hi hlen hshard hservice hjoin hrow hmeet => ?service,
    fun s i f hcfg hheld hfree => ?merge, fun s i r f hcfg hheld hlock hreached hready hdue => ?lockStep⟩
  case service =>
    subst hmeet
    obtain ⟨v, hv⟩ := State.join_serviceMsg (s := s.heeding rest) (bits (byteAt body 1) 2 1) hi hlen hshard hservice hrow
    refine ⟨_, v, exec_serviceMessage hcfg hfront, ?_⟩
    rw [hname, hjoin]
    exact hv
  case merge => exact (runUp_up _ s hcfg).trans (by rw [State.mergeRelease_single (s := s.start) hheld hfree]; rfl)
  case lockStep =>
    exact (runUp_up _ s hcfg).trans (by rw [State.fRelease_single (s := s.start) hheld hlock hreached hready hdue])

end Sys2Proof.Machine

/-! # Proofs: raised codes make and update records (chapter 15) -/

namespace Sys2Proof.Machine

/-! ## What keeps the records and the summary -/

/-- `t` has the records and the summary bits (R553) of `s`. -/
structure State.SameLog (s t : State) : Prop where
  records : t.kiln.records = s.kiln.records
  summary : ∀ i, t.flag 0x3804 i = s.flag 0x3804 i

namespace State.SameLog
variable {s t u : State}

theorem refl (s : State) : s.SameLog s := ⟨rfl, fun _ => rfl⟩

theorem trans (h : s.SameLog t) (h' : t.SameLog u) : s.SameLog u :=
  ⟨h'.records.trans h.records, fun i => (h'.summary i).trans (h.summary i)⟩

theorem ite {c : Prop} [Decidable c] (ht : s.SameLog t) (hu : s.SameLog u) : s.SameLog (if c then t else u) := by
  split <;> assumption

/-- A change elsewhere than in the records and in what a register bit is read from. -/
theorem same (hrec : t.kiln.records = s.kiln.records := by rfl) (hregs : t.regs = s.regs := by rfl) (hbuild : t.build = s.build := by rfl)
    (hstraps : t.straps = s.straps := by rfl) : s.SameLog t :=
  ⟨hrec, State.flag_congr hregs hbuild hstraps 0x3804⟩

theorem nvWriteBytes (s : State) (addr : Nat) (bs : List Byte) (use : Bool → NvUse) : s.SameLog (s.nvWriteBytes addr bs use) := by
  unfold State.nvWriteBytes
  exact State.foldl_fst_keeps s.SameLog (fun _ _ h => h.trans same) (refl s)

theorem writeLogImage (s : State) : s.SameLog s.writeLogImage :=
  .ite same (.trans same (nvWriteBytes _ _ _ _))

theorem postNow (s : State) (event unit code : Nat) (data : List Byte) : s.SameLog (s.postNow event unit code data) := by
  have h := (State.AsButEntries.refl s).postNow event unit code data
  unfold State.AsButEntries at h
  rw [h]
  exact same

/-- A new record of class F is followed by the log image (R556), and one whose class is reported by its event (R554). -/
theorem imageThenPost {c d : Prop} [Decidable c] [Decidable d] (s : State) (event unit code : Nat) (data : List Byte) :
    s.SameLog (if d then (if c then s.writeLogImage else s).postNow event unit code data else if c then s.writeLogImage else s) := by
  have hc : s.SameLog (if c then s.writeLogImage else s) := .ite (writeLogImage s) (refl s)
  exact .ite (hc.trans (postNow _ _ _ _ _)) hc

end State.SameLog

/-! ## The summary (R553) -/

/-- The class bit and the family bit of a raised code are set. -/
def State.summarised (s : State) (code : Nat) : State := (s.sticky 0x3804 (codeClass code)).sticky 0x3804 (15 + code / 256)

theorem codeClass_le (code : Nat) : codeClass code ≤ 3 := by
  unfold codeClass
  cases h : codeTable.find? (fun p => p.1 == code) with
  | none => exact Nat.zero_le 3
  | some p => exact (by decide +kernel : ∀ p ∈ codeTable, p.2.1 ≤ 3) p (List.mem_of_find?_eq_some h)

/-- Logging a code takes nothing out of the summary that it has set. -/
theorem logOne_keeps_summary {byEscalation : Bool} {g : Logged} {r : Raised} {i : Nat}
    (h : (g.state.summarised r.code).flag 0x3804 i = true) : (logOne byEscalation g r).state.flag 0x3804 i = true := by
  unfold logOne
  extract_lets s cls kind safe parents parent nested outcome esc s1 k k1 link escs
  replace h : s1.flag 0x3804 i = true := h
  split
  · exact h
  · split
    · exact h
    · split
      · exact State.flag_sticky_mono _ _ h
      · extract_lets full freed k2 new s2 s3 s4 s5
        have h2 : s2.flag 0x3804 i = true := h
        have h3 : s3.flag 0x3804 i = true := by
          simp only [s3]
          split
          · exact State.flag_sticky_mono _ _ h2
          · exact h2
        have h5 : s3.SameLog s5 := .imageThenPost _ _ _ _ _
        exact (h5.summary i).trans h3

theorem logOne_sets_summary {byEscalation : Bool} {g : Logged} {r : Raised} (hcode : r.code < 0x1000) :
    (logOne byEscalation g r).state.flag 0x3804 (codeClass r.code) = true ∧
      (logOne byEscalation g r).state.flag 0x3804 (15 + r.code / 256) = true := by
  have hcls := codeClass_le r.code
  constructor <;> refine logOne_keeps_summary ?_ <;> unfold State.summarised
  · exact State.flag_sticky_mono _ _ (by rw [State.flag_sticky _ _ _ _ _ (by omega)]; simp)
  · rw [State.flag_sticky _ _ _ _ _ (by omega)]
    simp

/-! ## Records of a unit that is escalated (R551) -/

/-- A record once its unit, if it is this one, has been escalated. -/
def KilnRecord.escalatedWith (kind : UnitKind) (unit : Nat) (x : KilnRecord) : KilnRecord :=
  if x.isOpen && x.ofUnit kind unit then { x with escSeen := true } else x

/-- The log once a unit has been escalated. -/
def Kiln.escalate (k : Kiln) (kind : UnitKind) (unit : Nat) : Kiln :=
  { k with
    escalations := satAdd 8 k.escalations 1, frameEsc := k.frameEsc + 1,
    records := k.records.map (fun p => if p.2.isOpen && p.2.ofUnit kind unit then (p.1, { p.2 with escSeen := true }) else p) }

theorem KilnRecord.escalatedWith_frame (kind : UnitKind) (unit : Nat) (x : KilnRecord) :
    x.escalatedWith kind unit = { x with escSeen := (x.escalatedWith kind unit).escSeen } := by
  unfold KilnRecord.escalatedWith
  split <;> rfl

theorem Kiln.records_escalate (k : Kiln) (kind : UnitKind) (unit : Nat) :
    (k.escalate kind unit).records = k.records.map (fun p => (p.1, p.2.escalatedWith kind unit)) := by
  refine List.map_congr_left fun p _ => ?_
  unfold KilnRecord.escalatedWith
  split <;> rfl

theorem Kiln.find_escalate (k : Kiln) (kind : UnitKind) (unit : Nat) (r : Raised) :
    (k.escalate kind unit).find r = (k.find r).map (fun p => (p.1, p.2.escalatedWith kind unit)) := by
  rw [Kiln.find, Kiln.records_escalate, List.find?_map]
  refine congrArg _ (congrArg (fun f => List.find? f k.records) (funext fun p => ?_))
  rw [Function.comp_apply, KilnRecord.escalatedWith_frame]

theorem lookupKey_map {β γ : Type} (f : β → γ) (k : Nat) (l : List (Nat × β)) :
    lookupKey k (l.map (fun p => (p.1, f p.2))) = (lookupKey k l).map f := by
  induction l with
  | nil => rfl
  | cons p l ih =>
    simp only [List.map_cons, lookupKey, ih]
    split <;> rfl

/-- An escalation frees no record and makes none. -/
theorem Kiln.isSome_lookup_escalate (k : Kiln) (kind : UnitKind) (unit i : Nat) :
    (lookupKey i (k.escalate kind unit).records).isSome = (lookupKey i k.records).isSome := by
  rw [Kiln.records_escalate, lookupKey_map, Option.isSome_map]

/-! ## A record is updated -/

section
variable {byEscalation : Bool} {g : Logged} {r : Raised} {i : Nat}

theorem logOne_updates {old : KilnRecord} (hup : g.state.cfgUp = true) (hfind : g.state.kiln.find r = some (i, old)) :
    ∃ new, lookupKey i (logOne byEscalation g r).state.kiln.records = some new ∧ new.code = old.code ∧ new.unit = old.unit ∧
      new.first = old.first ∧ new.seq = old.seq ∧ new.last = g.state.now ∧ new.count = min (old.count + 1 + r.more) 65535 := by
  unfold logOne
  extract_lets s cls kind safe parents parent nested outcome esc s1 k k1 link escs
  have hkept : ∃ seen, k1.find r = some (i, { old with escSeen := seen }) := by
    have hk : k.find r = some (i, old) := hfind
    by_cases hesc : esc = true
    · have hk1 : k1 = k.escalate kind r.unit := if_pos hesc
      rw [hk1, Kiln.find_escalate, hk, Option.map_some, KilnRecord.escalatedWith_frame]
      exact ⟨_, rfl⟩
    · have hk1 : k1 = k := if_neg hesc
      exact ⟨old.escSeen, hk1 ▸ hk⟩
  obtain ⟨seen, hseen⟩ := hkept
  rw [if_neg (by simp [s, hup]), hseen]
  exact ⟨_, lookupKey_insertKey_same _ _ _, rfl, rfl, rfl, rfl, rfl, by simp [satAdd, Nat.add_assoc]⟩

/-! ## A record is made -/

/-- The lowest free index is the slot of a new record (R547). -/
theorem Kiln.slotFor_lowest {k : Kiln} (fatal : Bool) (parent : Option Nat) (hi : i < 64) (hfree : (lookupKey i k.records).isSome = false)
    (hlow : ∀ j < i, (lookupKey j k.records).isSome = true) : k.slotFor fatal parent = some i := by
  have hfind : (List.range 64).find? (fun j => (lookupKey j k.records).isNone) = some i := by
    simpa [Option.not_isSome_iff_eq_none.mp (ne_true_of_eq_false hfree), hi, List.find?_range_eq_some] using hlow
  rw [Kiln.slotFor, hfind]

theorem logOne_creates (hup : g.state.cfgUp = true) (hfind : g.state.kiln.find r = none) (hi : i < 64)
    (hfree : lookupKey i g.state.kiln.records = none) (hlow : ∀ j < i, (lookupKey j g.state.kiln.records).isSome = true) :
    ∃ new, lookupKey i (logOne byEscalation g r).state.kiln.records = some new ∧ new.code = r.code ∧ new.unit = r.unit ∧
      new.injected = r.injected ∧ new.data = r.data ∧ new.count = min (1 + r.more) 65535 ∧ new.first = g.state.now ∧
      new.last = g.state.now ∧ new.seq = g.state.kiln.nextSeq := by
  unfold logOne
  extract_lets s cls kind safe parents parent nested outcome esc s1 k k1 link escs
  have hk1 : k1.find r = none ∧ k1.nextSeq = k.nextSeq ∧ ∀ j, (lookupKey j k1.records).isSome = (lookupKey j k.records).isSome := by
    by_cases hesc : esc = true
    · have hk1 : k1 = k.escalate kind r.unit := if_pos hesc
      have hk : k.find r = none := hfind
      rw [hk1]
      exact ⟨by rw [Kiln.find_escalate, hk, Option.map_none], rfl, k.isSome_lookup_escalate kind r.unit⟩
    · have hk1 : k1 = k := if_neg hesc
      rw [hk1]
      exact ⟨hfind, rfl, fun _ => rfl⟩
  obtain ⟨hnone, hseq, hsome⟩ := hk1
  have hempty : (lookupKey i k1.records).isSome = false := (hsome i).trans (congrArg Option.isSome hfree)
  have hslot (parent) : k1.slotFor (cls == 3) parent = some i :=
    Kiln.slotFor_lowest _ _ hi hempty fun j hj => (hsome j).trans (hlow j hj)
  rw [if_neg (by simp [s, hup])]
  split
  · next j old hfound => simp [hnone] at hfound
  · split
    · next hlost => simp [hslot] at hlost
    · next j hj =>
      obtain rfl : i = j := Option.some.inj ((hslot _).symm.trans hj)
      extract_lets full freed k2 new s2 s3 s4 s5
      have hk2 : k2 = k1 := if_neg (by simp [full, hempty])
      have hs3 : s3 = s2 := if_neg (by simp [full, hempty])
      have hlog : s3.SameLog s5 := .imageThenPost _ _ _ _ _
      refine ⟨new, by rw [hlog.records, hs3]; exact lookupKey_insertKey_same _ _ _, rfl, rfl, rfl, rfl, rfl, rfl, rfl, ?_⟩
      exact (congrArg Kiln.nextSeq hk2).trans hseq

end

/-- Settles O60: the summary bits outlast the logging, and the code's record is the one that is found, or a new one in the lowest free
place. -/
theorem loggedCodesMakeOrUpdateRecords : Obligations.LoggedCodesMakeOrUpdateRecords := by
  unfold Obligations.LoggedCodesMakeOrUpdateRecords
  rintro s g r rfl hcode
  exact ⟨logOne_sets_summary hcode, fun hup i old hfind => logOne_updates hup hfind,
    fun hup hfind i hi hfree hlow => logOne_creates hup hfind hi hfree hlow⟩

end Sys2Proof.Machine

/-! # Proofs: fencing the streams leaves the strands

A strand in service that fails with no other to carry its flits fences every stream (R289). Nothing that a fence is made of reaches the
strands, which is said here once of each function of it. -/

namespace Sys2Proof.Machine

/-! ## Choices and loops -/

@[simp] theorem State.ite_strands {c : Prop} [Decidable c] {a b : State} : (if c then a else b).strands = if c then a.strands else b.strands :=
  apply_ite State.strands c a b

@[simp] theorem State.forEach_strands {β : Type} {l : List β} {f : β → State → State} {s : State} (hf : ∀ b x, (f b x).strands = x.strands) :
    (forEach l f s).strands = s.strands :=
  forEach_keeps (fun t => t.strands = s.strands) l f s (fun b x h => (hf b x).trans h) rfl

@[simp] theorem State.forRange_strands {n : Nat} {f : Nat → State → State} {s : State} (hf : ∀ i x, (f i x).strands = x.strands) :
    (forRange n f s).strands = s.strands :=
  forRange_keeps (fun t => t.strands = s.strands) n f s (fun b x h => (hf b x).trans h) rfl

section
variable {s : State}

/-! ## Codes, rings and requests -/

theorem State.AsButEntries.strands_eq {x : State} (h : s.AsButEntries x) : x.strands = s.strands := by
  unfold State.AsButEntries at h
  rw [h]

@[simp] theorem State.complete_strands {id status result off peer} : (s.complete id status result off peer).strands = s.strands :=
  ((State.AsButEntries.refl s).complete id status result off peer).strands_eq

@[simp] theorem State.postEvent_strands {event unit code data} : (s.postEvent event unit code data).strands = s.strands :=
  ((State.AsButEntries.refl s).postEvent event unit code data).strands_eq

@[simp] theorem State.badField_strands {id off} : (s.badField id off).strands = s.strands := State.complete_strands
@[simp] theorem State.hmWriteReq_strands {addr data use} : (s.hmWriteReq addr data use).strands = s.strands := (rfl)
@[simp] theorem State.memReq_strands {channel o use} : (s.memReq channel o use).strands = s.strands := by simp [State.memReq]
@[simp] theorem State.memWriteReq_strands {channel addr data use} : (s.memWriteReq channel addr data use).strands = s.strands :=
  State.memReq_strands
@[simp] theorem State.memReadReq_strands {channel addr len use} : (s.memReadReq channel addr len use).strands = s.strands :=
  State.memReq_strands
@[simp] theorem State.marked_strands {before : State} {inj} : (before.marked inj s).strands = s.strands := by simp [State.marked]

@[simp] theorem State.fire_strands {point unit} : (s.fire point unit).2.strands = s.strands := by
  unfold State.fire
  split <;> simp

theorem State.fireIf_strands {c : Prop} [Decidable c] {point unit} :
    (if c then s.fire point unit else (false, s)).2.strands = s.strands := by
  split
  · exact State.fire_strands
  · rfl

theorem State.fireUnless_strands {c : Prop} [Decidable c] {point unit} :
    (if c then (false, s) else s.fire point unit).2.strands = s.strands := by
  split
  · rfl
  · exact State.fire_strands

/-! ## Outbound streams -/

@[simp] theorem State.modTx_strands {id f} : (s.modTx id f).strands = s.strands := by
  unfold State.modTx
  split <;> simp

@[simp] theorem State.numSticky_strands {id t seen} : (s.numSticky id t seen).strands = s.strands := by simp [State.numSticky]
@[simp] theorem State.saveTake_strands {x} : (s.saveTake x).strands = s.strands := (rfl)

@[simp] theorem State.writeQuery_strands {desc record} : (s.writeQuery desc record).strands = s.strands := by
  unfold State.writeQuery
  split <;> simp

@[simp] theorem State.queryTake_strands {id} : (s.queryTake id).strands = s.strands := by
  unfold State.queryTake
  split <;> simp

@[simp] theorem State.commitParcel_strands {id st p mode wireLen} : (s.commitParcel id st p mode wireLen).strands = s.strands := by
  unfold State.commitParcel
  extract_lets c e r drawn es draws converts
  have hfire : (if converts = true then s.fire 0x1B id else (false, s)).2.strands = s.strands := State.fireIf_strands
  generalize (if converts = true then s.fire 0x1B id else (false, s)) = q at hfire ⊢
  obtain ⟨inj, s1⟩ := q
  simpa using hfire

@[simp] theorem State.cutParcel_strands {id st p} : (s.cutParcel id st p).strands = s.strands := State.commitParcel_strands
@[simp] theorem State.pushMsg_strands {type body} : (s.pushMsg type body).strands = s.strands := (rfl)

@[simp] theorem State.dropTxParcel_strands {id status p} : (s.dropTxParcel id status p).strands = s.strands := by
  unfold State.dropTxParcel
  split <;> simp

@[simp] theorem State.ptRespond_strands {vc packet status} : (s.ptRespond vc packet status).strands = s.strands := (rfl)

/-! ## Inbound streams -/

@[simp] theorem State.modRx_strands {key f} : (s.modRx key f).strands = s.strands := by
  unfold State.modRx
  split <;> simp

@[simp] theorem State.modParcel_strands {key uid f} : (s.modParcel key uid f).strands = s.strands := State.modRx_strands

@[simp] theorem State.returnCells_strands {key n} : (s.returnCells key n).strands = s.strands := by
  unfold State.returnCells
  split <;> simp

@[simp] theorem State.returnPair_strands {key} : (s.returnPair key).strands = s.strands := by
  unfold State.returnPair
  split <;> simp

@[simp] theorem State.freeSlots_strands {key} : (s.freeSlots key).strands = s.strands := by
  unfold State.freeSlots
  split <;> simp

@[simp] theorem State.dropParcel_strands {key uid} : (s.dropParcel key uid).strands = s.strands := by
  unfold State.dropParcel
  split <;> simp

@[simp] theorem State.discardParcel_strands {key uid} : (s.discardParcel key uid).strands = s.strands := by
  unfold State.discardParcel
  split <;> simp

@[simp] theorem State.modPort_strands {n f} : (s.modPort n f).strands = s.strands := (rfl)

@[simp] theorem State.endParcel_strands {key uid status keep} : (s.endParcel key uid status keep).strands = s.strands := by
  unfold State.endParcel
  (repeat' split) <;> simp

@[simp] theorem State.commitRxTo_strands {key uid n draws} : (s.commitRxTo key uid n draws).strands = s.strands := by
  unfold State.commitRxTo
  split
  · rfl
  · split
    · rfl
    · extract_lets c hdr e f d
      have hfire : (if e = 0 then (false, s) else s.fire 0x1B c.id).2.strands = s.strands := State.fireUnless_strands
      generalize (if e = 0 then (false, s) else s.fire 0x1B c.id) = q at hfire ⊢
      obtain ⟨inj, s1⟩ := q
      simpa using hfire

@[simp] theorem State.commitRx_strands {key uid} : (s.commitRx key uid).strands = s.strands := by
  unfold State.commitRx
  split <;> simp

@[simp] theorem State.abandonParcel_strands {key uid} : (s.abandonParcel key uid).strands = s.strands := by
  unfold State.abandonParcel
  split <;> simp

@[simp] theorem State.endLost_strands {key uid} : (s.endLost key uid).strands = s.strands := by
  unfold State.endLost
  split <;> simp

@[simp] theorem State.interruptParcel_strands {key status} : (s.interruptParcel key status).strands = s.strands := by
  unfold State.interruptParcel
  (repeat' split) <;> simp

@[simp] theorem State.cutPackets_strands {key stays} : (s.cutPackets key stays).strands = s.strands := by
  unfold State.cutPackets
  split <;> simp

@[simp] theorem State.answerPops_strands {key status every} : (s.answerPops key status every).strands = s.strands := by
  unfold State.answerPops
  split <;> simp [State.answerBeat]

@[simp] theorem State.ghost_strands {id last} : (s.ghost id last).strands = s.strands := (rfl)

/-! ## Accumulation and dispatch -/

@[simp] theorem State.setRegion_strands {r g} : (s.setRegion r g).strands = s.strands := (rfl)

@[simp] theorem State.modContrib_strands {r slot c f} : (s.modContrib r slot c f).strands = s.strands := by
  unfold State.modContrib
  split <;> simp

@[simp] theorem State.finishRounds_strands {r} : (s.finishRounds r).strands = s.strands := by
  unfold State.finishRounds
  split <;> simp

@[simp] theorem State.accConsume_strands {key fuel n} : (s.accConsume key fuel n).strands = s.strands := by
  induction fuel generalizing s n with
  | zero => rfl
  | succ fuel ih =>
    unfold State.accConsume
    split <;> simp [ih]

@[simp] theorem State.accTake_strands {key n} : (s.accTake key n).1.strands = s.strands := by
  unfold State.accTake
  split <;> simp

@[simp] theorem State.accBreak_strands {r key c slot mb run ended} : (s.accBreak r key c slot mb run ended).strands = s.strands := by
  unfold State.accBreak
  extract_lets s1 s2
  have h2 : s2.strands = s.strands := by simp [s2, s1]
  split <;> simp [h2]

@[simp] theorem State.accStart_strands {r key st g x c j} : (s.accStart r key st g x c j).1.strands = s.strands := by
  unfold State.accStart
  (repeat' split) <;> simp

@[simp] theorem State.accTry_strands {r c} : (s.accTry r c).1.strands = s.strands := by
  unfold State.accTry
  split
  · split
    · rfl
    · extract_lets run ended
      clear_value run
      split
      · rfl
      · extract_lets slot
        split
        · simp
        · extract_lets k total
          split
          · rfl
          · have hfire : (if ended = true then s.fire 0x1C r else (false, s)).2.strands = s.strands := State.fireIf_strands
            generalize (if ended = true then s.fire 0x1C r else (false, s)) = q at hfire ⊢
            obtain ⟨inj, s1⟩ := q
            dsimp only
            split
            · simpa using hfire
            · split
              · split <;> simpa using hfire
              · split
                · exact hfire
                · simpa using hfire
  · rfl

@[simp] theorem State.accPump_strands {r n} : (State.accPump r n s).strands = s.strands := by
  induction n generalizing s with
  | zero => rfl
  | succ n ih =>
    unfold State.accPump
    extract_lets a t
    have ha : a.1.strands = s.strands :=
      State.foldl_fst_keeps (·.strands = s.strands) (fun _ _ h => State.accTry_strands.trans h) rfl
    have ht : t.strands = s.strands := by simp [t, ha]
    split
    · exact ih.trans ht
    · exact ht

@[simp] theorem State.accInterrupt_strands {key st} : (s.accInterrupt key st).strands = s.strands := by
  unfold State.accInterrupt
  extract_lets r c
  split
  · rfl
  · extract_lets open_ s1 s2 s3
    have h2 : s2.strands = s.strands := State.forEach_strands fun _ _ => by split <;> simp
    have h3 : s3.strands = s.strands := by
      simp only [s3]
      split <;> simp [h2]
    exact State.accPump_strands.trans h3

@[simp] theorem State.setTable_strands {t} : (s.setTable t).strands = s.strands := (rfl)

@[simp] theorem State.dispSticky_strands {a b noRoute unmapped} : (s.dispSticky a b noRoute unmapped).strands = s.strands := by
  simp [State.dispSticky]

@[simp] theorem State.losePair_strands {id} : (s.losePair id).strands = s.strands := by
  unfold State.losePair
  split
  · rfl
  · extract_lets s1 rows
    split
    · rfl
    · split
      · rfl
      · extract_lets mine t1 held t2 s2 s3
        have h3 : s3.strands = s.strands := by simp [s3, s2, s1]
        split <;> simp [h3]

@[simp] theorem State.fencePair_strands {id} : (s.fencePair id).strands = s.strands := by
  unfold State.fencePair
  split <;> simp

/-! ## Shelves and draws -/

@[simp] theorem State.modShelf_strands {i f} : (s.modShelf i f).strands = s.strands := (rfl)
@[simp] theorem State.takeShelf_strands {desc e} : (s.takeShelf desc e).strands = s.strands := State.complete_strands

@[simp] theorem State.serveShelfWaits_strands : s.serveShelfWaits.strands = s.strands := by
  unfold State.serveShelfWaits
  refine State.forEach_strands fun _ _ => ?_
  split <;> simp

@[simp] theorem State.orphanFills_strands {i} : (s.orphanFills i).strands = s.strands := (rfl)
@[simp] theorem State.freeShelf_strands {i} : (s.freeShelf i).strands = s.strands := by simp [State.freeShelf]
@[simp] theorem State.settleShelf_strands {i} : (s.settleShelf i).strands = s.strands := by simp [State.settleShelf]
@[simp] theorem State.settleShelves_strands : s.settleShelves.strands = s.strands := by simp [State.settleShelves]
@[simp] theorem State.modDraw_strands {id f} : (s.modDraw id f).strands = s.strands := (rfl)
@[simp] theorem State.dropDrawParcels_strands {d} : (s.dropDrawParcels d).strands = s.strands := State.modTx_strands

@[simp] theorem State.suspendDraw_strands {d status} : (s.suspendDraw d status).strands = s.strands := by
  unfold State.suspendDraw
  split <;> simp

@[simp] theorem State.endRestore_strands {r status result} : (s.endRestore r status result).strands = s.strands := State.complete_strands

/-! ## Fences (R90, R551) -/

@[simp] theorem State.interruptTx_strands {id status} : (s.interruptTx id status).strands = s.strands := by
  unfold State.interruptTx
  (repeat' split) <;> simp

@[simp] theorem State.interruptRx_strands {key status} : (s.interruptRx key status).strands = s.strands := by
  unfold State.interruptRx
  split
  · rfl
  · split
    · rfl
    · extract_lets s1 cut s2 s3 s4 s5
      have h2 : s2.strands = s.strands := by simp [s2, s1]
      have h3 : s3.strands = s.strands := by
        simp only [s3]
        split <;> simp [h2]
      have h4 : s4.strands = s.strands := by
        simp only [s4]
        split <;> simp [h3]
      simp [s5, h4]

@[simp] theorem State.fenceOut_strands {id status} : (s.fenceOut id status).strands = s.strands := by
  unfold State.fenceOut
  (repeat' split) <;> simp

@[simp] theorem State.fenceIn_strands {key status} : (s.fenceIn key status).strands = s.strands := by
  unfold State.fenceIn
  (repeat' split) <;> simp

/-- Fencing leaves the strands. -/
@[simp] theorem State.fenceStreams_strands {status loops} : (s.fenceStreams status loops).strands = s.strands := by
  simp [State.fenceStreams]

end

end Sys2Proof.Machine

/-! # Proofs: frame boundaries and the detectors of the lanes (chapters 9, 10 and 15) -/

namespace Sys2Proof.Machine

/-! ## The clock counts of the past frame -/

/-- What a boundary latches at the offset of a clock count: nothing new before the first complete frame, else the count, up to its top. -/
def State.latchValue (s : State) (off n : Nat) : Nat := if s.guard.lastFrame.isNone then s.fld off 23 0 else min n (2 ^ 24 - 1)

theorem State.latchValue_lt (s : State) (off n : Nat) : s.latchValue off n < 2 ^ 24 := by
  unfold State.latchValue
  split
  · exact bits_lt _ 23 0
  · omega

theorem State.latchValue_first {s : State} (h : s.guard.lastFrame = none) (off n : Nat) : s.latchValue off n = s.fld off 23 0 :=
  if_pos (by simp [h])

theorem State.latchValue_later {s : State} (h : s.guard.lastFrame ≠ none) (off n : Nat) : s.latchValue off n = min n (2 ^ 24 - 1) :=
  if_neg (by simpa using h)

theorem State.fld_setFld_latchValue (s s0 : State) (off n : Nat) :
    (s.setFld off 23 0 (s0.latchValue off n)).fld off 23 0 = s0.latchValue off n := by
  rw [State.fld_setFld_same _ _ _ _ _ (by decide) (by decide), Nat.mod_eq_of_lt (s0.latchValue_lt off n)]

theorem State.latchClocks_eq (s s0 : State) (core fab cfg aon : Nat) : s.latchClocks s0 core fab cfg aon =
    (((s.setFld 0x208 23 0 (s0.latchValue 0x208 core)).setFld 0x20C 23 0 (s0.latchValue 0x20C fab)).setFld 0x210 23 0
      (s0.latchValue 0x210 cfg)).setFld 0x214 23 0 (s0.latchValue 0x214 aon) := rfl

theorem State.latchClocks_asButDriven (s s0 : State) (core fab cfg aon : Nat) : s.AsButDriven (s.latchClocks s0 core fab cfg aon) := by
  rw [State.latchClocks_eq]
  exact ((((State.AsButDriven.refl s).setReg _ _).setReg _ _).setReg _ _).setReg _ _

/-- Each count is latched at its own offset. -/
theorem State.fld_latchClocks (s s0 : State) (core fab cfg aon : Nat) :
    ∀ p ∈ [(0x208, core), (0x20C, fab), (0x210, cfg), (0x214, aon)],
      (s.latchClocks s0 core fab cfg aon).fld p.1 23 0 = s0.latchValue p.1 p.2 := by
  simp [State.latchClocks_eq, State.fld_setFld_latchValue, State.fld_setFld_reg]

/-! ## Windows of the log (R549) -/

/-- No window of the log that ends at this boundary is open. -/
def State.WindowsClosed (s : State) : Prop := ∀ p ∈ s.kiln.records, p.2.isOpen = true →
  if codeKind p.2.code = .strand then s.strandSettled p.2.unit = false else p.2.bounds < 2

theorem State.windowTick_windowsClosed (s : State) : s.windowTick.WindowsClosed := by
  intro p hp hopen
  obtain ⟨q, -, rfl⟩ := List.mem_map.mp hp
  have hsettled (i : Nat) : s.windowTick.strandSettled i = s.strandSettled i := rfl
  by_cases hq : q.2.isOpen = true
  · by_cases hkind : codeKind q.2.code = .strand
    · simpa [hq, hkind, hsettled] using hopen
    · simpa [hq, hkind] using hopen
  · simp [hq] at hopen

/-- Every stream may be reported anew (R474). -/
def State.LaxCleared (s : State) : Prop := ∀ p ∈ s.rx, p.2.laxSeen = false

theorem State.injectPower_unarmed {s : State} (h : s.inj.armed = false) : s.injectPower = s := by
  simp [State.injectPower, State.fire_unarmed _ _ _ h]

theorem State.sendPkg_rx (s : State) : s.sendPkg.rx = s.rx := by simp [State.sendPkg]

/-- The work of a boundary ends with the windows. -/
theorem State.boundaryWork_clears {s : State} (hinj : s.inj.armed = false) (hcfg : s.cfgUp = true) (core : Nat) (trk : List Nat)
    (lanes : List (Nat × Nat)) : (s.boundaryWork core trk lanes).LaxCleared ∧ (s.boundaryWork core trk lanes).WindowsClosed := by
  unfold State.boundaryWork
  rw [State.injectPower_unarmed hinj]
  extract_lets s1 s2 s3 s4 s5 s6 s7
  rw [if_neg (by simp [s1, hcfg])]
  refine ⟨?_, State.windowTick_windowsClosed _⟩
  have hrx : ∀ p ∈ s7.rx, p.2.laxSeen = false := by
    intro p hp
    obtain ⟨q, -, rfl⟩ := List.mem_map.mp hp
    rfl
  have hpkg : (if s7.inService.isEmpty then s7 else s7.sendPkg).rx = s7.rx := by simp [State.sendPkg_rx]
  exact fun p hp => hrx p (hpkg ▸ hp)

/-! ## The frame boundary (R310) -/

theorem State.frameBoundary_eq {s : State} (h : s.aonHeld = false) (core fab cfg aon : Nat) (trk : List Nat) (lanes : List (Nat × Nat)) :
    s.frameBoundary core fab cfg aon trk lanes =
      ((s.toBoundary.boundaryWork core trk lanes).timeOf s.toBoundary).latchClocks s core fab cfg aon := by
  rw [State.frameBoundary, h]
  rfl

/-- Time moves to the boundary if it is not there yet, and the boundary is noted. -/
theorem State.toBoundary_eq (s : State) : s.toBoundary = { s with
    guard := { s.guard with lastFrame := some (s.nextBoundary % 2 ^ 64) },
    fcount := if s.now < s.nextBoundary then BitVec.ofNat 64 s.nextBoundary else s.fcount,
    phase := if s.now < s.nextBoundary then 0 else s.phase } := by
  unfold State.toBoundary
  dsimp only
  split <;> rfl

/-- A boundary's command settles what the work of the boundary has left, with the clock counts latched. -/
theorem exec_frameBoundary {s : State} (h : s.aonHeld = false) (core fab cfg aon : Nat) (trk : List Nat) (lanes : List (Nat × Nat)) :
    ∃ t u, exec (.frameBoundary core fab cfg aon trk lanes) s = .next { t with kiln := { t.kiln with frameEsc := 0 } } ∧
      t = s.start.finish u ∧ ((s.start.toBoundary.boundaryWork core trk lanes).timeOf s.start.toBoundary).AsButDriven u ∧
      ∀ p ∈ [(0x208, core), (0x20C, fab), (0x210, cfg), (0x214, aon)], u.fld p.1 23 0 = s.latchValue p.1 p.2 := by
  refine ⟨_, _, rfl, rfl, ?_⟩
  rw [State.frameBoundary_eq (s := s.start) h]
  exact ⟨State.latchClocks_asButDriven _ _ _ _ _ _, State.fld_latchClocks _ s.start core fab cfg aon⟩

/-! ## Clocks that stop (R358) -/

section
variable {s : State} {strands : List Nat} {inj : Bool}

/-- The armed strands among those whose clock has stopped. -/
def State.stopped (s : State) (strands : List Nat) : List Nat := s.armedStrands.filter strands.contains

/-- Their detectors report it. -/
def State.stopReported (s : State) (strands : List Nat) : State := forEach (s.stopped strands) (fun i x => x.clkReport i) s

theorem State.clockStop_none (h : s.stopped strands = []) : s.clockStop strands inj = s := by
  unfold State.stopped at h
  simp [State.clockStop, h]

theorem State.clockStop_all (h : s.stopped strands ≠ []) (hall : (s.stopped strands).length = s.armedStrands.length) :
    s.clockStop strands inj = (s.stopReported strands).lose 4 inj := by
  unfold State.clockStop
  exact (if_neg (by simpa [State.stopped] using h)).trans (if_pos hall)

theorem State.clockStop_some (h : s.stopped strands ≠ []) (hsome : (s.stopped strands).length ≠ s.armedStrands.length) :
    s.clockStop strands inj = if !s.presence.on then s.stopReported strands
      else forEach (s.stopped strands) (fun i x => x.phyFail i 0x0101 1 inj) (s.stopReported strands) := by
  unfold State.clockStop
  exact (if_neg (by simpa [State.stopped] using h)).trans (if_neg hsome)

theorem State.stopReported_partner : (s.stopReported strands).partner = s.partner :=
  forEach_keeps (fun (t : State) => t.partner = s.partner) _ _ _ (fun _ _ h => h) rfl

theorem State.lose_absent {cause : Nat} (hactive : s.partner ≠ .active) (hpresent : s.partner ≠ .present) : s.lose cause inj = s :=
  if_pos ⟨hpresent, hactive⟩

/-- A partner whose clocks have stopped goes QUIET, and the loss is raised last. -/
theorem State.lose_clock (h : s.partner = .active ∨ s.partner = .present) : ∃ l, (s.lose 4 inj).partner = .quiet ∧
    (s.lose 4 inj).pulse.cause = 4 ∧ (s.lose 4 inj).raised = l ++ [⟨0x0903, 0, 0, inj, 0⟩] := by
  unfold State.lose
  rw [if_neg (by tauto)]
  extract_lets lost next was pulse s0 s1 code
  clear_value s1
  have hlost : lost = false := by simp [lost]
  have hnext : next = .quiet := by simp [next, hlost]
  have hcode : code = 0x0903 := by simp [code, hlost]
  exact ⟨s1.raised, by simp [hnext], by simp [pulse], by simp [State.raise, hcode]⟩

theorem exec_fwdClkStop (hcfg : s.cfgUp = true) : exec (.fwdClkStop strands) s = .next (s.start.finish (s.start.clockStop strands false)) :=
  runUp_up (fun x => x.clockStop strands false) s hcfg

end

/-! ## A lane that fails (R358, R361, R436) -/

/-- A strand's substate, and whether it is in service. -/
def Strand.stance (x : Strand) : Sub × Bool := (x.sub, x.service)

theorem map_modAt_of_eq {α β : Type} {g : α → β} {f : α → α} (h : ∀ a, g (f a) = g a) (i : Nat) (l : List α) :
    (modAt f i l).map g = l.map g := by
  refine List.ext_getElem? fun k => ?_
  rw [List.getElem?_map, List.getElem?_map, modAt_getElem?]
  split
  · rw [Option.map_map]
    exact congrArg (Option.map · _) (funext h)
  · rfl

/-- `t` has the strands of `s`, each in the same substate, and in service if it was. -/
def State.SameStances (s t : State) : Prop := t.strands.map Strand.stance = s.strands.map Strand.stance

namespace State.SameStances
variable {s t u : State}

theorem trans (h : s.SameStances t) (h' : t.SameStances u) : s.SameStances u := Eq.trans h' h

theorem length (h : s.SameStances t) : t.strands.length = s.strands.length := by simpa using congrArg List.length h

theorem stance (h : s.SameStances t) (i : Nat) : (t.strand i).stance = (s.strand i).stance := by
  have hget := congrArg (List.getD · i (Strand.stance {})) h
  rwa [List.getD_map, List.getD_map] at hget

theorem modLink (s : State) (i : Nat) (f : Link → Link) : s.SameStances (s.modLink i f) :=
  map_modAt_of_eq (g := Strand.stance) (f := fun x => { x with link := f x.link }) (fun _ => rfl) i s.strands

theorem noCarrier (s : State) : s.SameStances s.noCarrier :=
  congrArg (List.map Strand.stance) (by simp [State.noCarrier])

theorem moveReplay (s : State) (i : Nat) : s.SameStances (s.moveReplay i) := by
  unfold State.moveReplay
  split
  · exact (modLink _ _ _).trans (noCarrier _)
  · exact (modLink _ _ _).trans (modLink _ _ _)

end State.SameStances

section
variable {s : State} {i : Nat}

/-- What the failure of a lane leaves of a strand in HOLD: its received direction is to be marked SHARD (R439). -/
def Strand.laneLost (x : Strand) : Strand :=
  { x with
    rx := { x.rx with shard := true }, rep := x.rep.map (fun r => { r with skip := true, swept := true, fills := [], stale := r.mine ≥ 2 }) }

/-- A strand that is up goes to HOLD, out of service. -/
theorem State.laneLost_up (hlen : i < s.strands.length) (hstate : (s.strand i).state = .fired ∨ (s.strand i).state = .crazed)
    (hhold : (s.strand i).sub ≠ .hold) (hfill : (s.strand i).sub ≠ .fill) : ((s.laneLost i).strand i).sub = .hold ∧
      ((s.laneLost i).strand i).service = false ∧ ((s.laneLost i).strand i).rx.shard = true := by
  have hshard : (s.strand i).state ≠ .shard := by rcases hstate with h | h <;> simp [h]
  have hup : (((s.strand i).state == .fired || (s.strand i).state == .crazed) && (s.strand i).sub != .hold && (s.strand i).sub != .fill)
      = true := by
    rcases hstate with h | h <;> simp [h, hhold, hfill]
  have hmove := State.SameStances.moveReplay (s.dropToHold i) i
  have hlen' : i < ((s.dropToHold i).moveReplay i).strands.length := hmove.length.symm ▸ (modAt_length _ _ _).symm ▸ hlen
  have hstance : (((s.dropToHold i).moveReplay i).strand i).stance = (.hold, false) := by
    rw [hmove.stance, State.dropToHold, State.strand_modStrand_same (s.coverMember i) _ _ hlen]
    rfl
  have hlost : s.laneLost i = ((s.dropToHold i).moveReplay i).modStrand i Strand.laneLost := by
    unfold State.laneLost
    dsimp only
    rw [if_neg hshard, if_pos (by simp [hup])]
    rfl
  rw [hlost, State.strand_modStrand_same _ _ _ hlen']
  exact ⟨congrArg Prod.fst hstance, congrArg Prod.snd hstance, rfl⟩

theorem State.fwdClkLane_watched (h : (s.strand i).watched = true) :
    s.fwdClkLane i = (((s.clkReport i).sticky 0x27C8 2).raise 0x0102 i).laneLost i := if_pos h

theorem State.fwdClkLane_unwatched (h : (s.strand i).watched = false) : s.fwdClkLane i = s := if_neg (by simp [h])

theorem State.vldFail_untracked (h : (s.strand i).tracked = false) (inj : Bool) : s.vldFail i inj = s := if_neg (by simp [h])

theorem State.vldFail_tracked (h : (s.strand i).tracked = true) (hup : (s.strand i).state = .fired ∨ (s.strand i).state = .crazed ∨
    ((s.strand i).state = .bisque ∧ (s.strand i).sub = .none)) (inj : Bool) :
    s.vldFail i inj = ((s.sticky 0x27C8 3).raise 0x0103 i 0 inj).laneLost i :=
  if_pos (by simpa [h, or_assoc] using hup)

/-! ## TRK drifts (R361) -/

theorem State.trkDrift_untracked (h : (s.strand i).tracked = false) (inj : Bool) : s.trkDrift i inj = s := if_pos (by simp [h])

/-- The drift is recorded once per calibration. -/
def State.driftRecorded (s : State) (i : Nat) (inj : Bool) : State :=
  if (s.strand i).trkSeen then s else ((s.sticky 0x27C8 5).raise 0x0105 i 0 inj).modStrand i (fun y => { y with trkSeen := true })

theorem State.driftRecorded_seen (h : (s.strand i).trkSeen = true) (inj : Bool) : s.driftRecorded i inj = s := if_pos h

theorem State.driftRecorded_first (h : (s.strand i).trkSeen = false) (inj : Bool) : s.driftRecorded i inj =
    ((s.sticky 0x27C8 5).raise 0x0105 i 0 inj).modStrand i (fun y => { y with trkSeen := true }) := if_neg (by simp [h])

theorem State.length_driftRecorded {inj : Bool} : (s.driftRecorded i inj).strands.length = s.strands.length := by
  cases h : (s.strand i).trkSeen with
  | true => rw [State.driftRecorded_seen h]
  | false => rw [State.driftRecorded_first h]; simp [modAt_length]

theorem State.strand_driftRecorded (hlen : i < s.strands.length) (inj : Bool) :
    (s.driftRecorded i inj).strand i = { s.strand i with trkSeen := true } := by
  cases h : (s.strand i).trkSeen with
  | true => rw [State.driftRecorded_seen h, ← h]
  | false =>
    rw [State.driftRecorded_first h, State.strand_modStrand_same _ _ _ (by simpa using hlen)]
    simp [State.strand]

theorem State.now_driftRecorded {inj : Bool} : (s.driftRecorded i inj).now = s.now := by
  cases h : (s.strand i).trkSeen with
  | true => rw [State.driftRecorded_seen h]
  | false => rw [State.driftRecorded_first h]; simp [State.now]

theorem State.raised_driftRecorded {inj : Bool} :
    (s.driftRecorded i inj).raised = if (s.strand i).trkSeen then s.raised else s.raised ++ [⟨0x0105, i, 0, inj, 0⟩] := by
  cases h : (s.strand i).trkSeen with
  | true => rw [State.driftRecorded_seen h, if_pos rfl]
  | false => rw [State.driftRecorded_first h]; simp [State.raise]

/-- The first drift since the calibration shows in CL_PHY_STICKY. -/
theorem State.flag_driftRecorded (h : (s.strand i).trkSeen = false) {inj : Bool} : (s.driftRecorded i inj).flag 0x27C8 5 = true := by
  have hset : (s.sticky 0x27C8 5).flag 0x27C8 5 = true := State.flag_setFlag_same s 0x27C8 5 true (by decide)
  rw [State.driftRecorded_first h]
  exact (State.flag_congr (t := s.sticky 0x27C8 5) (by simp) (by simp) (by simp) _ _).trans hset

theorem State.trkDrift_tracked (h : (s.strand i).tracked = true) (hlen : i < s.strands.length)
    (hup : (s.strand i).state = .fired ∨ (s.strand i).state = .crazed) (hdue : (s.strand i).dueAt = none) (hcal : (s.strand i).sub ≠ .cal)
    (inj : Bool) : s.trkDrift i inj =
      (s.driftRecorded i inj).modStrand i (fun y => { y with dueAt := some (s.driftRecorded i inj).now, waited := 0 }) := by
  have hstrand := State.strand_driftRecorded hlen inj
  have hdrift : s.trkDrift i inj = (s.driftRecorded i inj).makeDue i := by
    unfold State.trkDrift
    dsimp only
    rw [if_neg (by rcases hup with hup | hup <;> simp [h, hup]), if_neg hcal]
    simp [State.driftRecorded, hdue, hcal]
  rw [hdrift, State.makeDue, if_pos]
  rw [hstrand]
  simp [hup, hdue]

end

/-! ## How the detectors' commands end -/

section
variable {s : State} {i : Nat} (hcfg : s.cfgUp = true) (hi : i < s.build.strands)
include hcfg hi

theorem exec_fwdClkLane : exec (.fwdClkLane i) s = .next (s.start.finish (s.start.fwdClkLane i)) :=
  (named_present _ _ _ hi).trans (runUp_up _ s hcfg)

theorem exec_vldLaneFail : exec (.vldLaneFail i) s = .next (s.start.finish (s.start.vldFail i false)) :=
  (named_present _ _ _ hi).trans (runUp_up _ s hcfg)

theorem exec_trkDrift : exec (.trkDrift i) s = .next (s.start.finishLight (s.start.trkDrift i false)) :=
  (named_present _ _ _ hi).trans (runUpLight_up _ s hcfg)

theorem exec_trkDrift_tracked (hlen : i < s.strands.length) (h : (s.strand i).tracked = true)
    (hup : (s.strand i).state = .fired ∨ (s.strand i).state = .crazed) (hdue : (s.strand i).dueAt = none) (hcal : (s.strand i).sub ≠ .cal) :
    ∃ u, exec (.trkDrift i) s = .next (s.start.finishLight u) ∧ (u.strand i).dueAt = some s.now ∧ (u.strand i).trkSeen = true ∧
      u.raised = (if (s.strand i).trkSeen then [] else [⟨0x0105, i, 0, false, 0⟩]) ∧
      ((s.strand i).trkSeen = false → u.flag 0x27C8 5 = true) := by
  refine ⟨_, exec_trkDrift hcfg hi, ?_⟩
  rw [State.trkDrift_tracked (s := s.start) h hlen hup hdue hcal]
  have hstrand := State.strand_driftRecorded (s := s.start) hlen false
  rw [State.strand_modStrand_same _ _ _ (State.length_driftRecorded.symm ▸ hlen), hstrand]
  refine ⟨congrArg some (State.now_driftRecorded (s := s.start)), rfl, ?_, fun hseen => ?_⟩
  · rw [State.modStrand_raised]
    exact State.raised_driftRecorded
  · exact State.flag_driftRecorded (s := s.start) hseen

end

/-- Settles O43: the boundary's work is done at its time and ends with the windows of the log, and each detector by what it finds. -/
theorem framesAndLaneDetectors : Obligations.FramesAndLaneDetectors := by
  unfold Obligations.FramesAndLaneDetectors
  refine ⟨fun s core fab cfg aon trk lanes haon => ?boundary, fun s u strands hit hcfg hhit hu => ?stop,
    fun s i hcfg hi hlen => ?lane, fun s i hlen hup hhold hfill => State.laneLost_up hlen hup hhold hfill⟩
  case boundary =>
    obtain ⟨t, u, hexec, ht, hframe, hfld⟩ := exec_frameBoundary haon core fab cfg aon trk lanes
    simp only [List.forall_mem_cons] at hfld
    obtain ⟨hcore, hfab, hcfgCount, haonCount, -⟩ := hfld
    have hthere := s.start.toBoundary_eq
    unfold State.AsButDriven at hframe
    refine ⟨t, u, hexec, ht, (congrArg State.fcount hframe).trans (congrArg State.fcount hthere),
      (congrArg State.phase hframe).trans (congrArg State.phase hthere),
      (congrArg (·.guard.lastFrame) hframe).trans (congrArg (·.guard.lastFrame) hthere), fun hfirst => ?_, fun hlater => ?_,
      fun hinj hcfg => ?_⟩
    · simp [hcore, hfab, hcfgCount, haonCount, State.latchValue_first hfirst]
    · simp [hcore, hfab, hcfgCount, haonCount, State.latchValue_later hlater]
    · obtain ⟨hlax, hwindows⟩ := State.boundaryWork_clears ((congrArg (·.inj.armed) hthere).trans hinj)
        ((congrArg State.cfgUp hthere).trans hcfg) core trk lanes
      exact ⟨fun p hp => hlax p ((congrArg State.rx hframe) ▸ hp), hframe ▸ hwindows⟩
  case stop =>
    subst hhit hu
    refine ⟨fun hnone => ?_, fun hsome hall => ⟨fun hthere => ?_, fun hactive hpresent => ?_⟩,
      fun hsome hfew => ⟨fun hlow => ?_, fun hhigh => ?_⟩⟩
    · rw [exec_fwdClkStop hcfg, State.clockStop_none (s := s.start) hnone]
    · obtain ⟨l, hlost⟩ := State.lose_clock (s := s.start.stopReported strands) (inj := false)
        (by rwa [State.stopReported_partner])
      exact ⟨_, l, by rw [exec_fwdClkStop hcfg, State.clockStop_all (s := s.start) hsome hall], hlost⟩
    · rw [exec_fwdClkStop hcfg, State.clockStop_all (s := s.start) hsome hall, State.lose_absent]
      · rfl
      · rwa [State.stopReported_partner]
      · rwa [State.stopReported_partner]
    · rw [exec_fwdClkStop hcfg, State.clockStop_some (s := s.start) hsome hfew, if_pos (by simp [hlow])]
      rfl
    · rw [exec_fwdClkStop hcfg, State.clockStop_some (s := s.start) hsome hfew, if_neg (by simp [hhigh])]
      rfl
  case lane =>
    refine ⟨fun h => ?_, fun h => ?_, fun h => ⟨?_, ?_⟩, fun h hup => ?_,
      fun h hup hdue hcal => exec_trkDrift_tracked hcfg hi hlen h hup hdue hcal⟩
    · rw [exec_fwdClkLane hcfg hi, State.fwdClkLane_watched (s := s.start) h]
      rfl
    · rw [exec_fwdClkLane hcfg hi, State.fwdClkLane_unwatched (s := s.start) h]
    · rw [exec_vldLaneFail hcfg hi, State.vldFail_untracked (s := s.start) h]
    · rw [exec_trkDrift hcfg hi, State.trkDrift_untracked (s := s.start) h]
    · rw [exec_vldLaneFail hcfg hi, State.vldFail_tracked (s := s.start) h hup]

end Sys2Proof.Machine


/-! # Proofs: PULSEs, presence and the loss of the partner (chapters 10 and 14) -/

namespace Sys2Proof.Machine

section
variable {s : State}

/-! ## The partner moves (R494, R495, R498) -/

/-- That the partner moves changes nothing else but what its event writes. -/
theorem State.movePartner_asButEntries (p : PartnerState) : ({ s with partner := p } : State).AsButEntries (s.movePartner p) :=
  (State.AsButEntries.refl _).postEvent _ _ _ _

theorem State.partner_movePartner (p : PartnerState) : (s.movePartner p).partner = p := by
  have hframe := State.movePartner_asButEntries (s := s) p
  unfold State.AsButEntries at hframe
  rw [hframe]

theorem State.presence_movePartner (p : PartnerState) : (s.movePartner p).presence = s.presence := by
  have hframe := State.movePartner_asButEntries (s := s) p
  unfold State.AsButEntries at hframe
  rw [hframe]

theorem State.presence_lossActions (status : Nat) : (s.lossActions status).presence = s.presence := rfl

/-- No loss of the partner touches what is counted of the sideband clock. -/
theorem State.presence_lose (cause : Nat) (inj event : Bool) : (s.lose cause inj event).presence = s.presence := by
  unfold State.lose
  split
  · rfl
  · extract_lets lost next was pulse s0 s1 code
    have hmoved : s1.presence = s.presence := by
      rw [State.presence_lossActions]
      split
      · exact State.presence_movePartner next
      · rfl
    clear_value s1
    simpa using hmoved

/-- An ACTIVE partner is LOST by its HEARTBEAT or its IDENT, and QUIET by any other cause (R495). -/
def PartnerState.afterLoss (cause : Nat) : PartnerState := if cause = 5 ∨ cause = 6 then .lost else .quiet

/-- The code that its loss raises (R498). -/
def lossCode (cause : Nat) : Nat := if cause = 5 ∨ cause = 6 then 0x0904 else if cause ≤ 2 then 0x0902 else 0x0903

/-- An ACTIVE partner that is lost: where it goes, the cause that is kept, and the code, raised last. -/
theorem State.lose_active (h : s.partner = .active) (cause : Nat) (inj : Bool) : ∃ l,
    (s.lose cause inj).partner = .afterLoss cause ∧ (s.lose cause inj).pulse = { s.pulse with cause := cause } ∧
      (s.lose cause inj).raised = l ++ [⟨lossCode cause, 0, 0, inj, 0⟩] := by
  unfold State.lose
  rw [if_neg (by simp [h])]
  extract_lets lost next was pulse s0 s1 code
  clear_value s1
  have hlost : lost = decide (cause = 5 ∨ cause = 6) := by simp [lost, h, Bool.or_comm]
  have hnext : next = .afterLoss cause := by simp [next, hlost, PartnerState.afterLoss]
  have hcode : code = lossCode cause := by simp [code, hlost, lossCode]
  exact ⟨s1.raised, hnext, rfl, by simp [hcode]⟩

/-- A partner that has not sent four good PULSEs in a row does not recover (R501). -/
theorem State.checkRecovery_few (h : s.pulse.greens < 4) : s.checkRecovery = s := if_neg (by omega)

/-! ## PULSEs (R491 to R493) -/

/-- A frame is received while no injection is armed. -/
theorem frame_unarmed (f : State → State) (haon : s.aonHeld = false) (harm : s.inj.armed = false) :
    frame f s = .next (s.start.finish (f s.start)) := by
  unfold frame
  rw [runAon_up _ _ haon, State.fire_unarmed s.start _ _ harm]

/-- A PULSE of this side: SEQ, heat, flags and the groups it asks to park (R491, R492). -/
theorem State.pulseStart_eq (haon : s.aonHeld = false) : s.pulseStart =
    State.sendFrame { s with pulse := { s.pulse with
      seq := (s.pulse.seq + 1) % 65536, sent := if s.heatNow.2 then int16 s.heatNow.1 else 0 } } 1
    (toLe 2 s.pulse.seq ++ toLe 2 (if s.heatNow.2 then int16 s.heatNow.1 else 0) ++ toLe 2 (b2n s.heatNow.2 + 2 * b2n (s.allGreen true)
      + 4 * b2n s.localDown + 8 * b2n s.power.warn) ++ toLe 2 (s.fld 0x600C 15 0)) := by
  unfold State.pulseStart
  rw [haon]
  rfl

/-- What is stored of a PULSE that passes (R493). -/
def Pulse.heard (q : Pulse) (p : List Byte) : Pulse := { q with
  peerSeq := field p 0 2, heat := field p 2 2, heatValid := bit (field p 4 2) 0, green := bit (field p 4 2) 1
  down := bit (field p 4 2) 2, warn := bit (field p 4 2) 3, park := field p 6 2, winPulse := true
  winHeat := q.winHeat || bit (field p 4 2) 0, winBad := q.winBad || !(bit (field p 4 2) 1 && !bit (field p 4 2) 2) }

/-- A PULSE without heat, while the peer's heat is stale, is stored; one with DOWN announces a loss. -/
theorem State.pulseMsg_heatless {p : List Byte} (hheat : bit (field p 4 2) 0 = false) (hstale : s.pulse.stale = true) :
    s.pulseMsg p = if bit (field p 4 2) 2 then ({ s with pulse := s.pulse.heard p } : State).lose 2
      else { s with pulse := s.pulse.heard p } := by
  simp [State.pulseMsg, Pulse.heard, hheat, hstale]

/-- The pulse record when a window ends (R493, R501, R520). -/
def Pulse.windowEnd (q : Pulse) : Pulse := { q with
  misses := if q.winPulse then 0 else satAdd 8 q.misses 1, heatMiss := if q.winHeat then 0 else satAdd 8 q.heatMiss 1
  greens := if q.winPulse && !q.winBad then min 4 (q.greens + 1) else 0, winPulse := false, winHeat := false, winBad := false }

/-- The eighth window in a row without a PULSE is a loss by HEARTBEAT (R493). -/
theorem State.pulseWindow_eighthMiss (haon : s.aonHeld = false) (hpulse : s.pulse.winPulse = false) (hmisses : s.pulse.misses = 7)
    (hheat : s.pulse.heatMiss < 7) (hstale : s.pulse.stale = false) (hpoint : s.inj.point = 0) :
    s.pulseWindow = (({ s with pulse := s.pulse.windowEnd } : State).lose 5).checkRecovery := by
  have hfresh : ¬ 8 ≤ s.pulse.windowEnd.heatMiss := by
    simp only [Pulse.windowEnd, satAdd]
    split <;> omega
  have hmissed : s.pulse.windowEnd.misses = 8 := by simp [Pulse.windowEnd, satAdd, hpulse, hmisses]
  unfold State.pulseWindow
  rw [if_neg (by simp [haon])]
  extract_lets q misses heatMiss s1 s2 s3
  have hs1 : s1 = { s with pulse := s.pulse.windowEnd } := rfl
  have hs2 : s2 = s1 := if_neg fun h => hfresh h.1
  have hs3 : s3 = s1 := by simp [s3, hs2, hs1, Pulse.windowEnd, hstale]
  have hinj : (s3.inj.point == 0x29 && s3.inj.fired != 0) = false := by simp [hs3, hs1, hpoint]
  have hcount : misses ≥ 8 := hmissed.ge
  rw [if_pos hcount, hinj, hs3, hs1]

/-- The loss by HEARTBEAT of an ACTIVE partner: PULSEs have to come again before it recovers. -/
theorem State.pulseWindow_heartbeat (haon : s.aonHeld = false) (hpulse : s.pulse.winPulse = false) (hmisses : s.pulse.misses = 7)
    (hheat : s.pulse.heatMiss < 7) (hstale : s.pulse.stale = false) (hpoint : s.inj.point = 0) (hactive : s.partner = .active) :
    ∃ l, s.pulseWindow.partner = .lost ∧ s.pulseWindow.pulse.misses = 8 ∧ s.pulseWindow.pulse.cause = 5 ∧
      s.pulseWindow.raised = l ++ [⟨0x0904, 0, 0, false, 0⟩] := by
  obtain ⟨l, hpartner, hstored, hraised⟩ := State.lose_active (s := { s with pulse := s.pulse.windowEnd }) hactive 5 false
  have hfew : (({ s with pulse := s.pulse.windowEnd } : State).lose 5).pulse.greens < 4 := by
    rw [hstored]
    simp [Pulse.windowEnd, hpulse]
  rw [State.pulseWindow_eighthMiss haon hpulse hmisses hheat hstale hpoint, State.checkRecovery_few hfew]
  refine ⟨l, hpartner, ?_, congrArg Pulse.cause hstored, hraised⟩
  rw [hstored]
  simp [Pulse.windowEnd, satAdd, hpulse, hmisses]

/-- A partner that has never been seen is ABSENT (R495). -/
theorem State.partnerAbsent_unknown (haon : s.aonHeld = false) (hunknown : s.partner = .unknown) (hoff : s.presence.on = false) :
    ∃ l, s.partnerAbsent.partner = .absent ∧ s.partnerAbsent.flag 0x6028 0 = true ∧
      s.partnerAbsent.raised = l ++ [⟨0x0901, 0, 0, false, 0⟩] := by
  have habsent : s.partnerAbsent = ((s.movePartner .absent).sticky 0x6028 0).raise 0x0901 0 := if_pos (by simp [haon, hunknown, hoff])
  have hflag : ((s.movePartner .absent).sticky 0x6028 0).flag 0x6028 0 = true := State.flag_setFlag_same _ _ _ _ (by decide)
  rw [habsent]
  exact ⟨_, State.partner_movePartner .absent, hflag, rfl⟩

/-! ## What leaves PRESENCE as it is -/

theorem State.AsButDriven.sendRecords {x : State} (h : s.AsButDriven x) : s.AsButDriven x.sendRecords :=
  forEach_keeps s.AsButDriven _ _ _ (fun _ _ hx => (hx.emit _).emit _) (h.emit _)

theorem State.presence_startExchange : s.startExchange.presence = s.presence := by
  unfold State.startExchange
  dsimp only
  split
  · rfl
  · have hframe := (State.AsButDriven.refl { s with exch := {} }).sendRecords
    unfold State.AsButDriven at hframe
    rw [hframe]

theorem State.presence_checkRecovery : s.checkRecovery.presence = s.presence := by
  unfold State.checkRecovery
  split
  · rw [State.presence_startExchange]
    exact State.presence_movePartner .present
  · rfl

theorem State.presence_checkLocal : s.checkLocal.presence = s.presence := by
  unfold State.checkLocal
  split
  · exact State.presence_lose 1 false true
  · rfl

/-! ## Windows of the sideband clock (R373) -/

/-- PRESENCE stands, whatever its rise starts. -/
theorem State.presenceRises_on : s.presenceRises.presence.on = true := by
  unfold State.presenceRises
  extract_lets counted s1
  have hon : s1.presence.on = true :=
    congrArg Presence.on (State.presence_startExchange (s := { s with presence := { s.presence with on := true } }))
  split
  · rwa [State.presence_checkLocal, State.presence_movePartner]
  · rwa [State.presence_checkRecovery]

/-- The fall of PRESENCE is a loss of an ACTIVE partner. -/
theorem State.presenceFalls_active (hactive : s.partner = .active) : ∃ l, (s.presenceFalls false).presence.on = false ∧
    (s.presenceFalls false).partner = .quiet ∧ (s.presenceFalls false).pulse.cause = 3 ∧
      (s.presenceFalls false).raised = l ++ [⟨0x0903, 0, 0, false, 0⟩] := by
  unfold State.presenceFalls
  extract_lets counted s1
  have hpartner : s1.partner = .active := hactive
  obtain ⟨l, hquiet, hstored, hraised⟩ := State.lose_active hpartner 3 false
  rw [if_pos (.inr hpartner)]
  exact ⟨l, congrArg Presence.on (State.presence_lose 3 false true), hquiet, congrArg Pulse.cause hstored, hraised⟩

/-- A window has ended with this many edges, the `good`th good one in a row. -/
def State.windowCounted (s : State) (edges good : Nat) : State :=
  { s with presence := { s.presence with edges := min 255 edges, good := good } }

/-- Good windows in a row, up to four, once one with this many edges has ended. -/
def State.goodRun (s : State) (edges : Nat) : Nat := if 48 ≤ edges ∧ edges ≤ 80 then min 4 (s.presence.good + 1) else 0

/-- What a window makes of PRESENCE, by whether it is within the limits and how many good ones that makes in a row. -/
theorem State.presenceWindow_eq (harm : s.inj.armed = false) (edges : Nat) : s.presenceWindow edges =
    if s.presence.on && !decide (48 ≤ edges ∧ edges ≤ 80) then (s.windowCounted edges (s.goodRun edges)).presenceFalls false
    else if !s.presence.on && s.goodRun edges == 4 then (s.windowCounted edges (s.goodRun edges)).presenceRises
    else s.windowCounted edges (s.goodRun edges) := by
  have hrun : (if decide (48 ≤ edges ∧ edges ≤ 80) then min 4 (s.presence.good + 1) else 0) = s.goodRun edges := by
    simp [State.goodRun]
  rw [← hrun]
  unfold State.presenceWindow
  rw [State.fire_unarmed _ _ _ harm]
  rfl

/-- A window outside the limits starts the count anew, and PRESENCE falls. -/
theorem State.presenceWindow_bad (harm : s.inj.armed = false) {edges : Nat} (hbad : edges < 48 ∨ 80 < edges) :
    s.presenceWindow edges = if s.presence.on then (s.windowCounted edges 0).presenceFalls false else s.windowCounted edges 0 := by
  have hout : ¬(48 ≤ edges ∧ edges ≤ 80) := by omega
  have hrun : s.goodRun edges = 0 := if_neg hout
  rw [State.presenceWindow_eq harm, hrun, decide_eq_false hout]
  cases s.presence.on <;> rfl

section
variable {edges : Nat} (harm : s.inj.armed = false) (hlow : 48 ≤ edges) (hhigh : edges ≤ 80) (hoff : s.presence.on = false)
include harm hlow hhigh hoff

/-- A window within the limits is counted before the fourth in a row. -/
theorem State.presenceWindow_early (hfew : s.presence.good < 3) :
    s.presenceWindow edges = s.windowCounted edges (s.presence.good + 1) := by
  have hrun : s.goodRun edges = s.presence.good + 1 := (if_pos ⟨hlow, hhigh⟩).trans (by omega)
  have hnot : ¬ (!false && s.presence.good + 1 == 4) = true := by simpa using hfew.ne
  rw [State.presenceWindow_eq harm, hrun, hoff, if_neg (by simp), if_neg hnot]

/-- PRESENCE rises with the fourth good window in a row. -/
theorem State.presenceWindow_fourth (hthree : s.presence.good = 3) :
    s.presenceWindow edges = (s.windowCounted edges 4).presenceRises := by
  have hrun : s.goodRun edges = 4 := (if_pos ⟨hlow, hhigh⟩).trans (by omega)
  rw [State.presenceWindow_eq harm, hrun, hoff, if_neg (by simp), if_pos (by decide)]

end

/-! ## The commands -/

theorem exec_presenceWindow (haon : s.aonHeld = false) (edges : Nat) :
    exec (.presenceWindow edges) s = .next (s.start.finish (s.start.presenceWindow edges)) :=
  runAon_up (fun x => x.presenceWindow edges) s haon

theorem exec_pulseFrame (haon : s.aonHeld = false) (harm : s.inj.armed = false) (p : List Byte) :
    exec (.pulseFrame p) s = .next (s.start.finish (s.start.pulseMsg p)) :=
  frame_unarmed (fun x => x.pulseMsg p) haon harm

theorem exec_pulseWindowEnd (haon : s.aonHeld = false) :
    exec .pulseWindowEnd s = .next (s.start.finish s.start.pulseWindow) := runAon_up State.pulseWindow s haon

end

/-- Settles O15: each PULSE, window and silence by what it makes of the partner; every loss by `State.lose_active`. -/
theorem pulsesAndPresence : Obligations.PulsesAndPresence := by
  unfold Obligations.PulsesAndPresence
  refine ⟨⟨fun s haon => ?start, fun s p haon harm hheat hup hstale => ?stored,
    fun s p haon harm hheat hdown hstale hactive => ?announced,
    fun s haon hpulse hmisses hheat hstale hactive hoff hpoint => ?heartbeat, fun s haon hunknown hoff => ?absent⟩,
    fun s edges haon harm hoff hbad => ?bad, fun s edges haon harm hoff hlow hhigh hfew => ?good,
    fun s edges haon harm hoff hlow hhigh hthree => ?rises, fun s edges haon harm hon hbad hactive => ?falls⟩
  case start =>
    have hexec : exec .pulseStart s = .next (s.start.finishLight s.start.pulseStart) := runAonLight_up _ s haon
    rw [hexec, State.pulseStart_eq (s := s.start) haon]
    rfl
  case stored =>
    rw [exec_pulseFrame haon harm, State.pulseMsg_heatless (s := s.start) hheat hstale, if_neg (by simp [hup])]
    simp [Pulse.heard, hheat, hup]
  case announced =>
    obtain ⟨l, hquiet, hstored, hraised⟩ := State.lose_active (s := { s.start with pulse := s.pulse.heard p }) hactive 2 false
    refine ⟨_, l, exec_pulseFrame haon harm p, ?_⟩
    rw [State.pulseMsg_heatless (s := s.start) hheat hstale, if_pos hdown]
    exact ⟨hquiet, congrArg Pulse.cause hstored, hraised⟩
  case heartbeat =>
    obtain ⟨l, hlost⟩ := State.pulseWindow_heartbeat (s := s.start) haon hpulse hmisses hheat hstale hpoint hactive
    exact ⟨_, l, exec_pulseWindowEnd haon, hlost⟩
  case absent =>
    obtain ⟨l, habsent⟩ := State.partnerAbsent_unknown (s := s.start) haon hunknown hoff
    exact ⟨_, l, runAon_up _ s haon, habsent⟩
  case bad =>
    rw [exec_presenceWindow haon, State.presenceWindow_bad (s := s.start) harm hbad, if_neg (by simp [hoff])]
    rfl
  case good =>
    rw [exec_presenceWindow haon, State.presenceWindow_early (s := s.start) harm hlow hhigh hoff hfew]
    rfl
  case rises =>
    refine ⟨_, exec_presenceWindow haon edges, ?_⟩
    rw [State.finish_presence, State.presenceWindow_fourth (s := s.start) harm hlow hhigh hoff hthree]
    exact State.presenceRises_on
  case falls =>
    obtain ⟨l, hlost⟩ := State.presenceFalls_active (s := s.start.windowCounted edges 0) hactive
    refine ⟨_, l, exec_presenceWindow haon edges, ?_⟩
    rwa [State.presenceWindow_bad (s := s.start) harm hbad, State.start_presence, if_pos hon]

end Sys2Proof.Machine

/-! # Proofs: writes of the PHY, discovery, package and cone control registers (chapters 10, 13 and 15) -/

namespace Sys2Proof.Machine

section
variable {s : State}

/-! ## A write while the set-up domain is up -/

theorem State.aonHeld_of_cfgUp (h : s.cfgUp = true) : s.aonHeld = false := by
  cases haon : s.aonHeld
  · rfl
  · simp [State.cfgUp, State.cfgHeld, show s.resets.aon = true from haon] at h

/-- A write to a register of the set-up domain reaches it while that domain is up. -/
theorem State.cfgWrite_up (h : s.cfgUp = true) {off : Nat} (hdomain : regDomain off = .cfg) (d : Word) :
    s.cfgWrite off d = s.writeReg off d := by
  refine State.cfgWrite_reaches (State.aonHeld_of_cfgUp h) ?_
  unfold State.regReachable
  rw [hdomain]
  exact h

/-- A plain write changes the register file alone. -/
theorem State.plainWrite_frame (s : State) (off : Nat) (d : Word) : s.plainWrite off d = { s with regs := (s.plainWrite off d).regs } := by
  unfold State.plainWrite
  split <;> rfl

section
variable (off : Nat) (d : Word)

@[simp] theorem State.postBusy_plainWrite : (s.plainWrite off d).postBusy = s.postBusy := by
  rw [State.plainWrite_frame]
  rfl

@[simp] theorem State.negDone_plainWrite : (s.plainWrite off d).negDone = s.negDone := by rw [State.plainWrite_frame]

@[simp] theorem State.mgmt_plainWrite : (s.plainWrite off d).mgmt = s.mgmt := by rw [State.plainWrite_frame]

@[simp] theorem State.disc_plainWrite : (s.plainWrite off d).disc = s.disc := by rw [State.plainWrite_frame]

end

theorem run_cfgWrite_up (h : s.cfgUp = true) {off : Nat} (hdomain : regDomain off = .cfg) (d : Word) :
    run (fun x => x.cfgWrite off d) s = .next (s.start.finish (s.start.writeReg off d)) := by
  rw [run, State.cfgWrite_up (s := s.start) h hdomain]

/-! ## CL_PHY_CTL (R375) -/

theorem exec_termEnWrite (h : s.cfgUp = true) (d : Word) : exec (.termEnWrite d) s = .next (s.start.finish (s.start.writePhy d)) :=
  run_cfgWrite_up h rfl d

/-- A write that TERM_EN may take only stores. -/
theorem State.writePhy_green (hgreen : s.allGreen true = true) (d : Word) : s.writePhy d = s.plainWrite 0x27C0 d :=
  if_neg fun hrefused => by simp [hgreen] at hrefused

/-- A change of TERM_EN while a strand is up is refused: TERM_EN is written as it stands, and 0x27C8[6] says so. -/
theorem State.writePhy_refused (hpers : s.build.pers = .L) (hgreen : s.allGreen true = false) {d : Word}
    (hchange : d.getLsbD 0 ≠ s.flag 0x27C0 0) : s.writePhy d =
      (s.plainWrite 0x27C0 (BitVec.ofNat 32 (setBits d.toNat 0 0 (b2n (s.flag 0x27C0 0))))).sticky 0x27C8 6 := by
  have hwant : bits d.toNat 0 0 = b2n (d.getLsbD 0) := by
    rw [BitVec.getLsbD, Nat.testBit_zero]
    simp only [bits, Nat.shiftRight_zero, b2n, decide_eq_true_eq]
    split <;> omega
  have hne : b2n (d.getLsbD 0) ≠ b2n (s.flag 0x27C0 0) := by
    revert hchange
    cases d.getLsbD 0 <;> cases s.flag 0x27C0 0 <;> decide
  refine if_pos ⟨?_, by simp [hgreen]⟩
  rwa [if_neg (by simp [hpers]), hwant]

/-- TERM_EN after a write that keeps it. -/
theorem State.termEn_kept (hpers : s.build.pers = .L) (v : Nat) :
    (s.plainWrite 0x27C0 (BitVec.ofNat 32 (setBits v 0 0 (b2n (s.flag 0x27C0 0))))).flag 0x27C0 0 = s.flag 0x27C0 0 := by
  have hrow : regRow s.build s.role 0x27C0 = some ⟨0xF, 0, 8⟩ := by simp [regRow, hpers]
  obtain ⟨hbits, -, -⟩ := registerWriteFollowsAccessCodes s _ (BitVec.ofNat 32 (setBits v 0 0 (b2n (s.flag 0x27C0 0)))) _ hrow
  refine (hbits 0 (by decide)).trans ?_
  rw [if_pos (by decide)]
  show (BitVec.ofNat 32 _).toNat.testBit 0 = _
  rw [BitVec.toNat_ofNat, Nat.testBit_mod_two_pow, setBits_testBit _ _ _ _ _ (le_refl 0)]
  cases s.flag 0x27C0 0 <;> rfl

/-! ## CL_DISC_CTL (R460, R468, R476) -/

/-- What POST, TOPO_CLR and RENEG of a write make of the state in which the write has been stored. -/
def State.discActs (s : State) (post clr reneg : Bool) : State :=
  let posted := if post then s.post else s
  let cleared := if clr then { posted with disc := { posted.disc with topo := [] } } else posted
  if reneg then cleared.reneg else cleared

theorem State.discActs_none : s.discActs false false false = s := rfl

theorem State.discActs_topoClr : s.discActs false true false = { s with disc := { s.disc with topo := [] } } := rfl

/-- While every strand is GREENWARE the whole write is stored, DIE_KIND with it. -/
theorem State.writeDisc_green (hgreen : s.allGreen false = true) (d : Word) :
    s.writeDisc d = (s.plainWrite 0x6400 d).discActs (d.getLsbD 9) (d.getLsbD 10) (d.getLsbD 11) := by
  have hkind : ¬(bits d.toNat 7 0 ≠ s.fld 0x6400 7 0 ∧ (!s.allGreen false) = true) := by simp [hgreen]
  exact congrArg (fun x : State => x.discActs _ _ _) (if_neg hkind)

theorem run_cfgWrite_disc (h : s.cfgUp = true) (hgreen : s.allGreen false = true) {d : Word} {post clr reneg : Bool}
    (hpost : d.getLsbD 9 = post) (hclr : d.getLsbD 10 = clr) (hreneg : d.getLsbD 11 = reneg) :
    run (fun x => x.cfgWrite 0x6400 d) s = .next (s.start.finish ((s.start.plainWrite 0x6400 d).discActs post clr reneg)) := by
  subst hpost hclr hreneg
  rw [run_cfgWrite_up h rfl, ← State.writeDisc_green (s := s.start) hgreen]
  rfl

/-- A bit of a write outside the mask that its command sets. -/
theorem getLsbD_or_unset {d m : Word} {i : Nat} (hd : d.getLsbD i = false) (hm : m.getLsbD i = false) : (d ||| m).getLsbD i = false := by
  rw [BitVec.getLsbD_or, hd, hm, Bool.or_false]

/-- A bit of a write that its command sets. -/
theorem getLsbD_or_set {m : Word} {i : Nat} (hm : m.getLsbD i = true) (d : Word) : (d ||| m).getLsbD i = true := by
  rw [BitVec.getLsbD_or, hm, Bool.or_true]

/-- A record that may be posted joins the messages to the peer. -/
theorem State.mgmt_post (hfree : s.postBusy = false) (hdone : s.negDone = true) : s.post.mgmt.length = s.mgmt.length + 1 := by
  simp [State.post, hfree, hdone, State.pushMsg]

/-! ## CL_DISC_PKG (R477) -/

/-- With no stream open a package id is taken, and nothing else changes. -/
theorem State.setPkg_closed (htx : s.tx = []) (hrx : s.rx = []) (w : Nat) :
    s.setPkg w = { s with regs := (s.setPkg w).regs } ∧ (s.setPkg w).reg 0x640C = BitVec.ofNat 32 w := by
  unfold State.setPkg
  split
  next hsame => exact ⟨rfl, by rw [hsame, State.regN, BitVec.ofNat_toNat, BitVec.setWidth_eq]⟩
  next =>
    rw [if_neg (by simp [htx, hrx])]
    exact ⟨rfl, State.reg_setReg_same _ _ _⟩

/-- The bits of a package id that are stored. -/
theorem ofNat_pkgMask (d : Word) : BitVec.ofNat 32 (d.toNat &&& 0x800007FF) = d &&& 0x800007FF#32 :=
  BitVec.eq_of_toNat_eq (by rw [BitVec.toNat_ofNat, BitVec.toNat_and, Nat.mod_eq_of_lt (lt_of_le_of_lt Nat.and_le_left d.isLt)]; rfl)

/-! ## CL_CONE_CTL (R528) -/

theorem exec_mmClr (h : s.aonHeld = false) (d : Word) : exec (.mmClr d) s = .next (s.start.finish (s.start.writeConeCtl (d ||| 1#32))) := by
  have hreach : s.start.regReachable 0x3200 = true := by simpa [State.regReachable, regDomain, State.aonHeld] using h
  exact congrArg (fun u => Host.Outcome.next (s.start.finish u)) (State.cfgWrite_reaches (s := s.start) h hreach)

/-- MM_CLR forgets the lowest and the highest reading of every cone. -/
theorem State.writeConeCtl_clears {d : Word} (hclr : d.getLsbD 0 = true) :
    ∀ c ∈ (s.writeConeCtl d).cones, c.low = none ∧ c.high = none := by
  unfold State.writeConeCtl
  dsimp only
  rw [if_pos hclr]
  intro c hc
  obtain ⟨x, -, rfl⟩ := List.mem_map.mp hc
  exact ⟨rfl, rfl⟩

end

/-- Settles O23: each write reaches its register, and what it does there is said by the register's own lemma. -/
theorem discoveryAndPhyWrites : Obligations.DiscoveryAndPhyWrites := by
  unfold Obligations.DiscoveryAndPhyWrites
  refine ⟨fun s d hcfg hpers hgreen => ?termGreen, fun s d hcfg hpers hup hchange => ?termRefused,
    fun s d hcfg hgreen hpost hclr hreneg => ?dieKind, fun s d hcfg hgreen hfree hdone hclr hreneg => ?post,
    fun s d hcfg hgreen hpost hreneg => ?topoClr, fun s d hcfg hgreen hpost hclr => ?reneg,
    fun s d hcfg htx hrx => ?pkg, fun s d haon => ?cones⟩
  case termGreen => rw [exec_termEnWrite hcfg, State.writePhy_green (s := s.start) hgreen]
  case termRefused =>
    refine ⟨_, exec_termEnWrite hcfg d, ?_⟩
    rw [State.writePhy_refused (s := s.start) hpers hup hchange]
    refine ⟨?_, State.flag_setFlag_same _ _ _ _ (by decide)⟩
    exact (State.flag_setFlag _ _ _ _ _ _ (by decide)).trans (State.termEn_kept (s := s.start) hpers _)
  case dieKind =>
    have hstored := run_cfgWrite_disc hcfg hgreen hpost hclr hreneg
    rwa [State.discActs_none] at hstored
  case post =>
    refine ⟨_, run_cfgWrite_disc hcfg hgreen (getLsbD_or_set rfl d) (getLsbD_or_unset hclr rfl) (getLsbD_or_unset hreneg rfl), ?_⟩
    have hposted := State.mgmt_post (s := s.start.plainWrite 0x6400 (d ||| 0x200#32))
      ((State.postBusy_plainWrite _ _).trans hfree) ((State.negDone_plainWrite _ _).trans hdone)
    rwa [State.mgmt_plainWrite] at hposted
  case topoClr =>
    refine ⟨_, run_cfgWrite_disc hcfg hgreen (getLsbD_or_unset hpost rfl) (getLsbD_or_set rfl d) (getLsbD_or_unset hreneg rfl), ?_⟩
    simp [State.discActs_topoClr]
  case reneg =>
    exact ⟨_, run_cfgWrite_disc hcfg hgreen (getLsbD_or_unset hpost rfl) (getLsbD_or_unset hclr rfl) (getLsbD_or_set rfl d),
      rfl, rfl, rfl, rfl⟩
  case pkg =>
    obtain ⟨hframe, hreg⟩ := State.setPkg_closed (s := s.start) htx hrx (d.toNat &&& 0x800007FF)
    exact ⟨_, run_cfgWrite_up hcfg rfl d, hframe, hreg.trans (ofNat_pkgMask d)⟩
  case cones =>
    refine ⟨_, exec_mmClr haon d, ?_⟩
    rw [State.finish_cones]
    exact State.writeConeCtl_clears (getLsbD_or_set rfl d)

end Sys2Proof.Machine

/-! # Proofs: time alignment (chapter 11) -/

namespace Sys2Proof.Machine

section
variable {s : State}

/-! ## TIME messages (R400) -/

section
variable {body : List Byte} {registered : Nat} {d : Int} (harm : s.inj.armed = false)
  (hd : d = (registered : Int) - (5 * (field body 0 8 : Int) + bits (byteAt body 8) 2 0) - 1)
include harm hd

/-- A difference that is no multiple of 5 UI is recorded, and nothing is agreed. -/
theorem State.timeMsg_offGrid (hoff : d % 5 ≠ 0) : s.timeMsg body registered =
    { (s.sticky 0x2088 4).raise 0x0114 0 with peerTime := some (bit (byteAt body 8) 3, false) } := by
  subst hd
  unfold State.timeMsg
  rw [State.fire_unarmed s _ _ harm]
  exact if_pos hoff

/-- From a peer that is not TRUSTED only its report is taken. -/
theorem State.timeMsg_untrusted (hgrid : d % 5 = 0) (htheirs : bit (byteAt body 8) 3 = false) :
    s.timeMsg body registered = { s with peerTime := some (false, d / 5 == 0) } := by
  subst hd
  unfold State.timeMsg
  rw [State.fire_unarmed s _ _ harm]
  refine (if_neg (not_not.mpr hgrid)).trans ?_
  rw [htheirs]
  rfl

/-- A TRUSTED peer's TIME that agrees makes this side TRUSTED, if it is not yet. -/
theorem State.timeMsg_agrees (hzero : d = 0) (htheirs : bit (byteAt body 8) 3 = true) : (s.timeMsg body registered).trusted = true := by
  rw [hzero] at hd
  unfold State.timeMsg
  rw [State.fire_unarmed s _ _ harm]
  dsimp only
  rw [if_neg Bool.false_ne_true, ← hd, htheirs]
  cases s.trusted
  · rfl
  · rfl

end

/-- 1 ms in BISQUE while this side is not ALIGNED is recorded once. -/
theorem State.timeWait_unaligned (hopen : s.bisqueOpen = true) (hunseen : s.bisque.waitSeen = false) (hunaligned : s.aligned = false) :
    s.timeWait = ({ s with bisque := { s.bisque with waitSeen := true } }.sticky 0x2088 2).raise 0x0112 0 := by
  unfold State.timeWait
  rw [hunaligned, hopen, hunseen]
  rfl

/-- LCLK cycles from now to the armed edge (R401). -/
def State.adjustAhead (s : State) : Nat := (s.regN 0x20A0 + 2 ^ 32 - s.now % 2 ^ 32) % 2 ^ 32

/-- The armed edge: the count takes count + 1 - ADJ, and this side is TRUSTED. -/
theorem State.timeAdjust_armed (harmed : s.flag 0x2080 3 = true) (haon : s.aonHeld = false) :
    s.timeAdjust.trusted = true ∧ s.timeAdjust.phase = 0 ∧
      s.timeAdjust.fcount = BitVec.ofInt 64 ((s.now + s.adjustAhead + 1 : Int) - s.signedPair 0x2098) := by
  unfold State.timeAdjust
  rw [if_neg (by simp [harmed, haon])]
  refine ⟨rfl, rfl, ?_⟩
  show BitVec.ofNat 64 _ = _
  apply BitVec.eq_of_toNat_eq
  rw [BitVec.toNat_ofInt, BitVec.toNat_ofNat]
  unfold State.adjustAhead
  push_cast
  omega

end

/-- Settles O45: each TIME message by its whole difference and the peer's trust. -/
theorem timeIsAligned : Obligations.TimeIsAligned := by
  unfold Obligations.TimeIsAligned
  refine ⟨fun s k registered body rest d hcfg harm hmsgs hd => ?message, fun s hcfg hopen hunseen hunaligned => ?wait,
    fun s ahead haon harmed hahead => ?adjust⟩
  case message =>
    have hexec : exec (.timeMessage registered) s =
        .next (s.start.finish ((s.heeding rest).timeMsg body registered)) :=
      runUp_takeLink hcfg hmsgs (fun _ b x => x.timeMsg b registered)
    have harm' : (s.heeding rest).inj.armed = false := harm
    refine ⟨fun hoff => ⟨_, hexec, ?_⟩, fun hzero htheirs => ⟨_, hexec, ?_⟩, fun hgrid htheirs => ?_⟩
    · rw [State.timeMsg_offGrid harm' hd hoff]
      exact ⟨rfl, rfl⟩
    · rw [State.finish_trusted]
      exact State.timeMsg_agrees harm' hd hzero htheirs
    · rw [hexec, State.timeMsg_untrusted harm' hd hgrid htheirs]
      rfl
  case wait =>
    refine ⟨_, runUpLight_up _ s hcfg, ?_⟩
    rw [State.timeWait_unaligned (s := s.start) hopen hunseen hunaligned]
    exact ⟨rfl, rfl⟩
  case adjust =>
    subst hahead
    refine ⟨_, runAon_up State.timeAdjust s haon, ?_⟩
    rw [State.finish_trusted, State.finish_phase, State.finish_fcount]
    exact State.timeAdjust_armed (s := s.start) harmed haon

end Sys2Proof.Machine

/-! # Proofs: full-rate wedging (chapter 11) -/

namespace Sys2Proof.Machine

section
variable {s : State} {i : Nat}

/-! ## A group engine takes a strand (R402, R591) -/

/-- A strand that a group engine has just taken. -/
def Strand.taken (x : Strand) : Strand := { x with
  sub := .cal, wedging := true, step := 0, own := 0, peer := 0, fails := 0, reentry := false, again := false, quick := false, waking := false,
  armed := false, clkFault := false, moved := [], failSeen := false, serial := false }

/-- A group engine without a waking strand, and with room in the wire power's change, reads the records of its next strand. -/
theorem State.groupEngine_takes {g : Nat} (hg : g < s.build.sgs) (hinstr : s.test.ir ≠ 0)
    (hwaking : (s.groupStrands g).any (fun j => (s.strand j).waking) = false) (hnext : s.wedgeNext g = some i)
    (hready : s.wedgeReady = true) (hroom : s.wireRoom 1 = true) :
    s.groupEngine g = ((s.wireMove 1).modStrand i Strand.taken).readCal i := by
  have hacts : ¬(s.test.ir = 0 ∨ s.build.sgs ≤ g) := by omega
  unfold State.groupEngine State.wedgeStart
  rw [if_neg hacts, if_neg (by simp [hwaking]), hnext]
  exact if_neg (by simp [hready, hroom])

/-! ## The end of a wedging step (R403, R407) -/

section
variable {ms : List LaneMeas} (harm : s.inj.armed = false) (hwedging : (s.strand i).wedging = true)
include harm hwedging

/-- W1 done: the clock detector is armed, the duty cycle is corrected (R393), and W2 follows. -/
theorem State.wedgeStepDone_first (hstep : (s.strand i).step = 1) (hbehind : (s.strand i).own < 1) (hslow : (s.strand i).quick = false) :
    s.wedgeStepDone i false ms = ((((s.modStrand i (fun y => { y with armed := true, clkFault := false })).correctDuty i).modStrand i
      (fun y => { y with own := 1, step := 2 })).sendStep i 1 true).checkSignoff i := by
  have hopen : ¬ 1 ≤ (s.strand i).own := by omega
  simp [State.wedgeStepDone, hwedging, hstep, hopen, hslow, State.fire_unarmed _ _ _ harm]

/-- W1 failed: the peer is told, and the failure counts against the strand. -/
theorem State.wedgeStepDone_failed (hstep : (s.strand i).step = 1) (hbehind : (s.strand i).own < 1) :
    s.wedgeStepDone i true ms = (s.sendStep i 1 false).wedgeFail i 1 [] false := by
  have hopen : ¬ 1 ≤ (s.strand i).own := by omega
  simp [State.wedgeStepDone, hwedging, hstep, hopen, State.fire_unarmed _ _ _ harm]

/-- W5 done: W6 follows. -/
theorem State.wedgeStepDone_fifth (hstep : (s.strand i).step = 5) (hbehind : (s.strand i).own < 5) : s.wedgeStepDone i false ms =
    ((s.modStrand i (fun y => { y with own := 5, step := 6 })).sendStep i 5 true).checkSignoff i := by
  have hopen : ¬ 5 ≤ (s.strand i).own := by omega
  simp [State.wedgeStepDone, hwedging, hstep, hopen, State.fire_unarmed _ _ _ harm]

end

/-- The time limit is the failure of a strand whose sides have not both signed off. -/
theorem State.wedgeTimeout_fails (hwedging : (s.strand i).wedging = true) (hbegun : (s.strand i).step ≠ 0) (hopen : (s.strand i).own ≠ 6) :
    s.wedgeTimeout i = (s.sendStep i (s.strand i).step false).wedgeFail i 0 [] false := by
  simp [State.wedgeTimeout, hwedging, hbegun, hopen]

/-! ## Messages of the peer (R404, R409) -/

/-- A STEP of the peer that reports a wedging step done. -/
theorem State.stepMsg_done {body : List Byte} {step : Nat} (hstrand : byteAt body 0 = i) (hi : i < s.build.strands)
    (hbits : bits (byteAt body 1) 3 0 = step) (hlow : 1 ≤ step) (hhigh : step ≤ 6) (hdone : bit (byteAt body 1) 4 = true)
    (hfail : bit (byteAt body 1) 5 = false) (hwedging : (s.strand i).wedging = true) (hbegun : (s.strand i).step ≠ 0) :
    s.stepMsg body = (s.modStrand i (fun y => { y with peer := max y.peer step, failSeen := false })).checkSignoff i := by
  have hpresent : ¬ s.build.strands ≤ i := by omega
  have hnotRun : step ≠ 7 ∧ step ≠ 8 := by omega
  simp [State.stepMsg, State.peerStep, hstrand, hpresent, hbits, hlow, hhigh, hdone, hfail, hnotRun, hwedging, hbegun]

/-- The eye heights that a message brings, by lane. -/
def eyesOf (b : Build) (body : List Byte) : List (Nat × Nat) :=
  ((List.range (min 128 (body.length - 4))).map (fun j => (128 * byteAt body 1 + j, byteAt body (4 + j)))).filter
    (fun p => p.1 < b.laneCount)

/-- Eye heights of a calibration whose settings are not applied yet wait in the strand. -/
theorem State.vrefEye_waits {body : List Byte} {c : CalRun} (hstrand : byteAt body 0 = i) (hi : i < s.build.strands)
    (hidle : (s.strand i).wedging = false) (hcal : s.cal = some c) (hc : c.strand = i) (hbegun : c.phase ≠ .agreed)
    (hunapplied : c.applied = false) (hkept : c.restored = false) (hgood : c.failed = false) :
    s.vrefEye body = s.modStrand i (fun y => { y with peerEye := y.peerEye ++ eyesOf s.build body }) := by
  have hpresent : ¬ i ≥ s.build.strands := by omega
  have hrun : s.cal.filter (fun d => d.strand == i && d.phase != .agreed) = some c := by
    rw [hcal]
    exact Option.filter_some_pos (by simp [hc, hbegun])
  unfold State.vrefEye
  rw [hstrand]
  dsimp only
  rw [if_neg hpresent, if_neg (by simp [hidle]), hrun]
  dsimp only
  rw [if_neg (by simp [hkept, hgood]), if_neg (by simp [hunapplied])]
  rfl

end

/-! ## The commands -/

section
variable {s : State} {i : Nat} (hcfg : s.cfgUp = true)
include hcfg

theorem exec_wedgeStart {g : Nat} (hg : g < s.build.sgs) :
    exec (.wedgeStart g) s = .next (s.start.finish (s.start.groupEngine g)) :=
  (named_present _ _ _ hg).trans (runUp_up (fun x => x.groupEngine g) s hcfg)

theorem exec_wedgeStepDone (hi : i < s.build.strands) (fail : Bool) (ms : List LaneMeas) :
    exec (.wedgeStepDone i fail ms) s = .next (s.start.finish (s.start.wedgeStepDone i fail ms)) :=
  (named_present _ _ _ hi).trans (runUp_up (fun x => x.wedgeStepDone i fail ms) s hcfg)

theorem exec_wedgeFailTimeout (hi : i < s.build.strands) :
    exec (.wedgeFailTimeout i) s = .next (s.start.finish (s.start.wedgeTimeout i)) :=
  (named_present _ _ _ hi).trans (runUp_up (fun x => x.wedgeTimeout i) s hcfg)

theorem exec_stepRepeat (hi : i < s.build.strands) {b : List Byte} (hsaid : (s.strand i).said = some b) :
    exec (.stepRepeat i) s = .next (s.start.finishLight (s.start.pushMsg 0x29 b)) := by
  have hsaid' : (s.start.strand i).said = some b := hsaid
  refine (named_present _ _ _ hi).trans ((runUpLight_up _ s hcfg).trans ?_)
  rw [hsaid']

end

/-- Settles O46: the engine, each step's end and each message of the peer by what it makes of its strand. -/
theorem wedgingAdvances : Obligations.WedgingAdvances := by
  unfold Obligations.WedgingAdvances
  refine ⟨fun s g i hcfg hg hinstr hwaking hnext hready hroom => ?start,
    fun s i step ms hcfg harm hi hwedging hstep hsome hbehind hslow => ⟨?done, fun hone => ?failed, ?late⟩,
    fun s k i step body rest hcfg hmsgs hstrand hi hbits hlow hhigh hdone hfail hwedging hbegun => ?peer,
    fun s i b hcfg hi hsaid => exec_stepRepeat hcfg hi hsaid,
    fun s k i c body rest hcfg hmsgs hstrand hi hlen hidle hcal hc hbegun hunapplied hkept hgood => ?eyes⟩
  case start =>
    rw [exec_wedgeStart hcfg hg, State.groupEngine_takes (s := s.start) hg hinstr hwaking hnext hready hroom]
    rfl
  case done =>
    rw [exec_wedgeStepDone hcfg hi]
    rcases hsome with rfl | rfl
    · rw [State.wedgeStepDone_first (s := s.start) harm hwedging hstep hbehind hslow, if_pos rfl]
    · rw [State.wedgeStepDone_fifth (s := s.start) harm hwedging hstep hbehind, if_neg (by decide)]
  case failed =>
    subst hone
    rw [exec_wedgeStepDone hcfg hi, State.wedgeStepDone_failed (s := s.start) harm hwedging hstep hbehind]
  case late =>
    have hbegun : (s.strand i).step ≠ 0 := by omega
    have hopen : (s.strand i).own ≠ 6 := by omega
    rw [exec_wedgeFailTimeout hcfg hi, State.wedgeTimeout_fails (s := s.start) hwedging hbegun hopen, ← hstep]
    rfl
  case peer =>
    have hexec : exec .stepMessage s = .next (s.start.finish ((s.heeding rest).stepMsg body)) :=
      runUp_takeLink hcfg hmsgs (fun _ b x => x.stepMsg b)
    rw [hexec, State.stepMsg_done (s := s.heeding rest) hstrand hi hbits hlow hhigh hdone hfail hwedging hbegun]
    rfl
  case eyes =>
    have hexec : exec .vrefEye s = .next (s.start.finish ((s.heeding rest).vrefEye body)) :=
      runUp_takeLink hcfg hmsgs (fun _ b x => x.vrefEye b)
    refine ⟨_, hexec, ?_⟩
    rw [State.vrefEye_waits (s := s.heeding rest) hstrand hi hidle hcal hc hbegun hunapplied hkept hgood,
      State.strand_modStrand_same (s.heeding rest) i _ hlen]
    rfl

end Sys2Proof.Machine

/-! # Proofs: calibration in service (chapter 11) -/

namespace Sys2Proof.Machine

section
variable {s : State} {i : Nat}

/-! ## Due strands and the schedule (R410, R411) -/

/-- A strand that is up and not due yet becomes due. -/
theorem State.intervalDue_makesDue (hon : s.fld 0x2004 15 0 ≠ 0) (hup : (s.strand i).state = .fired ∨ (s.strand i).state = .crazed)
    (hnot : (s.strand i).dueAt = none) : s.intervalDue i = s.modStrand i (fun y => { y with dueAt := some s.now, waited := 0 }) := by
  unfold State.intervalDue
  rw [if_neg hon]
  exact if_pos ⟨hup, by simp [hnot]⟩

/-- The queue head is scheduled where it may be taken, or has waited for 64 frames as a member of a set. -/
theorem State.calSchedule_head {l : List Nat} {row : Nat} (hidle : s.cal = none) (hqueue : s.calQueue = i :: l)
    (hstays : (s.strand i).leave = none) (hrow : row = boundaryFrom (s.lclk + 64))
    (hmay : s.mayTake i row = true ∨ s.isMember i = true ∧ 64 ≤ (s.strand i).waited) : s.calSchedule =
      State.sendCal { s with cal := some { strand := i, row := row, mine := true, forced := !s.mayTake i row } } i row false := by
  subst hrow
  unfold State.calSchedule
  rw [hidle, hqueue]
  refine if_neg ?_
  simpa [hstays, or_iff_not_imp_left] using hmay

/-- The peer's CAL is taken while no calibration of the link is planned. -/
theorem State.calMsg_takes {body : List Byte} {row : Nat} (hstrand : byteAt body 0 = i) (hi : i < s.build.strands)
    (hrow : s.rowBoundary (field body 2 2 % 4096) = some row) (hplan : bit (byteAt body 4) 0 = false) (hidle : s.cal = none) :
    s.calMsg body = { s with cal := some { strand := i, row := row, mine := false } } := by
  unfold State.calMsg
  rw [hstrand, hrow, hidle, hplan]
  exact if_neg (by omega)

/-! ## Runs and their application (R413 to R415) -/

/-- Eye heights are sent as messages, and change nothing else. -/
theorem State.cal_sendEyes (ms : List LaneMeas) : (s.sendEyes i ms).cal = s.cal :=
  forRange_keeps (fun x : State => x.cal = s.cal) _ _ _ (fun _ _ hx => hx) rfl

/-- The calibration in service is replaced by what it has become. -/
theorem State.cal_setRun {c d : CalRun} (hcal : s.cal = some c) (hbegun : c.phase ≠ .agreed) (hsame : c.strand = d.strand) :
    (s.setRun d).cal = some d := by
  unfold State.setRun
  rw [if_pos (by simp [hcal, hbegun, hsame])]

/-- Runs that agree leave their settings waiting, where they are not to be applied at once. -/
theorem State.calRunDone_waits {c : CalRun} {first : List LaneMeas} (harm : s.inj.armed = false) (hcal : s.cal = some c)
    (hphase : c.phase = .running) (hcheck : s.fld 0x2000 6 5 = 1) (happly : s.fld 0x2000 8 7 ≠ 0) (hlong : first.filter s.short = []) :
    ∃ c', (s.calRunDone first []).cal = some c' ∧ c'.phase = .pend ∧ c'.strand = c.strand := by
  have hfire : (if s.inj.param ≤ 1 then s.fire 0x34 c.strand else (false, s)) = (false, s) := by
    rw [State.fire_unarmed _ _ _ harm, ite_self]
  have hshort : (first.filter (fun m => s.rxInUse c.strand m.lane)).filter s.short = [] := by
    rw [List.filter_comm, hlong, List.filter_nil]
  have hbegun : c.phase ≠ .agreed := by simp [hphase]
  unfold State.calRunDone
  rw [hcal]
  dsimp only
  rw [if_neg (not_not.mpr hphase), hfire, hcheck]
  dsimp only
  simp only [bne_self_eq_false, Bool.false_eq_true, if_false, List.append_nil, hshort, List.map_nil, List.isEmpty_nil, Bool.not_true,
    Bool.false_and, Bool.or_self, if_neg happly]
  exact ⟨_, State.cal_setRun ((State.cal_sendEyes _).trans hcal) hbegun rfl, rfl, rfl⟩

/-- Runs that exceed BUDGET fail, where the runs are checked at all. -/
theorem State.calTimeout_fails {c : CalRun} (hcal : s.cal = some c) (hphase : c.phase = .running) (hcheck : s.fld 0x2000 6 5 ≠ 0) :
    s.calTimeout = s.calFails c 0x0A02 false := by
  unfold State.calTimeout
  rw [hcal]
  exact if_pos ⟨hphase, hcheck⟩

/-- Settings that wait are applied in an idle window under APPLY 2. -/
theorem State.applyPending_idle {c : CalRun} (hcal : s.cal = some c) (hphase : c.phase = .pend) (happly : s.fld 0x2000 8 7 = 2) :
    s.applyPending true = s.applyCal c := by
  unfold State.applyPending
  rw [hcal]
  exact if_pos ⟨hphase, happly⟩

/-! ## The check (R416) -/

/-- The check ends at this side: a failure returns the former settings, unless the peer's has done so. -/
theorem State.verifyDone_eq {c : CalRun} (harm : s.inj.armed = false) (hrun : s.runOf i = some c) (hphase : c.phase = .verify)
    (hfirst : c.own = 0) (ok : Bool) {u : State} (hu : u = (s.setRun { c with own := if ok then 1 else 2 }).sendStep i 8 ok) :
    s.verifyDone i ok = (if ok = true ∨ c.peer = 2 then u else u.failCheck i false).checkVerify i := by
  subst hu
  have hfire : (if s.inj.param = 2 then s.fire 0x34 i else (false, s)) = (false, s) := by
    rw [State.fire_unarmed _ _ _ harm, ite_self]
  unfold State.verifyDone
  rw [hrun]
  dsimp only
  rw [if_neg (by simp [hphase, hfirst]), hfire]
  simp only [Bool.not_false, Bool.and_true]

/-! ## The commands -/

section
variable (hcfg : s.cfgUp = true)
include hcfg

theorem exec_calIntervalDue (hi : i < s.build.strands) :
    exec (.calIntervalDue i) s = .next (s.start.finishLight (s.start.intervalDue i)) :=
  (named_present _ _ _ hi).trans (runUpLight_up (fun x => x.intervalDue i) s hcfg)

theorem exec_calSchedule : exec .calSchedule s = .next (s.start.finish s.start.calSchedule) := runUp_up State.calSchedule s hcfg

theorem exec_calMessage {k : Nat} {body : List Byte} {rest : List (Nat × Nat × List Byte)} (hmsgs : s.linkMsgs = (k, 0x2A, body) :: rest) :
    exec .calMessage s = .next (s.start.finish ((s.heeding rest).calMsg body)) := runUp_takeLink hcfg hmsgs (fun _ b x => x.calMsg b)

theorem exec_calRunDone (first second : List LaneMeas) :
    exec (.calRunDone first second) s = .next (s.start.finish (s.start.calRunDone first second)) :=
  runUp_up (fun x => x.calRunDone first second) s hcfg

theorem exec_calBudgetTimeout : exec .calBudgetTimeout s = .next (s.start.finish s.start.calTimeout) := runUp_up State.calTimeout s hcfg

theorem exec_calIdleApply : exec .calIdleApply s = .next (s.start.finish (s.start.applyPending true)) :=
  runUp_up (fun x => x.applyPending true) s hcfg

theorem exec_calVerifyDone (hi : i < s.build.strands) (ok : Bool) :
    exec (.calVerifyDone i ok) s = .next (s.start.finish (s.start.verifyDone i ok)) :=
  (named_present _ _ _ hi).trans (runUp_up (fun x => x.verifyDone i ok) s hcfg)

end

end

/-- Settles O47: each step of a calibration by what it makes of the run. -/
theorem calibrationAdvances : Obligations.CalibrationAdvances := by
  unfold Obligations.CalibrationAdvances
  refine ⟨fun s i hcfg hi hon hup hnot => ?due, fun s i row l hcfg hidle hqueue hstays hrow hmay => ?schedule,
    fun s k i row body rest hcfg hmsgs hstrand hi hrow hplan hidle => ?message,
    fun s c first hcfg harm hcal hphase => ⟨fun hcheck happly hlong => ?agree, fun hcheck => ?late⟩,
    fun s c hcfg hcal hphase happly => ?apply, fun s i c ok hcfg hi harm hrun hphase hfirst u hu => ?check⟩
  case due =>
    rw [exec_calIntervalDue hcfg hi, State.intervalDue_makesDue (s := s.start) hon hup hnot]
    rfl
  case schedule =>
    rw [exec_calSchedule hcfg, State.calSchedule_head (s := s.start) hidle hqueue hstays hrow hmay]
    rfl
  case message =>
    rw [exec_calMessage hcfg hmsgs, State.calMsg_takes (s := s.heeding rest) hstrand hi hrow hplan hidle]
    rfl
  case agree =>
    obtain ⟨c', hwaits⟩ := State.calRunDone_waits (s := s.start) harm hcal hphase hcheck happly hlong
    exact ⟨_, c', exec_calRunDone hcfg first [], hwaits⟩
  case late => rw [exec_calBudgetTimeout hcfg, State.calTimeout_fails (s := s.start) hcal hphase hcheck]
  case apply => rw [exec_calIdleApply hcfg, State.applyPending_idle (s := s.start) hcal hphase happly]
  case check => rw [exec_calVerifyDone hcfg hi, State.verifyDone_eq (s := s.start) harm hrun hphase hfirst ok hu]

end Sys2Proof.Machine

/-! # Proofs: calibration, repair and self-test descriptors (chapters 11, 12 and 15) -/

namespace Sys2Proof.Machine

/-- The strands named from one to itself. -/
theorem filter_le_range_self (i : Nat) : (List.range (i + 1)).filter (fun j => i ≤ j) = [i] := by
  have hbelow : (List.range i).filter (fun j => i ≤ j) = [] := by simp
  simp [List.range_succ, List.filter_append, hbelow]

section
variable {s : State} {e : List Byte} {i : Nat}

/-! ## CAL_REQUEST (R417) -/

/-- A strand that is up is due once it has been made due. -/
theorem State.dueAt_makeDue (hup : (s.strand i).state = .fired ∨ (s.strand i).state = .crazed) (hlen : i < s.strands.length) :
    ((s.makeDue i).strand i).dueAt.isSome = true := by
  unfold State.makeDue
  dsimp only
  split
  next => rw [State.strand_modStrand_same s i _ hlen]; rfl
  next hnot => simpa [hup, Option.isSome_iff_ne_none] using hnot

theorem State.calReqs_makeDue : (s.makeDue i).calReqs = s.calReqs := by
  unfold State.makeDue
  dsimp only
  split
  · rfl
  · rfl

/-- A request that waits for a strand goes on waiting. -/
theorem State.finishCalReqs_single {r : CalReq} (hreqs : s.calReqs = [r]) (hleft : r.left ≠ []) : s.finishCalReqs = s := by
  simp [State.finishCalReqs, hreqs, hleft]

/-- A CAL_REQUEST of one strand that is up makes it due, and waits for it. -/
theorem State.calRequest_single (hstrand : byteAt e 8 = i) (hspan : byteAt e 9 = 0) (hi : i < s.linkStrands) (hpartner : s.partnerStatus = none)
    (hup : (s.strand i).state = .fired ∨ (s.strand i).state = .crazed) (hidle : s.calReqs = []) (desc : Nat) : s.calRequest desc e =
      { s.makeDue i with calReqs := [{ desc := desc, save := bit (byteAt e 10) 0, left := [i] }] } := by
  have hok : ((s.strand i).state == .fired || (s.strand i).state == .crazed) = true := by simpa using hup
  have hone : (List.range (i + 0 + 1)).filter (fun j => decide (i ≤ j)) = [i] := filter_le_range_self i
  have hnow : [i].filter (fun j => (s.strand j).state == .fired || (s.strand j).state == .crazed) = [i] :=
    List.filter_cons_of_pos hok
  have hall : [i].any (fun j => !((s.strand j).state == .fired || (s.strand j).state == .crazed)) = false := by
    rw [List.any_cons, hok]
    rfl
  unfold State.calRequest
  rw [hstrand, hspan, State.checked_of_pass]
  · dsimp only
    rw [hone, hnow, hall, State.finishCalReqs_single (r := { desc := desc, save := bit (byteAt e 10) 0, left := [i] })]
    · simp [State.calReqs_makeDue, hidle]
    · simp [State.calReqs_makeDue, hidle]
    · simp
  · simp [hi, hpartner]

/-! ## REPAIR_CMD (R451) -/

/-- A sweep asked for of a strand that is up waits in the strand. -/
theorem State.repairCmd_sweeps (hstrand : byteAt e 8 = i) (hi : i < s.linkStrands) (haction : byteAt e 9 = 0) (hgroup : byteAt e 10 = 0)
    (hlane : field e 0x0C 2 = 0) (hpartner : s.partnerStatus = none) (hup : (s.strand i).state = .fired ∨ (s.strand i).state = .crazed)
    (desc : Nat) : s.repairCmd desc e = s.modStrand i (fun y => { y with waits := y.waits ++ [{ cause := .command, desc := some desc }] }) := by
  have hok : ((s.strand i).state == .fired || (s.strand i).state == .crazed) = true := by simpa using hup
  unfold State.repairCmd
  rw [hstrand, haction, hgroup, hlane, State.checked_of_pass]
  · rfl
  · simp [hi, hpartner, hok]

/-! ## BIST_SLICE and BIST_FULL (R542, R543) -/

/-- A slice asked for of a strand that is up, and no member of a set, waits. -/
theorem State.bistSliceCmd_waits (hstrand : byteAt e 8 = i) (hi : i < s.linkStrands) (hbudget : field e 10 2 ≤ 64)
    (hup : (s.strand i).state = .fired ∨ (s.strand i).state = .crazed) (hfree : s.isMember i = false) (htst : s.tstOn = true) (desc : Nat) :
    s.bistSliceCmd desc e = s.modBist (fun b => { b with waits := b.waits ++ [{
      desc := desc, strand := i, budget := if field e 10 2 = 0 then 8000 else 1000 * field e 10 2 }] }) := by
  have hdown : ((s.strand i).state != .fired && (s.strand i).state != .crazed) = false := by rcases hup with h | h <;> simp [h]
  unfold State.bistSliceCmd
  rw [hstrand, State.checked_of_pass]
  simp [hi, hbudget, hdown, hfree, htst]

/-- The strands and cones of a full BIST of one strand. -/
def State.fullRun (s : State) (desc i : Nat) : FullRun := { desc := desc, left := [(i, 1)], cones := s.coneList }

/-- The block when a full BIST of one strand has begun, before the mode of the strand is chosen. -/
def State.fullBegun (s : State) (desc i : Nat) : State := { s.modStrand i (fun x => { x with sub := .test }) with
  cones := s.cones.mapIdx (fun k (c : Cone) => { c with check := c.check || coneExists s.build k })
  bist := { s.bist with full := some (s.fullRun desc i), inner := false } }

/-- A full BIST of one strand that is ready begins. -/
theorem State.bistFullCmd_single (hstrand : byteAt e 8 = i) (hspan : byteAt e 9 = 0) (hi : i < s.linkStrands) (htst : s.tstOn = true)
    (hgreen : (s.strand i).state = .greenware) (hrest : (s.strand i).sub = .none) (hon : s.domainOn (i / 16) = true)
    (hidle : s.bist.full = none) (desc : Nat) :
    s.bistFullCmd desc e = (s.fullBegun desc i).fullSetup (s.fullRun desc i).running := by
  have hone : (List.range (i + 0 + 1)).filter (fun j => decide (i ≤ j)) = [i] := filter_le_range_self i
  unfold State.bistFullCmd
  rw [hstrand, hspan, State.checked_of_pass]
  · dsimp only
    rw [hone]
    rfl
  · rw [hone]
    simp [hi, htst, hgreen, hrest, hon, hidle]

/-- The choice of modes leaves what is left of the run. -/
theorem State.full_fullSetup (desc : Nat) (ids : List Nat) : ∃ f, ((s.fullBegun desc i).fullSetup ids).bist.full = some f ∧ f.desc = desc ∧
    f.left = [(i, 1)] := ⟨_, rfl, rfl, rfl⟩

theorem State.coneValid_fullSetup (ids : List Nat) (c : Nat) : (s.fullSetup ids).coneValid c = s.coneValid c := rfl

theorem State.sub_fullSetup_fullBegun (hlen : i < s.strands.length) (desc : Nat) (ids : List Nat) :
    (((s.fullBegun desc i).fullSetup ids).strand i).sub = .test :=
  congrArg Strand.sub (State.strand_modStrand_same s i (fun x => { x with sub := .test }) hlen)

/-- A cone that has begun its reference check gives no reading. -/
theorem State.coneValid_fullBegun {c : Nat} (hlen : c < s.cones.length) (hexists : coneExists s.build c = true) (desc : Nat) :
    (s.fullBegun desc i).coneValid c = false := by
  have hcheck : ((s.fullBegun desc i).cones.getD c {}).check = true := by
    simp [State.fullBegun, List.getD_eq_getElem?_getD, hlen, hexists]
  unfold State.coneValid
  dsimp only
  rw [hcheck]
  simp

end

/-- Settles O33: each descriptor's checks pass, and what it leaves waits or has begun. -/
theorem strandDescriptors : Obligations.StrandDescriptors := by
  unfold Obligations.StrandDescriptors
  refine ⟨fun s p i e hoffers hstrand hspan hi hpartner hup hidle hlen => ?calibration,
    fun s p i e hoffers hstrand hi hbudget hup hfree htst => ?slice,
    fun s p i e hoffers hstrand hspan hi htst hgreen hrest hon hidle hlen => ?full,
    fun s p i e hoffers hstrand hi haction hgroup hlane hpartner hup => ?repair⟩
  case calibration =>
    refine ⟨_, exec_calRequest_offered hoffers, ?_⟩
    rw [State.calRequest_single (s := s.taken p e) hstrand hspan hi hpartner hup hidle]
    exact ⟨State.dueAt_makeDue (s := s.taken p e) hup hlen, rfl⟩
  case slice =>
    rw [exec_bistSlice_offered hoffers, State.bistSliceCmd_waits (s := s.taken p e) hstrand hi hbudget hup hfree htst]
  case full =>
    obtain ⟨f, hfull, hdesc, hleft⟩ := State.full_fullSetup (s := s.taken p e) (i := i) s.nextDesc ((s.taken p e).fullRun s.nextDesc i).running
    refine ⟨_, f, exec_bistFull_offered hoffers, ?_⟩
    rw [State.bistFullCmd_single (s := s.taken p e) hstrand hspan hi htst hgreen hrest hon hidle]
    refine ⟨hfull, hdesc, hleft, State.sub_fullSetup_fullBegun (s := s.taken p e) hlen _ _, fun c _ hc hexists => ?_⟩
    rw [State.coneValid_fullSetup]
    exact State.coneValid_fullBegun (s := s.taken p e) hc hexists _
  case repair =>
    rw [exec_repairCmd_offered hoffers, State.repairCmd_sweeps (s := s.taken p e) hstrand hi haction hgroup hlane hpartner hup]

end Sys2Proof.Machine

/-! # Proofs: the sideband and bisque training (chapter 11) -/

namespace Sys2Proof.Machine

/-! ## The bits of a frame (R382, R383) -/

theorem byteOf_testBits (b : Byte) : byteOf ((List.range 8).map (fun i => b.toNat.testBit i)) = b := by
  revert b
  decide

theorem bitsOf_cons (b : Byte) (bs : List Byte) : bitsOf (b :: bs) = (List.range 8).map (fun i => b.toNat.testBit i) ++ bitsOf bs :=
  List.flatMap_cons

theorem bitsOf_length (bs : List Byte) : (bitsOf bs).length = 8 * bs.length := by
  simp [bitsOf, Nat.mul_comm]

/-- A receiver that is given the bits of bytes, and less than a byte after them, takes the bytes. -/
theorem bytesOf_bitsOf {rest : List Bool} (hrest : rest.length < 8) (bs : List Byte) {n : Nat} (hn : bs.length ≤ n) :
    bytesOf n (bitsOf bs ++ rest) = bs := by
  induction bs generalizing n with
  | nil =>
    cases n with
    | zero => rfl
    | succ n => exact if_pos hrest
  | cons b bs ih =>
    obtain ⟨m, rfl⟩ : ∃ m, n = m + 1 := ⟨n - 1, by simp at hn; omega⟩
    have hbits : ((List.range 8).map (fun i => b.toNat.testBit i)).length = 8 := by simp
    rw [bitsOf_cons, List.append_assoc, bytesOf, if_neg (by simp), List.take_left' hbits, List.drop_left' hbits, byteOf_testBits,
      ih (by simpa using hn)]

/-! ## CRC-16 of a frame (R383) -/

theorem crcMsbShift_lt {poly w : Nat} (hpoly : poly < 2 ^ w) {r : Nat} (n : Nat) (hr : r < 2 ^ w) : crcMsbShift w poly n r < 2 ^ w := by
  induction n generalizing r with
  | zero => exact hr
  | succ n ih =>
    have hshift : (r <<< 1) % 2 ^ w < 2 ^ w := Nat.mod_lt _ (Nat.two_pow_pos w)
    rw [crcMsbShift]
    split
    · exact ih (Nat.xor_lt_two_pow hshift hpoly)
    · exact ih hshift

theorem crcMsbBytes_lt {poly w : Nat} (hpoly : poly < 2 ^ w) (hw : 8 ≤ w) {r : Nat} (hr : r < 2 ^ w) (bs : List Byte) :
    crcMsbBytes w poly r bs < 2 ^ w := by
  induction bs generalizing r with
  | nil => exact hr
  | cons b bs ih =>
    have hb : b.toNat <<< (w - 8) < 2 ^ w := by
      rw [Nat.shiftLeft_eq]
      calc b.toNat * 2 ^ (w - 8) < 2 ^ 8 * 2 ^ (w - 8) := Nat.mul_lt_mul_of_pos_right b.isLt (Nat.two_pow_pos _)
        _ = 2 ^ w := by rw [← pow_add]; congr 1; omega
    exact ih (crcMsbShift_lt hpoly 8 (Nat.xor_lt_two_pow hr hb))

theorem crc16_lt (bs : List Byte) : crc16 bs < 2 ^ 16 := crcMsbBytes_lt (by decide) (by decide) (by decide) bs

theorem crc16_check : crc16 ((List.range 9).map (fun i => BitVec.ofNat 8 (0x31 + i))) = 0x29B1 := by decide +kernel

/-! ## A frame and what a receiver makes of it (R382 to R384) -/

/-- What a frame's CRC covers: its header and its payload. -/
def frameBody (type : Nat) (payload : List Byte) : List Byte := toLe 2 (type % 256 + (payload.length / 2 % 16) <<< 8) ++ payload

theorem frameBytes_eq (type : Nat) (payload : List Byte) :
    frameBytes type payload = frameBody type payload ++ toLe 2 (crc16 (frameBody type payload)) := rfl

section
variable {type : Nat} {payload : List Byte}

theorem frameBody_length : (frameBody type payload).length = 2 + payload.length := by simp [frameBody, toLe_length]

theorem frameBytes_length : (frameBytes type payload).length = 4 + payload.length := by
  rw [frameBytes_eq, List.length_append, frameBody_length, toLe_length]
  omega

theorem frameBits_length : (frameBits type payload).length = 34 + 8 * payload.length := by
  rw [frameBits, List.length_append, List.length_cons, bitsOf_length, frameBytes_length, List.length_singleton]
  omega

/-- The bytes of a frame are taken from its bits. -/
theorem bytesOf_frameBits : bytesOf (frameBits type payload).length ((frameBits type payload).drop 1) = frameBytes type payload :=
  bytesOf_bitsOf (rest := [true]) (by decide) _ (by rw [frameBytes_length, frameBits_length]; omega)

section
variable (htype : type < 256) (heven : payload.length % 2 = 0) (hlong : payload.length ≤ 16)
include htype hlong

/-- The header holds TYPE and LEN. -/
theorem field_frameBytes_header : field (frameBytes type payload) 0 2 = type + 256 * (payload.length / 2) := by
  have hfield := field_toLe [] (payload ++ toLe 2 (crc16 (frameBody type payload))) 2 (type % 256 + (payload.length / 2 % 16) <<< 8)
  rw [List.nil_append, ← List.append_assoc, List.length_nil] at hfield
  refine hfield.trans ?_
  rw [Nat.shiftLeft_eq]
  omega

include heven

/-- A receiver takes from the bits of a frame the TYPE and the payload sent. -/
theorem frameTaken_frameBits : frameTaken (frameBits type payload) = some (type, payload) := by
  have hheader := field_frameBytes_header htype hlong
  have hlen : field (frameBytes type payload) 0 2 / 256 % 16 = payload.length / 2 := by omega
  have htwice : 2 * (payload.length / 2) = payload.length := by omega
  have hbody : (frameBytes type payload).take (2 + payload.length) = frameBody type payload := List.take_left' frameBody_length
  have hcrc : field (frameBytes type payload) (2 + payload.length) 2 = crc16 (frameBody type payload) := by
    have hfield := field_toLe (frameBody type payload) [] 2 (crc16 (frameBody type payload))
    rw [List.append_nil, ← frameBytes_eq, frameBody_length] at hfield
    rw [hfield]
    exact Nat.mod_eq_of_lt (crc16_lt _)
  have hstop : (frameBits type payload)[16 * (payload.length / 2) + 33]? = some true := by
    have hat : 16 * (payload.length / 2) + 33 = (false :: bitsOf (frameBytes type payload)).length := by
      rw [List.length_cons, bitsOf_length, frameBytes_length]
      omega
    rw [hat, frameBits, List.getElem?_concat_length]
  have hpayload : (frameBody type payload).drop 2 = payload := List.drop_left' (toLe_length 2 _)
  unfold frameTaken
  rw [bytesOf_frameBits]
  dsimp only
  rw [hlen, htwice, hbody, hcrc, hstop, if_neg (by simp; omega), hpayload, hheader]
  congr 2
  omega

end
end

/-! ## Bisque training (R394 to R396) -/

section
variable {s : State} {i : Nat}

/-- A BQ_STEP for the strand in training that reports a failure. -/
theorem State.bqStep_fails {p : List Byte} (htraining : s.bisqueTraining = some i) (hstrand : bits (field p 0 2) 15 8 = i)
    (hfail : bit (field p 0 2) 5 = true) : s.bqStep p = s.bisqueFail i := by
  unfold State.bqStep
  rw [htraining]
  dsimp only
  rw [if_neg (not_not.mpr hstrand), if_pos hfail]

/-- A BQ_STEP for the strand in training that reports a step done. -/
theorem State.bqStep_done {p : List Byte} (htraining : s.bisqueTraining = some i) (hstrand : bits (field p 0 2) 15 8 = i)
    (hgood : bit (field p 0 2) 5 = false) (hdone : bit (field p 0 2) 4 = true) : s.bqStep p =
      State.checkBisque { s with bisque := { s.bisque with peer := max s.bisque.peer (min 4 (bits (field p 0 2) 3 0)) } } := by
  unfold State.bqStep
  rw [htraining]
  dsimp only
  rw [if_neg (not_not.mpr hstrand), if_neg (by simp [hgood]), if_pos hdone]

/-- Training begins at B1 on the chosen strand. -/
theorem State.bisqueBegin_trains {restart : Bool} (hinstr : s.test.ir ≠ 0) (hchoice : s.bisqueChoice = some i) (hready : s.bisqueReady i = true)
    (hdown : s.inService = []) (hquiet : s.bisque.quiet = restart) (hlen : i < s.strands.length) :
    ((s.bisqueBegin restart).strand i).sub = .cal ∧ (s.bisqueBegin restart).bisque.strand = some i ∧
      (s.bisqueBegin restart).bisque.own = 0 ∧ (s.bisqueBegin restart).bisque.peer = 0 ∧ (s.bisqueBegin restart).bisque.quiet = false := by
  unfold State.bisqueBegin State.bisqueStart
  rw [if_neg hinstr, hchoice]
  dsimp only
  rw [if_neg (by simp [hready, hdown, hquiet])]
  exact ⟨congrArg Strand.sub (State.strand_modStrand_same s i _ hlen), rfl, rfl, rfl, rfl⟩

/-- A step that this side's receiver ends is noted, its findings are taken, and the peer is told. -/
theorem State.bisqueStepDone_advances (harm : s.inj.armed = false) (htraining : s.bisqueTraining = some i) (hopen : s.bisque.own < 4)
    (ms : List LaneMeas) : s.bisqueStepDone ms = State.checkBisque (State.sendBq (State.bisqueMeas
      (State.modStrand { s with bisque := { s.bisque with own := s.bisque.own + 1 } } i (fun x => { x with armed := true, clkFault := false }))
        i (s.bisque.own + 1) ms) i (s.bisque.own + 1) true) := by
  unfold State.bisqueStepDone
  rw [htraining]
  dsimp only
  rw [State.fire_unarmed _ _ _ harm]
  dsimp only
  rw [if_neg Bool.false_ne_true, if_neg (by omega)]

/-- Training that takes too long is reported, and fails. -/
theorem State.bisqueTimeout_fails (htraining : s.bisqueTraining = some i) : s.bisqueTimeout false =
    (((s.sendBq i (min 4 (s.bisque.own + 1)) false).sticky 0x2088 0).raise 0x0110 i).bisqueFail i := by
  unfold State.bisqueTimeout
  rw [htraining]

/-- The open bisque channel sends one flit in its slot. -/
theorem State.bisqueSlot_sends (hopen : s.bisqueOpen = true) : ∃ b, s.bisqueSlot.out = s.out ++ [.bisqueFlit b] ∧
    s.bisqueSlot.bisque.flits = s.bisque.flits + 1 := by
  unfold State.bisqueSlot
  rw [if_neg (by simp [hopen])]
  exact ⟨_, rfl, rfl⟩

/-! ## The commands -/

theorem exec_sbFrameDiscard (haon : s.aonHeld = false) : exec .sbFrameDiscard s = .next (s.start.finishLight s.start.sbDiscard) :=
  runAonLight_up State.sbDiscard s haon

theorem exec_linkReadySend (haon : s.aonHeld = false) : exec .linkReadySend s = .next (s.start.finishLight s.start.sendReady) :=
  runAonLight_up State.sendReady s haon

theorem exec_bqStep (haon : s.aonHeld = false) (harm : s.inj.armed = false) (p : List Byte) :
    exec (.bqStep p) s = .next (s.start.finish (s.start.bqStep p)) := frame_unarmed (fun x => x.bqStep p) haon harm

theorem exec_bqStepRepeat (haon : s.aonHeld = false) {w : Nat} (hsaid : s.bisque.said = some w) :
    exec .bqStepRepeat s = .next (s.start.finishLight (s.start.sendFrame 0x11 (toLe 2 w))) := by
  have hrepeat : (match s.start.bisque.said with
      | some v => s.start.sendFrame 0x11 (toLe 2 v)
      | none => s.start) = s.start.sendFrame 0x11 (toLe 2 w) := by rw [State.start_bisque, hsaid]
  rw [← hrepeat]
  exact runAonLight_up (fun x => match x.bisque.said with
    | some v => x.sendFrame 0x11 (toLe 2 v)
    | none => x) s haon

section
variable (hcfg : s.cfgUp = true)
include hcfg

theorem exec_bisqueBegin (restart : Bool) :
    exec (if restart then .bisqueRestart else .bisqueStart) s = .next (s.start.finish (s.start.bisqueBegin restart)) := by
  cases restart
  · exact runUp_up (fun x => x.bisqueBegin false) s hcfg
  · exact runUp_up (fun x => x.bisqueBegin true) s hcfg

theorem exec_bisqueStepDone (ms : List LaneMeas) : exec (.bisqueStepDone ms) s = .next (s.start.finish (s.start.bisqueStepDone ms)) :=
  runUp_up (fun x => x.bisqueStepDone ms) s hcfg

theorem exec_bisqueTimeout : exec .bisqueTimeout s = .next (s.start.finish (s.start.bisqueTimeout false)) :=
  runUp_up (fun x => x.bisqueTimeout false) s hcfg

theorem exec_bisqueFlitSlot : exec .bisqueFlitSlot s = .next (s.start.finish s.start.bisqueSlot) := runUp_up State.bisqueSlot s hcfg

end

end

/-- Settles O44: a frame's bits by what a receiver makes of them, and each command by what it makes of the sideband or of the training. -/
theorem sidebandAndBisque : Obligations.SidebandAndBisque := by
  unfold Obligations.SidebandAndBisque
  refine ⟨⟨crc16_check, fun type payload htype heven hlong => ⟨frameBits_length, rfl, List.getLast?_concat,
      frameTaken_frameBits htype heven hlong⟩⟩,
    fun s p haon => ⟨exec_sbFrameDiscard haon, exec_linkReadySend haon, fun harm => ?ready, fun w hsaid => exec_bqStepRepeat haon hsaid⟩,
    fun s p i haon harm htraining hstrand => ⟨fun hfail => ?failed, fun hgood hdone => ?done⟩,
    fun s i restart hcfg hinstr hchoice hready hdown hquiet hlen => ⟨_, exec_bisqueBegin hcfg restart,
      State.bisqueBegin_trains (s := s.start) hinstr hchoice hready hdown hquiet hlen⟩,
    fun s i hcfg harm htraining => ⟨fun ms hopen => ?step, ?late⟩, fun s hcfg hopen => ?slot⟩
  case ready => exact ⟨_, frame_unarmed _ haon harm, rfl⟩
  case failed => rw [exec_bqStep haon harm, State.bqStep_fails (s := s.start) htraining hstrand hfail]
  case done =>
    rw [exec_bqStep haon harm, State.bqStep_done (s := s.start) htraining hstrand hgood hdone]
    rfl
  case step =>
    rw [exec_bisqueStepDone hcfg, State.bisqueStepDone_advances (s := s.start) harm htraining hopen]
    rfl
  case late =>
    rw [exec_bisqueTimeout hcfg, State.bisqueTimeout_fails (s := s.start) htraining]
    rfl
  case slot =>
    obtain ⟨b, hout, hflits⟩ := State.bisqueSlot_sends (s := s.start) hopen
    exact ⟨_, b, exec_bisqueFlitSlot hcfg, hout, hflits⟩

end Sys2Proof.Machine
/-! # Proofs: the answers of the NV port -/

namespace Sys2Proof.Machine

/-! ## Nothing but logging writes the log image -/

/-- The set-up domain is in reset, and no write of the log image is queued. -/
def State.LogSilent (s : State) : Prop := s.resets.cfg = true ∧ s.logWriting = false

section
variable {s t : State}

theorem State.LogSilent.ite {c : Prop} [Decidable c] {a b : State} (ha : a.LogSilent) (hb : b.LogSilent) :
    (if c then a else b).LogSilent := by
  split <;> assumption

theorem State.LogSilent.forEach {β : Type} {l : List β} {f : β → State → State} (hf : ∀ b x, x.LogSilent → (f b x).LogSilent)
    (h : s.LogSilent) : (forEach l f s).LogSilent := forEach_keeps State.LogSilent l f s hf h

theorem State.LogSilent.forRange {n : Nat} {f : Nat → State → State} (hf : ∀ i x, x.LogSilent → (f i x).LogSilent)
    (h : s.LogSilent) : (forRange n f s).LogSilent := forRange_keeps State.LogSilent n f s hf h

/-- A fold that carries a state along with something else. -/
theorem State.LogSilent.foldl {α β : Type} {p : β → State} {f : β → α → β} {l : List α} {b : β}
    (hf : ∀ b a, (p b).LogSilent → (p (f b a)).LogSilent) (h : (p b).LogSilent) : (p (l.foldl f b)).LogSilent := by
  induction l generalizing b with
  | nil => exact h
  | cons a l ih => exact ih (hf b a h)

end

section
set_option Elab.async false

variable {s : State} (h : s.LogSilent)
include h

/-- A change elsewhere than in the resets and the queue of the NV port. -/
theorem State.LogSilent.same {t : State} (hr : t.resets.cfg = s.resets.cfg := by rfl) (hn : t.nvOps = s.nvOps := by rfl) : t.LogSilent := by
  rwa [State.LogSilent, hr, State.logWriting, hn]

theorem State.LogSilent.setFld {off hi lo x} : (s.setFld off hi lo x).LogSilent := h.same
theorem State.LogSilent.setFlag {off i b} : (s.setFlag off i b).LogSilent := h.same
theorem State.LogSilent.bumpSat {off hi lo n} : (s.bumpSat off hi lo n).LogSilent := h.same
theorem State.LogSilent.bumpWrap {off hi lo n} : (s.bumpWrap off hi lo n).LogSilent := h.same
theorem State.LogSilent.sticky {off i} : (s.sticky off i).LogSilent := h.same
theorem State.LogSilent.stickyIf {c : Prop} [Decidable c] {off i} : (if c then s.sticky off i else s).LogSilent := .ite h.sticky h
theorem State.LogSilent.raise {code unit data inj} : (s.raise code unit data inj).LogSilent := h.same

theorem State.LogSilent.fire {point unit} : (s.fire point unit).2.LogSilent := by
  unfold State.fire
  split
  · exact .ite (.setFlag h.same) h.same
  · exact h

theorem State.LogSilent.fireIf {c : Prop} [Decidable c] {point unit} : (if c then s.fire point unit else (false, s)).2.LogSilent := by
  split
  · exact h.fire
  · exact h

theorem State.LogSilent.fireUnless {c : Prop} [Decidable c] {point unit} : (if c then (false, s) else s.fire point unit).2.LogSilent := by
  split
  · exact h
  · exact h.fire

theorem State.LogSilent.marked {before : State} {inj} : (before.marked inj s).LogSilent := .ite h.same h

/-! ## Rings and requests -/

theorem State.LogSilent.emit {o} : (s.emit o).LogSilent := h.same
theorem State.LogSilent.modRing {p f} : (s.modRing p f).LogSilent := h.same
theorem State.LogSilent.messageOut {p} : (s.messageOut p).LogSilent := .ite h h.same
theorem State.LogSilent.sendMessages {p} : (s.sendMessages p).LogSilent := .forEach (fun _ _ h => h.messageOut) h.modRing
theorem State.LogSilent.messageDue {p} : (s.messageDue p).LogSilent := h.modRing.sendMessages
theorem State.LogSilent.countEntry {p n now} : (s.countEntry p n now).LogSilent := .ite (.ite h.modRing.messageDue h.modRing) h
theorem State.LogSilent.writeEntry {p bs use now} : (s.writeEntry p bs use now).LogSilent := .countEntry (.modRing h.same)

theorem State.LogSilent.complete {d st res off peer} : (s.complete d st res off peer).LogSilent := by
  unfold State.complete
  split
  · exact h
  · exact .ite h (.writeEntry h.same)

theorem State.LogSilent.badField {d off} : (s.badField d off).LogSilent := h.complete
theorem State.LogSilent.writeEvent {e u c data} : (s.writeEvent e u c data).LogSilent := h.writeEntry
theorem State.LogSilent.flushLost : s.flushLost.LogSilent := .ite h.modRing.writeEvent h
theorem State.LogSilent.eventLost : s.eventLost.LogSilent := h.modRing

theorem State.LogSilent.postNow {e u c data} : (s.postNow e u c data).LogSilent :=
  .ite h (.ite h.flushLost.writeEvent h.flushLost.eventLost)

theorem State.LogSilent.postEvent {e u c data} : (s.postEvent e u c data).LogSilent := .ite h.postNow h.same
theorem State.LogSilent.flushEvents : s.flushEvents.LogSilent := .forEach (fun _ _ h => h.postNow) h.same
theorem State.LogSilent.ringFault {p c inj} : (s.ringFault p c inj).LogSilent := .ite h.modRing.raise h.modRing.raise.postEvent
theorem State.LogSilent.checkFences : s.checkFences.LogSilent := .forEach (fun _ _ h => .ite h (.complete h.same)) h
theorem State.LogSilent.hmWriteReq {a bs use} : (s.hmWriteReq a bs use).LogSilent := h.same
theorem State.LogSilent.hmReadReq {a n use} : (s.hmReadReq a n use).LogSilent := h.same
theorem State.LogSilent.memReq {ch o use} : (s.memReq ch o use).LogSilent := .ite (.emit h.same) h.same
theorem State.LogSilent.memRelease : s.memRelease.LogSilent := .forEach (fun _ _ h => h.emit) h.same
theorem State.LogSilent.memWriteReq {ch a bs use} : (s.memWriteReq ch a bs use).LogSilent := h.memReq
theorem State.LogSilent.memReadReq {ch a n use} : (s.memReadReq ch a n use).LogSilent := h.memReq

theorem State.LogSilent.hmWrites4 {a bs use} : (s.hmWrites4 a bs use).LogSilent :=
  .foldl (p := Prod.fst) (fun _ _ h => h.hmWriteReq) h

theorem State.LogSilent.memWrites {ch a bs use} : (s.memWrites ch a bs use).1.LogSilent :=
  .foldl (p := Prod.fst) (fun _ _ h => h.memWriteReq) h

/-- A request of the NV port that is no write of the log image. -/
theorem State.LogSilent.nvWriteReq {a w use} (hu : ∀ l, use ≠ .logWrite l) : (s.nvWriteReq a w use).LogSilent := by
  obtain ⟨hcfg, hlog⟩ := h
  refine ⟨hcfg, ?_⟩
  unfold State.logWriting at hlog ⊢
  rw [show (s.nvWriteReq a w use).nvOps = s.nvOps ++ [use] from rfl, List.any_append, hlog]
  simp

theorem State.LogSilent.nvWriteBytes {a bs use} (hu : ∀ b l, use b ≠ .logWrite l) : (s.nvWriteBytes a bs use).LogSilent :=
  .foldl (p := Prod.fst) (fun _ _ h => h.nvWriteReq (hu _)) h

theorem State.LogSilent.closeStreamWindows {id} : (s.closeStreamWindows id).LogSilent := h.same

/-! ## Streams -/

theorem State.LogSilent.numSticky {id t seen} : (s.numSticky id t seen).LogSilent :=
  .stickyIf (.ite (.ite h.stickyIf.sticky h.stickyIf.sticky.raise) h.stickyIf)

theorem State.LogSilent.setTx {id st} : (s.setTx id st).LogSilent := h.same

theorem State.LogSilent.modTx {id f} : (s.modTx id f).LogSilent := by
  unfold State.modTx
  split
  · exact h.setTx
  · exact h

theorem State.LogSilent.saveTake {x} : (s.saveTake x).LogSilent := h.same

theorem State.LogSilent.writeQuery {d r} : (s.writeQuery d r).LogSilent := by
  unfold State.writeQuery
  split
  · exact h.hmWriteReq
  · exact h

theorem State.LogSilent.queryTake {id} : (s.queryTake id).LogSilent := by
  unfold State.queryTake
  refine .ite h ?_
  split
  · exact .forEach (fun _ _ h => h.writeQuery) h.same
  · exact h

theorem State.LogSilent.commitParcel {id st p mode len} : (s.commitParcel id st p mode len).LogSilent :=
  h.fireIf.setTx.numSticky.marked.saveTake.queryTake

theorem State.LogSilent.cutParcel {id st p} : (s.cutParcel id st p).LogSilent := h.commitParcel
theorem State.LogSilent.setRx {key st} : (s.setRx key st).LogSilent := h.same

theorem State.LogSilent.modRx {key f} : (s.modRx key f).LogSilent := by
  unfold State.modRx
  split
  · exact h.setRx
  · exact h

theorem State.LogSilent.returnCells {key n} : (s.returnCells key n).LogSilent := by
  unfold State.returnCells
  split
  · exact h
  · exact .ite h.setRx.modTx h.setRx

theorem State.LogSilent.returnPair {key} : (s.returnPair key).LogSilent := by
  unfold State.returnPair
  split
  · exact h
  · exact .ite h.modTx h.setRx

theorem State.LogSilent.freeSlots {key} : (s.freeSlots key).LogSilent := by
  unfold State.freeSlots
  split
  · exact h
  · exact .forEach (fun _ _ h => h.returnPair) h.setRx

theorem State.LogSilent.closePair {key mb dir} : (s.closePair key mb dir).LogSilent := by
  unfold State.closePair
  split
  · exact h
  · exact .ite h.setRx.freeSlots h.returnPair

theorem State.LogSilent.modParcel {key uid f} : (s.modParcel key uid f).LogSilent := h.modRx

theorem State.LogSilent.dropParcel {key uid} : (s.dropParcel key uid).LogSilent := by
  unfold State.dropParcel
  split
  · exact h
  · exact h.returnCells.modRx.freeSlots

theorem State.LogSilent.discardParcel {key uid} : (s.discardParcel key uid).LogSilent := by
  unfold State.discardParcel
  split
  · exact h
  · exact .ite h.dropParcel h.returnCells.modParcel.freeSlots

theorem State.LogSilent.modPort {n f} : (s.modPort n f).LogSilent := h.same
theorem State.LogSilent.answerBeat {port side} : (s.answerBeat port side).LogSilent := h.modPort

theorem State.LogSilent.endParcel {key uid status keep} : (s.endParcel key uid status keep).LogSilent := by
  unfold State.endParcel
  split
  · exact h
  · split
    · exact h
    · exact .ite h.modPort.discardParcel (.ite h.returnCells.modParcel h.discardParcel)

theorem State.LogSilent.commitRxTo {key uid n draws} : (s.commitRxTo key uid n draws).LogSilent := by
  unfold State.commitRxTo
  split
  · exact h
  · split
    · exact h
    · exact h.fireUnless.setRx.modParcel.numSticky.marked.saveTake

theorem State.LogSilent.commitRx {key uid} : (s.commitRx key uid).LogSilent := by
  unfold State.commitRx
  split
  · exact h
  · exact h.commitRxTo

theorem State.LogSilent.abandonParcel {key uid} : (s.abandonParcel key uid).LogSilent := by
  unfold State.abandonParcel
  split
  · exact h
  · exact .discardParcel (.ite h.commitRx h)

theorem State.LogSilent.failFrom {key uid code n} : (s.failFrom key uid code n).LogSilent := by
  unfold State.failFrom
  split
  · exact h
  · split
    · exact h
    · extract_lets hdr s1 s2 s3 s4
      have h2 : s2.LogSilent := .raise (.ite h.modRx h.modRx)
      have h4 : s4.LogSilent := .endParcel (.ite h2.commitRxTo h2)
      exact .ite h4.closePair h4

theorem State.LogSilent.failParcel {key uid code} : (s.failParcel key uid code).LogSilent := by
  unfold State.failParcel
  split
  · exact h
  · exact h.failFrom

theorem State.LogSilent.pushMsg {type body} : (s.pushMsg type body).LogSilent := h.same

theorem State.LogSilent.enqueue {id p sought} : (s.enqueue id p sought).LogSilent := by
  unfold State.enqueue
  split
  · exact h
  · exact .setTx h.same

/-! ## Shelves and draws -/

theorem State.LogSilent.modShelf {i f} : (s.modShelf i f).LogSilent := h.same
theorem State.LogSilent.takeShelf {d e} : (s.takeShelf d e).LogSilent := h.modShelf.complete

theorem State.LogSilent.serveShelfWaits : s.serveShelfWaits.LogSilent := by
  unfold State.serveShelfWaits
  refine .forEach (fun _ _ h => ?_) h
  split
  · exact h.same
  · exact .ite (.takeShelf h.same) h

theorem State.LogSilent.orphanFills {i} : (s.orphanFills i).LogSilent := h.same

theorem State.LogSilent.freeShelf {i} : (s.freeShelf i).LogSilent := by
  unfold State.freeShelf
  extract_lets _ s1
  have h1 : s1.LogSilent := h.modShelf.orphanFills
  exact .serveShelfWaits (.postEvent (.forEach (fun _ _ h => h.badField) h1.same))

theorem State.LogSilent.settleShelf {i} : (s.settleShelf i).LogSilent :=
  .ite (.ite h.freeShelf (.ite h h.modShelf.sticky.raise.postEvent)) h

theorem State.LogSilent.settleShelves : s.settleShelves.LogSilent := .forRange (fun _ _ h => h.settleShelf) h

theorem State.LogSilent.pumpFetch {w} : (s.pumpFetch w).LogSilent := by
  unfold State.pumpFetch
  split
  · exact h
  · exact .ite h (.memReadReq h.same)

theorem State.LogSilent.answerFetch {key uid shelf} : (s.answerFetch key uid shelf).LogSilent := by
  unfold State.answerFetch
  split
  · exact h
  · exact .dropParcel (.pumpFetch (.same h.enqueue))

theorem State.LogSilent.holdItem {key uid cause bound} : (s.holdItem key uid cause bound).LogSilent := by
  unfold State.holdItem
  split
  · exact h
  · exact h.modParcel.modRx.raise.sticky.postEvent

theorem State.LogSilent.fetchWaits {key uid code} : (s.fetchWaits key uid code).LogSilent := by
  unfold State.fetchWaits
  split
  · exact h
  · exact .ite h.modParcel (.ite h.modParcel.raise.sticky.postEvent h.modParcel.raise.sticky)

theorem State.LogSilent.badFetch {key uid} : (s.badFetch key uid).LogSilent := h.modRx.raise.dropParcel

theorem State.LogSilent.serveFetch {key uid} : (s.serveFetch key uid).LogSilent := by
  unfold State.serveFetch
  split
  · exact h
  · refine .ite h.badFetch ?_
    dsimp only
    split
    · exact .ite h.badFetch h.answerFetch
    · refine .ite ?_ h.holdItem
      split
      · exact h.fetchWaits
      · exact .ite h.fetchWaits (.ite (.badFetch h.same) (.answerFetch h.same))

theorem State.LogSilent.checkVersion {key uid} : (s.checkVersion key uid).LogSilent := by
  unfold State.checkVersion
  split
  · exact h
  · refine .ite h.modParcel ?_
    split
    · exact .ite h.holdItem h
    · exact .ite (.ite h.fire.holdItem.marked h) (.ite h.modParcel (.ite h.holdItem h))

theorem State.LogSilent.advanceItems {key n} : (State.advanceItems key n s).LogSilent := by
  induction n generalizing s with
  | zero => exact h
  | succ n ih =>
    unfold State.advanceItems
    split
    · exact h
    · refine .ite h ?_
      split
      · exact h
      · extract_lets s1
        have h1 : s1.LogSilent := .ite (.ite h.serveFetch h) h.checkVersion
        split
        · exact .ite h1 (ih h1)
        · exact ih h1

theorem State.LogSilent.advanceStream {key} : (s.advanceStream key).LogSilent := by
  unfold State.advanceStream
  split
  · exact h
  · exact h.advanceItems

theorem State.LogSilent.advanceFetches : s.advanceFetches.LogSilent := .forEach (fun _ _ h => .ite h.advanceStream h) h
theorem State.LogSilent.modDraw {id f} : (s.modDraw id f).LogSilent := h.same
theorem State.LogSilent.dropDrawParcels {d} : (s.dropDrawParcels d).LogSilent := h.modTx

theorem State.LogSilent.endDraw {d status res} : (s.endDraw d status res).LogSilent := by
  unfold State.endDraw
  refine .settleShelves (.complete ?_)
  have h1 : (State.dropDrawParcels { s with draws := s.draws.filter (fun (x : Draw) => x.id != d.id) } d).LogSilent := .dropDrawParcels h.same
  split
  · exact h1.modShelf
  · exact h1

theorem State.LogSilent.cutDraw {d} : (s.cutDraw d).LogSilent := by
  unfold State.cutDraw
  refine .ite h.endDraw.sticky (.sticky ?_)
  split
  · exact .modShelf h.same
  · exact h.same

theorem State.LogSilent.suspendDraw {d status} : (s.suspendDraw d status).LogSilent := by
  unfold State.suspendDraw
  refine .settleShelves (.complete (.sticky ?_))
  split
  · exact h.dropDrawParcels.modDraw.modShelf
  · exact h.dropDrawParcels.modDraw

theorem State.LogSilent.sendClosing {d} : (s.sendClosing d).LogSilent := h.modDraw.enqueue
theorem State.LogSilent.writeDrawTable {d} : (s.writeDrawTable d).LogSilent := h.hmWrites4.modDraw

theorem State.LogSilent.pumpDraw {id} : (s.pumpDraw id).LogSilent := by
  unfold State.pumpDraw
  split
  · exact h
  · exact .ite h (.ite (.ite h.sendClosing h.writeDrawTable) (.ite h h.memReadReq.modDraw))

theorem State.LogSilent.pumpDraws : s.pumpDraws.LogSilent := .forEach (fun _ _ h => h.pumpDraw) h
theorem State.LogSilent.endRestore {r status res} : (s.endRestore r status res).LogSilent := .complete h.same

theorem State.LogSilent.violation {code unit i} : (s.violation code unit i).LogSilent := by
  unfold State.violation
  extract_lets s1
  have h1 : s1.LogSilent := h.bumpSat.sticky.raise
  exact .ite h1.same h1

theorem State.LogSilent.sagDigest {inbound id fmt ctl b} : (s.sagDigest inbound id fmt ctl b).2.LogSilent := by
  have hfire := h.fire (point := 0x1F) (unit := id)
  unfold State.sagDigest
  generalize s.fire 0x1F id = r at hfire ⊢
  obtain ⟨inj, s1⟩ := r
  dsimp only
  split
  · exact hfire
  · exact .ite hfire.same hfire

/-! ## Accumulation and dispatch -/

theorem State.LogSilent.setRegion {r g} : (s.setRegion r g).LogSilent := h.same

theorem State.LogSilent.accConsume {key fuel n} : (s.accConsume key fuel n).LogSilent := by
  induction fuel generalizing s n with
  | zero => exact h
  | succ fuel ih =>
    unfold State.accConsume
    split
    · exact h
    · exact .ite (ih h.dropParcel) h.returnCells.modParcel

theorem State.LogSilent.accTake {key n} : (s.accTake key n).1.LogSilent := by
  unfold State.accTake
  split
  · exact h
  · exact h.accConsume

theorem State.LogSilent.finishRounds {r} : (s.finishRounds r).LogSilent := by
  unfold State.finishRounds
  split
  · exact h
  · exact .forEach (fun _ _ h => .postEvent (.ite h.bumpWrap.bumpSat.sticky h.bumpWrap)) h.setRegion

theorem State.LogSilent.modContrib {r slot c f} : (s.modContrib r slot c f).LogSilent := by
  unfold State.modContrib
  split
  · exact h
  · exact h.setRegion

theorem State.LogSilent.accBreak {r key c slot mb run ended} : (s.accBreak r key c slot mb run ended).LogSilent := by
  unfold State.accBreak
  extract_lets s1 s2
  have h1 : s1.LogSilent := .forEach (fun _ _ h => h.abandonParcel) h.raise
  have h2 : s2.LogSilent := .ite h1 h1.modRx
  split
  · exact h2
  · exact h2.setRegion

theorem State.LogSilent.accStart {r key st g x c j} : (s.accStart r key st g x c j).1.LogSilent := by
  unfold State.accStart
  dsimp only
  split
  · exact h.accTake.modContrib
  · split
    · exact h.setRegion.memWriteReq
    · exact h.modContrib.memReadReq

theorem State.LogSilent.accTry {r c} : (s.accTry r c).1.LogSilent := by
  unfold State.accTry
  split
  · split
    · exact h
    · extract_lets run ended
      clear_value run
      split
      · exact h
      · extract_lets slot
        split
        · exact h.setRegion
        · extract_lets k total
          split
          · exact h
          · have hfire : (if ended = true then s.fire 0x1C r else (false, s)).2.LogSilent := h.fireIf
            generalize (if ended = true then s.fire 0x1C r else (false, s)) = q at hfire ⊢
            obtain ⟨inj, s1⟩ := q
            replace hfire : s1.LogSilent := hfire
            dsimp only
            split
            · exact hfire.accBreak.marked
            · split
              · split
                · exact hfire.accTake.modContrib
                · exact hfire.accTake
              · split
                · exact hfire
                · exact hfire.accStart
  · exact h

theorem State.LogSilent.accPump {r n} : (State.accPump r n s).LogSilent := by
  induction n generalizing s with
  | zero => exact h
  | succ n ih =>
    unfold State.accPump
    extract_lets a t
    have ha : a.1.LogSilent := State.LogSilent.foldl (p := Prod.fst) (b := (s, false)) (fun _ _ h => h.accTry) h
    have ht : t.LogSilent := ha.finishRounds
    exact .ite (ih ht) ht

theorem State.LogSilent.accRun {r} : (s.accRun r).LogSilent := h.accPump

theorem State.LogSilent.accInterrupt {key st} : (s.accInterrupt key st).LogSilent := by
  unfold State.accInterrupt
  extract_lets r c
  split
  · exact h
  · extract_lets open_ s1 s2 s3
    have h2 : s2.LogSilent := by
      refine .forEach (fun _ _ h => ?_) h.setRegion
      split
      · exact .forEach (fun _ _ h => h.abandonParcel) h
      · exact h
    have h3 : s3.LogSilent := by
      simp only [s3]
      split
      · exact .forEach (fun _ _ h => .ite h.abandonParcel h) h2
      · exact h2
    exact h3.accRun

theorem State.LogSilent.setTable {t} : (s.setTable t).LogSilent := h.same

theorem State.LogSilent.dispSticky {a b noRoute unmapped} : (s.dispSticky a b noRoute unmapped).LogSilent :=
  h.stickyIf.stickyIf.stickyIf.stickyIf

theorem State.LogSilent.losePair {id} : (s.losePair id).LogSilent := by
  unfold State.losePair
  split
  · exact h
  · refine .ite h ?_
    extract_lets s1 rows
    have h1 : s1.LogSilent := h.setTx
    split
    · exact h1
    · extract_lets mine t1 held t2 s2 s3
      have h2 : s2.LogSilent := h1.setTable.dispSticky
      have h3 : s3.LogSilent := .ite h2 h2.sticky
      split
      · exact h3
      · exact h3.modTx

theorem State.LogSilent.fencePair {id} : (s.fencePair id).LogSilent := by
  unfold State.fencePair
  split
  · exact h
  · refine .ite h ?_
    extract_lets s1
    have h1 : (s1.modTx id (fun (t : TxStream) => { t with pairFenced := true })).LogSilent := h.losePair.modTx
    exact h1.same

theorem State.LogSilent.orphanRows {id num} : (s.orphanRows id num).LogSilent := h.same

/-! ## Captures and arrivals -/

theorem State.LogSilent.capturePieces {key uid n} : (s.capturePieces key uid n).LogSilent := by
  induction n generalizing s with
  | zero => exact h
  | succ n ih =>
    unfold State.capturePieces
    split
    · exact h
    · split
      · exact h
      · exact .ite h (ih (.ite h.hmWriteReq.modParcel.setFld h.hmWriteReq.modParcel))

theorem State.LogSilent.pumpCapture {n} : (State.pumpCapture n s).LogSilent := by
  induction n generalizing s with
  | zero => exact h
  | succ n ih =>
    unfold State.pumpCapture
    split
    · exact .ite h.capturePieces (ih h.capturePieces)
    · split
      · exact h
      · exact .ite (ih h.setFlag.abandonParcel) (ih h.modParcel)

theorem State.LogSilent.pumpCaptures : s.pumpCaptures.LogSilent := h.pumpCapture

theorem State.LogSilent.endLost {key uid} : (s.endLost key uid).LogSilent := by
  unfold State.endLost
  split
  · exact h
  · exact .ite h.dropParcel h.modParcel

theorem State.LogSilent.ghost {id last} : (s.ghost id last).LogSilent := h.same

theorem State.LogSilent.cutRx {key p last} : (s.cutRx key p last).LogSilent := by
  unfold State.cutRx
  extract_lets s1 s2
  have h1 : s1.LogSilent := .ite h h.failParcel
  exact .modRx (.ite h1.endLost h1)

theorem State.LogSilent.cutPacket {key last} : (s.cutPacket key last).LogSilent := by
  unfold State.cutPacket
  split
  · exact h
  · split
    · exact h
    · refine .ite h.setRx ?_
      extract_lets s2
      have h2 : s2.LogSilent := h.setRx.returnCells.raise
      exact .ite h2 h2.same

theorem State.LogSilent.rxFault {key body} : (s.rxFault key body).LogSilent := by
  unfold State.rxFault
  split
  · exact .ite h.ghost h
  · refine .ite (.ite h.ghost h) (.ite h (.ite (.ite h.cutPacket (.ite h.setRx.cutPacket h)) ?_))
    split
    · exact h.cutRx
    · exact .ite h h.setRx.cutRx

theorem State.LogSilent.portFaults {n} : (State.portFaults n s).LogSilent := by
  induction n generalizing s with
  | zero => exact h
  | succ n ih =>
    unfold State.portFaults
    split
    · exact ih (.rxFault h.same)
    · exact h

theorem State.LogSilent.interruptParcel {key status} : (s.interruptParcel key status).LogSilent := by
  unfold State.interruptParcel
  split
  · exact h
  · split
    · exact h
    · extract_lets s1 s2
      have h1 : s1.LogSilent := h.modRx
      have h2 : s2.LogSilent := .modParcel (.ite h1.commitRx h1)
      exact .ite h1.endLost (.ite h2.discardParcel (.ite h2.raise.discardParcel h2.raise.endParcel))

theorem State.LogSilent.answerPops {key status every} : (s.answerPops key status every).LogSilent := by
  unfold State.answerPops
  split
  · exact h
  · exact .forEach (fun _ _ h => h.answerBeat) h.modPort

theorem State.LogSilent.cutPackets {key stays} : (s.cutPackets key stays).LogSilent := by
  unfold State.cutPackets
  split
  · exact h
  · extract_lets part s1
    have h1 : s1.LogSilent := h.setRx
    exact .ite h1.same h1

theorem State.LogSilent.interruptRx {key status} : (s.interruptRx key status).LogSilent := by
  unfold State.interruptRx
  split
  · exact h
  · refine .ite h ?_
    extract_lets s1 cut s2 s3 s4 s5
    have h2 : s2.LogSilent := h.interruptParcel.cutPackets.modRx.returnCells
    have h3 : s3.LogSilent := by
      simp only [s3]
      split
      · exact .ite h2.accInterrupt h2
      · exact h2
    have h4 : s4.LogSilent := by
      simp only [s4]
      split
      · exact .ite h3.fencePair h3
      · exact h3
    exact .answerPops (.ite h4.ghost h4)

theorem State.LogSilent.detach {key} : (s.detach key).LogSilent := h.same

theorem State.LogSilent.freeRx {key forced} : (s.freeRx key forced).LogSilent := by
  unfold State.freeRx
  split
  · exact h
  · extract_lets busy s0 s1 s2 s3 s4 s5 s6
    have h1 : s1.LogSilent := .ite h.cutPackets h.cutPackets.interruptParcel
    have h2 : s2.LogSilent := by
      simp only [s2]
      split
      · refine .ite ?_ h1
        split
        · exact .endParcel (.ite h1.raise h1)
        · exact h1
      · exact h1
    have h3 : s3.LogSilent := by
      simp only [s3]
      split
      · exact .ite h2.accInterrupt h2
      · exact h2
    have h5 : s5.LogSilent := .answerPops (.ite h3.fencePair h3)
    have h6 : s6.LogSilent := .detach h5.same
    exact .ite h6.same (.ite h6.ghost h6)

theorem State.LogSilent.dropTxParcel {id status p} : (s.dropTxParcel id status p).LogSilent := by
  unfold State.dropTxParcel
  extract_lets s1
  have h1 : s1.LogSilent := h.modTx
  split
  · exact .ite h1 h1.postEvent
  · exact h1.complete
  · exact h1

theorem State.LogSilent.ptRespond {vc packet status} : (s.ptRespond vc packet status).LogSilent := h.same

theorem State.LogSilent.interruptTx {id status} : (s.interruptTx id status).LogSilent := by
  unfold State.interruptTx
  split
  · exact h
  · refine .ite h ?_
    extract_lets s0 s1 s2 waiting s3 s4
    have h0 : s0.LogSilent := by
      simp only [s0]
      split
      · exact .ite h.cutParcel h
      · exact h
    have h2 : s2.LogSilent := .forEach (fun _ _ h => h.dropTxParcel) h0.modTx
    have h4 : s4.LogSilent := .forEach (fun _ _ h => h.ptRespond) (.forEach (fun _ _ h => h.complete) h2.same)
    exact .ite h4.fencePair h4

theorem State.LogSilent.freeTx {id forced} : (s.freeTx id forced).LogSilent := by
  unfold State.freeTx
  split
  · exact h
  · extract_lets s0 s1 clear s2 guard s3
    have h0 : s0.LogSilent := .ite h.interruptTx.fencePair h.losePair
    have h1 : s1.LogSilent := .ite h0.orphanRows h0
    have h2 : s2.LogSilent := h1.same
    have h3 : s3.LogSilent := .ite h2.same h2
    exact .ite h3 h3.closeStreamWindows

theorem State.LogSilent.checkCloseRx {key} : (s.checkCloseRx key).LogSilent := by
  unfold State.checkCloseRx
  split
  · exact h
  · refine .ite h (.ite ?_ h.freeRx.pushMsg.closeStreamWindows)
    dsimp only
    split
    · exact h.freeRx.freeTx.closeStreamWindows.complete
    · exact h.freeRx.freeTx.closeStreamWindows

theorem State.LogSilent.checkCloseTx {id} : (s.checkCloseTx id).LogSilent := by
  unfold State.checkCloseTx
  split
  · exact h
  · split
    · exact .ite h (.ite h.setTx.modRx.checkCloseRx h.setTx.pushMsg)
    · exact h

theorem State.LogSilent.refuseAtomic {id p taken} : (s.refuseAtomic id p taken).LogSilent := by
  unfold State.refuseAtomic
  extract_lets s1
  have h1 : s1.LogSilent := .ite h.modTx h
  split
  · exact h1.raise.complete
  · exact h1.modTx.raise.postEvent

theorem State.LogSilent.refuseSource {id p} : (s.refuseSource id p).LogSilent := by
  unfold State.refuseSource
  extract_lets s1
  have h1 : s1.LogSilent := h.modTx.raise.postEvent
  split
  · exact h1.complete
  · exact h1

theorem State.LogSilent.enterParcel {id p sought} : (s.enterParcel id p sought).LogSilent := by
  unfold State.enterParcel
  split
  · exact h
  · refine .ite h.refuseAtomic (.ite h.refuseSource (.ite (.ite h.sagDigest.enqueue ?_) h.enqueue))
    dsimp only
    split
    · exact h.sagDigest.setTx.violation.marked.complete
    · exact h.sagDigest.setTx.violation.marked

theorem State.LogSilent.malformed {id} : (s.malformed id).LogSilent := h.modTx.raise
theorem State.LogSilent.modSend {d f} : (s.modSend d f).LogSilent := h.same

theorem State.LogSilent.readSend {d} : (s.readSend d).LogSilent := by
  unfold State.readSend
  split
  · exact h
  · exact .ite h h.modSend.hmReadReq

theorem State.LogSilent.badSend {d id} : (s.badSend d id).LogSilent := .badField (.malformed h.same)

theorem State.LogSilent.enterSend {d} : (s.enterSend d).LogSilent := by
  unfold State.enterSend
  split
  · exact h
  · dsimp only
    split
    · exact h
    · exact .ite h (.ite h.badSend h.modSend.enterParcel)

theorem State.LogSilent.pumpSends : s.pumpSends.LogSilent := by
  unfold State.pumpSends
  extract_lets s1
  have h1 : s1.LogSilent := .forEach (fun _ _ h => h.enterSend.readSend) h
  exact h1.same

/-! ## Offered beats, queries, fences and saves -/

theorem State.LogSilent.offer {port side data source} : (s.offer port side data source).LogSilent := h.modPort

theorem State.LogSilent.offerNext {port key uid} : (s.offerNext port key uid).LogSilent := by
  unfold State.offerNext
  split
  · exact h.modPort
  · exact .ite h h.offer.modPort.modParcel

theorem State.LogSilent.offerBeat {port} : (s.offerBeat port).LogSilent := by
  unfold State.offerBeat
  refine .ite h ?_
  split
  · exact h.offerNext
  · split
    · exact h.modPort.offer
    · split
      · exact h.modPort
      · dsimp only
        split
        · exact h.modPort.offer.modParcel
        · exact h.modPort.offerNext

theorem State.LogSilent.offerBeats : s.offerBeats.LogSilent := .forRange (fun _ _ h => h.offerBeat) h

theorem State.LogSilent.pumpQuery {q} : (s.pumpQuery q).LogSilent := by
  unfold State.pumpQuery
  extract_lets s1
  have h1 : s1.LogSilent := h.same
  refine .ite ?_ ?_
  · split
    · exact .ite h h1.writeQuery
    · exact h1.complete
  · split
    · exact .ite h h1.writeQuery
    · exact h1.complete

theorem State.LogSilent.pumpQueries : s.pumpQueries.LogSilent := .forEach (fun _ _ h => h.pumpQuery) h

theorem State.LogSilent.fenceOut {id status} : (s.fenceOut id status).LogSilent := by
  unfold State.fenceOut
  split
  · exact h
  · refine .forEach (fun _ _ h => .ite h.suspendDraw h) ?_
    split
    · exact .complete (.pushMsg h.same)
    · dsimp only
      split
      · exact h.interruptTx.modTx.complete
      · exact h.interruptTx.modTx
    · exact h.interruptTx

theorem State.LogSilent.fenceIn {key status} : (s.fenceIn key status).LogSilent := by
  unfold State.fenceIn
  split
  · exact h
  · refine .forEach (fun _ _ h => .ite h.endRestore h) ?_
    split
    · exact h.interruptRx.modRx.complete
    · exact h.interruptRx

theorem State.LogSilent.fenceStreams {status loops} : (s.fenceStreams status loops).LogSilent :=
  .forEach (fun _ _ h => .ite h.fenceIn h) (.forEach (fun _ _ h => .ite h.fenceOut h) h)

theorem State.LogSilent.pumpSave {v} : (State.pumpSave v s).LogSilent := by
  unfold State.pumpSave
  refine .ite h ?_
  extract_lets g w s1
  have h1 : s1.LogSilent := h.same
  exact .ite h1 (.ite h1.memWrites h1.hmWrites4)

theorem State.LogSilent.pumpSaves : s.pumpSaves.LogSilent := .forEach (fun _ _ h => h.pumpSave) h

/-! ## Strands -/

theorem State.LogSilent.modStrand {i f} : (s.modStrand i f).LogSilent := h.same
theorem State.LogSilent.standDown {i row} : (s.standDown i row).LogSilent := .ite h.modStrand h
theorem State.LogSilent.guarantee {u c st data} : (s.guarantee u c st data).LogSilent := h.postEvent
theorem State.LogSilent.writeRepair {i} : (s.writeRepair i).LogSilent := .ite h.modStrand (h.modStrand.nvWriteBytes (fun _ _ => nofun))
theorem State.LogSilent.writeCal {i temp} : (s.writeCal i temp).LogSilent := .ite h.modStrand (h.modStrand.nvWriteBytes (fun _ _ => nofun))
theorem State.LogSilent.sendFrame {type p} : (s.sendFrame type p).LogSilent := h.emit
theorem State.LogSilent.sendReady : s.sendReady.LogSilent := h.sendFrame
theorem State.LogSilent.sendRec {i dir phase} : (s.sendRec i dir phase).LogSilent := h.sendFrame
theorem State.LogSilent.sendSvc {i join v} : (s.sendSvc i join v).LogSilent := .ite h.sendFrame.modStrand h.pushMsg
theorem State.LogSilent.beginSvc {i join reason} : (s.beginSvc i join reason).LogSilent := h.modStrand.sendSvc

theorem State.LogSilent.retire {i} : (s.retire i).LogSilent := by
  unfold State.retire
  refine .ite h ?_
  split
  · exact h.modStrand.sendSvc
  · exact h.beginSvc

theorem State.LogSilent.modRep {i f} : (s.modRep i f).LogSilent := h.modStrand

theorem State.LogSilent.endRepairCmd {i} : (s.endRepairCmd i).LogSilent := by
  unfold State.endRepairCmd
  split
  · exact h.complete
  · exact h

theorem State.LogSilent.endWaits {i status} : (s.endWaits i status).LogSilent := by
  unfold State.endWaits
  refine .modStrand (.forEach (fun _ _ h => ?_) h)
  split
  · exact h.complete
  · exact h

theorem State.LogSilent.lastShard : s.lastShard.LogSilent := .ite h.fenceStreams.raise h

theorem State.LogSilent.becomeShard {i} : (s.becomeShard i).LogSilent :=
  h.modStrand.writeRepair.sticky.raise.postEvent.endRepairCmd.modStrand.endWaits.lastShard

theorem State.LogSilent.changeRx {i new fills inj} : (s.changeRx i new fills inj).LogSilent :=
  .forEach (fun _ _ h => h.sticky.raise) h.modStrand

theorem State.LogSilent.announceHold {i} : (s.announceHold i).LogSilent := by
  unfold State.announceHold
  extract_lets x
  split
  · exact h
  · refine .ite (.ite h h.modStrand) ?_
    extract_lets w s1 s2 rx
    have h2 : s2.LogSilent := h.modStrand.sendRec
    clear_value w
    split
    · refine .ite ?_ (.ite h2 h2.modRep.changeRx)
      refine .ite h2.modRep.changeRx ?_
      split
      · exact h2.modRep.modRep.complete
      · exact h2.modRep
    · exact h2

theorem State.LogSilent.enterHold {i cause} : (s.enterHold i cause).LogSilent := h.modStrand

theorem State.LogSilent.planRepair {i} : (s.planRepair i).LogSilent := by
  unfold State.planRepair
  dsimp only
  split
  · exact h
  · refine .ite ?_ (.ite h (.ite (.ite h h.modStrand.sticky.raise) (.ite h h.beginSvc)))
    split
    · exact h.modStrand.complete
    · exact h

theorem State.LogSilent.writeSwept {i} : (s.writeSwept i).LogSilent := h.modRep.writeRepair

theorem State.LogSilent.checkFilled {i} : (s.checkFilled i).LogSilent := by
  unfold State.checkFilled
  split
  · exact h
  · exact .ite h (.ite h.modStrand.sendRec h.modStrand)

theorem State.LogSilent.finishSweep {i} : (s.finishSweep i).LogSilent := by
  unfold State.finishSweep
  split
  · exact h
  · exact .checkFilled (.ite h.modRep.sendRec.writeSwept h.modRep.sendRec)

theorem State.LogSilent.resendSwept {i} : (s.resendSwept i).LogSilent := .ite h.finishSweep h

theorem State.LogSilent.switchIn {i} : (s.switchIn i).LogSilent := by
  unfold State.switchIn
  extract_lets x
  split
  · exact h
  · exact .ite h (.forEach (fun _ _ h => h.bumpSat.sticky.raise) (.forEach (fun _ _ h => h.bumpSat.sticky.raise) h.modStrand))

theorem State.LogSilent.cleanSweep {i cause} : (s.cleanSweep i cause).LogSilent := by
  unfold State.cleanSweep
  extract_lets x counts list last3 s1
  have h1 : s1.LogSilent := h.modStrand.sticky.raise
  clear_value last3
  split
  · exact .ite h1.sticky.raise.retire h1
  · exact h1

theorem State.LogSilent.checkRepaired {i} : (s.checkRepaired i).LogSilent := by
  unfold State.checkRepaired
  extract_lets x s1 anew
  split
  · exact h
  · extract_lets same wrote s2 retiring
    have h1 : s1.LogSilent := h.modRep
    have hw : wrote.LogSilent := .ite h1.modStrand h1.modStrand.writeSwept
    have h2 : s2.LogSilent := .ite h1.cleanSweep (.ite h1 (.ite hw.switchIn hw))
    exact .ite h (.ite h2.beginSvc h2)

theorem State.LogSilent.retireAnew {i} : (s.retireAnew i).LogSilent := .ite h.modStrand.retire h

theorem State.LogSilent.settleRepairs : s.settleRepairs.LogSilent :=
  .forRange (fun _ _ h => h.announceHold.retireAnew.resendSwept.planRepair.checkRepaired) h

theorem State.LogSilent.setDrives {i ls} : (s.setDrives i ls).LogSilent := h.modStrand

/-! ## Calibrations and self-tests -/

theorem State.LogSilent.sendCal {i row withdraw} : (s.sendCal i row withdraw).LogSilent := h.pushMsg
theorem State.LogSilent.setRun {c} : (s.setRun c).LogSilent := .ite h.same h.same
theorem State.LogSilent.leaveFor {i sub} : (s.leaveFor i sub).LogSilent := h.modStrand

theorem State.LogSilent.calWaits : s.calWaits.LogSilent := by
  unfold State.calWaits
  split
  · exact .ite (.sendCal h.same) h
  · exact h

theorem State.LogSilent.startCal : s.startCal.LogSilent := by
  unfold State.startCal
  extract_lets s0
  have h0 : s0.LogSilent := h.calWaits
  split
  · exact h0
  · extract_lets x forced temp s1 run s2
    have h1 : s1.LogSilent := .standDown h0.same
    have h2 : s2.LogSilent := .modStrand (.leaveFor h1.same)
    exact .ite h0 (.ite h0.same (.ite h1 (.ite h2.sticky.raise.guarantee h2)))

theorem State.LogSilent.finishCalReqs : s.finishCalReqs.LogSilent := .forEach (fun _ _ h => .ite h (.complete h.same)) h

theorem State.LogSilent.calEnded {i result} : (s.calEnded i result).LogSilent := by
  unfold State.calEnded
  extract_lets saves s0 s1
  have h1 : s1.LogSilent := .ite h.modStrand.writeCal h.modStrand
  exact h1.same

theorem State.LogSilent.applyCal {c} : (s.applyCal c).LogSilent := h.setRun.modStrand.setDrives

theorem State.LogSilent.applyAtOnce : s.applyAtOnce.LogSilent := by
  unfold State.applyAtOnce
  split
  · exact h
  · exact .ite h.applyCal h

theorem State.LogSilent.restoreRun {i} : (s.restoreRun i).LogSilent := by
  unfold State.restoreRun
  split
  · exact h
  · exact .ite h h.setRun.modStrand

theorem State.LogSilent.abandonCal : s.abandonCal.LogSilent := by
  unfold State.abandonCal
  split
  next c _ =>
    have h1 : ((s.restoreRun c.strand).calEnded c.strand 1).LogSilent := h.restoreRun.calEnded
    exact .ite h1.same h.same
  · exact h

theorem State.LogSilent.reapCal : s.reapCal.LogSilent := .ite h.abandonCal h
theorem State.LogSilent.toGreenware {i} : (s.toGreenware i).LogSilent := h.modStrand
theorem State.LogSilent.wireMove {n} : (s.wireMove n).LogSilent := h.same
theorem State.LogSilent.modBist {f} : (s.modBist f).LogSilent := h.same

theorem State.LogSilent.sliceDone {c} : (s.sliceDone c).LogSilent := by
  unfold State.sliceDone
  split
  · exact h
  · exact h.complete

theorem State.LogSilent.countSlice {c} : (s.countSlice c).LogSilent := by
  unfold State.countSlice
  extract_lets s1 s2 s3
  have h2 : s2.LogSilent := .ite h.bumpWrap.bumpSat h.bumpWrap
  exact .sliceDone (.ite h2.bumpSat.sticky.raise h2)

theorem State.LogSilent.checkAbort : s.checkAbort.LogSilent := by
  unfold State.checkAbort
  split
  · exact h
  · exact .ite h.modBist.sticky.raise h

theorem State.LogSilent.reapSlice : s.reapSlice.LogSilent := by
  unfold State.reapSlice
  extract_lets t s1
  have h1 : s1.LogSilent := by
    simp only [s1]
    split
    · exact h
    · exact .ite h (.ite h.modBist.countSlice h.modBist)
  exact h1.same

theorem State.LogSilent.fullSetup {ids} : (s.fullSetup ids).LogSilent := h.modBist

theorem State.LogSilent.fullStrandEnd {i} : (s.fullStrandEnd i).LogSilent := by
  unfold State.fullStrandEnd
  split
  · exact h
  · refine .fullSetup (.modBist ?_)
    split
    · exact h.modStrand.raise
    · exact h.modStrand

theorem State.LogSilent.reapFull : s.reapFull.LogSilent := by
  unfold State.reapFull
  split
  · exact h
  · exact .ite h (.forEach (fun _ _ h => h.fullStrandEnd) h.modBist.sticky)

/-! ## The loss of the partner -/

theorem State.LogSilent.sendEarly : s.sendEarly.LogSilent := h.sendFrame
theorem State.LogSilent.discardNeg : s.discardNeg.LogSilent := h.same

theorem State.LogSilent.emptyLink : s.emptyLink.LogSilent := by
  unfold State.emptyLink
  extract_lets s1
  have h1 : s1.LogSilent := .forRange (fun _ _ h => h.calEnded) h.abandonCal
  exact .discardNeg h1.same

theorem State.LogSilent.endStrandCmds {status} : (s.endStrandCmds status).LogSilent := by
  unfold State.endStrandCmds
  extract_lets s1
  have h1 : s1.LogSilent := by
    refine .forRange (fun _ _ h => .endWaits ?_) h
    split
    · exact h.complete.modRep
    · exact h
  exact .forEach (fun _ _ h => h.complete) h1.same

theorem State.LogSilent.loseTx {status id} : (s.loseTx status id).LogSilent := by
  unfold State.loseTx
  split
  · exact h
  · refine .ite h ?_
    split
    · exact .complete h.same
    · extract_lets forced s1
      have h1 : s1.LogSilent := .ite h.freeTx h.interruptTx.modTx
      split
      · exact h1.complete
      · exact h1
    · exact h.interruptTx

theorem State.LogSilent.loseRx {status key} : (s.loseRx status key).LogSilent := by
  unfold State.loseRx
  split
  · exact h
  · refine .ite h ?_
    split
    · exact .complete h.same
    · exact h.interruptRx.modRx

theorem State.LogSilent.losePackets {status id} : (s.losePackets status id).LogSilent := by
  unfold State.losePackets
  split
  · exact h
  · exact .ite h (.forEach (fun _ _ h => h.ptRespond) h.setTx)

theorem State.LogSilent.lossWork {status} : (s.lossWork status).LogSilent := by
  unfold State.lossWork
  extract_lets ids s1 s2 s3 looped s4 s5 s6
  have h1 : s1.LogSilent := .forEach (fun _ _ h => h.losePackets) h.endStrandCmds
  have h2 : s2.LogSilent := .forEach (fun _ _ h => h.loseTx) h1
  have h3 : s3.LogSilent := .forEach (fun _ _ h => h.loseRx) h2
  have h4 : s4.LogSilent := .forEach (fun _ _ h => .ite h.suspendDraw h) h3
  have h5 : s5.LogSilent := by
    refine .forEach (fun _ _ h => ?_) h4
    split
    · exact .ite h h.endRestore
    · exact h
  have h6 : s6.LogSilent := h5.emptyLink
  exact h6.same

theorem State.LogSilent.lossActions {status} : (s.lossActions status).LogSilent := by
  have h1 : (s.lossWork status).LogSilent := h.lossWork
  exact h1.same (h.1.trans h1.1.symm)

theorem State.LogSilent.movePartner {p} : (s.movePartner p).LogSilent := .postEvent h.same

theorem State.LogSilent.lose {cause inj event} : (s.lose cause inj event).LogSilent := by
  unfold State.lose
  extract_lets lost next was pulse s0 s1 code
  have h0 : s0.LogSilent := h.same
  have h1 : s1.LogSilent := .lossActions (.ite h0.movePartner h0.same)
  exact .ite h (.raise (.sticky (.bumpSat h1.same)))

theorem State.LogSilent.checkLocal : s.checkLocal.LogSilent := .ite h.lose h
theorem State.LogSilent.checkActive : s.checkActive.LogSilent := .ite h.movePartner h

/-! ## Power and parking -/

theorem State.LogSilent.setReq {d on} : (s.setReq d on).LogSilent := h.same
theorem State.LogSilent.lower {d} : (s.lower d).LogSilent := .ite (.setReq (.sendReady (.sendReady h.same))) h.setReq

theorem State.LogSilent.pumpPower : s.pumpPower.LogSilent := by
  unfold State.pumpPower
  refine .ite h (.forEach (fun _ _ h => .ite h.lower h) (.ite h ?_))
  split
  · exact h.setReq
  · exact h

theorem State.LogSilent.unblock : s.unblock.LogSilent := h.same
theorem State.LogSilent.parkStrand {i} : (s.parkStrand i).LogSilent := h.wireMove.restoreRun.writeCal.toGreenware.modStrand
theorem State.LogSilent.parkGroups : s.parkGroups.LogSilent := h.same

theorem State.LogSilent.leaveAt {i} : (s.leaveAt i).LogSilent := by
  unfold State.leaveAt
  split
  · exact h
  · refine .ite h ?_
    extract_lets s1 x s2
    have h1 : s1.LogSilent := h.standDown
    have h2 : s2.LogSilent := h1.modStrand
    exact .ite h1 (.ite h1 (.ite h2.becomeShard (.ite h2 (.ite h2.parkStrand h2.enterHold))))

theorem State.LogSilent.settleLeaves : s.settleLeaves.LogSilent := by
  unfold State.settleLeaves
  extract_lets ready retires s1
  have h1 : s1.LogSilent := .forRange (fun _ _ h => .ite h.leaveAt h) h.calWaits
  exact .ite h1.startCal h1

/-! ## Settling -/

theorem State.LogSilent.sagFence : s.sagFence.LogSilent := .ite h (.ite h.same (.fenceStreams h.same))

theorem State.LogSilent.settleStrands : s.settleStrands.LogSilent :=
  .parkGroups (.unblock h.settleLeaves.settleRepairs.applyAtOnce.reapCal.checkAbort.reapSlice.reapFull.finishCalReqs)

theorem State.LogSilent.settleWork : s.settleWork.LogSilent := by
  unfold State.settleWork
  extract_lets s0 s1 s2 s3
  have h0 : s0.LogSilent := h.portFaults.memRelease
  have h1 : s1.LogSilent := h0.pumpSends.pumpDraws.pumpSaves.pumpQueries.pumpCaptures.settleShelves.advanceFetches
  have h2 : s2.LogSilent := .forEach (fun _ _ h => h.checkCloseTx) h1
  have h3 : s3.LogSilent := .forEach (fun _ _ h => h.checkCloseRx) h2
  exact h3.checkFences

theorem State.LogSilent.settleAll : s.settleAll.LogSilent :=
  h.settleStrands.checkActive.checkLocal.sagFence.settleWork.pumpPower

theorem State.LogSilent.announce {before : State} : (before.announce s).LogSilent :=
  .ite h (.ite (.ite h h.sendReady) (.sendEarly (.ite h h.sendReady)))

theorem State.LogSilent.noteLimited {before : State} : (before.noteLimited s).LogSilent := .ite h.sticky h

/-! ## Logging -/

theorem State.LogSilent.cfgUp : s.cfgUp = false := by
  obtain ⟨hcfg, -⟩ := h
  simp [State.cfgUp, State.cfgHeld, hcfg]

omit h in
/-- While the set-up domain is in reset, only the summary is kept of a code. -/
theorem State.LogSilent.logOne {byEscalation : Bool} {g : Logged} {r : Raised} (h : g.state.LogSilent) :
    (logOne byEscalation g r).state.LogSilent := by
  unfold Machine.logOne
  extract_lets s0 cls kind safe parents parent nested outcome esc s1 k k1 link escs
  have h1 : s1.LogSilent := h.sticky.sticky
  have hup : s0.cfgUp = false := h.cfgUp
  rw [if_pos (by simp [hup])]
  exact h1

theorem State.LogSilent.logAll {byEscalation fresh} : (logAll byEscalation fresh s).state.LogSilent :=
  .foldl (p := Logged.state) (fun _ _ h => h.logOne) h.same

theorem State.LogSilent.escalate {kind unit} : (s.escalate kind unit).LogSilent := by
  unfold State.escalate
  split
  · exact h.retire
  · exact h.fenceOut.fenceIn.fenceIn
  · exact .ite h h.ringFault
  · split
    · exact h.cutDraw
    · exact h
  · exact h

theorem State.LogSilent.escalateInst : s.escalateInst.LogSilent := by
  unfold State.escalateInst
  extract_lets k s1 s2
  have h1 : s1.LogSilent := .raise h.same
  have h2 : s2.LogSilent := h1.fenceStreams.setFlag.lose
  exact .ite h2 h2.sendEarly

theorem State.LogSilent.settleLog : s.settleLog.LogSilent := by
  unfold State.settleLog
  extract_lets before g s1 s2
  have h1 : s1.LogSilent := .forEach (fun _ _ h => h.escalate) h.logAll.flushEvents
  have h2 : s2.LogSilent := .ite h1.escalateInst h1
  exact h2.logAll.flushEvents

theorem State.LogSilent.orderFrames : s.orderFrames.LogSilent := h.same
theorem State.LogSilent.unsettled {u : State} (hu : u.LogSilent) : (u.unsettled s).LogSilent := h.same (hu.1.trans h.1.symm)
theorem State.LogSilent.queueOf {before : State} : (before.queueOf s).LogSilent := h.same
theorem State.LogSilent.heldRegs : s.heldRegs.LogSilent := h.same
theorem State.LogSilent.driveIrq : s.driveIrq.LogSilent := h.same

/-- A command whose own effect queues no write of the log image ends with none queued, in the reset of the set-up domain. -/
theorem State.LogSilent.finish (before : State) : (before.finish s).LogSilent :=
  (h.settleAll.announce.noteLimited.settleLog.offerBeats.orderFrames.unsettled h).queueOf.heldRegs.driveIrq

end

/-! ## The flush that owes a second image -/

/-- A block in a brownout with the set-up domain in reset: the last word of the log image is to be answered, and a second image
waits for it. -/
def imageOwed : State :=
  { State.resetOf smallBuild with
    resets := { aon := false, cfg := true, link := true, core := true }, nvOps := [.logWrite true], kiln := { imageNext := true }
    power := { warn := true, flush := some 2 } }

theorem exec_imageOwed : exec (.nvResponse 0 false) imageOwed =
    .next (imageOwed.start.finish (imageOwed.start.nvResponse 0 false)) := rfl

/-- The answer begins the second image. -/
theorem imageOwed_logWriting : (imageOwed.start.finish (imageOwed.start.nvResponse 0 false)).logWriting = true := by decide +kernel

/-- Refutes O13: the answer to the last word of a log image begins the image that waited for it, whose words join the queue of the port,
while the statement leaves only the rest of the queue there. -/
theorem not_nvAnswersTheOldest : ¬ Obligations.NvAnswersTheOldest := by
  unfold Obligations.NvAnswersTheOldest
  rintro ⟨-, hwrite⟩
  obtain ⟨u, hexec, hqueue, -, -⟩ := hwrite imageOwed [] true 2 0 (by decide +kernel) (by decide +kernel) rfl rfl (by decide)
  rw [exec_imageOwed] at hexec
  have hend := Host.Outcome.next.inj hexec
  have hresets : u.resets.cfg = true := by
    rw [← State.finish_resets imageOwed.start u, ← hend, State.finish_resets]
    decide +kernel
  have hsilent : u.LogSilent := ⟨hresets, by rw [State.logWriting, hqueue]; rfl⟩
  have hnone := (hsilent.finish imageOwed.start).2
  rw [← hend, imageOwed_logWriting] at hnone
  cases hnone

end Sys2Proof.Machine

/-! # Proofs: control registers, pairs of words, the Saggar and the injection unit (chapters 1, 13, 15 and 18) -/

namespace Sys2Proof.Machine

/-! ## Pairs of words (R596, R604) -/

section
variable {s : State} {off v : Nat}

/-- The offsets of the low words of the pairs. -/
theorem State.pairValue_low (h : s.pairValue off = some v) :
    off = 0x40 ∨ off = 0x200 ∨ off = 0x2010 ∨ off = 0x2090 ∨ off = 0x2024 := by
  by_contra hother
  simp only [not_or] at hother
  obtain ⟨h40, h200, h2010, h2090, h2024⟩ := hother
  simp [State.pairValue, h40, h200, h2010, h2090, h2024] at h

/-- No high word of a pair is the low word of another. -/
theorem State.pairValue_high (h : s.pairValue off = some v) : s.pairValue (off + 4) = none := by
  rcases State.pairValue_low h with rfl | rfl | rfl | rfl | rfl <;> rfl

theorem State.readReg_low (h : s.pairValue off = some v) : s.readReg off = v % 2 ^ 32 := by
  unfold State.readReg
  rw [if_pos (by rw [h]; rfl), h]
  rfl

/-- The high word of a pair reads as its shadow. -/
theorem State.readReg_high (h : s.pairValue off = some v) {w : Nat} (hshadow : lookupKey off s.shadows = some w) :
    s.readReg (off + 4) = w := by
  unfold State.readReg
  simp only [Nat.add_sub_cancel, State.pairValue_high h, h, hshadow, Option.map_some]
  rfl

/-- The state in which the high word of a pair has been captured. -/
def State.captured (s : State) (off v : Nat) : State := { s with shadows := insertKey off (v / 2 ^ 32) s.shadows }

theorem State.cfgRead_pair (haon : s.aonHeld = false) (hreach : s.regReachable off = true) (hpair : s.pairValue off = some v)
    (hexists : regExists s.build off = true) : s.cfgRead off = (s.captured off v).emit (.cfgData (v % 2 ^ 32)) := by
  unfold State.cfgRead
  simp only [haon, hreach, hpair, hexists, Bool.not_true, Bool.false_eq_true, if_false, if_true, State.readReg_low hpair]
  rfl

theorem exec_fcountLoRead : exec .fcountLoRead s = .next (s.start.finishLight (s.start.cfgRead 0x200)) := rfl

theorem exec_shadowLoRead (hoff : off < 0x10000) (hal : off % 4 = 0) :
    exec (.shadowLoRead off) s = .next (s.start.finishLight (s.start.cfgRead off)) :=
  (if_pos hal).trans (named_present _ _ _ hoff)

/-- The firing count is a register of the AON domain. -/
theorem State.regReachable_fcount (h : s.aonHeld = false) : s.regReachable 0x200 = true := by
  simpa [State.regReachable, regDomain, State.aonHeld] using h

end

/-- Settles O20: the low word of a pair is answered as its high word is captured, and the high word then reads as its shadow. -/
theorem pairReadsCaptureTheHighWord : Obligations.PairReadsCaptureTheHighWord := by
  unfold Obligations.PairReadsCaptureTheHighWord
  refine ⟨fun s haon => ?fcount, fun s off v hoff hal haon hreach hpair hexists => ⟨?low, ?high⟩⟩
  case fcount =>
    rw [exec_fcountLoRead, State.cfgRead_pair (s := s.start) (v := s.now) haon (State.regReachable_fcount haon) rfl rfl]
    rfl
  case low =>
    rw [exec_shadowLoRead hoff hal, State.cfgRead_pair (s := s.start) haon hreach hpair hexists]
    rfl
  case high => exact State.readReg_high (s := s.start.captured off v) hpair (lookupKey_insertKey_same _ _ _)

/-! ## What a plain write stores (R7) -/

section
variable {s : State} {off : Nat} {row : RegRow} {d : Word} (hrow : regRow s.build s.role off = some row)
include hrow

/-- An RW bit takes the data, where the register's own rule leaves it. -/
theorem State.flag_plainWrite_rw {i : Nat} (hi : i < 32) (hrw : row.rw.testBit i = true)
    (hrule : (writeRule off (s.regN off) d.toNat).testBit i = d.getLsbD i) : (s.plainWrite off d).flag off i = d.getLsbD i := by
  obtain ⟨hbits, -, -⟩ := registerWriteFollowsAccessCodes s off d row hrow
  rw [hbits i hi, if_pos hrw, hrule]

/-- A field of RW bits takes the data, where the register's own rule leaves them. -/
theorem State.fld_plainWrite_rw {hi lo : Nat} (hhi : hi < 32) (hlo : lo ≤ hi)
    (hrw : ∀ i, i ≤ hi → lo ≤ i → row.rw.testBit i = true)
    (hrule : writeRule off (s.regN off) d.toNat = d.toNat) : (s.plainWrite off d).fld off hi lo = bits d.toNat hi lo := by
  refine Nat.eq_of_testBit_eq fun i => ?_
  rw [State.fld, bits_testBit, bits_testBit]
  by_cases hi' : i < hi - lo + 1
  · have hbit := State.flag_plainWrite_rw hrow (d := d) (show lo + i < 32 by omega) (hrw _ (by omega) (by omega)) (by rw [hrule]; rfl)
    rw [State.flag_eq_testBit] at hbit
    rw [hbit]
    rfl
  · simp [hi']

end

/-! ## The control registers (R600, R601, R170, R233, R507, R511, R502) -/

section
variable {s : State} {d : Word}

theorem regRow_ctl (b : Build) (role : Role) : regRow b role 0x100 = some ⟨3, 0, 0⟩ := rfl
theorem regRow_numCtl (b : Build) (role : Role) : regRow b role 0x4800 = some ⟨7, 0, 0⟩ := rfl
theorem regRow_shelfCtl (b : Build) (role : Role) : regRow b role 0x5800 = some ⟨0xFF07, 0, 2⟩ := rfl
theorem regRow_pwrCtl (b : Build) (role : Role) : regRow b role 0x6010 = some ⟨1, 0, 0⟩ := rfl

/-- STOP_FETCH and HOLD_I take the data. -/
theorem State.flag_ctlWrite {i : Nat} (hi : i < 2) : (s.plainWrite 0x100 d).flag 0x100 i = d.getLsbD i := by
  refine State.flag_plainWrite_rw (regRow_ctl _ _) (by omega) ?_ rfl
  show (3 : Nat).testBit i = true
  revert i; decide

/-- A write that does not clear STOP_FETCH polls nothing. -/
theorem State.writeCtl_unpolled (h : s.flag 0x100 0 = false ∨ d.getLsbD 0 = true) : s.writeCtl d = s.plainWrite 0x100 d := by
  refine if_neg ?_
  rw [State.flag_ctlWrite (by decide)]
  rcases h with h | h <;> simp [h]

/-- CAP_EN rises: the capture pointer is cleared. -/
theorem State.writeNumCtl_rises (hoff : s.flag 0x4800 1 = false) (hon : (s.plainWrite 0x4800 d).flag 0x4800 1 = true) :
    s.writeNumCtl d = (s.plainWrite 0x4800 d).setFld 0x481C 27 0 0 := if_pos (by simp [hoff, hon])

/-- A legal REL_MIN is stored. -/
theorem State.relMin_write (h : bits d.toNat 2 0 ≤ 4) : (s.plainWrite 0x5800 d).relMin = bits d.toNat 2 0 := by
  refine State.fld_plainWrite_rw (regRow_shelfCtl _ _) (by decide) (by decide) (by decide) ?_
  simp [writeRule, Nat.not_lt.mpr h]

theorem State.writeShelfCtl_same (h : (s.plainWrite 0x5800 d).relMin = s.relMin) : s.writeShelfCtl d = s.plainWrite 0x5800 d := if_pos h

theorem State.writeShelfCtl_changed (h : (s.plainWrite 0x5800 d).relMin ≠ s.relMin) :
    s.writeShelfCtl d = (s.plainWrite 0x5800 d).settleShelves.serveShelfWaits := if_neg h

/-- A side that is down does not recover. -/
theorem State.checkRecovery_down (h : s.flag 0x6010 0 = true) : s.checkRecovery = s := if_neg (by simp [State.localDown, h])

/-- DOWN is set: it is stored, and nothing else happens. -/
theorem State.writePwr_sets (hup : s.flag 0x6010 0 = false) (hdown : (s.plainWrite 0x6010 d).flag 0x6010 0 = true) :
    s.writePwr d = s.plainWrite 0x6010 d := by
  rw [State.writePwr, if_neg (by simp [hup]), State.checkRecovery_down hdown]

/-- DOWN stays while the block is washed (R580). -/
theorem State.writePwr_washed (hwashed : s.flag 0x7004 1 = true) (hdown : s.flag 0x6010 0 = true) : s.writePwr d = s :=
  if_pos (by simp [hwashed, hdown])

/-- How a command ends, with its effect said otherwise. -/
theorem finish_of_eq {o : Host.Outcome State Fault Refusal} {u v : State} (h : o = .next (s.finish u)) (huv : u = v) :
    o = .next (s.finish v) := huv ▸ h

/-- A write to a register of the AON domain reaches it while that domain is out of reset. -/
theorem run_cfgWrite_aon (h : s.aonHeld = false) {off : Nat} (hdomain : regDomain off = .aon) (d : Word) :
    run (fun x => x.cfgWrite off d) s = .next (s.start.finish (s.start.writeReg off d)) := by
  have hreach : s.start.regReachable off = true := by
    unfold State.regReachable
    rw [hdomain]
    simpa [State.aonHeld] using h
  rw [run, State.cfgWrite_reaches (s := s.start) h hreach]

end

/-- Settles O21: each write reaches its register, whose own rule says what it does besides storing. -/
theorem controlWritesTakeEffect : Obligations.ControlWritesTakeEffect := by
  unfold Obligations.ControlWritesTakeEffect
  refine ⟨fun s d hcfg hstop => ?stop, fun s d hcfg hrun hstop => ?hold, fun s d hcfg hoff hon => ?capture,
    fun s d hcfg hsame hlegal => ?relSame, fun s d hcfg hchange hlegal => ?relChanged, fun s d haon => ?domains, fun s d haon => ?park,
    fun s d haon hdown hup => ?down, fun s d haon hwashed hdown => ?washed⟩
  case stop =>
    refine ⟨_, run_cfgWrite_up hcfg rfl d, ?_⟩
    rw [show s.start.writeReg 0x100 d = s.start.plainWrite 0x100 d from State.writeCtl_unpolled (.inr hstop)]
    exact ⟨State.plainWrite_frame _ _ _, (State.flag_ctlWrite (by decide)).trans hstop, State.flag_ctlWrite (by decide)⟩
  case hold =>
    refine ⟨_, run_cfgWrite_up hcfg rfl d, ?_⟩
    rw [show s.start.writeReg 0x100 d = s.start.plainWrite 0x100 d from State.writeCtl_unpolled (.inl hrun)]
    exact ⟨State.plainWrite_frame _ _ _, State.flag_ctlWrite (by decide)⟩
  case capture =>
    have hset : (s.start.plainWrite 0x4800 d).flag 0x4800 1 = true :=
      (State.flag_plainWrite_rw (regRow_numCtl _ _) (by decide) rfl rfl).trans hon
    refine ⟨_, run_cfgWrite_up hcfg rfl d, ?_⟩
    rw [show s.start.writeReg 0x4800 d = _ from State.writeNumCtl_rises hoff hset]
    refine ⟨?_, ?_, State.fld_setFld_same _ _ _ _ _ (by decide) (by decide)⟩
    · rw [State.setFld, State.setReg_frame, State.plainWrite_frame]
    · rw [State.flag, State.reg_setFld_other _ _ _ _ _ _ (by decide)]
      exact hset
  case relSame =>
    have hstored : (s.start.plainWrite 0x5800 d).relMin = s.relMin := (State.relMin_write (hsame ▸ hlegal)).trans hsame
    refine ⟨_, run_cfgWrite_up hcfg rfl d, ?_⟩
    rw [show s.start.writeReg 0x5800 d = _ from State.writeShelfCtl_same hstored]
    exact ⟨State.plainWrite_frame _ _ _, hstored⟩
  case relChanged =>
    have hstored : (s.start.plainWrite 0x5800 d).relMin ≠ s.start.relMin := fun h => hchange ((State.relMin_write hlegal).symm.trans h)
    exact finish_of_eq (run_cfgWrite_up hcfg rfl d) (State.writeShelfCtl_changed hstored)
  case domains =>
    exact finish_of_eq (run_cfgWrite_aon haon rfl d) (plainRegistersOnlyStore s.start d 0x6000 (by decide))
  case park =>
    exact finish_of_eq (run_cfgWrite_aon haon rfl d) (plainRegistersOnlyStore s.start d 0x600C (by decide))
  case down =>
    have hset : (s.start.plainWrite 0x6010 d).flag 0x6010 0 = true :=
      (State.flag_plainWrite_rw (regRow_pwrCtl _ _) (by decide) rfl rfl).trans hdown
    refine ⟨_, run_cfgWrite_aon haon rfl d, ?_⟩
    rw [show s.start.writeReg 0x6010 d = _ from State.writePwr_sets hup hset]
    exact ⟨State.plainWrite_frame _ _ _, hset⟩
  case washed =>
    exact finish_of_eq (run_cfgWrite_aon haon rfl d) (State.writePwr_washed hwashed hdown)

/-! ## The Saggar (R484, R486) -/

section
variable {s : State} {d : Word}

theorem regRow_sagCtl (hsag : s.build.saggar = true) : regRow s.build s.role 0x4000 = some ⟨0x800007FF, 0, 0x42⟩ := by
  simp [regRow, hsag]
  rfl

/-- LOCK, written 1, is set. -/
theorem State.lock_set (hsag : s.build.saggar = true) (hlock : d.getLsbD 31 = true) (hopen : s.flag 0x4000 31 = false) :
    (s.plainWrite 0x4000 d).flag 0x4000 31 = true := by
  refine (State.flag_plainWrite_rw (regRow_sagCtl hsag) (by decide) rfl ?_).trans hlock
  have hrule : writeRule 0x4000 (s.regN 0x4000) d.toNat = d.toNat := by simp [writeRule, bit, ← State.flag_eq_testBit, hopen]
  rw [hrule]
  rfl

/-- While LOCK is set only the sticky bits take a write. -/
theorem State.writeSag_locked (hlock : s.flag 0x4000 31 = true) {off : Nat} (hoff : off ≠ 0x4010) (e : Word) : s.writeSag off e = s :=
  if_pos ⟨hlock, hoff⟩

/-- A write without ATT_RETRY stores. -/
theorem State.writeSag_stores (hopen : s.flag 0x4000 31 = false) (hretry : d.getLsbD 11 = false) :
    s.writeSag 0x4000 d = s.plainWrite 0x4000 d := by
  unfold State.writeSag
  rw [hopen, hretry]
  rfl

/-- A write with ATT_RETRY stores, and starts an attestation. -/
theorem State.writeSag_retries (hopen : s.flag 0x4000 31 = false) (hretry : d.getLsbD 11 = true) (hsag : s.build.saggar = true) :
    s.writeSag 0x4000 d = (s.plainWrite 0x4000 d).attRetry := by
  unfold State.writeSag
  rw [hopen, hretry, hsag]
  rfl

/-- An attestation that starts anew has no result and no nonce yet. -/
def State.unattested (s : State) : State := { s with sag := { s.sag with attPass := false, attFail := false, nonce := none } }

theorem State.attRetry_bisque (h : s.bisqueOpen = true) : s.attRetry = s.unattested.startAtt := if_neg (by simp [h])

theorem State.bisqueOpen_plainWrite (off : Nat) : (s.plainWrite off d).bisqueOpen = s.bisqueOpen := by
  rw [State.plainWrite_frame]
  rfl

end

/-- Settles O24: a locked Saggar takes no write, and ATT_RETRY in BISQUE starts an attestation from no result. -/
theorem saggarWrites : Obligations.SaggarWrites := by
  unfold Obligations.SaggarWrites
  refine ⟨fun s d hcfg hsag hopen hretry => ?lock, fun s d hcfg hsag hopen hbisque => ?retry⟩
  case lock =>
    refine ⟨_, run_cfgWrite_up hcfg rfl _, ?_⟩
    rw [show s.start.writeReg 0x4000 _ = _ from State.writeSag_stores hopen (getLsbD_or_unset hretry rfl)]
    have hlock := State.lock_set (s := s.start) hsag (getLsbD_or_set (m := 0x80000000#32) rfl d) hopen
    exact ⟨State.plainWrite_frame _ _ _, hlock, fun off e hoff => State.writeSag_locked hlock hoff e⟩
  case retry =>
    refine ⟨_, (s.start.plainWrite 0x4000 (d ||| 0x800#32)).unattested, run_cfgWrite_up hcfg rfl _, ?_, ?_, ?_⟩
    · exact (State.writeSag_retries (s := s.start) (d := d ||| 0x800#32) hopen (getLsbD_or_set (by decide) d) hsag).trans
        (State.attRetry_bisque ((State.bisqueOpen_plainWrite _).trans hbisque))
    · rw [State.plainWrite_frame]
      rfl
    · rw [State.plainWrite_frame]
      rfl

/-! ## Freeing records (R555) -/

section
variable {s : State} {d : Word}

/-- A record whose LINK does not name a freed one. -/
def KilnRecord.unlinked (i : Nat) (r : KilnRecord) : KilnRecord := if r.link = i then { r with link := 0xFF } else r

theorem Kiln.records_free (k : Kiln) (i : Nat) : (k.free i).records = (eraseKey i k.records).map (fun p => (p.1, p.2.unlinked i)) := by
  refine List.map_congr_left fun p _ => ?_
  unfold KilnRecord.unlinked
  split <;> rfl

/-- A record that is freed is gone, and every other stays. -/
theorem Kiln.isSome_lookup_free (k : Kiln) (i j : Nat) :
    (lookupKey j (k.free i).records).isSome = if j = i then false else (lookupKey j k.records).isSome := by
  rw [Kiln.records_free, lookupKey_map, Option.isSome_map]
  split
  · next h => rw [h, lookupKey_eraseKey_same]; rfl
  · next h => rw [lookupKey_eraseKey_other _ _ _ h]

theorem State.records_freeRecord {i : Nat} {r : KilnRecord} (h : lookupKey i s.kiln.records = some r) :
    (s.freeRecord i).kiln.records = (s.kiln.free i).records := by
  unfold State.freeRecord
  rw [h]

theorem State.writeLogFree_one (h : d.getLsbD 31 = false) : s.writeLogFree d = s.freeRecord (bits d.toNat 5 0) :=
  if_neg (by rw [h]; decide)

theorem State.writeLogFree_all (h : d.getLsbD 31 = true) :
    s.writeLogFree d = { s with kiln := { s.kiln with records := [], pdHeld := [] } } := if_pos h

/-! ## The injection unit (R558) -/

/-- A write to a register of the test domain reaches it while that domain and the set-up domain are up. -/
theorem run_cfgWrite_tst (hcfg : s.cfgUp = true) (htst : s.domainOn 22 = true) {off : Nat} (hdomain : regDomain off = .tst) (d : Word) :
    run (fun x => x.cfgWrite off d) s = .next (s.start.finish (s.start.writeReg off d)) := by
  have hheld : s.cfgHeld = false := by simpa using (Bool.and_eq_true_iff.mp hcfg).1
  have hreach : s.start.regReachable off = true := by
    unfold State.regReachable
    rw [hdomain]
    exact Bool.and_eq_true_iff.mpr ⟨by simpa [State.cfgHeld] using hheld, htst⟩
  rw [run, State.cfgWrite_reaches (s := s.start) (State.aonHeld_of_cfgUp hcfg) hreach]

theorem State.writeUnlock_key : s.writeUnlock 0x5A3C#32 = { s with inj := { s.inj with unlocked := true } } := rfl

theorem State.writeUnlock_other (h : d ≠ 0x5A3C#32) : s.writeUnlock d = s := if_neg fun hkey => h (BitVec.eq_of_toNat_eq hkey)

/-- A field of a write apart from the bits that its command sets. -/
theorem bits_or_unset {m : Word} {hi lo : Nat} (h : bits m.toNat hi lo = 0) (d : Word) :
    bits (d ||| m).toNat hi lo = bits d.toNat hi lo := by
  refine Nat.eq_of_testBit_eq fun i => ?_
  have hbit := congrArg (Nat.testBit · i) h
  simp only [bits_testBit, Nat.zero_testBit] at hbit
  rw [bits_testBit, bits_testBit, BitVec.toNat_or, Nat.testBit_or, Bool.and_or_distrib_left, hbit, Bool.or_false]

/-- No register is part of the injection unit. -/
theorem State.flag_withInj (s : State) (j : Inject) (off i : Nat) : ({ s with inj := j } : State).flag off i = s.flag off i := rfl

/-- What a write that arms makes of the injection unit. -/
def State.armedBy (s : State) (d : Word) : Inject where
  armed := true
  point := bits d.toNat 5 0
  unit := s.fld 0x3C08 15 0
  param := s.fld 0x3C08 31 16
  data := s.regN 0x3C0C
  safe := d.getLsbD 7
  remain := if d.getLsbD 6 then (s.plainWrite 0x3C04 (BitVec.ofNat 32 (setBits d.toNat 8 8 (b2n s.inj.armed)))).fld 0x3C04 31 16 else 1
  fired := s.inj.fired

/-- A write of ARM to an unlocked unit at rest, with a point that there is, arms it. -/
theorem State.writeInjCtl_arms (harm : d.getLsbD 8 = true) (hunlocked : s.inj.unlocked = true) (hidle : s.inj.armed = false)
    (hlow : 0 < bits d.toNat 5 0) (hhigh : bits d.toNat 5 0 ≤ 0x34) : ∃ x : State,
      s.writeInjCtl d = { x.setFlag 0x3C04 8 true with inj := s.armedBy d } := by
  refine ⟨_, (if_neg ?_).trans (if_neg ?_)⟩
  · rw [harm]
    decide
  · have hpoint : ¬(bits d.toNat 5 0 = 0) ∧ ¬(bits d.toNat 5 0 > 0x34) := by omega
    simp [hunlocked, hidle, hpoint]

end

/-- Settles O25: each write reaches its register, and what it does there is said by the register's own lemma. -/
theorem logAndInjectionWrites : Obligations.LogAndInjectionWrites := by
  unfold Obligations.LogAndInjectionWrites
  refine ⟨fun s d r hcfg hone hrec => ?free, fun s d hcfg => ?freeAll, fun s hcfg htst => ?unlock, fun s d hcfg htst hkey => ?wrongKey,
    fun s d hcfg htst hunlocked hidle hlow hhigh => ?arm, fun s hcfg => ?lapse⟩
  case free =>
    refine ⟨_, run_cfgWrite_up hcfg rfl d, ?_⟩
    have hfreed : (s.start.writeReg 0x3814 d).kiln.records = (s.kiln.free (bits d.toNat 5 0)).records :=
      (congrArg (fun x => x.kiln.records) (State.writeLogFree_one (s := s.start) hone)).trans
        (State.records_freeRecord (s := s.start) hrec)
    rw [hfreed]
    refine ⟨?_, fun i hi => ?_⟩
    · simpa using Kiln.isSome_lookup_free s.kiln (bits d.toNat 5 0) (bits d.toNat 5 0)
    · rw [Kiln.isSome_lookup_free, if_neg hi]
  case freeAll =>
    exact finish_of_eq (run_cfgWrite_up hcfg rfl _) (State.writeLogFree_all (getLsbD_or_set rfl d))
  case unlock => exact run_cfgWrite_tst hcfg htst rfl _
  case wrongKey =>
    exact finish_of_eq (run_cfgWrite_tst hcfg htst rfl d) (State.writeUnlock_other hkey)
  case arm =>
    have hsame : bits (d ||| 0x100#32).toNat 5 0 = bits d.toNat 5 0 := bits_or_unset rfl d
    obtain ⟨x, harms⟩ := State.writeInjCtl_arms (s := s.start) (getLsbD_or_set (m := 0x100#32) rfl d) hunlocked hidle
      (hsame ▸ hlow) (hsame ▸ hhigh)
    refine ⟨_, run_cfgWrite_tst hcfg htst rfl _, ?_⟩
    rw [show s.start.writeReg 0x3C04 (d ||| 0x100#32) = _ from harms]
    refine ⟨?_, rfl, rfl, hsame, rfl, rfl, rfl⟩
    exact (State.flag_withInj _ _ _ _).trans (x.flag_setFlag_same 0x3C04 8 true (by decide))
  case lapse => exact runUpLight_up (fun s => { s with inj := { s.inj with unlocked := false } }) s hcfg

end Sys2Proof.Machine

/-! # Proofs: the brownout warning, parking and waking (chapter 14) -/

namespace Sys2Proof.Machine

/-! ## What writes no register and raises no code -/

/-- `t` has the registers and the raised codes of `s`. -/
structure State.SameReport (s t : State) : Prop where
  regs : t.regs = s.regs
  build : t.build = s.build
  straps : t.straps = s.straps
  raised : t.raised = s.raised

namespace State.SameReport
variable {s t u : State}

/-- A change elsewhere. -/
theorem same (regs : t.regs = s.regs := by rfl) (build : t.build = s.build := by rfl) (straps : t.straps = s.straps := by rfl)
    (raised : t.raised = s.raised := by rfl) : s.SameReport t := ⟨regs, build, straps, raised⟩

theorem refl (s : State) : s.SameReport s := same

theorem trans (h : s.SameReport t) (h' : t.SameReport u) : s.SameReport u :=
  ⟨h'.regs.trans h.regs, h'.build.trans h.build, h'.straps.trans h.straps, h'.raised.trans h.raised⟩

theorem ite {c : Prop} [Decidable c] (ht : s.SameReport t) (hu : s.SameReport u) : s.SameReport (if c then t else u) := by
  split <;> assumption

theorem forEach {β : Type} {l : List β} {f : β → State → State} (hf : ∀ (b : β) (x : State), x.SameReport (f b x)) :
    s.SameReport (Machine.forEach l f s) :=
  forEach_keeps s.SameReport l f s (fun b _ h => h.trans (hf b _)) (refl s)

theorem modStrand (i : Nat) (f : Strand → Strand) : s.SameReport (s.modStrand i f) := same

theorem sendFrame (k : Nat) (p : List Byte) : s.SameReport (s.sendFrame k p) := same

theorem nvWriteBytes (addr : Nat) (bs : List Byte) (use : Bool → NvUse) : s.SameReport (s.nvWriteBytes addr bs use) := by
  unfold State.nvWriteBytes
  exact State.foldl_fst_keeps s.SameReport (fun _ _ h => h.trans same) (refl s)

theorem postNow (event unit code : Nat) (data : List Byte) : s.SameReport (s.postNow event unit code data) := by
  have h := (State.AsButEntries.refl s).postNow event unit code data
  unfold State.AsButEntries at h
  rw [h]
  exact same

theorem writeLogImage : s.SameReport s.writeLogImage := ite same (trans same (nvWriteBytes _ _ _))

theorem writeRepair (i : Nat) : s.SameReport (s.writeRepair i) := ite (modStrand _ _) ((modStrand _ _).trans (nvWriteBytes _ _ _))

theorem writeCal (i : Nat) (temp : Int) : s.SameReport (s.writeCal i temp) :=
  ite (modStrand _ _) ((modStrand _ _).trans (nvWriteBytes _ _ _))

theorem dropWrites : s.SameReport s.dropWrites := same

theorem flushStart : s.SameReport s.flushStart := by
  have himage : s.SameReport s.dropWrites.writeLogImage := dropWrites.trans writeLogImage
  refine trans (himage.trans (trans (forEach fun i x => ?_) (forEach fun p x => ?_))) same
  · exact writeRepair i
  · exact writeCal _ _

end State.SameReport

/-- `t` reads as `s` in every register but the summary of the log (R553). -/
def State.SameButSummary (s t : State) : Prop := ∀ off, off ≠ 0x3804 → t.reg off = s.reg off

namespace State.SameButSummary
variable {s t u : State}

theorem trans (h : s.SameButSummary t) (h' : t.SameButSummary u) : s.SameButSummary u := fun off hoff => (h' off hoff).trans (h off hoff)

theorem ite {c : Prop} [Decidable c] (ht : s.SameButSummary t) (hu : s.SameButSummary u) : s.SameButSummary (if c then t else u) := by
  split <;> assumption

theorem of_sameReport (h : s.SameReport t) : s.SameButSummary t := fun off _ => by
  obtain ⟨hregs, hbuild, hstraps, -⟩ := h
  simp only [State.reg, State.role, hregs, hbuild, hstraps]

theorem refl (s : State) : s.SameButSummary s := of_sameReport (.refl s)

theorem marked (s : State) (inj : Bool) (t : State) : t.SameButSummary (s.marked inj t) := by
  unfold State.marked
  exact ite (fun _ _ => rfl) (refl t)

theorem sticky (h : s.SameButSummary t) (i : Nat) : s.SameButSummary (t.sticky 0x3804 i) :=
  h.trans fun _ hoff => t.reg_setFld_other _ _ _ _ _ hoff

/-- Logging a code sets bits of the summary, and may write the log image and post an event. -/
theorem logOne {byEscalation : Bool} {g : Logged} {r : Raised} (h : s.SameButSummary g.state) :
    s.SameButSummary (logOne byEscalation g r).state := by
  unfold Machine.logOne
  extract_lets s0 cls kind safe parents parent nested outcome esc s1 k k1 link escs
  have h1 : s.SameButSummary s1 := (h.sticky _).sticky _
  split
  · exact h1
  · split
    · exact h1.trans (of_sameReport .same)
    · split
      · exact .sticky (h1.trans (of_sameReport .same)) _
      · extract_lets full freed k2 new s2 s3 s4 s5
        have h2 : s.SameButSummary s2 := h1.trans (of_sameReport .same)
        have h3 : s.SameButSummary s3 := .ite (h2.sticky _) h2
        have h4 : s.SameButSummary s4 := .ite (h3.trans (of_sameReport .writeLogImage)) h3
        exact .ite (h4.trans (of_sameReport (.postNow _ _ _ _))) h4

theorem logAll {byEscalation : Bool} {fresh : List Nat} : s.SameButSummary (logAll byEscalation fresh s).state := by
  unfold Machine.logAll
  generalize sortBy (fun (a b : Raised) => decide (a.code ≤ b.code)) s.raised = rs
  have hstart : s.SameButSummary { s with raised := [] } := fun off _ => rfl
  suffices hall : ∀ (l : List Raised) (g : Logged), s.SameButSummary g.state →
      s.SameButSummary (l.foldl (Machine.logOne byEscalation) g).state from
    hall rs _ hstart
  intro l
  induction l with
  | nil => exact fun _ h => h
  | cons r rs ih => exact fun g h => ih _ h.logOne

theorem flag_eq (h : s.SameButSummary t) {off : Nat} (hoff : off ≠ 0x3804) (i : Nat) : t.flag off i = s.flag off i := by
  rw [State.flag, h off hoff]
  rfl

end State.SameButSummary

/-! ## Brownout (R515) -/

section
variable {s : State}

theorem exec_pwrWarnRise (haon : s.aonHeld = false) (hwarn : s.power.warn = false) :
    exec .pwrWarnRise s = .next (s.start.finish (s.start.brownout false)) :=
  (runAon_up (fun s => if s.power.warn then s else s.brownout false) s haon).trans
    (congrArg (fun u => Host.Outcome.next (s.start.finish u)) (if_neg (by simp [hwarn])))

/-- The warning falls. -/
def State.warnFall (s : State) : State := { s with power := { s.power with warn := false } }.setFlag 0x6014 0 false

theorem exec_pwrWarnFall (haon : s.aonHeld = false) : exec .pwrWarnFall s = .next (s.start.finish s.start.warnFall) :=
  runAon_up State.warnFall s haon

theorem exec_brownoutFlushTimeout (haon : s.aonHeld = false) :
    exec .brownoutFlushTimeout s = .next (s.start.finish s.start.flushTimeout) := runAon_up State.flushTimeout s haon

/-- The warning sets DOWN and WARN. -/
theorem State.flags_warnRise (inj : Bool) : (s.warnRise inj).flag 0x6010 0 = true ∧ (s.warnRise inj).flag 0x6014 0 = true := by
  constructor <;>
    simp [State.warnRise, State.flag_raise, State.flag_sticky _ _ 1, State.flag_setFld _ _ 31 16, State.flag_setFlag _ _ 0]

/-- The warning has been logged, and the writes of the flush have begun. -/
def State.flushed (s : State) (inj : Bool) : State := (logAll false [] (s.marked inj (s.warnRise inj))).state.flushStart

theorem State.brownout_eq (inj : Bool) : s.brownout inj =
    { s.flushed inj with power := { s.power with warn := true, flush := (s.flushed inj).power.flush, inj := inj } } := rfl

theorem State.sameButSummary_flushed (inj : Bool) : (s.warnRise inj).SameButSummary (s.flushed inj) := by
  unfold State.flushed
  exact .trans (.marked s inj _) (.trans .logAll (.of_sameReport .flushStart))

/-- The flush counts its writes. -/
theorem State.flush_flushed (inj : Bool) : ∃ n, (s.flushed inj).power.flush = some n := ⟨_, rfl⟩

/-- A brownout touches no other power state. -/
theorem State.power_brownout (inj : Bool) : ∃ n, (s.brownout inj).power = { s.power with warn := true, flush := some n, inj := inj } := by
  obtain ⟨n, hflush⟩ := State.flush_flushed (s := s) inj
  exact ⟨n, by rw [State.brownout_eq, hflush]⟩

/-- No register is part of the power state. -/
theorem State.flag_withPower (s : State) (p : Power) (off i : Nat) : ({ s with power := p } : State).flag off i = s.flag off i := rfl

/-- A brownout keeps what its warning has set, but for the summary of the log. -/
theorem State.flag_brownout (inj : Bool) {off : Nat} (hoff : off ≠ 0x3804) (i : Nat) :
    (s.brownout inj).flag off i = (s.warnRise inj).flag off i := by
  rw [State.brownout_eq, State.flag_withPower]
  exact (State.sameButSummary_flushed inj).flag_eq hoff i

theorem State.partner_withPower (s : State) (p : Power) : ({ s with power := p } : State).partner = s.partner := rfl

/-- A partner that this side stops hearing for a cause other than HEARTBEAT and IDENT goes QUIET (R495). -/
theorem State.partner_lose_quiet (h : s.partner = .active ∨ s.partner = .present) {cause : Nat} (hcause : cause < 5) (inj event : Bool) :
    (s.lose cause inj event).partner = .quiet := by
  unfold State.lose
  rw [if_neg (by rcases h with h | h <;> simp [h])]
  extract_lets lost next pulse s0 s1 code
  have hlost : lost = false := by simp [lost, show cause ≠ 6 by omega, show cause ≠ 5 by omega]
  show next = .quiet
  simp [next, hlost]

/-- The flush of a brownout runs out of time: it ends, which is recorded, and the partner is lost. -/
theorem State.flushTimeout_spec {n : Nat} (h : s.power.flush = some n) : ∃ l,
    s.flushTimeout.power = { s.power with flush := none } ∧ s.flushTimeout.flag 0x6018 2 = true ∧
    s.flushTimeout.raised = l ++ [⟨0x0908, 0, 0, s.power.inj, 0⟩] ∧
    (s.partner = .active ∨ s.partner = .present → s.flushTimeout.partner = .quiet) := by
  unfold State.flushTimeout
  rw [h]
  refine ⟨_, rfl, ?_, State.raise_raised _ _ _ _ _, fun hpartner => ?_⟩
  · rw [State.flag_raise, State.flag_sticky _ _ _ _ _ (by decide)]
    simp
  · rw [State.raise_partner, State.sticky_partner, State.partner_withPower]
    exact State.partner_lose_quiet (s := { s.dropWrites with power := { s.power with flush := none } }) hpartner (by decide) false true

end

/-! ## Parking (R511, R512) -/

section
variable {s : State} {g : Nat}

/-- The effective park set: this side's mask, and the peer's while it is ACTIVE, of the groups that there are. -/
theorem State.bit_parkSet (hg : g < 16) : bit s.parkSet g = (decide (g < s.build.sgs) && (s.flag 0x600C g ||
    (decide (s.partner = .active) && bit s.pulse.park g))) := by
  have hown : (s.fld 0x600C 15 0).testBit g = s.flag 0x600C g := by
    rw [State.fld, bits_testBit, State.flag_eq_testBit]
    simp [hg]
  unfold State.parkSet bit
  rw [Nat.testBit_mod_two_pow]
  split
  · next hactive => simp [hactive, hown]
  · next hother => simp [hother, hown]

theorem exec_parkStart (hg : g < s.build.sgs) (hcfg : s.cfgUp = true) :
    exec (.parkStart g) s = .next (s.start.finish (s.start.parkStart g)) :=
  (named_present _ _ _ hg).trans (runUp_up (fun s => s.parkStart g) s hcfg)

/-- A group that may be parked begins with the leaves of its strands. -/
theorem State.parkStart_leaves (hinit : s.initiates = true) (hdue : s.parkDue g = true) (hmay : s.mayPark g = true) :
    s.parkStart g = forEach ((s.groupService g).filter (fun i => (s.strand i).leave.isNone)) (fun i x => x.beginSvc i false 2) s := by
  rw [State.parkStart, if_neg (by simp [hinit, hdue]), if_neg (by simp [hmay])]

/-- A group that may not be parked is reported, once. -/
theorem State.parkStart_blocked (hinit : s.initiates = true) (hdue : s.parkDue g = true) (hmay : s.mayPark g = false)
    (hnew : ¬ g ∈ s.power.blocked) : s.parkStart g =
      State.raise { s.sticky 0x6018 3 with power := { s.power with blocked := s.power.blocked ++ [g] } } 0x0909 g := by
  rw [State.parkStart, if_neg (by simp [hinit, hdue]), if_pos (by simp [hmay])]
  exact if_neg (by simpa using hnew)

/-! ## Waking (R513) -/

theorem exec_groupWake (hg : g < s.build.sgs) (hcfg : s.cfgUp = true) :
    exec (.groupWake g) s = .next (s.start.finish (s.start.groupWake g)) :=
  (named_present _ _ _ hg).trans (runUp_up (fun s => s.groupWake g) s hcfg)

/-- `t` asks for the domains that `s` asks for, and has its power state. -/
def State.SamePower (s t : State) : Prop := t.pdReq = s.pdReq ∧ t.power = s.power

/-- Asking for a calibration record touches no power state. -/
theorem State.samePower_readCal {x : State} (h : s.SamePower x) (i : Nat) : s.SamePower (x.readCal i) :=
  forRange_keeps s.SamePower _ _ _ (fun _ _ hy => forRange_keeps s.SamePower _ _ _ (fun _ _ hz => hz) hy) h

/-- A group that has left the park set, and whose domain is at rest and off, is asked for. -/
theorem State.groupWake_asks (hparked : g ∈ s.power.parked) (hleft : bit s.parkSet g = false) (hrest : s.atRest g = true)
    (hoff : s.pdReq.testBit g = false) (hfree : s.flag 0x6000 g = false) (hheld : ¬ g ∈ s.kiln.pdHeld) (hneeds : s.requiredOn g = true) :
    (s.groupWake g).pdReq = setBits s.pdReq g g 1 ∧
      (s.groupWake g).power = { s.power with parked := s.power.parked.filter (· != g) } := by
  unfold State.groupWake
  rw [if_neg (by simp [hparked, hleft, hrest, hoff, hfree, hheld, hneeds])]
  refine forEach_keeps (State.SamePower _) _ _ _ (fun i x hx => ?_) ⟨rfl, rfl⟩
  split
  · exact hx
  · exact State.samePower_readCal (x := x.modStrand i _) hx i

end

/-- Settles O5: the warning and its time limit by what they do besides logging, the park set bit by bit, and parking and waking by the
conditions of R512 and R513. -/
theorem powerWarningAndParking : Obligations.PowerWarningAndParking := by
  unfold Obligations.PowerWarningAndParking
  refine ⟨⟨fun s haon hwarn => ?warns, fun s haon => exec_pwrWarnFall haon, fun s n haon hflush => ?lapses⟩,
    fun s g => State.bit_parkSet,
    fun s g hg hcfg hinit hdue hmay => ?parks, fun s g hg hcfg hinit hdue hmay hnew => ?waits,
    fun s g hg hcfg hparked hleft hrest hoff hfree hheld hneeds => ?wakes⟩
  case warns =>
    obtain ⟨n, hpower⟩ := State.power_brownout (s := s.start) false
    obtain ⟨hdown, hwarned⟩ := State.flags_warnRise (s := s.start) false
    exact ⟨_, n, exec_pwrWarnRise haon hwarn, hpower, (State.flag_brownout false (by decide) 0).trans hdown,
      (State.flag_brownout false (by decide) 0).trans hwarned⟩
  case lapses =>
    obtain ⟨l, hlapse⟩ := State.flushTimeout_spec (s := s.start) hflush
    exact ⟨_, l, exec_brownoutFlushTimeout haon, hlapse⟩
  case parks => rw [exec_parkStart hg hcfg, State.parkStart_leaves (s := s.start) hinit hdue hmay]; rfl
  case waits => rw [exec_parkStart hg hcfg, State.parkStart_blocked (s := s.start) hinit hdue hmay hnew]; rfl
  case wakes =>
    exact ⟨_, exec_groupWake hg hcfg, State.groupWake_asks (s := s.start) hparked hleft hrest hoff hfree hheld hneeds⟩

end Sys2Proof.Machine

/-! # Proofs: the heat input and the cones (chapters 14 and 15) -/

namespace Sys2Proof.Machine

/-! ## Frames of HEAT_IN (R518) -/

/-- The three bytes that the CRC of a valid frame covers. -/
def heatBytes (temp : Nat) : List Byte := toLe 2 temp ++ toLe 1 1

theorem crc8_lt (bs : List Byte) : crc8 bs < 2 ^ 8 := crcMsbBytes_lt (by decide) (by decide) (by decide) bs

/-- A valid frame, field by field: the start bit, the temperature, VALID, the CRC and the stop bit. -/
theorem heatFrame_valid {temp : Nat} (h : temp < 65536) :
    heatFrame temp true = 2 * (temp + 2 ^ 16 + 2 ^ 24 * crc8 (heatBytes temp)) + 2 ^ 33 := by
  have hcrc := crc8_lt (heatBytes temp)
  have hframe : heatFrame temp true = leNat (heatBytes temp ++ toLe 1 (crc8 (heatBytes temp))) * 2 + 2 ^ 33 := rfl
  rw [hframe]
  generalize crc8 (heatBytes temp) = c at hcrc ⊢
  simp only [heatBytes, toLe, leNat, List.cons_append, List.nil_append, BitVec.toNat_ofNat]
  omega

/-- What a receiver cuts out of a valid frame. -/
theorem heatFrame_fields {temp : Nat} (h : temp < 65536) :
    bit (heatFrame temp true) 0 = false ∧ bit (heatFrame temp true) 33 = true ∧ bit (heatFrame temp true / 2) 16 = true ∧
    bits (heatFrame temp true / 2) 15 0 = temp ∧
    bits (heatFrame temp true / 2) 31 24 = crc8 (toLe 3 (heatFrame temp true / 2)) := by
  have hcrc := crc8_lt (heatBytes temp)
  rw [heatFrame_valid h]
  have hbytes : toLe 3 ((2 * (temp + 2 ^ 16 + 2 ^ 24 * crc8 (heatBytes temp)) + 2 ^ 33) / 2) = heatBytes temp := by
    generalize crc8 (heatBytes temp) = c at hcrc ⊢
    simp only [heatBytes, toLe, List.cons_append, List.nil_append, List.cons.injEq, and_true]
    refine ⟨?_, ?_, ?_⟩ <;> refine BitVec.eq_of_toNat_eq ?_ <;> simp only [BitVec.toNat_ofNat] <;> omega
  rw [hbytes]
  generalize crc8 (heatBytes temp) = c at hcrc ⊢
  simp only [bit, bits, Nat.testBit_eq_decide_div_mod_eq, Nat.shiftRight_eq_div_pow, decide_eq_true_eq, decide_eq_false_iff_not]
  omega

section
variable {s : State} {frame : Nat} (haon : s.aonHeld = false) (harm : s.inj.armed = false)
include haon harm

theorem State.heatInFrame_good (hstart : bit frame 0 = false) (hstop : bit frame 33 = true)
    (hcrc : bits (frame / 2) 31 24 = crc8 (toLe 3 (frame / 2))) (hvalid : bit (frame / 2) 16 = true) :
    s.heatInFrame frame = { s with pulse := { s.pulse with heatIn := bits (frame / 2) 15 0, inStale := false } } := by
  unfold State.heatInFrame
  rw [haon, State.fire_unarmed s _ _ harm]
  simp [hstart, hstop, hcrc, hvalid]

omit haon harm in
/-- A bad frame is counted. -/
def State.heatDropped (s : State) : State := (s.bumpSat 0x604C 15 0 1).sticky 0x6048 1

/-- A frame whose CRC is wrong is dropped and counted; the first one in an LCLK frame is recorded. -/
theorem State.heatInFrame_bad (hcrc : bits (frame / 2) 31 24 ≠ crc8 (toLe 3 (frame / 2))) :
    s.heatInFrame frame = if s.pulse.errFrame = some (s.now / 1024) then s.heatDropped
      else { s.heatDropped with pulse := { s.heatDropped.pulse with errFrame := some (s.now / 1024) } }.raise 0x0912 0 := by
  unfold State.heatInFrame
  rw [haon, State.fire_unarmed s _ _ harm]
  simp only [beq_eq_false_iff_ne.mpr hcrc, Bool.and_false, Bool.false_and, Bool.false_eq_true, if_false]
  rfl

omit haon harm in
theorem State.flag_heatDropped : s.heatDropped.flag 0x6048 1 = true := by
  rw [State.heatDropped, State.flag_sticky _ _ _ _ _ (by decide)]
  simp

omit haon harm in
theorem State.fld_heatDropped : s.heatDropped.fld 0x604C 15 0 = min (s.fld 0x604C 15 0 + 1) 65535 := by
  rw [State.heatDropped, State.sticky, State.setFlag, State.fld_setFld_reg _ _ _ _ _ _ _ _ (by decide),
    State.fld_bumpSat _ _ _ _ _ (by decide) (by decide)]
  rfl

omit haon harm in
theorem State.fld_raise (s : State) (code unit data : Nat) (inj : Bool) (off hi lo : Nat) :
    (s.raise code unit data inj).fld off hi lo = s.fld off hi lo := rfl

omit haon harm in
/-- No register is part of what is kept of PULSEs and heat. -/
theorem State.flag_withPulse (s : State) (p : Pulse) (off i : Nat) : ({ s with pulse := p } : State).flag off i = s.flag off i := rfl

omit haon harm in
theorem State.fld_withPulse (s : State) (p : Pulse) (off hi lo : Nat) :
    ({ s with pulse := p } : State).fld off hi lo = s.fld off hi lo := rfl

/-- A dropped frame leaves the heat as it was. -/
theorem State.heatInFrame_drops (hcrc : bits (frame / 2) 31 24 ≠ crc8 (toLe 3 (frame / 2))) :
    (s.heatInFrame frame).pulse.heatIn = s.pulse.heatIn ∧ (s.heatInFrame frame).pulse.inStale = s.pulse.inStale ∧
    (s.heatInFrame frame).flag 0x6048 1 = true ∧ (s.heatInFrame frame).fld 0x604C 15 0 = min (s.fld 0x604C 15 0 + 1) 65535 := by
  rw [State.heatInFrame_bad haon harm hcrc]
  have hkept : s.heatDropped.pulse = s.pulse := by simp [State.heatDropped]
  split
  · exact ⟨by rw [hkept], by rw [hkept], State.flag_heatDropped, State.fld_heatDropped⟩
  · rw [State.raise_pulse, hkept, State.flag_raise, State.fld_raise, State.flag_withPulse, State.fld_withPulse]
    exact ⟨rfl, rfl, State.flag_heatDropped, State.fld_heatDropped⟩

omit harm in
theorem exec_heatInFrame : exec (.heatInFrame frame) s = .next (s.start.finishLight (s.start.heatInFrame frame)) :=
  runAonLight_up (fun s => s.heatInFrame frame) s haon

omit harm in
theorem exec_heatInStale :
    exec .heatInStale s = .next (s.start.finishLight { s.start with pulse := { s.pulse with inStale := true } }) := by
  have hstale := runAonLight_up (fun s => { s with pulse := { s.pulse with inStale := true } }) s haon
  exact hstale

end

/-! ## Cone samples (R527) -/

section
variable {s : State}

/-- An alarm touches no cone, and not the injection unit. -/
theorem State.cones_coneAlarm (i code bitNo : Nat) (inj : Bool) : (s.coneAlarm i code bitNo inj).cones = s.cones := by
  simp [State.coneAlarm]

theorem State.inj_coneAlarm (i code bitNo : Nat) (inj : Bool) : (s.coneAlarm i code bitNo inj).inj = s.inj := by
  simp [State.coneAlarm]

theorem State.inj_sampleCone (harm : s.inj.armed = false) (j v : Nat) : (s.sampleCone j v).inj = s.inj := by
  unfold State.sampleCone
  rw [State.fire_unarmed s _ _ harm]
  simp only [apply_ite State.inj, State.inj_coneAlarm, ite_self]

/-- A sample replaces the record of its own cone at most. -/
theorem State.cones_sampleCone (harm : s.inj.armed = false) (j v : Nat) : ∃ f, (s.sampleCone j v).cones = modAt f j s.cones := by
  unfold State.sampleCone
  rw [State.fire_unarmed s _ _ harm]
  simp only [apply_ite State.cones, State.cones_coneAlarm, ite_self]
  split
  · exact ⟨fun c => c, (modAt_id _ _).symm⟩
  · split
    · exact ⟨fun c => c, (modAt_id _ _).symm⟩
    · exact ⟨_, rfl⟩

/-- A cone that is not under its reference check takes its reading. -/
theorem State.cones_sampleCone_taken (harm : s.inj.armed = false) {i : Nat} (hi : i < 4) (hcheck : (s.cones.getD i {}).check = false)
    (v : Nat) : ∃ c, (s.sampleCone i v).cones = modAt (fun _ => c) i s.cones ∧ c.value = v % 65536 ∧ c.taken = true ∧
    c.check = false := by
  unfold State.sampleCone
  rw [State.fire_unarmed s _ _ harm]
  simp only [apply_ite State.cones, State.cones_coneAlarm, ite_self]
  rw [if_neg (by simp [coneExists, hi]), if_neg (by rw [hcheck]; simp [show i ≠ 21 by omega])]
  exact ⟨_, rfl, by simp [show ¬ 23 ≤ i by omega], rfl, hcheck⟩

theorem getD_modAt_other {α : Type} (f : α → α) {i j : Nat} {l : List α} (d : α) (h : i ≠ j) :
    (modAt f j l).getD i d = l.getD i d := by
  simp [List.getD_eq_getElem?_getD, modAt_getElem?, h]

/-- Cone `i` once the first `n` cones have been sampled, with reading `v` for its own. -/
structure State.SampledTo (i v n : Nat) (t : State) : Prop where
  unarmed : t.inj.armed = false
  present : i < t.cones.length
  unchecked : (t.cones.getD i {}).check = false
  taken : i < n → (t.cones.getD i {}).value = v % 65536 ∧ (t.cones.getD i {}).taken = true

/-- A sample of another cone leaves this one as it is, and its own takes the reading. -/
theorem State.SampledTo.next {i v n : Nat} (hi : i < 4) (h : SampledTo i v n s) {w : Nat} (hw : n = i → w = v) :
    SampledTo i v (n + 1) (s.sampleCone n w) := by
  obtain ⟨harm, hlen, hcheck, htaken⟩ := h
  have hinj : (s.sampleCone n w).inj.armed = false := by rw [State.inj_sampleCone harm, harm]
  by_cases hn : n = i
  · subst hn
    obtain ⟨c, hcones, hvalue, hread, hfree⟩ := State.cones_sampleCone_taken harm hi hcheck w
    have hcone : (s.sampleCone n w).cones.getD n {} = c := by rw [hcones, getD_modAt_same _ _ hlen]
    exact ⟨hinj, by rw [hcones, modAt_length]; exact hlen, by rw [hcone, hfree],
      fun _ => by rw [hcone, hvalue, hread, hw rfl]; exact ⟨rfl, rfl⟩⟩
  · obtain ⟨f, hcones⟩ := State.cones_sampleCone harm n w
    have hcone : (s.sampleCone n w).cones.getD i {} = s.cones.getD i {} := by rw [hcones, getD_modAt_other f _ (Ne.symm hn)]
    exact ⟨hinj, by rw [hcones, modAt_length]; exact hlen, by rw [hcone, hcheck], fun hlt => by rw [hcone]; exact htaken (by omega)⟩

/-- Every cone has been sampled. -/
theorem State.sampledTo_rounds {i : Nat} (hi : i < 4) (harm : s.inj.armed = false) (hlen : i < s.cones.length)
    (hcheck : (s.cones.getD i {}).check = false) (readings : List Nat) (n : Nat) :
    SampledTo i (readings.getD i 0) n (forRange n (fun i s => s.sampleCone i (readings.getD i 0)) s) := by
  induction n with
  | zero => exact ⟨harm, hlen, hcheck, fun h => absurd h (Nat.not_lt_zero i)⟩
  | succ n ih =>
    have hstep : forRange (n + 1) (fun i s => s.sampleCone i (readings.getD i 0)) s =
        State.sampleCone (forRange n (fun i s => s.sampleCone i (readings.getD i 0)) s) n (readings.getD n 0) := by
      simp [forRange, List.range_succ]
    rw [hstep]
    exact ih.next hi fun hn => by rw [hn]

/-- That strands become due touches no cone. -/
theorem State.cones_tempDue (i : Nat) : (s.tempDue i).cones = s.cones := by
  unfold State.tempDue
  split
  · rfl
  · dsimp only
    split
    · unfold State.makeDue
      dsimp only
      split <;> rfl
    · rfl

/-- A cone that may be sampled has the reading, which is VALID. -/
theorem State.cone_sampleCones {i : Nat} (hi : i < 4) (haon : s.aonHeld = false) (harm : s.inj.armed = false) (hlen : i < s.cones.length)
    (hcheck : (s.cones.getD i {}).check = false) (readings : List Nat) :
    ((s.sampleCones readings).cones.getD i {}).value = readings.getD i 0 % 65536 ∧
    ((s.sampleCones readings).cones.getD i {}).taken = true ∧ ((s.sampleCones readings).cones.getD i {}).check = false := by
  obtain ⟨-, -, hfree, htaken⟩ := State.sampledTo_rounds hi harm hlen hcheck readings 26
  obtain ⟨hvalue, hread⟩ := htaken (by omega)
  unfold State.sampleCones
  rw [haon]
  have hdue (n : Nat) (x : State) : (forRange n (fun i s => s.tempDue i) x).cones = x.cones :=
    forRange_keeps (fun y => y.cones = x.cones) n _ x (fun i y hy => (State.cones_tempDue i).trans hy) rfl
  simp only [Bool.false_eq_true, if_false, hdue]
  exact ⟨hvalue, hread, hfree⟩

theorem State.coneValid_of_taken {i : Nat} (hi : i < 4) (htaken : (s.cones.getD i {}).taken = true)
    (hcheck : (s.cones.getD i {}).check = false) :
    s.coneValid i = true := by
  unfold State.coneValid
  dsimp only
  rw [htaken, hcheck]
  simp [show i ≠ 21 by omega]

theorem exec_coneSample (haon : s.aonHeld = false) (readings : List Nat) :
    exec (.coneSample readings) s = .next (s.start.finishLight (s.start.sampleCones readings)) :=
  runAonLight_up (fun s => s.sampleCones readings) s haon

/-! ## Reference checks (R528, R538) -/

theorem exec_coneRefDone {i : Nat} (hi : i < 26) (haon : s.aonHeld = false) (results : List Nat) :
    exec (.coneRefDone i results) s = .next (s.start.finish (s.start.coneRefDone i results)) :=
  (named_present _ _ _ hi).trans (runAon_up (fun s => s.coneRefDone i results) s haon)

/-- No sweep is under way: there is none to end. -/
theorem State.checkSweep_none (h : s.bist.from_ = none) : s.checkSweep = s := by
  unfold State.checkSweep
  rw [h]

/-- The check of a cone has ended, and the self-test has taken note of it. -/
def State.unchecked (s : State) (i : Nat) (b : Bist) : State :=
  { s with cones := modAt (fun (c : Cone) => { c with check := false }) i s.cones, bist := b }

/-- A check that fails is shown, for the cone too, and recorded. -/
def State.refFailed (s : State) (i : Nat) : State := ((s.sticky 0x3408 3).sticky (0x300C + 16 * i) 6).raise 0x0A12 i

/-- Outside a sweep, the end of a reference check changes its cone and records a failure. -/
theorem State.coneRefDone_alone (harm : s.inj.armed = false) {i : Nat} (hcheck : (s.cones.getD i {}).check = true)
    (hfrom : s.bist.from_ = none) (results : List Nat) : ∃ b : Bist,
      s.coneRefDone i results = if s.conePasses i results then s.unchecked i b else (s.unchecked i b).refFailed i := by
  unfold State.coneRefDone
  rw [hcheck, State.fire_unarmed s _ _ harm]
  simp only [Bool.not_true, Bool.false_eq_true, if_false, Bool.not_false, Bool.and_true]
  rw [State.checkSweep_none (by split <;> simp [hfrom])]
  exact ⟨_, rfl⟩

theorem State.cone_unchecked {i : Nat} (hi : i < s.cones.length) (b : Bist) : ((s.unchecked i b).cones.getD i {}).check = false := by
  rw [State.unchecked, getD_modAt_same _ _ hi]

theorem State.cones_refFailed (i : Nat) : (s.refFailed i).cones = s.cones := by simp [State.refFailed]

theorem State.raised_refFailed (i : Nat) : (s.refFailed i).raised = s.raised ++ [⟨0x0A12, i, 0, false, 0⟩] := by simp [State.refFailed]

theorem State.flags_refFailed (i : Nat) : (s.refFailed i).flag 0x3408 3 = true ∧ (s.refFailed i).flag (0x300C + 16 * i) 6 = true := by
  simp [State.refFailed, State.flag_raise, State.flag_sticky _ _ 3, State.flag_sticky _ _ 6]

/-- A reference check of a temperature cone passes within 1.5 degrees of -40 and of 125. -/
theorem State.conePasses_temperature {i : Nat} (hi : i < 20) (results : List Nat) : s.conePasses i results = true ↔
    (ofInt16 (results.getD 0 0) + 640).natAbs ≤ 24 ∧ (ofInt16 (results.getD 1 0) - 2000).natAbs ≤ 24 := by
  simp [State.conePasses, hi]

/-- That of a process cone passes within its LO and HI. -/
theorem State.conePasses_process {i : Nat} (hi : 23 ≤ i) (results : List Nat) : s.conePasses i results = true ↔
    s.fld (0x3008 + 16 * i) 15 0 ≤ min (results.getD 0 0) 65535 ∧ min (results.getD 0 0) 65535 ≤ s.fld (0x3008 + 16 * i) 31 16 := by
  simp only [State.conePasses, show ¬ i < 20 by omega, show ¬ i < 23 by omega, if_false, Bool.and_eq_true, decide_eq_true_eq]

end

/-- Settles O14: a heat frame field by field, a sample by the rounds of its cones, and a reference check by its criterion. -/
theorem heatAndCones : Obligations.HeatAndCones := by
  unfold Obligations.HeatAndCones
  refine ⟨⟨fun s temp haon harm htemp => ?good, fun s frame haon harm hcrc => ?bad, fun s haon => exec_heatInStale haon⟩,
    fun s readings i haon harm hlen hi hcheck => ?sample, fun s i results hi haon harm hlen hcheck hfull hfrom => ?reference,
    fun s i results => ⟨fun hi => State.conePasses_temperature hi results, fun hi => State.conePasses_process hi results⟩⟩
  case good =>
    obtain ⟨hstart, hstop, hvalid, htaken, hcrc⟩ := heatFrame_fields htemp
    rw [exec_heatInFrame haon, State.heatInFrame_good (s := s.start) haon harm hstart hstop hcrc hvalid, htaken]
    rfl
  case bad => exact ⟨_, exec_heatInFrame haon, State.heatInFrame_drops (s := s.start) haon harm hcrc⟩
  case sample =>
    obtain ⟨hvalue, htaken, hfree⟩ := State.cone_sampleCones (s := s.start) hi haon harm (by rw [State.start_cones, hlen]; omega)
      hcheck readings
    refine ⟨_, exec_coneSample haon readings, ?_, State.coneValid_of_taken hi ?_ ?_⟩
    · rwa [State.finishLight_cones]
    · rwa [State.finishLight_cones]
    · rwa [State.finishLight_cones]
  case reference =>
    obtain ⟨b, hdone⟩ := State.coneRefDone_alone (s := s.start) harm hcheck hfrom results
    have hcone := State.cone_unchecked (s := s.start) (i := i) (by rw [State.start_cones, hlen]; omega) b
    have hpass : s.start.conePasses i results = s.conePasses i results := rfl
    refine ⟨_, exec_coneRefDone hi haon results, ?_⟩
    rw [hdone, hpass]
    cases s.conePasses i results with
    | true => exact ⟨hcone, rfl, nofun⟩
    | false =>
      refine ⟨?_, State.raised_refFailed i, fun _ => State.flags_refFailed i⟩
      rw [if_neg Bool.false_ne_true, State.cones_refFailed]
      exact hcone

end Sys2Proof.Machine

/-! # Proofs: repair records, sweeps and fills (chapter 12) -/

namespace Sys2Proof.Machine

/-! ## Repair records over the sideband (R439, R445, R610) -/

section
variable {s : State} {p : List Byte}

/-- The exchange when REPAIR_SUM `p` comes and no summary has been taken in full. -/
def State.summed (s : State) (p : List Byte) : State := { s with exch := { s.exch with
  peerGot := bit (field p 0 2) 15, sum := true, left := bits (field p 0 2) 9 0, recs := [], got := bits (field p 0 2) 9 0 == 0 } }

theorem State.repairSum_first (h : s.exch.got = false) : s.repairSum p = (s.summed p).checkExchange := by
  simp [State.repairSum, State.summed, h]

/-- The exchange with REPAIR_REC `p` taken in. -/
def State.recorded (s : State) (p : List Byte) : State := { s with exch := { s.exch with
  recs := s.exch.recs ++ [(bits (field p 0 2) 7 0, bits (field p 0 2) 9 9, recDir s.build p)], left := s.exch.left - 1,
  got := s.exch.left == 1 } }

/-- A record of the exchange that is still due is taken in. -/
theorem State.repairRec_due (harm : s.inj.armed = false) (hphase : bits (field p 0 2) 12 10 = 0) (hgot : s.exch.got = false)
    (hsum : s.exch.sum = true) (hleft : 0 < s.exch.left) : s.repairRec p = (s.recorded p).checkExchange := by
  unfold State.repairRec
  simp [State.fire_unarmed s _ _ harm, hphase, hgot, hsum, Nat.ne_of_gt hleft, State.recorded]

theorem exec_repairSumResend (haon : s.aonHeld = false) (hon : s.presence.on = true) (hdone : s.exch.done = false)
    (hgot : s.exch.peerGot = false) (hread : s.recordsUnread = false) :
    exec .repairSumResend s = .next (s.start.finishLight s.start.sendRecords) := by
  refine (runAonLight_up _ s haon).trans ?_
  rw [if_pos]
  show (s.presence.on && !s.exch.done && !s.exch.peerGot && !s.recordsUnread) = true
  simp [hon, hdone, hgot, hread]

/-- A join that went over the sideband is repeated until its row. -/
theorem State.repeatSvc_join {i : Nat} {v : Svc} (hjoin : (s.strand i).join = some v) (hleave : (s.strand i).leave = none)
    (hside : v.side = true) (hrow : s.lclk < v.row) : s.repeatSvc i = s.sendSvc i true v := by
  unfold State.repeatSvc
  simp [hjoin, hleave, hside, hrow]

end

/-! ## Sweeps (R441 to R443) -/

section
variable {s : State} {i g : Nat} {r : Repair} (hrep : (s.strand i).rep = some r)
include hrep

/-- What a sweep that is awaited does with the lanes it found short. -/
theorem State.sweepDone_awaited (harm : s.inj.armed = false) (hmine : r.mine = 1) (hswept : r.swept = true) (hskip : r.skip = false)
    {found : List LaneMeas} {all : List Nat} (hall : all = ((found.filter s.short).map (·.lane)).filter
      (fun k => (s.build.place k).any (fun q => !bit (s.strand i).rx.lost q.1))) :
    s.sweepDone i found = (((s.bumpSat 0x280C 31 16 1).modRep i (fun q => { q with
      failed := (all.map s.build.laneCode).foldl (fun a b => some (min b (a.getD b))) none })).applyFailures i all).finishSweep i := by
  subst hall
  unfold State.sweepDone
  rw [hrep, State.fire_unarmed s _ _ harm]
  simp [hmine, hswept, hskip]

/-! ## Fills (R443, R446) -/

omit hrep in
/-- Two changes of a strand that agree on it. -/
theorem State.modStrand_congr {f f' : Strand → Strand} (h : f (s.strand i) = f' (s.strand i)) : s.modStrand i f = s.modStrand i f' := by
  rw [State.modStrand, State.modStrand, modAt_congr {} h]

/-- Two changes of a repair that agree on it. -/
theorem State.modRep_congr {f f' : Repair → Repair} (h : f r = f' r) : s.modRep i f = s.modRep i f' :=
  State.modStrand_congr (by rw [hrep, Option.map_some, Option.map_some, h])

omit hrep in
/-- The repair's progress is not part of the repair state. -/
theorem State.rx_modRep (f : Repair → Repair) : ((s.modRep i f).strand i).rx = (s.strand i).rx := by
  have hrx : (s.modRep i f).strands.map Strand.rx = s.strands.map Strand.rx :=
    map_modAt_of_eq (f := fun (x : Strand) => { x with rep := x.rep.map f }) (fun _ => rfl) i _
  rw [State.strand, State.strand, ← List.getD_map (f := Strand.rx), ← List.getD_map (f := Strand.rx), hrx]

/-- A fill that found no lane short is taken. -/
theorem State.fillDone_good (harm : s.inj.armed = false) (hg : g ∈ r.fills) (hsub : (s.strand i).sub = .fill)
    {found : List LaneMeas} (hgood : ∀ m ∈ found, s.short m = false) : s.fillDone i g found false =
      ((s.modRep i (fun q => { q with fills := q.fills.filter (· != g) })).takeFill i
        (found.filter (fun m => (s.strand i).fillCovers s.build g m.lane))).checkFilled i := by
  rw [State.modRep_congr hrep (f' := fun q => { q with fills := r.fills.filter (· != g) }) rfl]
  unfold State.fillDone
  rw [hrep]
  have hnone : (found.filter (fun m => (s.strand i).fillCovers s.build g m.lane)).filter s.short = [] := by
    simp only [List.filter_eq_nil_iff, List.mem_filter]
    intro m hm
    simp [hgood m hm.1]
  simp [harm, hg, hsub, hnone]

/-- A fill without an end loses the group. -/
theorem State.fillDone_late (harm : s.inj.armed = false) (hg : g ∈ r.fills) (hsub : (s.strand i).sub = .fill) :
    s.fillDone i g [] true = ((((s.modRep i (fun q => { q with fills := r.fills.filter (· != g) })).changeRx i
      ((s.strand i).rx.lose g) (r.fills.filter (· != g)) []).sticky 0x2808 5).raise 0x0125 i 0 false).finishSweep i := by
  unfold State.fillDone
  rw [hrep]
  simp [harm, hg, hsub]

omit hrep in
/-- A group that a change loses is recorded, in order. -/
theorem State.raised_loseGroups (gone : List Nat) : (forEach gone (fun _ s => (s.sticky 0x2808 2).raise 0x0122 i 0 false) s).raised =
    s.raised ++ gone.map (fun _ => ⟨0x0122, i, 0, false, 0⟩) := by
  induction gone generalizing s with
  | nil => simp
  | cons g gone ih => simp [ih]

omit hrep in
/-- Group `g` is lost by a change that loses it, where it was not before. -/
theorem mem_lostNow_lose {b : Build} {x : RepDir} (hg : g < b.groups) (hnew : bit x.lost g = false) : g ∈ lostNow b x (x.lose g) := by
  simp only [lostNow, List.mem_filter, List.mem_range]
  exact ⟨hg, by simpa [RepDir.lose, setBit, bit] using hnew⟩

omit hrep in
/-- The loss of a group is recorded. -/
theorem State.raised_changeRx_lose {x : RepDir} (hx : (s.strand i).rx = x) (hg : g < s.build.groups) (hnew : bit x.lost g = false)
    (left : List Nat) : ⟨0x0122, i, 0, false, 0⟩ ∈ (s.changeRx i (x.lose g) left []).raised := by
  subst hx
  unfold State.changeRx
  extract_lets x gone half turns s1
  have hrecords : (forEach gone (fun g s => (s.sticky 0x2808 2).raise 0x0122 i 0 (([] : List Nat).contains g)) s1).raised =
    s1.raised ++ gone.map (fun _ => ⟨0x0122, i, 0, false, 0⟩) := State.raised_loseGroups gone
  rw [hrecords]
  exact List.mem_append_right _ (List.mem_map.mpr ⟨g, mem_lostNow_lose hg hnew, rfl⟩)

end

namespace State.SameReport
variable {s : State}

theorem modRep (i : Nat) (f : Repair → Repair) : s.SameReport (s.modRep i f) := modStrand _ _

theorem sendRec (i dir phase : Nat) : s.SameReport (s.sendRec i dir phase) := sendFrame _ _

theorem writeSwept (i : Nat) : s.SameReport (s.writeSwept i) := (modRep i _).trans (writeRepair i)

theorem checkFilled (i : Nat) : s.SameReport (s.checkFilled i) := by
  unfold State.checkFilled
  split
  · exact refl s
  · exact ite (refl s) (ite ((modStrand _ _).trans (sendRec i 0 3)) (modStrand _ _))

theorem finishSweep (i : Nat) : s.SameReport (s.finishSweep i) := by
  unfold State.finishSweep
  split
  · exact refl s
  · exact (ite (((modRep i _).trans (sendRec i 0 2)).trans (writeSwept i)) ((modRep i _).trans (sendRec i 0 2))).trans (checkFilled i)

end State.SameReport

section
variable {s : State} {i g : Nat} {r : Repair} (hrep : (s.strand i).rep = some r)
include hrep

/-- A fill without an end is recorded, and so is the loss of its group. -/
theorem State.fillDone_late_recorded (harm : s.inj.armed = false) (hg : g ∈ r.fills) (hsub : (s.strand i).sub = .fill)
    (hgroup : g < s.build.groups) (hnew : bit (s.strand i).rx.lost g = false) :
    ⟨0x0125, i, 0, false, 0⟩ ∈ (s.fillDone i g [] true).raised ∧
    ⟨0x0122, i, 0, false, 0⟩ ∈ (s.fillDone i g [] true).raised := by
  rw [State.fillDone_late hrep harm hg hsub, (State.SameReport.finishSweep i).raised, State.raise_raised, State.sticky_raised]
  exact ⟨List.mem_append_right _ (List.mem_singleton.mpr rfl),
    List.mem_append_left _ (State.raised_changeRx_lose (State.rx_modRep _) hgroup hnew _)⟩

end

/-! ## The time limit of a repair (R446) -/

section
variable {s : State} {i : Nat}

/-- A repair that is not over in time retires its strand; where no firing of point 0x0C stands behind it, the record is not marked. -/
theorem State.repairTimeout_unmarked {r : Repair} (hrep : (s.strand i).rep = some r) (hpoint : s.inj.point ≠ 0x0C) :
    s.repairTimeout i = ((s.sticky 0x2808 4).raise 0x0124 i s.inj.fired false).retire i := by
  unfold State.repairTimeout
  rw [hrep, beq_eq_false_iff_ne.mpr hpoint]
  rfl

/-- A command about a strand that there is runs on it. -/
theorem named_runUp (hcfg : s.cfgUp = true) (hi : i < s.build.strands) (f : State → State) :
    named s.build.strands i (runUp f s) = .next (s.start.finish (f s.start)) :=
  (named_present _ _ _ hi).trans (runUp_up f s hcfg)

end

/-- Settles O48: each command runs on the state as it stands, and what it does there is said by the lemma about its effect. -/
theorem repairAdvances : Obligations.RepairAdvances := by
  unfold Obligations.RepairAdvances
  refine ⟨fun s p haon harm => ⟨fun hgot => ?sum, fun hphase hgot hsum hleft => ?record, ?service⟩,
    fun s haon hon hdone hgot hread => ?resend, fun s i v haon hi hjoin hleave hside hrow => ?svcRepeat,
    fun s i r found hcfg harm hi hrep => ⟨fun all hmine hswept hskip hall => ?sweep,
      fun g hg hsub hgroup hnew => ⟨fun hgood => ?fill, ?late⟩, fun hpoint => ?timeout⟩⟩
  case sum => exact finish_of_eq (frame_unarmed (fun s => s.repairSum p) haon harm) (State.repairSum_first (s := s.start) hgot)
  case record =>
    exact finish_of_eq (frame_unarmed (fun s => s.repairRec p) haon harm)
      (State.repairRec_due (s := s.start) harm hphase hgot hsum hleft)
  case service => exact frame_unarmed _ haon harm
  case resend => exact exec_repairSumResend haon hon hdone hgot hread
  case svcRepeat =>
    refine (named_present _ _ _ hi).trans ((runAonLight_up (fun s => s.repeatSvc i) s haon).trans ?_)
    rw [State.repeatSvc_join (s := s.start) hjoin hleave hside hrow]
  case sweep =>
    exact finish_of_eq (named_runUp hcfg hi _) (State.sweepDone_awaited (s := s.start) hrep harm hmine hswept hskip hall)
  case fill => exact finish_of_eq (named_runUp hcfg hi _) (State.fillDone_good (s := s.start) hrep harm hg hsub hgood)
  case late => exact ⟨_, named_runUp hcfg hi _, State.fillDone_late_recorded (s := s.start) hrep harm hg hsub hgroup hnew⟩
  case timeout => exact finish_of_eq (named_runUp hcfg hi _) (State.repairTimeout_unmarked (s := s.start) hrep hpoint)

end Sys2Proof.Machine

/-! # Proofs: discovery, attestation, topology and the package id (chapter 13) -/

namespace Sys2Proof.Machine

/-! ## EARLY_ID (R462, R463) -/

section
variable {s : State} {p : List Byte}

theorem exec_earlyIdSend (haon : s.aonHeld = false) :
    exec .earlyIdSend s = .next (s.start.finishLight (s.start.sendFrame 0x30 s.earlyBody)) :=
  runAonLight_up (fun s => s.sendEarly) s haon

theorem State.early_earlyId : (s.earlyId p).early = if s.cfgUp then some (padTo 16 p) else s.early := by
  unfold State.earlyId
  simp only [apply_ite State.early, State.raise_early, State.sticky_early, ite_self]

/-- Which frames carry a block that does not fit: another personality, or an older version. -/
def State.earlyMisfits (s : State) (p : List Byte) : Bool := bit (field p 4 2) 10 != (s.build.pers == .L) || byteAt p 2 < 2

/-- A frame with another number of strands is recorded as such, after what else is wrong with it. -/
theorem State.raised_earlyId : (s.earlyId p).raised = s.raised ++ (if s.earlyMisfits p then [⟨0x0801, 0, 0, false, 0⟩] else []) ++
    (if byteAt p 6 + 1 ≠ s.build.strands then [⟨0x0803, 0, 0, false, 0⟩] else []) := by
  unfold State.earlyId
  simp only [apply_ite State.raised, State.raise_raised, State.sticky_raised]
  change (if _ then (if s.earlyMisfits p = true then _ else _) ++ _ else if s.earlyMisfits p = true then _ else _) = _
  split <;> split <;> simp

theorem State.strandsDiffer_recorded (hquiet : s.raised = []) :
    ⟨0x0803, 0, 0, false, 0⟩ ∈ (s.earlyId p).raised ↔ byteAt p 6 + 1 ≠ s.build.strands := by
  rw [State.raised_earlyId, hquiet]
  split <;> split <;> simp_all

end

/-! ## IDENT and AGREE (R466, R468) -/

section
variable {s : State} {b body r : List Byte}

theorem State.startAtt_unrequired (h : s.attRequired = false) : s.startAtt = s := if_pos (by simp [h])

/-- The agreement touches neither block, nor the record, nor the Saggar. -/
theorem State.checkAgree_kept : s.checkAgree.peerBlock = s.peerBlock ∧ s.checkAgree.record = s.record ∧ s.checkAgree.sag = s.sag ∧
    s.checkAgree.disc.peerCrc = s.disc.peerCrc := by
  unfold State.checkAgree
  split
  · exact ⟨rfl, rfl, rfl, rfl⟩
  · split <;> exact ⟨rfl, rfl, rfl, rfl⟩

/-- The record is made of both blocks, once the peer's is held and nothing has failed. -/
theorem State.tryRecord_makes (hblock : s.peerBlock = some b) (hrec : s.record = none) (hfail : s.disc.negFail = false)
    (hatt : s.attRequired = false) : s.tryRecord = State.checkAgree { s with record := some (recordOf s.ownBlock b) } := by
  unfold State.tryRecord
  rw [hblock, hrec]
  simp [hfail, hatt]

/-- A record is made without a change of the Saggar. -/
theorem State.sag_tryRecord : s.tryRecord.sag = s.sag := by
  unfold State.tryRecord
  split
  · split
    · rfl
    · exact State.checkAgree_kept.2.2.1
  · rfl

/-- The peer's block is held, and the negotiation is to be made anew. -/
def State.identified (s : State) (b : List Byte) : State := { s with peerBlock := some b, record := none, negDone := false }

theorem State.takeIdent_good (hpers : bit (byteAt b 6) 2 = (s.build.pers == .L)) (hversion : 2 ≤ byteAt b 2) :
    s.takeIdent b false false = (s.identified b).startAtt.tryRecord := by
  unfold State.takeIdent
  rw [hpers]
  simp [Nat.not_lt.mpr hversion, State.identified]

theorem State.identMsg_first (harm : s.inj.armed = false) (hnone : s.peerBlock = none) : s.identMsg b = s.takeIdent b false false := by
  unfold State.identMsg
  simp [State.fire_unarmed s _ _ harm, hnone]

theorem State.identMsg_known (harm : s.inj.armed = false) (hold : s.peerBlock = some b) : s.identMsg b = s := by
  unfold State.identMsg
  simp [State.fire_unarmed s _ _ harm, hold]

theorem State.agreeMsg_unarmed (harm : s.inj.armed = false) :
    s.agreeMsg body = State.checkAgree { s with disc := { s.disc with peerCrc := some (field body 0 4) } } := by
  unfold State.agreeMsg
  simp [State.fire_unarmed s _ _ harm]

/-- A first block that fits is held, and with no attestation due the record is made of both blocks. -/
theorem State.identMsg_records (harm : s.inj.armed = false) (hnone : s.peerBlock = none) (hatt : s.attRequired = false)
    (hfail : s.disc.negFail = false) (hpers : bit (byteAt b 6) 2 = (s.build.pers == .L)) (hversion : 2 ≤ byteAt b 2) :
    (s.identMsg b).peerBlock = some b ∧ (s.identMsg b).record = some (recordOf s.ownBlock b) := by
  have hatt' : (s.identified b).attRequired = false := hatt
  have hown : (s.identified b).ownBlock = s.ownBlock := rfl
  rw [State.identMsg_first harm hnone, State.takeIdent_good hpers hversion, State.startAtt_unrequired hatt',
    State.tryRecord_makes (s := s.identified b) rfl rfl hfail hatt', hown]
  obtain ⟨hblock, hrecord, -, -⟩ := State.checkAgree_kept (s := { s.identified b with record := some (recordOf s.ownBlock b) })
  exact ⟨hblock, hrecord⟩

/-- Both sides have the same record: the negotiation is done. -/
theorem State.negDone_checkAgree (hrec : s.record = some r) (hfail : s.disc.negFail = false) (hcrc : s.disc.peerCrc = some (crc32c r)) :
    s.checkAgree.negDone = true := by
  unfold State.checkAgree
  rw [hrec]
  cases hdone : s.negDone <;> simp [hdone, hfail, hcrc]

/-- The peer's CRC is held, and where it is that of the record, the negotiation is done. -/
theorem State.agreeMsg_agrees (harm : s.inj.armed = false) (hrec : s.record = some r) (hfail : s.disc.negFail = false)
    (hcrc : field body 0 4 = crc32c r) : (s.agreeMsg body).negDone = true ∧ (s.agreeMsg body).disc.peerCrc = some (crc32c r) := by
  rw [State.agreeMsg_unarmed harm, hcrc]
  obtain ⟨-, -, -, hpeer⟩ := State.checkAgree_kept (s := { s with disc := { s.disc with peerCrc := some (crc32c r) } })
  exact ⟨State.negDone_checkAgree hrec hfail rfl, hpeer⟩

theorem State.agreeTimeout_fails (hfired : s.inj.fired = 0) (hrec : s.record = some r) {c : Nat} (hpeer : s.disc.peerCrc = some c)
    (hdiffer : c ≠ crc32c r) (hdone : s.negDone = false) (hfail : s.disc.negFail = false) :
    s.agreeTimeout = s.failNeg 0x0802 2 false := by
  unfold State.agreeTimeout
  rw [hrec, hpeer]
  simp [hdiffer, hdone, hfail, hfired]

end

/-! ## Attestation (R484 to R487) -/

section
variable {s : State} {body : List Byte}

/-- The MAC that answers a challenge. -/
theorem State.attChal_answers {x : List Byte} (h : s.peerBlock = some x) : s.attChal body = s.pushMsg 0x33 (body.take 16 ++
    (s.attMac (bits (byteAt body 16) 2 0) (body.take 16) s.ownBlock (s.peerField 8 8)).getD (zeros 32)) := by
  unfold State.attChal
  rw [h]

variable (harm : s.inj.armed = false) (hnonce : s.sag.nonce = some (body.take 16))
include harm hnonce

theorem State.attResp_passes
    (hmac : s.attMac (s.fld 0x4000 5 3) (body.take 16) (s.peerBlock.getD []) s.dieId = some (slice body 16 32)) :
    s.attResp body = State.tryRecord { s with sag := { s.sag with attPass := true, nonce := none } } := by
  unfold State.attResp
  simp [State.fire_unarmed s _ _ harm, hnonce, hmac]

theorem State.attResp_fails
    (hmac : s.attMac (s.fld 0x4000 5 3) (body.take 16) (s.peerBlock.getD []) s.dieId ≠ some (slice body 16 32)) :
    s.attResp body = s.attFails false := by
  unfold State.attResp
  simp [State.fire_unarmed s _ _ harm, hnonce, beq_eq_false_iff_ne.mpr hmac]

end

/-! ## Topology and the package id (R457, R476) -/

section
variable {s : State} {r body : List Byte}

/-- How a command that settles nothing ends, with its effect said otherwise. -/
theorem finishLight_of_eq {o : Host.Outcome State Fault Refusal} {u v : State} (h : o = .next (s.finishLight u)) (huv : u = v) :
    o = .next (s.finishLight v) := huv ▸ h

theorem runUpLight_takeLink {type k : Nat} {rest : List (Nat × Nat × List Byte)} (hcfg : s.cfgUp = true)
    (hfront : s.linkMsgs = (k, type, body) :: rest) (run : Nat → List Byte → State → State) :
    runUpLight (fun s => s.takeLink type run) s = .next (s.start.finishLight (run k body (s.heeding rest))) := by
  rw [runUpLight_up _ s hcfg, State.takeLink_front s.start type k body rest run hfront]
  rfl

/-- A record with a new key takes the lowest free entry. -/
theorem State.topoMsg_new {i : Nat} (hnew : s.disc.topo.find? (fun p => topoKey p.2 == topoKey r) = none)
    (hfree : (List.range 64).find? (fun i => (lookupKey i s.disc.topo).isNone) = some i) :
    s.topoMsg r = { s with disc := { s.disc with topo := insertKey i r s.disc.topo } } := by
  unfold State.topoMsg
  simp only [hnew, hfree, Option.map_none, Option.none_or]

theorem State.reg_raise (s : State) (code unit data : Nat) (inj : Bool) (off : Nat) :
    (s.raise code unit data inj).reg off = s.reg off := rfl

/-- This side's package id is not the peer's. -/
theorem State.reg_setPkg (w : Nat) {off : Nat} (hsticky : off ≠ 0x6408) (hid : off ≠ 0x640C) : (s.setPkg w).reg off = s.reg off := by
  unfold State.setPkg
  split
  · rfl
  · split
    · rw [State.sticky, State.setFlag, State.reg_setFld_other _ _ _ _ _ _ hsticky]
    · rw [State.reg_setReg_other _ _ _ _ hid]

/-- The peer's package id is the word of its message. -/
theorem State.reg_pkgMsg (harm : s.inj.armed = false) : (s.pkgMsg body).reg 0x6410 =
    BitVec.ofNat 32 (bits (field body 0 2) 10 0 + 2 ^ 31 * b2n (bit (field body 0 2) 15)) := by
  unfold State.pkgMsg
  rw [State.fire_unarmed s _ _ harm]
  simp only [Bool.or_false, Bool.false_eq_true, if_false, apply_ite (fun x => State.reg x 0x6410), State.reg_raise, State.sticky,
    State.setFlag, State.reg_setPkg _ (show 0x6410 ≠ 0x6408 by decide) (show 0x6410 ≠ 0x640C by decide),
    State.reg_setFld_other _ _ _ _ _ _ (show 0x6410 ≠ 0x6408 by decide), State.reg_setReg_same, ite_self]
  rfl

end

/-- Settles O49: each message is taken from the link's front and does what the lemma about it says. -/
theorem discoveryMessages : Obligations.DiscoveryMessages := by
  unfold Obligations.DiscoveryMessages
  refine ⟨⟨fun s p haon => ⟨exec_earlyIdSend haon, fun harm => ?early⟩,
    fun s k b rest hcfg harm hfront => ⟨fun hnone hatt hfail hpers hversion => ?ident, fun hold => ?identAgain⟩,
    fun s k body r rest hcfg harm hfront hrec hfail hcrc => ?agree,
    fun s c r hcfg hfired hrec hpeer hdiffer hdone hfail => ?agreeLate,
    fun s k body x rest hcfg hfront hblock => ?challenge,
    fun s k body rest hcfg harm hfront hnonce => ⟨fun hmac => ?pass, fun hmac => ?fail⟩,
    fun s hcfg hnonce => ?attLate⟩,
    fun s k i r rest hcfg hfront hnew hfree => ?topo, fun s k b rest hcfg harm hfront => ?pkg⟩
  case early =>
    exact ⟨_, frame_unarmed (fun s => s.earlyId p) haon harm, State.early_earlyId, State.strandsDiffer_recorded (s := s.start) rfl⟩
  case ident =>
    exact ⟨_, runUp_takeLink hcfg hfront (fun _ b s => s.identMsg b),
      State.identMsg_records (s := s.heeding rest) harm hnone hatt hfail hpers hversion⟩
  case identAgain =>
    exact finish_of_eq (runUp_takeLink hcfg hfront (fun _ b s => s.identMsg b)) (State.identMsg_known (s := s.heeding rest) harm hold)
  case agree =>
    exact ⟨_, runUp_takeLink hcfg hfront (fun _ b s => s.agreeMsg b),
      State.agreeMsg_agrees (s := s.heeding rest) harm hrec hfail hcrc⟩
  case agreeLate =>
    exact finish_of_eq (runUp_up (fun s => s.agreeTimeout) s hcfg)
      (State.agreeTimeout_fails (s := s.start) hfired hrec hpeer hdiffer hdone hfail)
  case challenge =>
    exact finish_of_eq (runUp_takeLink hcfg hfront (fun _ b s => s.attChal b)) (State.attChal_answers (s := s.heeding rest) hblock)
  case pass =>
    refine ⟨_, finish_of_eq (runUp_takeLink hcfg hfront (fun _ b s => s.attResp b))
      (State.attResp_passes (s := s.heeding rest) harm hnonce hmac), ?_, ?_⟩ <;> rw [State.sag_tryRecord]
  case fail =>
    exact finish_of_eq (runUp_takeLink hcfg hfront (fun _ b s => s.attResp b))
      (State.attResp_fails (s := s.heeding rest) harm hnonce hmac)
  case attLate =>
    exact finish_of_eq (runUp_up (fun s => s.attTimeout) s hcfg) (if_pos (Option.isSome_iff_ne_none.mpr hnonce))
  case topo =>
    exact finishLight_of_eq (runUpLight_takeLink hcfg hfront (fun _ b s => s.topoMsg b))
      (State.topoMsg_new (s := s.heeding rest) hnew hfree)
  case pkg =>
    exact ⟨_, runUp_takeLink hcfg hfront (fun _ b s => s.pkgMsg b), State.reg_pkgMsg (s := s.heeding rest) harm⟩

end Sys2Proof.Machine

/-! # Proofs: the self-test and the memory errors (chapter 15) -/

namespace Sys2Proof.Machine

/-! ## TEST messages (R533) -/

section
variable {s : State} {body : List Byte}

/-- A slice that the peer names is taken when none is agreed. -/
theorem State.testMsg_taken {row : Nat} (hthere : byteAt body 0 < s.build.strands)
    (hrow : s.rowBoundary (field body 2 2 % 4096) = some row) (hname : bit (byteAt body 1) 0 = false) (hfree : s.bist.slice = none) :
    s.testMsg body = s.modBist (fun b => { b with slice := some { strand := byteAt body 0, row := row, mine := false } }) := by
  unfold State.testMsg
  simp [hrow, hname, hfree, hthere]

/-! ## Segments and slices (R536, R537) -/

/-- A segment of the slice that runs on the strand is the slice's. -/
theorem State.segmentDone_slice {i units : Nat} {measured : List Nat} {complete : Bool} {c : Slice} (hslice : s.bist.slice = some c)
    (hstrand : c.strand = i) (hphase : c.phase = .segments) :
    s.segmentDone i measured units complete = s.sliceSegment c measured units complete := by
  have hshort : (c.short && c.phase == .segments) = c.short := by simp [hphase]
  unfold State.segmentDone
  simp only [hslice]
  rw [Option.filter_some, if_pos (by simp [hstrand, hphase])]
  exact congrArg (fun short => s.sliceSegment { c with short := short } measured units complete) hshort

/-- Without a slice, a segment of a strand under test is the full run's. -/
theorem State.segmentDone_full {i units seg : Nat} {measured : List Nat} {complete : Bool} {f : FullRun} (hslice : s.bist.slice = none)
    (hfull : s.bist.full = some f) (hleft : lookupKey i f.left = some seg) (hrunning : f.running.contains i = true) :
    s.segmentDone i measured units complete = s.fullSegment f i seg measured units complete := by
  unfold State.segmentDone
  simp only [hslice, Option.filter_none, hfull, hleft]
  exact if_pos hrunning

/-- A segment that is cut short is judged so, and changes nothing by being judged. -/
theorem State.judge_cut (harm : s.inj.armed = false) (i seg : Nat) (measured before : List Nat) (units : Nat) : ∃ fails,
    s.judge i seg measured before units false = (⟨false, true, fails, false⟩, s) := by
  unfold State.judge
  rw [State.fire_unarmed s _ _ harm]
  simp only [State.fire_unarmed s _ _ harm, Bool.false_and, Bool.not_false]
  exact ⟨_, rfl⟩

/-- A segment that is cut short ends the slice's segments, and nothing else. -/
theorem State.sliceSegment_cut (harm : s.inj.armed = false) (c : Slice) (measured : List Nat) (units : Nat) : ∃ c',
    s.sliceSegment c measured units false = s.modBist (fun b => { b with slice := some c' }) ∧ c'.phase = .restore ∧ c'.short = true ∧
    c'.failed = c.failed := by
  obtain ⟨fails, hjudge⟩ := State.judge_cut harm c.strand (s.strand c.strand).segment measured c.levels units
  unfold State.sliceSegment
  simp only [hjudge]
  exact ⟨_, rfl, rfl, Bool.or_true _, Bool.or_false _⟩

/-- The last segment of a slice is over: the slice is counted and its end reported. -/
theorem State.sliceEnd_restored {c : Slice} (hslice : s.bist.slice = some c) (hphase : c.phase = .restore) :
    s.sliceEnd = (((s.modBist (fun (b : Bist) => { b with slice := some { c with phase := .done } })).countSlice { c with
      phase := .done }).sendStep c.strand 7 true).checkRun := by
  unfold State.sliceEnd
  rw [hslice]
  exact if_neg (not_not.mpr hphase)

/-! ## The full BIST (R544) -/

/-- What a full run that found nothing answers. -/
theorem State.fullDone_clean {f : FullRun} (hfull : s.bist.full = some f) (hleft : f.left = []) (hcones : f.cones = [])
    (hfails : f.fails = []) (hfound : f.found = 0) (hshort : f.short = false) :
    s.fullDone = (s.modBist (fun (b : Bist) => { b with full := none })).complete f.desc 0 (toLe 2 0xFFFF ++ zeros 14) := by
  unfold State.fullDone
  rw [hfull]
  simp only [hleft, hcones, hfails, hfound, hshort]
  rfl

end

/-! ## Memory errors (R557) -/

section
variable {s : State} {memory word : Nat} {o : EccObject}

section
variable (harm : s.inj.armed = false)
include harm

/-- An error that is corrected is recorded. -/
theorem State.eccRead_corrected : s.eccRead memory word 1 o = s.raise 0x0B01 memory word := by
  unfold State.eccRead
  simp [State.fire_unarmed s _ _ harm]

/-- One that is not corrected is recorded, and ends what stood in the word. -/
theorem State.eccRead_lost : s.eccRead memory word 2 o = if memory < 4 then (s.raise 0x0B02 memory word).eccParcel o
    else (s.raise 0x0B03 memory word).eccContext o := by
  unfold State.eccRead
  simp [State.fire_unarmed s _ _ harm, State.marked]

/-- In the parcel memories, the error is a parcel's. -/
theorem State.eccRead_parcel (hmem : memory < 4) : s.eccRead memory word 2 o = (s.raise 0x0B02 memory word).eccParcel o :=
  (State.eccRead_lost harm).trans (if_pos hmem)

/-- In the context memories, it is a context's. -/
theorem State.eccRead_context (hmem : 4 ≤ memory) : s.eccRead memory word 2 o = (s.raise 0x0B03 memory word).eccContext o :=
  (State.eccRead_lost harm).trans (if_neg (Nat.not_lt.mpr hmem))

end

theorem exec_eccError {wrong : Nat} (hcfg : s.cfgUp = true) (hmem : memory < 8) :
    exec (.eccError memory word wrong o) s = .next (s.start.finish (s.start.eccRead memory word wrong o)) :=
  (named_present _ _ _ hmem).trans (runUp_up (fun s => s.eccRead memory word wrong o) s hcfg)

/-- A parcel that is being sent is aborted. -/
theorem State.eccParcel_sending {id : Nat} {st : TxStream} {p : TxParcel} {rest : List TxParcel} (htx : s.tx? id = some st)
    (hqueue : st.queue = p :: rest) (hstarted : p.started = true) :
    s.eccParcel (.txParcel id 0) = s.setTx id { st with queue := { p with abort := true } :: rest } := by
  unfold State.eccParcel
  simp [htx, hqueue, hstarted]

/-- A scale history starts anew. -/
theorem State.eccContext_history {id : Nat} {st : TxStream} (htx : s.tx? id = some st) (hscaled : st.cfg.histScaled = false) :
    s.eccContext (.history id) =
      s.setTx id { st with num := { st.num with hist := List.replicate 16 0, histNext := 0, histValid := 0 } } := by
  unfold State.eccContext
  simp [htx, hscaled]

end

/-- Settles O50: each command runs on the state as it stands, and what it does there is said by the lemma about its effect. -/
theorem selfTestAndMemoryErrors : Obligations.SelfTestAndMemoryErrors := by
  unfold Obligations.SelfTestAndMemoryErrors
  refine ⟨fun s k i row body rest hcfg hfront hi hthere hrow hname hfree => ?test,
    fun s i units measured complete hcfg hthere => ⟨fun c hslice hstrand hphase => ?slice,
      fun f seg hslice hfull hleft hrunning => ?full⟩,
    fun s i units measured c hcfg harm hthere hslice hstrand hphase => ?cut,
    fun s c hcfg hslice hphase => ?sliceEnd, fun s f hcfg hfull hleft hcones hfails hfound hshort => ?fullEnd,
    fun s memory word o hcfg harm hmem => ⟨?corrected, ?lost⟩,
    fun s memory word id st hcfg harm htx => ⟨fun hmem p rest hqueue hstarted => ?parcel, fun hlow hmem hscaled => ?history⟩,
    fun s memory word n hcfg harm hlow hmem => ⟨?descriptor, ?ring⟩⟩
  case test =>
    subst hi
    exact finish_of_eq (runUp_takeLink hcfg hfront (fun _ b s => s.testMsg b))
      (State.testMsg_taken (s := s.heeding rest) hthere hrow hname hfree)
  case slice =>
    exact finish_of_eq (named_runUp hcfg hthere _) (State.segmentDone_slice (s := s.start) hslice hstrand hphase)
  case full =>
    exact finish_of_eq (named_runUp hcfg hthere _) (State.segmentDone_full (s := s.start) hslice hfull hleft hrunning)
  case cut =>
    obtain ⟨c', hcut, hrestore, hshort, hfailed⟩ := State.sliceSegment_cut (s := s.start) harm c measured units
    exact ⟨_, c', finish_of_eq (named_runUp hcfg hthere _)
      ((State.segmentDone_slice (s := s.start) hslice hstrand hphase).trans hcut), rfl, hrestore, hshort, hfailed, rfl⟩
  case sliceEnd =>
    exact finish_of_eq (runUp_up (fun s => s.sliceEnd) s hcfg) (State.sliceEnd_restored (s := s.start) hslice hphase)
  case fullEnd =>
    exact finish_of_eq (runUp_up (fun s => s.fullDone) s hcfg)
      (State.fullDone_clean (s := s.start) hfull hleft hcones hfails hfound hshort)
  case corrected => exact finish_of_eq (exec_eccError hcfg hmem) (State.eccRead_corrected (s := s.start) harm)
  case lost => exact finish_of_eq (exec_eccError hcfg hmem) (State.eccRead_lost (s := s.start) harm)
  case parcel =>
    exact finish_of_eq (exec_eccError hcfg (by omega)) ((State.eccRead_parcel (s := s.start) harm hmem).trans
      (State.eccParcel_sending (s := s.start.raise 0x0B02 memory word) htx hqueue hstarted))
  case history =>
    exact finish_of_eq (exec_eccError hcfg hmem) ((State.eccRead_context (s := s.start) harm hlow).trans
      (State.eccContext_history (s := s.start.raise 0x0B03 memory word) htx hscaled))
  case descriptor => exact finish_of_eq (exec_eccError hcfg hmem) (State.eccRead_context (s := s.start) harm hlow)
  case ring => exact finish_of_eq (exec_eccError hcfg hmem) (State.eccRead_context (s := s.start) harm hlow)

end Sys2Proof.Machine
